-- ==== Sys2Proof/Word.lean ====
section
/-! DEFINITION. The types that commands and state share: the manual's named sets (sides, channel, pod and hub states,
phases, profiles, causes, error codes), the sparse object store, the banks of like units, and plain arithmetic. -/

namespace Sys2Proof

abbrev Byte := BitVec 8
/-- Channel, that is pod port, number (R2). -/
abbrev Chan := Fin 16
/-- Bus number (R4). -/
abbrev BusId := Fin 8
/-- Precharge converter, discharge chopper, ORing engine, fault line (R62, R264, R443). -/
abbrev Quad := Fin 4
/-- PWM generator or hub comparator (R345, R372). -/
abbrev Oct := Fin 8
/-- Ring port K0, K1, K2 (R422). -/
abbrev KPort := Fin 3
/-- Fault line A or B (R244, R247). -/
abbrev AB := Fin 2

/-- One control tick in ns (R21). -/
abbrev tickNs : Nat := 1000
abbrev usNs : Nat := 1000
abbrev msNs : Nat := 1000000
abbrev secNs : Nat := 1000000000

/-- The first tick boundary after `t`. -/
def nextTick (t : Nat) : Nat := (t / tickNs + 1) * tickNs

/-- The first tick boundary at or after `t`. -/
def ceilTick (t : Nat) : Nat := (t + 999) / tickNs * tickNs

/-- `n / d` rounded to nearest, for `d` above 0. -/
def roundDiv (n d : Nat) : Nat := (2 * n + d) / (2 * d)

def clampInt (lo hi x : Int) : Int := if x < lo then lo else if hi < x then hi else x

/-- Bit `i` of a mask as 0 or 1 placed at `i`. -/
def bitAt (b : Bool) (i : Nat) : Nat := if b then 2 ^ i else 0

/-- A mask with bit `i` set to `b`. -/
def setBit (m i : Nat) (b : Bool) : Nat := if m.testBit i = b then m else if b then m + 2 ^ i else m - 2 ^ i

/-- The two sides of a stack (R42): `inS` is Q1 at IN, `outS` is Q2 at OUT. -/
inductive Side where
  | inS | outS
  deriving DecidableEq, Repr

def Side.other : Side → Side
  | .inS => .outS
  | .outS => .inS

/-- Channel states, in code order (R19, R38). -/
inductive ChState where
  | absent | seating | off | starting | on | limiting | tripped | latched | damaged | held
  deriving DecidableEq, Repr

def ChState.code : ChState → Nat
  | .absent => 0 | .seating => 1 | .off => 2 | .starting => 3 | .on => 4
  | .limiting => 5 | .tripped => 6 | .latched => 7 | .damaged => 8 | .held => 9

/-- STARTING, ON or LIMITING. -/
def ChState.running : ChState → Bool
  | .starting | .on | .limiting => true
  | _ => false

/-- TRIPPED, LATCHED or DAMAGED. -/
def ChState.faulted : ChState → Bool
  | .tripped | .latched | .damaged => true
  | _ => false

/-- DAMAGED above LATCHED above TRIPPED (R229). -/
def ChState.strictness : ChState → Nat
  | .damaged => 3 | .latched => 2 | .tripped => 1 | _ => 0

/-- Pod states, in code order (R416). -/
inductive PodState where
  | unpowered | linking | parked | active | hold | safe
  deriving DecidableEq, Repr

def PodState.code : PodState → Nat
  | .unpowered => 0 | .linking => 1 | .parked => 2 | .active => 3 | .hold => 4 | .safe => 5

/-- Whether a pod state keeps the channel HELD. -/
def PodState.holds (p : PodState) : Bool := p == .hold || p == .safe

/-- Hub states, in code order (R398). -/
inductive HubState where
  | reset | boot | sleep | idle | run | adopt
  deriving DecidableEq, Repr

def HubState.code : HubState → Nat
  | .reset => 0 | .boot => 1 | .sleep => 2 | .idle => 3 | .run => 4 | .adopt => 5

/-- Gate phases, in code order (R98). -/
inductive GPhase where
  | staticClamp | boost | slewOn | strongHold | staticHold | dump | slewOff | strongClamp | regulated | depletion
  deriving DecidableEq, Repr

def GPhase.code : GPhase → Nat
  | .staticClamp => 0 | .boost => 1 | .slewOn => 2 | .strongHold => 3 | .staticHold => 4
  | .dump => 5 | .slewOff => 6 | .strongClamp => 7 | .regulated => 8 | .depletion => 9

/-- Off: clamped by the driver or by the depletion clamp (R164). -/
def GPhase.clamped : GPhase → Bool
  | .staticClamp | .depletion => true
  | _ => false

/-- A turn-on phase (R74). -/
def GPhase.turningOn : GPhase → Bool
  | .boost | .slewOn | .strongHold => true
  | _ => false

/-- A turn-off phase (R85). -/
def GPhase.turningOff : GPhase → Bool
  | .dump | .slewOff | .strongClamp => true
  | _ => false

/-- Turn-on HOLD, strong or static (R82). -/
def GPhase.inHold : GPhase → Bool
  | .strongHold | .staticHold => true
  | _ => false

/-- Off profiles with the codes of `CH_GPROFILE` (R98). -/
inductive Profile where
  | normal | fast | soft | supplyLoss
  deriving DecidableEq, Repr

def Profile.code : Profile → Nat
  | .normal => 1 | .fast => 2 | .soft => 3 | .supplyLoss => 4

/-- The ranking of R89: FAST, then SUPPLY_LOSS, then NORMAL, then SOFT. -/
def Profile.rank : Profile → Nat
  | .fast => 3 | .supplyLoss => 2 | .normal => 1 | .soft => 0

/-- Trip causes, in code order (R226). -/
inductive Cause where
  | sc2 | sc1 | limitTimeout | desatIn | desatOut | busOv | busUv | reverse | thermal | gateUvlo
  | damagedIn | damagedOut | linkLossSafe | external | prechargeTimeout | selftestFail | busFault
  deriving DecidableEq, Repr

def Cause.code : Cause → Nat
  | .sc2 => 1 | .sc1 => 2 | .limitTimeout => 3 | .desatIn => 4 | .desatOut => 5 | .busOv => 6 | .busUv => 7
  | .reverse => 8 | .thermal => 9 | .gateUvlo => 10 | .damagedIn => 11 | .damagedOut => 12
  | .linkLossSafe => 13 | .external => 14 | .prechargeTimeout => 15 | .selftestFail => 16 | .busFault => 17

def Cause.all : List Cause :=
  [.sc2, .sc1, .limitTimeout, .desatIn, .desatOut, .busOv, .busUv, .reverse, .thermal, .gateUvlo,
   .damagedIn, .damagedOut, .linkLossSafe, .external, .prechargeTimeout, .selftestFail, .busFault]

/-- The precedence of causes that share a timestamp (R228); 0 stands first. -/
def Cause.prec : Cause → Nat
  | .sc2 => 0 | .sc1 => 1 | .desatIn => 2 | .desatOut => 3 | .reverse => 4 | .gateUvlo => 5
  | .limitTimeout => 6 | .busOv => 7 | .busUv => 8 | .thermal => 9 | .selftestFail => 10
  | .damagedIn => 11 | .damagedOut => 12 | .linkLossSafe => 13 | .prechargeTimeout => 14
  | .external => 15 | .busFault => 16

/-- Causes by which a bus fault is classified and a fault transfer judged (R241, R261). -/
def Cause.shortClass : Cause → Bool
  | .sc2 | .sc1 | .desatIn | .desatOut | .limitTimeout => true
  | _ => false

/-- Whether a mask of cause codes holds the cause. -/
def hasCause (m : Nat) (k : Cause) : Bool := m.testBit k.code

def addCause (m : Nat) (k : Cause) : Nat := setBit m k.code true

/-- The causes of a mask. -/
def causesOf (m : Nat) : List Cause := Cause.all.filter (hasCause m)

/-- The eleven pod comparators by their bit (R177). -/
inductive PodCmp where
  | sc2 | sc1a | sc1b | ocla | oclb | rev | dsi | dso | outp | buswUv | buswOv
  deriving DecidableEq, Repr

def PodCmp.bit : PodCmp → Nat
  | .sc2 => 0 | .sc1a => 1 | .sc1b => 2 | .ocla => 3 | .oclb => 4 | .rev => 5
  | .dsi => 6 | .dso => 7 | .outp => 8 | .buswUv => 9 | .buswOv => 10

/-- The comparators without a partner, in the order of the stack test (R214, R219). -/
def PodCmp.tied : List PodCmp := [.sc2, .rev, .dsi, .dso, .outp, .buswUv, .buswOv]

/-- The duplicated members in the order of a round (R216). -/
def PodCmp.members : List PodCmp := [.sc1a, .sc1b, .ocla, .oclb]

/-- Error codes of the dictionary (R507). -/
inductive Err where
  | ok | noObject | noSub | type | access | role | range | state | consistency | budget | sealExhausted | busy
  | owner | auth | hw
  deriving DecidableEq, Repr

def Err.code : Err → Nat
  | .ok => 0 | .noObject => 1 | .noSub => 2 | .type => 3 | .access => 4 | .role => 5 | .range => 6
  | .state => 7 | .consistency => 8 | .budget => 9 | .sealExhausted => 10 | .busy => 11 | .owner => 12
  | .auth => 13 | .hw => 14

/-- States of a precharge converter, in code order (R156). -/
inductive PreState where
  | idle | selftest | charging | paused | qualify | handover | done | aborted
  deriving DecidableEq, Repr

def PreState.code : PreState → Nat
  | .idle => 0 | .selftest => 1 | .charging => 2 | .paused => 3 | .qualify => 4 | .handover => 5
  | .done => 6 | .aborted => 7

/-- From SELFTEST to HANDOVER (R154). -/
def PreState.busy : PreState → Bool
  | .selftest | .charging | .paused | .qualify | .handover => true
  | _ => false

/-- Causes of a converter stop with the codes of `PRE_STATUS` (R173). -/
inductive PreStatus where
  | none | bootstrapLow | sensorFault | rateHigh | noProgress | timeLimit | pauseLimit | closeLimit | busHigh
  | feedLost | discharge | commanded
  deriving DecidableEq, Repr

def PreStatus.code : PreStatus → Nat
  | .none => 0 | .bootstrapLow => 1 | .sensorFault => 2 | .rateHigh => 3 | .noProgress => 4 | .timeLimit => 5
  | .pauseLimit => 6 | .closeLimit => 7 | .busHigh => 8 | .feedLost => 9 | .discharge => 10 | .commanded => 11

/-- States of a discharge chopper, in code order (R167). -/
inductive DisState where
  | idle | wait | run | done | stopped
  deriving DecidableEq, Repr

def DisState.code : DisState → Nat
  | .idle => 0 | .wait => 1 | .run => 2 | .done => 3 | .stopped => 4

/-- `DIS_STATUS`, in code order (R174). -/
inductive DisStatus where
  | none | timeLimit | energyLimit | noMeasure | interlock | driverLow
  deriving DecidableEq, Repr

def DisStatus.code : DisStatus → Nat
  | .none => 0 | .timeLimit => 1 | .energyLimit => 2 | .noMeasure => 3 | .interlock => 4 | .driverLow => 5

/-- `BUS_XFER_STATE`, in code order (R278). -/
inductive XferState where
  | steady | break_ | gap | make | precharge | failed | halted
  deriving DecidableEq, Repr

def XferState.code : XferState → Nat
  | .steady => 0 | .break_ => 1 | .gap => 2 | .make => 3 | .precharge => 4 | .failed => 5 | .halted => 6

/-- BREAK, GAP, MAKE or PRECHARGE (R277). -/
def XferState.moving : XferState → Bool
  | .break_ | .gap | .make | .precharge => true
  | _ => false

/-- State of a feed in an ORing engine (R266, R269). -/
inductive OringState where
  | off | conducting | blocking
  deriving DecidableEq, Repr

def OringState.code : OringState → Nat
  | .off => 0 | .conducting => 1 | .blocking => 2

/-- CLAIM of the ownership word (R527). -/
inductive Claim where
  | none | standby | own | release
  deriving DecidableEq, Repr

/-- The code of a claim (R527). -/
def Claim.code : Claim → Nat
  | .none => 0
  | .standby => 1
  | .own => 2
  | .release => 3

/-- What a command frame asks of the pod state (R416, R410). -/
inductive PodAsk where
  | none | activate | park | parkRest
  deriving DecidableEq, Repr

/-- A turn-on command: the whole stack or one side (R91, R96). -/
inductive OnAsk where
  | whole
  | side (s : Side)
  deriving DecidableEq, Repr

/-- The content of a downstream command frame (R31, R527). -/
structure CmdFrame where
  claim : Claim := .none
  epoch : Nat := 0
  ask : PodAsk := .none
  /-- start of the whole stack (enable, close, retry: the commands of R26) -/
  start : Bool := false
  /-- commanded off (R88) -/
  off : Bool := false
  sideOn : Option Side := none
  sideOff : Option Side := none
  /-- hub-decided causes (R226): EXTERNAL, PRECHARGE_TIMEOUT, BUS_FAULT, as a mask of codes -/
  trips : Nat := 0
  /-- acknowledgement of the trip with this number (R26) -/
  ack : Option Nat := none
  /-- output-present check armed (R208) -/
  outpArm : Bool := false
  /-- BUSW_UV takes no trip action (R170) -/
  uvHold : Bool := false
  /-- stack tests deferred (R164) -/
  testHold : Bool := false
  /-- run the confirmation of a suspect (R211) -/
  confirm : Bool := false
  /-- run the tests of a SELFTEST_FAIL toggle (R239) -/
  toggle : Bool := false
  /-- take DAMAGED to LATCHED (R240) -/
  dmgClear : Bool := false
  /-- member of an ORing engine and its forward target in mV (R266, R274) -/
  oring : Option Nat := none
  /-- re-entry level in mV and qualification in µs of the engine (R271) -/
  orVon : Nat := 500
  orTon : Nat := 20
  /-- capture command (R518) -/
  capture : Bool := false
  /-- calibration: 0 for CAL, 1 and 2 for a recalibration of the IC and of the VC (R303, R310) -/
  cal : Option Nat := none
  /-- `CH_RETRY_N` of the port, for R230 -/
  retryN : Nat := 0
  /-- `CH_ENABLE` of the port, whose fall the pod times (R546) -/
  enable : Bool := false
  deriving DecidableEq, Repr

/-- Pod types (R466). -/
inductive PodKind where
  | none | tm6421 | tm6422
  deriving DecidableEq, Repr

def PodKind.code : PodKind → Nat
  | .none => 0 | .tm6421 => 0x6421 | .tm6422 => 0x6422

/-- Routings of the converters, in code order (R282). -/
inductive Routing where
  | off | normal | paired | icRecal | vcRecal | cal | burst
  deriving DecidableEq, Repr

def Routing.code : Routing → Nat
  | .off => 0 | .normal => 1 | .paired => 2 | .icRecal => 3 | .vcRecal => 4 | .cal => 5 | .burst => 6

/-- Routings in which the pod integrates (R326). -/
def Routing.integrates : Routing → Bool
  | .normal | .paired | .icRecal | .vcRecal => true
  | _ => false

/-- The averaged sources, in the order of `MTR_AVG` (R320). -/
inductive Source where
  | shunt | vdi | vdo | vdn | ntc
  deriving DecidableEq, Repr

def Source.idx : Source → Nat
  | .shunt => 0 | .vdi => 1 | .vdo => 2 | .vdn => 3 | .ntc => 4

/-- Inputs of a converter word, in code order (R293). -/
inductive ConvIn where
  | shunt | vdi | vdo | vdn | ntc | vpos | vneg | tdie | vref | gnd
  deriving DecidableEq, Repr

/-- Nodes that INT carries (R287). -/
def ConvIn.isInt : ConvIn → Bool
  | .vpos | .vneg | .tdie | .vref | .gnd => true
  | _ => false

/-- What a slice's own detectors make of its sample: the code before correction and, in the band in which R299 leaves it
open, over-range. -/
structure Raw where
  code : Int
  ovr : Bool := false
  deriving DecidableEq, Repr

/-- Over-range: beyond full scale by 2 LSB or more always, inside the code span never, between them as the slice found it (R299). -/
def Raw.isOver (r : Raw) : Bool :=
  if decide (32770 ≤ r.code) || decide (r.code ≤ -32770) then true
  else if decide (-32768 ≤ r.code) && decide (r.code ≤ 32767) then false
  else r.ovr

/-- What a slice can be connected to: the shunt front end, or one of the five input buffers of the VC (R282, R285). -/
inductive Tap where
  | shunt | vdi | vdo | vdn | ntc | int
  deriving DecidableEq, Repr

/-- Internal nodes in the order of the rotation (R287). -/
def intInput (node : Nat) : ConvIn :=
  match node with
  | 0 => .vpos
  | 1 => .vneg
  | 2 => .tdie
  | 3 => .vref
  | _ => .gnd

/-- The input of a word: INT stands for the node that it carries (R285, R293). -/
def Tap.input (x : Tap) (node : Nat) : ConvIn :=
  match x with
  | .shunt => .shunt
  | .vdi => .vdi
  | .vdo => .vdo
  | .vdn => .vdn
  | .ntc => .ntc
  | .int => intInput node

/-- Input codes of a converter word (R293). -/
def ConvIn.code : ConvIn → Nat
  | .shunt => 0 | .vdi => 1 | .vdo => 2 | .vdn => 3 | .ntc => 4 | .vpos => 5 | .vneg => 6 | .tdie => 7 | .vref => 8 | .gnd => 9

/-- One conversion of a pod: what was sampled, when, by which slice of which converter (`vc`), the slice's finding, and how it
is used: `lost` is a word whose slot an urgent conversion took (R300), `used` is off for a recalibrated converter that still
is covered (R311), `dt` is the interval in ns that a shunt conversion stands for (R283), `routing` the routing in force. -/
structure Conv where
  tap : Tap
  at_ : Nat
  vc : Bool
  slice : Nat
  raw : Raw := { code := 0 }
  lost : Bool := false
  used : Bool := true
  routing : Routing := .normal
  dt : Nat := 0
  deriving DecidableEq, Repr

/-- A point of the voltage path: the VC's own, or an odd slot of a covering converter (R301, R302). -/
def Conv.volt (c : Conv) : Bool :=
  c.used && (if c.routing == .icRecal || c.routing == .vcRecal then c.slice % 2 == 1 else c.vc)

/-- An edge of a pod comparator inside a tick (R177). -/
structure CmpEdge where
  cmp : PodCmp
  at_ : Nat
  active : Bool
  deriving DecidableEq, Repr

/-- What a pod sees in the tick that ends: gate supply levels in mV, its seat pins, comparator outputs at its end (bits of R177),
whether each input lies on the active side of the middle of its band (R354), the edges of the outputs in the order of their
instants, and what the slices found: `ic` slot by slot, `vc` point by point in the order of the instants at which the VC
samples. -/
structure TickSamples where
  vpos : Int := 0
  vneg : Int := 0
  s1 : Bool := true
  s2 : Bool := true
  cmp : Nat := 0
  mid : Nat := 0
  edges : List CmpEdge := []
  ic : List Raw := []
  vc : List Raw := []
  deriving DecidableEq, Repr

/-- A downstream frame at a pod: from the link of this hub or of the other, its CRC, and, for the other link, its content
(R27, R527). -/
structure RxFrame where
  own : Bool
  crcOk : Bool
  frame : CmdFrame := {}
  deriving DecidableEq, Repr

/-- How a test of a comparator ends (R218, R366, R367). -/
inductive TestResult where
  | pass | fail | void
  deriving DecidableEq, Repr

/-- A cell of the comparator family whose speed mode can be set (R345). -/
inductive CellId where
  | hub (n : Oct)
  | pod (c : Chan) (k : PodCmp)
  deriving DecidableEq, Repr

/-- The causes of urgent conversions (R300). -/
inductive Urgent where
  | stackTest | confirm | snapshot
  deriving DecidableEq, Repr

/-- A journal record (R554): `held` and `clean` are bits 0 and 1 of FLAGS, `unlocked` bit 2. -/
structure JRec where
  seq : Nat
  time : Nat
  kind : Nat
  src : Nat
  code : Nat
  held : Bool := false
  clean : Bool := false
  unlocked : Bool := false
  data : List Byte := []
  boot : Nat := 0
  deriving DecidableEq, Repr

/-- SRC of a journal record (R554). -/
inductive JSrc where
  | chan (c : Chan)
  | bus (b : BusId)
  | pre (p : Quad)
  | dis (d : Quad)
  | pwm (n : Oct)
  | cmp (n : Oct)
  | stream
  | hub
  deriving DecidableEq, Repr

def JSrc.code : JSrc → Nat
  | .chan c => c.val
  | .bus b => 0x10 + b.val
  | .pre p => 0x18 + p.val
  | .dis d => 0x1C + d.val
  | .pwm n => 0x20 + n.val
  | .cmp n => 0x28 + n.val
  | .stream => 0x30
  | .hub => 0x3F

/-- Who asks for an access: source address and session handle (R430, R477). -/
structure Requester where
  src : Nat
  session : Nat
  deriving DecidableEq, Repr

/-- Where the answer to an access goes: nowhere but the record of the last answer, to a node of the ring, to the SPI host. -/
inductive Via where
  | direct
  | ring (src seq : Nat)
  | spi (tag : Nat)
  deriving DecidableEq, Repr

/-- An access: who asks, for what, from where (R430, R468). -/
structure Req where
  rq : Requester
  index : Nat
  sub : Nat
  off : Nat := 0
  via : Via := .direct
  deriving DecidableEq, Repr

/-- The units that own a COMMIT object (R481). -/
inductive CUnit where
  | chan (c : Chan)
  | bus (b : BusId)
  | pre (p : Quad)
  | dis (d : Quad)
  | pwm (n : Oct)
  | cmp (n : Oct)
  | str
  deriving DecidableEq, Repr

/-- A named object of the dictionary: index of instance 0, index step between instances, first subindex, Default
(R462, R505). -/
structure Obj where
  index : Nat
  stride : Nat
  sub : Nat
  dflt : Int
  deriving DecidableEq, Repr

/-- One number for an index and a subindex. -/
def keyOf (index sub : Nat) : Nat := index * 256 + sub

/-- Instance `i` of an object, `k` subindices after its first. -/
def Obj.key (o : Obj) (i : Nat) (k : Nat := 0) : Nat := keyOf (o.index + o.stride * i) (o.sub + k)

/-- The values of objects that differ from their Default: keys strictly rising. -/
abbrev Store := List (Nat × Int)

/-- The value listed under a key. -/
def Store.find (m : Store) (k : Nat) : Option Int :=
  match m with
  | [] => none
  | (k', v) :: r => if k' = k then some v else Store.find r k

/-- Take a key out. -/
def Store.erase (m : Store) (k : Nat) : Store :=
  match m with
  | [] => []
  | (k', v) :: r => if k' = k then r else (k', v) :: Store.erase r k

/-- Put a key in, in order. -/
def Store.insert (m : Store) (k : Nat) (v : Int) : Store :=
  match m with
  | [] => [(k, v)]
  | (k', v') :: r =>
    if k' = k then (k, v) :: r
    else if k < k' then (k, v) :: (k', v') :: r
    else (k', v') :: Store.insert r k v

/-- The keys rise strictly. -/
def Store.sorted : Store → Bool
  | [] => true
  | [_] => true
  | (k, _) :: (k', v') :: r => decide (k < k') && Store.sorted ((k', v') :: r)

/-- Write `v` under `k`; a value equal to the Default is not listed. -/
def Store.put (m : Store) (k : Nat) (dflt v : Int) : Store := if v = dflt then m.erase k else m.insert k v

/-- The value of an object's instance. -/
def Store.get (m : Store) (o : Obj) (i : Nat := 0) (k : Nat := 0) : Int := (m.find (o.key i k)).getD o.dflt

/-- The value of an object's instance as a natural number. -/
def Store.getN (m : Store) (o : Obj) (i : Nat := 0) (k : Nat := 0) : Nat := (m.get o i k).toNat

/-- The value of an object's instance as a flag. -/
def Store.getB (m : Store) (o : Obj) (i : Nat := 0) (k : Nat := 0) : Bool := m.get o i k != 0

/-- The store with an object's instance set. -/
def Store.set (m : Store) (o : Obj) (i : Nat) (v : Int) (k : Nat := 0) : Store := m.put (o.key i k) o.dflt v

/-- Like units in a row. -/
abbrev Bank (α : Type) (n : Nat) := Vector α n

def Bank.get {α : Type} {n : Nat} (b : Bank α n) (i : Fin n) : α := b[i]

def Bank.put {α : Type} {n : Nat} (b : Bank α n) (i : Fin n) (x : α) : Bank α n := b.set i x

def Bank.upd {α : Type} {n : Nat} (b : Bank α n) (i : Fin n) (f : α → α) : Bank α n := Bank.put b i (f (Bank.get b i))

def Bank.all {α : Type} {n : Nat} (b : Bank α n) (f : α → α) : Bank α n := ⟨⟨b.toArray.toList.map f⟩, by simp⟩

def Bank.fill {α : Type} (n : Nat) (x : α) : Bank α n := Vector.replicate n x

/-- Little-endian bytes of a number (R11). -/
def leBytes : Nat → Nat → List Byte
  | 0, _ => []
  | n + 1, x => BitVec.ofNat 8 x :: leBytes n (x / 256)

/-- The number that little-endian bytes spell (R11). -/
def ofLe : List Byte → Nat
  | [] => 0
  | b :: r => b.toNat + 256 * ofLe r

/-- An integer in two's complement of `n` bytes. -/
def leInt (n : Nat) (x : Int) : List Byte := leBytes n (x % (256 ^ n : Nat)).toNat

/-- The signed value of `n` bytes. -/
def signed (n : Nat) (x : Nat) : Int := if 2 * x < 256 ^ n then (x : Int) else (x : Int) - (256 ^ n : Nat)

/-- One bit of a CRC-16 with polynomial 0x1021. -/
def crcBit (c : Nat) : Nat := if c.testBit 15 then (2 * c % 65536) ^^^ 0x1021 else 2 * c

/-- One byte of the CRC. -/
def crcByte (c b : Nat) : Nat := crcBit (crcBit (crcBit (crcBit (crcBit (crcBit (crcBit (crcBit (c ^^^ (b * 256)))))))))

/-- CRC-16, polynomial 0x1021, initial value 0xFFFF (R457, R554). -/
def crc16 (l : List Byte) : Nat := l.foldl (fun c b => crcByte c b.toNat) 0xFFFF

/-- One bit of the CRC-32 with polynomial 0x04C11DB7. -/
def crc32Bit (c : Nat) : Nat := if c.testBit 31 then (2 * c % 4294967296) ^^^ 0x04C11DB7 else 2 * c

def crc32Byte (c b : Nat) : Nat :=
  crc32Bit (crc32Bit (crc32Bit (crc32Bit (crc32Bit (crc32Bit (crc32Bit (crc32Bit (c ^^^ (b * 16777216)))))))))

/-- CRC-32, polynomial 0x04C11DB7, initial value 0xFFFFFFFF, final inversion (R429); bits of a byte from the most significant
(log 11). -/
def crc32 (l : List Byte) : Nat := l.foldl (fun c b => crc32Byte c b.toNat) 0xFFFFFFFF ^^^ 0xFFFFFFFF

/-- The 32 bytes of a journal record (R554). -/
def JRec.bytes (r : JRec) : List Byte :=
  let b := leBytes 4 r.seq ++ leBytes 8 r.time ++ leBytes 1 r.kind ++ leBytes 1 r.src ++ leBytes 1 r.code ++
    leBytes 1 (bitAt r.held 0 + bitAt r.clean 1 + bitAt r.unlocked 2) ++ (r.data ++ List.replicate 12 0).take 12 ++ leBytes 2 r.boot
  b ++ leBytes 2 (crc16 b)

/-- A frame of the ring (R429): `len` is its LEN field, `crc` its CRC-32, `reserved` the reserved bits of its header ([5:0]
FLAGS[7:2], [7:6] HOPS[7:6], [11:8] DST[15:12], [15:12] SRC[15:12]). `violations` counts the code violations that the port
has met since its last frame (R461; DESIGN CHOICE, log 49). -/
structure Frame where
  type : Nat
  toHead : Bool := false
  local_ : Bool := false
  hops : Nat := 0
  seq : Nat := 0
  dst : Nat
  src : Nat
  len : Nat
  payload : List Byte
  crc : Nat := 0
  reserved : Nat := 0
  violations : Nat := 0
  deriving DecidableEq, Repr

/-- The 10 bytes of a header (R429). -/
def Frame.header (f : Frame) : List Byte :=
  leBytes 1 f.type ++ leBytes 1 (bitAt f.toHead 0 + bitAt f.local_ 1 + f.reserved % 64 * 4) ++
  leBytes 1 (f.hops % 64 + f.reserved / 64 % 4 * 64) ++ leBytes 1 f.seq ++ leBytes 2 (f.dst % 4096 + f.reserved / 256 % 16 * 4096) ++
  leBytes 2 (f.src % 4096 + f.reserved / 4096 % 16 * 4096) ++ leBytes 2 f.len

/-- The CRC over header and payload (R429). -/
def Frame.crcOf (f : Frame) : Nat := crc32 (f.header ++ f.payload)

/-- A frame with its CRC, as a hub sends it. -/
def Frame.signed (f : Frame) : Frame := { f with crc := f.crcOf }

/-- The token byte: [1:0] line or kind of a link token, [2] link token, [7:3] hops (R442). -/
def tokenByte (link : Bool) (kind hops : Nat) : Byte := BitVec.ofNat 8 (kind % 4 + bitAt link 2 + hops % 32 * 8)

/-- A link token (R442). -/
def tokenLink (b : Byte) : Bool := b.toNat.testBit 2

/-- The line of a fault token, the kind of a link token (R442). -/
def tokenLine (b : Byte) : Quad := ⟨b.toNat % 4, Nat.mod_lt _ (by decide)⟩

/-- Hops of a token (R442). -/
def tokenHops (b : Byte) : Nat := b.toNat / 8

/-- What an SPI transfer brings before its CRC: OP, LEN, BODY (R457). -/
def spiBytes (op : Nat) (body : List Byte) : List Byte := leBytes 1 op ++ leBytes 2 body.length ++ body

/-- The field of `n` bytes at place `i` of a payload. -/
def fieldAt (l : List Byte) (i n : Nat) : Nat := ofLe ((l.drop i).take n)

/-- What a hub sends on the ring; `ports` is the mask of K0, K1, K2 on which it leaves. -/
inductive RingOut where
  | token (b : Byte) (ports : Nat)
  | frame (f : Frame) (ports : Nat)
  | tone (ports : Nat)
  deriving DecidableEq, Repr

/-- An item of the head's queue (R458). -/
structure Item where
  kind : Nat
  tag : Nat
  src : Nat
  bytes : List Byte
  deriving DecidableEq, Repr

/-- Types of object values (R464). -/
inductive OType where
  | bool | u8 | u16 | u32 | u64 | s16 | s32 | s64 | q1616 | str | blob
  deriving DecidableEq, Repr

/-- Bytes of a value; 0 for a string or a BLOB (R464). -/
def OType.size : OType → Nat
  | .bool | .u8 => 1
  | .u16 | .s16 => 2
  | .u32 | .s32 | .q1616 => 4
  | .u64 | .s64 => 8
  | .str | .blob => 0

def OType.isSigned : OType → Bool
  | .s16 | .s32 | .s64 | .q1616 => true
  | _ => false

/-- Access kinds (R463). -/
inductive Access where
  | ro | rw | rws | cmd | wo | seal
  deriving DecidableEq, Repr

/-- The lowest role that may write an object (R473). -/
inductive Role where
  | observe | operate | configure | service
  deriving DecidableEq, Repr

def Role.code : Role → Nat
  | .observe => 0 | .operate => 1 | .configure => 2 | .service => 3

/-- The kind of unit an object belongs to (R481). -/
inductive UnitKind where
  | hub | chan | bus | pre | dis | pwm | cmp | str
  deriving DecidableEq, Repr

/-- One row of the dictionary: where it stands, its type, access, Default, range and role (R462 to R473, R565, R566).
`extra` is a value outside the range that is accepted as well; `mask`, where given, is the set of bits a value may hold;
`ucode`, `scale` and `mult` are the unit code, power of ten and multiplier of R505, `name` the name that stands in the name
table. -/
structure ObjRow where
  index : Nat
  stride : Nat
  count : Nat
  first : Nat
  last : Nat
  type : OType
  access : Access
  dflt : Int
  lo : Int
  hi : Int
  extra : Option Int := none
  mask : Option Nat := none
  role : Role := .observe
  unit : UnitKind := .hub
  persist : Bool := false
  checkpointed : Bool := false
  secret : Bool := false
  ucode : Nat := 0
  scale : Int := 0
  mult : Nat := 1
  name : String := ""
  deriving DecidableEq, Repr

/-- Type codes (R463). -/
def OType.code : OType → Nat
  | .bool => 0 | .u8 => 1 | .u16 => 2 | .u32 => 3 | .u64 => 4 | .s16 => 5 | .s32 => 6 | .s64 => 7 | .q1616 => 8
  | .str => 9 | .blob => 10

/-- Access codes of a Rack record (R505). -/
def Access.code : Access → Nat
  | .ro => 0 | .rw => 1 | .wo => 2 | .rws => 3 | .cmd => 4 | .seal => 5

/-- Unit codes of a Rack record (R505). -/
def UnitKind.code : UnitKind → Nat
  | .hub => 0 | .chan => 1 | .bus => 2 | .pre => 3 | .dis => 4 | .pwm => 5 | .cmp => 6 | .str => 7

end Sys2Proof
end

