-- ==== Sys2Proof/Syntax.lean ====
section
/-! DEFINITION. The commands and events of the block, one constructor for each row of the opcode table, with their
operands. -/

namespace Sys2Proof

/-- The commands and events the block takes, in the order of the opcode table. -/
inductive Instr where
  /-- CONTROL_TICK (R21). -/
  | controlTick
  /-- COMMAND_FRAME_RECEIVED (R27). -/
  | commandFrameReceived (c : Chan) (rx : RxFrame)
  /-- STATUS_FRAME_RECEIVED (R27). -/
  | statusFrameReceived (c : Chan) (crcOk : Bool)
  /-- POD_TICK_BOUNDARY (R117). -/
  | podTickBoundary (c : Chan) (smp : TickSamples)
  /-- ORPHAN (R29). -/
  | orphan (c : Chan)
  /-- UVLO_ASSERT (R72). -/
  | uvloAssert (c : Chan) (vneg : Bool) (mv : Int) (since : Nat) (t : Nat)
  /-- UVLO_CLEAR (R70). -/
  | uvloClear (c : Chan) (vneg : Bool) (mv : Int) (since : Nat) (t : Nat)
  /-- STACK_TURN_ON (R77). -/
  | stackTurnOn (c : Chan) (ic : List Raw) (vc : List Raw) (t : Nat)
  /-- TURN_ON_AFTER_CLAMP (R91). -/
  | turnOnAfterClamp (c : Chan) (ic : List Raw) (vc : List Raw) (t : Nat)
  /-- GATE_LEVEL_REACHED (R74). -/
  | gateLevelReached (c : Chan) (side : Side) (mv : Int) (t : Nat)
  /-- STRONG_HOLD_END (R74). -/
  | strongHoldEnd (c : Chan) (side : Side) (t : Nat)
  /-- STRONG_CLAMP_END (R85). -/
  | strongClampEnd (c : Chan) (side : Side) (t : Nat)
  /-- BOOST_TIME_LIMIT (R80). -/
  | boostTimeLimit (c : Chan) (side : Side) (t : Nat)
  /-- SLEW_LIMIT_EXPIRED (R81). -/
  | slewLimitExpired (c : Chan) (side : Side) (t : Nat)
  /-- FORCED_CLAMP (R86). -/
  | forcedClamp (c : Chan) (side : Side) (t : Nat)
  /-- CLAMP_GATE_FAULT (R87). -/
  | clampGateFault (c : Chan) (side : Side) (t : Nat)
  /-- BARRIER_SIGNAL_LOSS (R92). -/
  | barrierSignalLoss (c : Chan) (t : Nat)
  /-- HV_POWER_UP (R94). -/
  | hvPowerUp (c : Chan) (vpos : Int) (vneg : Int) (mid : Nat) (t : Nat)
  /-- HV_POWER_DOWN (R94). -/
  | hvPowerDown (c : Chan) (t : Nat)
  /-- SEAT_PAIR_SEATED (R107). -/
  | seatPairSeated (c : Chan) (t : Nat)
  /-- SEATING_ABORT (R108). -/
  | seatingAbort (c : Chan) (s1 : Bool) (s2 : Bool) (t : Nat)
  /-- SEAT_DEBOUNCE_COMPLETE (R109). -/
  | seatDebounceComplete (c : Chan) (t : Nat)
  /-- SEAT_LOSS (R125). -/
  | seatLoss (c : Chan) (s1 : Bool) (s2 : Bool) (tFirst : Nat) (t : Nat)
  /-- REMOVAL_CONFIRMED (R126). -/
  | removalConfirmed (c : Chan)
  /-- RESEAT_GUARD_EXPIRY (R131). -/
  | reseatGuardExpiry (c : Chan)
  /-- CHANNEL_START (R111). -/
  | channelStart (c : Chan) (t : Nat)
  /-- POWER_GOOD_ASSERT (R116). -/
  | powerGoodAssert (c : Chan)
  /-- START_ENERGY_EXCEEDED (R124). -/
  | startEnergyExceeded (c : Chan) (ic : List Raw) (vc : List Raw) (t : Nat)
  /-- CH_ENABLE_SET (R132). -/
  | chEnableSet (c : Chan) (rq : Requester)
  /-- CH_ENABLE_CLEAR (R134). -/
  | chEnableClear (c : Chan) (rq : Requester)
  /-- COOL_DOWN_END (R132). -/
  | coolDownEnd (c : Chan)
  /-- PRECHARGE_START (R153). -/
  | prechargeStart (p : Quad)
  /-- PRECHARGE_SELFTEST_DONE (R156). -/
  | prechargeSelftestDone (p : Quad) (passed : Bool) (ready : Bool)
  /-- DRIVER_READY_LOSS (R389). -/
  | driverReadyLoss (n : Oct) (back : Bool)
  /-- PRECHARGE_RESUME (R148). -/
  | prechargeResume (p : Quad)
  /-- PAUSE_LIMIT (R148). -/
  | pauseLimit (p : Quad)
  /-- PRECHARGE_CLOSE (R159). -/
  | prechargeClose (p : Quad)
  /-- NO_PROGRESS (R157). -/
  | noProgress (p : Quad)
  /-- PRECHARGE_TIME_LIMIT (R157). -/
  | prechargeTimeLimit (p : Quad)
  /-- CLOSE_LIMIT (R156). -/
  | closeLimit (p : Quad)
  /-- DIS_REQ_SET (R169). -/
  | disReqSet (d : Quad) (rq : Requester)
  /-- DIS_REQ_CLEAR (R172). -/
  | disReqClear (d : Quad) (rq : Requester)
  /-- DISCHARGE_RUN (R164). -/
  | dischargeRun (d : Quad)
  /-- CHOPPER_RESUME (R165). -/
  | chopperResume (d : Quad)
  /-- DISCHARGE_DONE (R167). -/
  | dischargeDone (d : Quad)
  /-- ENERGY_LIMIT (R167). -/
  | energyLimit (d : Quad)
  /-- DISCHARGE_TIME_LIMIT (R167). -/
  | dischargeTimeLimit (d : Quad)
  /-- SC2_TRIP (R177). -/
  | sc2Trip (c : Chan) (t : Nat)
  /-- SC1_TRIP (R177). -/
  | sc1Trip (c : Chan) (memberB : Bool) (since : Nat) (t : Nat)
  /-- REVERSE_TRIP (R197). -/
  | reverseTrip (c : Chan) (since : Nat) (t : Nat)
  /-- DESAT_TRIP (R195). -/
  | desatTrip (c : Chan) (side : Side) (since : Nat) (t : Nat)
  /-- DESAT_BLANKING_END (R194). -/
  | desatBlankingEnd (c : Chan) (side : Side) (t : Nat)
  /-- BUS_OV_TRIP (R202). -/
  | busOvTrip (c : Chan) (since : Nat) (t : Nat)
  /-- BUS_UV_TRIP (R202). -/
  | busUvTrip (c : Chan) (since : Nat) (t : Nat)
  /-- CURRENT_LIMIT_ENTRY (R183). -/
  | currentLimitEntry (c : Chan) (memberB : Bool) (negative : Bool) (t : Nat)
  /-- CURRENT_LIMIT_EXIT (R185). -/
  | currentLimitExit (c : Chan) (t : Nat)
  /-- FAULT_TIMER_PERIOD_END (R190). -/
  | faultTimerPeriodEnd (c : Chan) (ic : List Raw) (vc : List Raw) (t : Nat)
  /-- THERMAL_EVALUATION (R204). -/
  | thermalEvaluation (c : Chan)
  /-- DIE_OVER_TEMPERATURE (R206). -/
  | dieOverTemperature (c : Chan) (t : Nat)
  /-- OUTPUT_PRESENT (R209). -/
  | outputPresent (c : Chan) (ic : List Raw) (vc : List Raw) (t : Nat)
  /-- STACK_TEST (R214). -/
  | stackTest (c : Chan) (t : Nat)
  /-- SUSPECT_CONFIRMATION (R211). -/
  | suspectConfirmation (c : Chan) (t : Nat)
  /-- CONFIRMATION_EVALUATION (R211). -/
  | confirmationEvaluation (c : Chan) (t : Nat)
  /-- TIE_TEST (R366). -/
  | tieTest (c : Chan) (cmp : PodCmp) (pass : Bool) (t : Nat)
  /-- ONLINE_SELFTEST_ROUND (R216). -/
  | onlineSelftestRound (c : Chan) (t : Nat)
  /-- MEMBER_TEST_END (R218). -/
  | memberTestEnd (c : Chan) (cmp : PodCmp) (result : TestResult) (t : Nat)
  /-- RETRY_DUE (R234). -/
  | retryDue (c : Chan)
  /-- RETRY_RELEASED (R235). -/
  | retryReleased (c : Chan)
  /-- RETRY_COUNT_RESET (R236). -/
  | retryCountReset (c : Chan)
  /-- SELFTEST_TOGGLE_DONE (R239). -/
  | selftestToggleDone (c : Chan) (failMask : Nat) (t : Nat)
  /-- CH_DMG_CLEAR (R240). -/
  | chDmgClear (c : Chan) (rq : Requester)
  /-- BUS_FAULT_CLASSIFY (R242). -/
  | busFaultClassify (b : BusId)
  /-- BUS_BF_CLEAR (R243). -/
  | busBfClear (b : BusId) (rq : Requester)
  /-- FLTO_MIN_WIDTH_END (R245). -/
  | fltoMinWidthEnd (x : AB)
  /-- HUB_FLTO_ACK (R245). -/
  | hubFltoAck (x : AB) (rq : Requester)
  /-- FLTI_ASSERT (R247). -/
  | fltiAssert (x : AB) (since : Nat) (t : Nat)
  /-- FLTI_RELEASE (R247). -/
  | fltiRelease (x : AB)
  /-- SOURCE_LOSS (R256). -/
  | sourceLoss (b : BusId)
  /-- REVERT_DUE (R257). -/
  | revertDue (b : BusId)
  /-- TRANSFER_MAKE (R258). -/
  | transferMake (b : BusId)
  /-- TRANSFER_TIMEOUT (R259). -/
  | transferTimeout (b : BusId)
  /-- BUS_XFER_RESUME (R261). -/
  | busXferResume (b : BusId) (rq : Requester)
  /-- ORING_REVERSE_BLOCK (R269). -/
  | oringReverseBlock (c : Chan) (since : Nat) (t : Nat)
  /-- ORING_REVERSE_TRIP (R270). -/
  | oringReverseTrip (c : Chan) (t : Nat)
  /-- ORING_REENTRY (R271). -/
  | oringReentry (c : Chan) (t : Nat)
  /-- ORING_SHARE_STEP (R274). -/
  | oringShareStep (b : BusId)
  /-- ORING_BLOCKED (R275). -/
  | oringBlocked (b : BusId)
  /-- PAIRED_WINDOW_START (R290). -/
  | pairedWindowStart (c : Chan) (trig : Option PodCmp) (t : Nat)
  /-- PAIRED_WINDOW_END (R291). -/
  | pairedWindowEnd (c : Chan) (t : Nat)
  /-- INT_DWELL_COMPLETE (R287). -/
  | intDwellComplete (c : Chan)
  /-- URGENT_CONVERSION_DONE (R301). -/
  | urgentConversionDone (c : Chan) (codes : List Raw) (t : Nat)
  /-- ADC_CAL (R303). -/
  | adcCal (c : Chan) (rq : Requester)
  /-- CAL_COMPLETE (R305). -/
  | calComplete (c : Chan) (icF : List Int) (vcF : List Int) (feF : List Int) (t : Nat)
  /-- ADC_RECAL (R310). -/
  | adcRecal (c : Chan) (kind : Nat) (rq : Requester)
  /-- RECAL_COMPLETE (R311). -/
  | recalComplete (c : Chan) (factors : List Int) (t : Nat)
  /-- RECAL_COVER_END (R311). -/
  | recalCoverEnd (c : Chan)
  /-- PARKED_BURST (R313). -/
  | parkedBurst (c : Chan) (smp : TickSamples)
  /-- HK_MEAN_UPDATE (R318). -/
  | hkMeanUpdate (inp : Nat) (codes : List Raw)
  /-- HK_SLEEP_BURST (R319). -/
  | hkSleepBurst (codes : List (List Raw))
  /-- AVERAGE_COMPLETE (R321). -/
  | averageComplete (c : Chan) (src : Source)
  /-- METERING_TRANSFER (R330). -/
  | meteringTransfer (c : Chan)
  /-- METERING_TRANSFER_RECEIVED (R331). -/
  | meteringTransferReceived (c : Chan) (crcOk : Bool)
  /-- MINMAX_WINDOW_END (R334). -/
  | minmaxWindowEnd
  /-- MTR_SNAP (R337). -/
  | mtrSnap (rq : Requester)
  /-- SNAPSHOT_TICK (R337). -/
  | snapshotTick
  /-- SNAPSHOT_DONE (R338). -/
  | snapshotDone
  /-- MTR_CLEAR (R339). -/
  | mtrClear (c : Chan) (mask : Nat) (rq : Requester)
  /-- METERING_CLEAR_APPLY (R339). -/
  | meteringClearApply (c : Chan)
  /-- CHECKPOINT (R340). -/
  | checkpoint
  /-- CHECKPOINT_WRITTEN (R340). -/
  | checkpointWritten (ok : Bool)
  /-- SPEED_HOLD_END (R350). -/
  | speedHoldEnd (cell : CellId) (active : Bool)
  /-- HUB_CMP_EDGE (R362). -/
  | hubCmpEdge (n : Oct) (active : Bool) (mid : Bool) (t : Nat)
  /-- CMP_TIE_TEST (R368). -/
  | cmpTieTest (n : Oct) (rq : Requester)
  /-- CMP_SWAP_TEST (R367). -/
  | cmpSwapTest (n : Oct) (rq : Requester)
  /-- CMP_TEST_DONE (R368). -/
  | cmpTestDone (n : Oct) (result : TestResult)
  /-- PWM_WORD (R385). -/
  | pwmWord (n : Oct) (value : Nat) (rq : Requester) (t : Nat)
  /-- PWM_RUN_START (R374). -/
  | pwmRunStart (n : Oct) (rq : Requester)
  /-- PWM_RUN_STOP (R374). -/
  | pwmRunStop (n : Oct) (rq : Requester)
  /-- PWM_PERIOD_BOUNDARY (R376). -/
  | pwmPeriodBoundary (n : Oct) (rdy : Nat)
  /-- PWM_MIDPERIOD_RELOAD (R386). -/
  | pwmMidperiodReload (n : Oct)
  /-- PWM_PULSE_END (R377). -/
  | pwmPulseEnd (n : Oct)
  /-- PWM_DEAD_TIME_END (R379). -/
  | pwmDeadTimeEnd (n : Oct)
  /-- PWM_FREL (R390). -/
  | pwmFrel (n : Oct) (rq : Requester)
  /-- VDD33_POWER_ON_RESET (R395). -/
  | vdd33PowerOnReset
  /-- CORE_SUPPLY_RESET (R401). -/
  | coreSupplyReset
  /-- ALWAYS_ON_POWER_ON_RESET (R402). -/
  | alwaysOnPowerOnReset
  /-- RESET_N (R401). -/
  | resetN
  /-- LOCKSTEP_MISMATCH (R401). -/
  | lockstepMismatch
  /-- WATCHDOG (R401). -/
  | watchdog
  /-- CRYSTAL_LOST (R407). -/
  | crystalLost
  /-- HUB_RESET (R401). -/
  | hubReset (rq : Requester)
  /-- THERMAL_RESET (R401). -/
  | thermalReset
  /-- RESET_RELEASE (R398). -/
  | resetRelease (strap : Nat)
  /-- BOOT_COMPLETE (R399). -/
  | bootComplete
  /-- ADOPT (R543). -/
  | adopt
  /-- POD_ADOPTION (R544). -/
  | podAdoption (c : Chan)
  /-- POD_SUPPLY_CURRENT_LIMIT (R396). -/
  | podSupplyCurrentLimit (c : Chan)
  /-- POD_SUPPLY_RETRY (R396). -/
  | podSupplyRetry (c : Chan) (holds : Bool)
  /-- HUB_PODSUP_EN (R397). -/
  | hubPodsupEn (mask : Nat) (rq : Requester)
  /-- RING_CLOCK_MOVE (R404). -/
  | ringClockMove
  /-- RING_CLOCK_LOSS (R405). -/
  | ringClockLoss
  /-- XTAL_MEASURE (R406). -/
  | xtalMeasure (ppm : Int)
  /-- HUB_SLEEP (R408). -/
  | hubSleep (rq : Requester)
  /-- SLEEP_ENTERED (R410). -/
  | sleepEntered
  /-- POD_WAKE_SIGNAL (R411). -/
  | podWakeSignal (c : Chan)
  /-- WAKE (R413). -/
  | wake (src : Nat)
  /-- POD_POWER_UP (R416). -/
  | podPowerUp (c : Chan) (kind : PodKind) (rev : Nat) (uid : Nat) (a : Bool) (b : Bool)
  /-- POD_SUPPLY_LOSS (R416). -/
  | podSupplyLoss (c : Chan) (t : Nat)
  /-- POD_LINK_TRAINED (R416). -/
  | podLinkTrained (c : Chan)
  /-- POD_LINK_DOWN (R417). -/
  | podLinkDown (c : Chan)
  /-- HOLD_WINDOW_END (R542). -/
  | holdWindowEnd (c : Chan)
  /-- RING_LINK_DOWN (R426). -/
  | ringLinkDown (k : KPort) (violations : Nat)
  /-- RING_LINK_UP (R426). -/
  | ringLinkUp (k : KPort)
  /-- OD_READ (R434). -/
  | odRead (k : KPort) (f : Frame)
  /-- OD_WRITE (R434). -/
  | odWrite (k : KPort) (f : Frame)
  /-- OD_RESP (R435). -/
  | odResp (k : KPort) (f : Frame)
  /-- RING_RESP_TMO (R435). -/
  | ringRespTmo (seq : Nat)
  /-- EVENT_FRAME (R430). -/
  | eventFrame (k : KPort) (f : Frame)
  /-- FAULT_FRAME (R443). -/
  | faultFrame (k : KPort) (f : Frame)
  /-- SYNC_TIME (R450). -/
  | syncTime (k : KPort) (f : Frame) (t : Nat)
  /-- SYNC_PERIOD (R450). -/
  | syncPeriod
  /-- DELAY_REQ (R451). -/
  | delayReq (k : KPort) (f : Frame) (turn : Nat)
  /-- DELAY_RESP (R451). -/
  | delayResp (k : KPort) (f : Frame) (t : Nat)
  /-- DELAY_EXCHANGE_PERIOD (R451). -/
  | delayExchangePeriod
  /-- TIME_HOLDOVER (R453). -/
  | timeHoldover
  /-- DISCOVER (R437). -/
  | discover (k : KPort) (f : Frame)
  /-- REPORT (R437). -/
  | report (k : KPort) (f : Frame)
  /-- ASSIGN (R437). -/
  | assign (k : KPort) (f : Frame)
  /-- DONE (R437). -/
  | done (k : KPort) (f : Frame)
  /-- RING_ENUM (R437). -/
  | ringEnum (rq : Requester)
  /-- RING_MAP_CLEAR (R438). -/
  | ringMapClear (rq : Requester)
  /-- FAULT_TOKEN (R444). -/
  | faultToken (k : KPort) (b : Byte) (t : Nat)
  /-- FAULT_TOKEN_REPEAT (R443). -/
  | faultTokenRepeat (l : Quad)
  /-- FAULT_VIEW_RELEASE (R444). -/
  | faultViewRelease (l : Quad)
  /-- FAULT_PULSE_END (R443). -/
  | faultPulseEnd (l : Quad)
  /-- REHOME (R448). -/
  | rehome (k : KPort) (b : Byte)
  /-- RING_WAKE (R455). -/
  | ringWake (mask : Nat) (rq : Requester)
  /-- SUBMIT (R458). -/
  | submit (type : Nat) (tag : Nat) (dst : Nat) (payload : List Byte) (crc : Nat)
  /-- FETCH (R458). -/
  | fetch (crc : Nat) (full : Bool)
  /-- REFETCH (R458). -/
  | refetch (crc : Nat)
  /-- STATUS (R458). -/
  | status (crc : Nat)
  /-- IRQ_ACK (R458). -/
  | irqAck (mask : Nat) (crc : Nat)
  /-- OBJECT_WRITE (R468). -/
  | objectWrite (rq : Requester) (idx : Nat) (sub : Nat) (data : List Byte)
  /-- SES_OPEN (R474). -/
  | sesOpen (role : Nat) (rq : Requester)
  /-- SES_CHALLENGE (R474). -/
  | sesChallenge (src : Nat)
  /-- SES_RESPONSE (R475). -/
  | sesResponse (rq : Requester) (data : List Byte)
  /-- CHALLENGE_LAPSE (R475). -/
  | challengeLapse
  /-- ROLE_LOCK_END (R476). -/
  | roleLockEnd
  /-- SES_CLOSE (R478). -/
  | sesClose (h : Nat) (rq : Requester)
  /-- SES_TIMEOUT (R478). -/
  | sesTimeout (h : Nat)
  /-- SES_VIEW (R470). -/
  | sesView (v : Nat) (rq : Requester)
  /-- COMMIT (R482). -/
  | commit (u : CUnit) (rq : Requester)
  /-- COMMIT_APPLY (R485). -/
  | commitApply (u : CUnit)
  /-- REVERT (R486). -/
  | revert (u : CUnit) (rq : Requester)
  /-- HUB_CFG_SAVE (R492). -/
  | hubCfgSave (rq : Requester)
  /-- CFG_SAVE_COMPLETE (R492). -/
  | cfgSaveComplete (ok : Bool)
  /-- HUB_CFG_DEFAULTS (R496). -/
  | hubCfgDefaults (rq : Requester)
  /-- SEAL_WRITE (R497). -/
  | sealWrite (rq : Requester) (idx : Nat) (data : List Byte)
  /-- SEAL_PROGRAM_DONE (R498). -/
  | sealProgramDone (ok : Bool)
  /-- STR_EN_SET (R510). -/
  | strEnSet (rq : Requester)
  /-- STR_EN_CLEAR (R523). -/
  | strEnClear (rq : Requester)
  /-- READY_HIGH_END (R514). -/
  | readyHighEnd (ns : Nat)
  /-- BLOCK_SEND (R513). -/
  | blockSend
  /-- STREAM_FLUSH (R512). -/
  | streamFlush
  /-- STREAM_RECORD (R520). -/
  | streamRecord
  /-- STR_CAPTURE (R518). -/
  | strCapture (mask : Nat) (rq : Requester)
  /-- STR_JNL_EXPORT (R519). -/
  | strJnlExport (n : Nat) (rq : Requester)
  /-- JOURNAL_EXPORT_RECORD (R521). -/
  | journalExportRecord
  /-- HUB_PX_MOVE (R536). -/
  | hubPxMove (mask : Nat) (rq : Requester)
  /-- MOVE_RECLAIM (R540). -/
  | moveReclaim
  /-- OWNERLESS_CLAIM (R535). -/
  | ownerlessClaim (c : Chan)
  /-- FW_LOAD_BEGIN (R550). -/
  | fwLoadBegin (rq : Requester)
  /-- FW_IMAGE (R550). -/
  | fwImage (rq : Requester) (off : Nat) (data : List Byte)
  /-- FW_LOAD_FINISH (R550). -/
  | fwLoadFinish (rq : Requester)
  /-- FW_CHECK_DONE (R550). -/
  | fwCheckDone
  /-- FW_LOAD_CANCEL (R550). -/
  | fwLoadCancel (rq : Requester)
  /-- FW_ACTIVATE (R551). -/
  | fwActivate (rq : Requester)
  /-- FW_CONFIRM (R552). -/
  | fwConfirm (rq : Requester)
  /-- FW_TRIAL_EXPIRY (R552). -/
  | fwTrialExpiry
  /-- PFW_N (R558). -/
  | pfwN
  /-- POWER_WARNING_END (R560). -/
  | powerWarningEnd
  /-- CUT_THROUGH_FORWARD (R433). -/
  | cutThroughForward (k : KPort) (f : Frame) (t : Nat) (residence : Nat)
  /-- MIRRORING_COMPLETE (R534). -/
  | mirroringComplete
  deriving DecidableEq, Repr

end Sys2Proof
end

