-- ==== Sys2Proof/Decode.lean ====
section
/-! DEFINITION. Decoding of words: no row of the opcode table gives bits, so no word spells a command. The bytes of an SPI transfer
do (R457, R458). -/

namespace Sys2Proof

/-- The command that a word spells by the table's bits. -/
def decodeTableWord (_nbits _w : Nat) : Option Instr := none

/-- The command that the bytes of an SPI transfer spell: OP, LEN, BODY, CRC-16. `full` says whether the host clocks the whole item
that it reads. None where the transfer is cut short, or its OP or the length of its BODY is none of R458. -/
def decodeTransfer (full : Bool) (l : List Byte) : Option Instr :=
  let n := fieldAt l 1 2
  let body := (l.drop 3).take n
  let crc := fieldAt l (3 + n) 2
  if l.length < 5 + n then none
  else match fieldAt l 0 1 with
    | 1 => if 4 ≤ n then some (.submit (fieldAt body 0 1) (fieldAt body 1 1) (fieldAt body 2 2) (body.drop 4) crc) else none
    | 2 => if n = 0 then some (.fetch crc full) else none
    | 3 => if n = 0 then some (.refetch crc) else none
    | 4 => if n = 0 then some (.status crc) else none
    | 5 => if n = 2 then some (.irqAck (fieldAt body 0 2) crc) else none
    | _ => none

end Sys2Proof
end

