-- ==== Sys2Proof/Config.lean ====
section
/-! DEFINITION. The free values: what the spec leaves open. Each is a constant without a body, so that nothing can be
proved of its value. -/

namespace Sys2Proof.Config

/-- A fresh free value, one for each number (log 2). -/
opaque freeValue : Nat → Nat

/-- Reading of an internal node, VPOS and VNEG in mV and TDIE in °C, from the sum of its valid codes and their number: the spec gives
no scale of these nodes (R285, R287, log 6). -/
opaque nodeValue : Nat → Int → Nat → Int

/-- Hub die temperature in °C from the sum of 16 housekeeping codes: the spec gives no scale (R316, log 7). -/
opaque hkTemp : Nat → Int

/-- `DEV_UID` of the hub, set at manufacture (R466). -/
opaque devUid : Nat

/-- `DEV_SERIAL` of the hub, of which 24 bytes count (R466). -/
opaque devSerial : List Byte

/-- Digest of a parameter set: the spec names digests of sets without the bytes they run over (R534, R543). -/
opaque setDigest : Store → Nat

/-- The signature of a firmware image, ECDSA P-256 with SHA-256, verifies against the key in ROM (R549). -/
opaque sigOk : List Byte → Bool

/-- Bytes of an image of the stored configuration (R496). -/
opaque cfgSize : Store → Nat

end Sys2Proof.Config
end

