-- ==== Sys2Proof/Machine/Objects.lean ====
section
/-! DEFINITION. The objects of the dictionary by name (the object tables of the spec's chapters and the object map of
chapter 18): index of instance 0, index step, first subindex, Default. -/

namespace Sys2Proof

/-! Objects of R466, 15_object_dictionary.md. -/
def OD.DEV_VENDOR : Obj := ⟨0x0000, 0x0, 1, 0⟩
def OD.DEV_PART : Obj := ⟨0x0000, 0x0, 2, 25616⟩
def OD.DEV_SILREV : Obj := ⟨0x0000, 0x0, 3, 2⟩
def OD.DEV_FWVER : Obj := ⟨0x0000, 0x0, 4, 0⟩
def OD.DEV_UID : Obj := ⟨0x0000, 0x0, 5, 0⟩
def OD.DEV_SERIAL : Obj := ⟨0x0000, 0x0, 6, 0⟩
def OD.DEV_POD_TYPE : Obj := ⟨0x0001, 0x0, 1, 0⟩
def OD.DEV_POD_REV : Obj := ⟨0x0002, 0x0, 1, 0⟩
def OD.DEV_POD_UID : Obj := ⟨0x0003, 0x0, 1, 0⟩
/-! Objects of R503, 15_object_dictionary.md. -/
def OD.RACK_FORMAT : Obj := ⟨0x0010, 0x0, 1, 1⟩
def OD.RACK_COUNT : Obj := ⟨0x0010, 0x0, 2, 0⟩
def OD.RACK_CRC : Obj := ⟨0x0010, 0x0, 3, 0⟩
def OD.RACK_NAMES_LEN : Obj := ⟨0x0010, 0x0, 4, 0⟩
def OD.RACK_FWVER : Obj := ⟨0x0010, 0x0, 5, 0⟩
def OD.RACK_NAMES : Obj := ⟨0x0011, 0x0, 1, 0⟩
/-! Objects of R421, 13_power_states_and_clocks.md. -/
def OD.HUB_STATE : Obj := ⟨0x1000, 0x0, 1, 1⟩
def OD.HUB_RST_CAUSE : Obj := ⟨0x1000, 0x0, 2, 0⟩
def OD.HUB_RST_COUNT : Obj := ⟨0x1000, 0x0, 3, 0⟩
def OD.HUB_RESET : Obj := ⟨0x1000, 0x0, 4, 0⟩
def OD.HUB_BOOT_TIME : Obj := ⟨0x1000, 0x0, 5, 0⟩
def OD.HUB_BOOT_STATUS : Obj := ⟨0x1000, 0x0, 6, 0⟩
def OD.HUB_SLEEP : Obj := ⟨0x1010, 0x0, 1, 0⟩
def OD.HUB_WAKE_EN : Obj := ⟨0x1010, 0x0, 2, 127⟩
def OD.HUB_WAKE_TIMER : Obj := ⟨0x1010, 0x0, 3, 0⟩
def OD.HUB_WAKE_CAUSE : Obj := ⟨0x1010, 0x0, 4, 0⟩
def OD.HUB_PODPORT_WAKE : Obj := ⟨0x1010, 0x0, 5, 65535⟩
def OD.HUB_SLEEPS : Obj := ⟨0x1010, 0x0, 6, 0⟩
def OD.HUB_SLEEP_BLOCK : Obj := ⟨0x1010, 0x0, 7, 1⟩
def OD.HUB_HKW_LO : Obj := ⟨0x1011, 0x0, 1, 0⟩
def OD.HUB_HKW_HI : Obj := ⟨0x1012, 0x0, 1, 4095⟩
def OD.HUB_CLKSRC : Obj := ⟨0x1020, 0x0, 1, 0⟩
def OD.HUB_CLK_PORT : Obj := ⟨0x1020, 0x0, 2, 0⟩
def OD.HUB_CLK_STATE : Obj := ⟨0x1020, 0x0, 3, 0⟩
def OD.HUB_CLK_SWITCHES : Obj := ⟨0x1020, 0x0, 4, 0⟩
def OD.HUB_XTAL_PPM : Obj := ⟨0x1020, 0x0, 5, 0⟩
def OD.HUB_PODSUP_EN : Obj := ⟨0x1030, 0x0, 1, 65535⟩
def OD.HUB_PODSUP_FLT : Obj := ⟨0x1030, 0x0, 2, 0⟩
/-! Objects of R247, 07_trips_and_rules.md. -/
def OD.HUB_FLTO_CH : Obj := ⟨0x1040, 0x1, 1, 0⟩
def OD.HUB_FLTO_CAUSE : Obj := ⟨0x1040, 0x1, 2, 0⟩
def OD.HUB_FLTO_MODE : Obj := ⟨0x1040, 0x1, 3, 0⟩
def OD.HUB_FLTO_BUS : Obj := ⟨0x1040, 0x1, 4, 0⟩
def OD.HUB_FLTO_MINW : Obj := ⟨0x1040, 0x1, 5, 10⟩
def OD.HUB_FLTO_ACK : Obj := ⟨0x1040, 0x1, 6, 0⟩
def OD.HUB_FLTO_STATE : Obj := ⟨0x1040, 0x1, 7, 0⟩
def OD.HUB_FLTI_CH : Obj := ⟨0x1042, 0x1, 1, 0⟩
def OD.HUB_FLTI_FILT : Obj := ⟨0x1042, 0x1, 2, 20⟩
def OD.HUB_FLTI_STATE : Obj := ⟨0x1042, 0x1, 3, 0⟩
def OD.HUB_FLTI_EVENTS : Obj := ⟨0x1042, 0x1, 4, 0⟩
/-! Objects of R496, 15_object_dictionary.md. -/
def OD.HUB_CFG_SAVE : Obj := ⟨0x1050, 0x0, 1, 0⟩
def OD.HUB_CFG_STATE : Obj := ⟨0x1050, 0x0, 2, 0⟩
def OD.HUB_CFG_LOAD : Obj := ⟨0x1050, 0x0, 3, 2⟩
def OD.HUB_CFG_SEQ : Obj := ⟨0x1050, 0x0, 4, 0⟩
def OD.HUB_CFG_TIME : Obj := ⟨0x1050, 0x0, 5, 0⟩
def OD.HUB_CFG_DEFAULTS : Obj := ⟨0x1050, 0x0, 6, 0⟩
def OD.HUB_CFG_SIZE : Obj := ⟨0x1050, 0x0, 7, 0⟩
/-! Objects of R561, 17_partnering_and_persistence.md. -/
def OD.HUB_PFW_STATE : Obj := ⟨0x1060, 0x0, 1, 0⟩
def OD.HUB_PFW_COUNT : Obj := ⟨0x1060, 0x0, 2, 0⟩
def OD.HUB_PFW_TLAST : Obj := ⟨0x1060, 0x0, 3, 0⟩
def OD.HUB_SHUTDOWN : Obj := ⟨0x1060, 0x0, 4, 2⟩
/-! Objects of R319, 09_pod_converters.md. -/
def OD.ADC_HK_EN : Obj := ⟨0x1080, 0x0, 1, 3840⟩
def OD.ADC_HK_SLEEP_PER : Obj := ⟨0x1080, 0x0, 2, 0⟩
def OD.ADC_HK_SLEEP_EN : Obj := ⟨0x1080, 0x0, 3, 0⟩
def OD.ADC_HK_PIN : Obj := ⟨0x1081, 0x0, 1, 0⟩
def OD.ADC_HK_VDD33 : Obj := ⟨0x1081, 0x0, 9, 0⟩
def OD.ADC_HK_VAO : Obj := ⟨0x1081, 0x0, 10, 0⟩
def OD.ADC_HK_VPL : Obj := ⟨0x1081, 0x0, 11, 0⟩
def OD.ADC_HK_TDIE : Obj := ⟨0x1081, 0x0, 12, 32767⟩
def OD.ADC_HK_OR : Obj := ⟨0x1081, 0x0, 13, 0⟩
/-! Objects of R344, 10_metering.md. -/
def OD.MTR_SNAP : Obj := ⟨0x1090, 0x0, 1, 0⟩
def OD.MTR_SNAP_TIME : Obj := ⟨0x1090, 0x0, 2, 0⟩
def OD.MTR_CKPT_SEQ : Obj := ⟨0x1090, 0x0, 3, 0⟩
def OD.MTR_CKPT_TIME : Obj := ⟨0x1090, 0x0, 4, 0⟩
def OD.MTR_CKPT_STATE : Obj := ⟨0x1090, 0x0, 5, 0⟩
def OD.MTR_CKPT_FAILS : Obj := ⟨0x1090, 0x0, 6, 0⟩
/-! Objects of R461, 14_kazac_ring.md. -/
def OD.RING_ADDR : Obj := ⟨0x2000, 0x0, 1, 4095⟩
def OD.RING_ADDR_SRC : Obj := ⟨0x2000, 0x0, 2, 3⟩
def OD.RING_STRAP : Obj := ⟨0x2000, 0x0, 3, 0⟩
def OD.RING_UPSTREAM : Obj := ⟨0x2000, 0x0, 4, 255⟩
def OD.RING_HOPS : Obj := ⟨0x2000, 0x0, 5, 255⟩
def OD.RING_TOPO : Obj := ⟨0x2000, 0x0, 6, 0⟩
def OD.RING_NODES : Obj := ⟨0x2000, 0x0, 7, 0⟩
def OD.RING_PORT_STATE : Obj := ⟨0x2001, 0x0, 1, 0⟩
def OD.RING_LINK_DELAY : Obj := ⟨0x2001, 0x0, 4, 0⟩
def OD.RING_BREAKS : Obj := ⟨0x2002, 0x0, 1, 0⟩
def OD.RING_ERRS : Obj := ⟨0x2002, 0x0, 4, 0⟩
def OD.RING_CODE_ERR : Obj := ⟨0x2002, 0x0, 7, 0⟩
def OD.RING_REHOMES : Obj := ⟨0x2002, 0x0, 8, 0⟩
def OD.RING_RETRIES : Obj := ⟨0x2002, 0x0, 9, 0⟩
def OD.RING_RESP_TMO : Obj := ⟨0x2010, 0x0, 1, 1000⟩
def OD.RING_SYNC_PER : Obj := ⟨0x2010, 0x0, 2, 1000⟩
def OD.RING_ENUM : Obj := ⟨0x2010, 0x0, 3, 0⟩
def OD.RING_WAKE : Obj := ⟨0x2010, 0x0, 4, 0⟩
def OD.RING_MAP_CLEAR : Obj := ⟨0x2010, 0x0, 5, 0⟩
def OD.RING_MAP : Obj := ⟨0x2020, 0x0, 1, 0⟩
def OD.RING_TIME : Obj := ⟨0x2030, 0x0, 1, 0⟩
def OD.RING_TIME_STATE : Obj := ⟨0x2030, 0x0, 2, 1⟩
def OD.RING_TIME_OFS : Obj := ⟨0x2030, 0x0, 3, 0⟩
def OD.RING_TIME_RATE : Obj := ⟨0x2030, 0x0, 4, 0⟩
def OD.RING_TIME_STEPS : Obj := ⟨0x2030, 0x0, 5, 0⟩
def OD.RING_IRQ_EN : Obj := ⟨0x2040, 0x0, 1, 63⟩
def OD.RING_IRQ_SRC : Obj := ⟨0x2040, 0x0, 2, 0⟩
def OD.RING_SPI_CRCERR : Obj := ⟨0x2040, 0x0, 3, 0⟩
def OD.RING_OUTQ_DROPS : Obj := ⟨0x2040, 0x0, 4, 0⟩
def OD.RING_FT_CH : Obj := ⟨0x2050, 0x1, 1, 0⟩
def OD.RING_FT_CAUSE : Obj := ⟨0x2050, 0x1, 2, 0⟩
def OD.RING_FT_BUS : Obj := ⟨0x2050, 0x1, 3, 0⟩
def OD.RING_FT_MODE : Obj := ⟨0x2050, 0x1, 4, 0⟩
def OD.RING_FT_PULSE : Obj := ⟨0x2050, 0x1, 5, 100⟩
def OD.RING_FT_RXCH : Obj := ⟨0x2050, 0x1, 6, 0⟩
def OD.RING_FT_STATE : Obj := ⟨0x2050, 0x1, 7, 0⟩
def OD.RING_FT_LAST : Obj := ⟨0x2050, 0x1, 8, 4095⟩
def OD.RING_FT_COUNT : Obj := ⟨0x2050, 0x1, 9, 0⟩
/-! Objects of R535, 17_partnering_and_persistence.md. -/
def OD.HUB_PX_ADDR : Obj := ⟨0x2060, 0x0, 1, 4095⟩
def OD.HUB_PX_PORTS : Obj := ⟨0x2060, 0x0, 2, 0⟩
def OD.HUB_PX_PREF : Obj := ⟨0x2060, 0x0, 3, 0⟩
def OD.HUB_PX_STATE : Obj := ⟨0x2060, 0x0, 4, 0⟩
def OD.HUB_PX_MOVE : Obj := ⟨0x2060, 0x0, 5, 0⟩
def OD.HUB_PX_OWNED : Obj := ⟨0x2060, 0x0, 6, 0⟩
def OD.HUB_PX_DIGEST : Obj := ⟨0x2060, 0x0, 7, 0⟩
def OD.HUB_PX_MOVES : Obj := ⟨0x2060, 0x0, 8, 0⟩
def OD.HUB_PX_TAKEOVERS : Obj := ⟨0x2060, 0x0, 9, 0⟩
def OD.HUB_PX_CONFLICTS : Obj := ⟨0x2060, 0x0, 10, 0⟩
/-! Objects of R62, 02_power_path.md. -/
def OD.BUS_MEMBERS : Obj := ⟨0x3000, 0x100, 1, 0⟩
def OD.BUS_FEEDS : Obj := ⟨0x3000, 0x100, 2, 0⟩
def OD.BUS_PRE : Obj := ⟨0x3000, 0x100, 3, 255⟩
def OD.BUS_DIS : Obj := ⟨0x3000, 0x100, 4, 255⟩
def OD.BUS_VSRC : Obj := ⟨0x3000, 0x100, 5, 255⟩
/-! Objects of R243, 07_trips_and_rules.md. -/
def OD.BUS_BF_EN : Obj := ⟨0x3010, 0x100, 1, 1⟩
def OD.BUS_BF_WIN : Obj := ⟨0x3010, 0x100, 2, 400⟩
def OD.BUS_BF_STATE : Obj := ⟨0x3010, 0x100, 3, 0⟩
def OD.BUS_BF_FEEDS : Obj := ⟨0x3010, 0x100, 4, 0⟩
def OD.BUS_BF_TIME : Obj := ⟨0x3010, 0x100, 5, 0⟩
def OD.BUS_BF_COUNT : Obj := ⟨0x3010, 0x100, 6, 0⟩
def OD.BUS_BF_CLEAR : Obj := ⟨0x3010, 0x100, 7, 0⟩
/-! Objects of R278, 08_redundant_feeds.md. -/
def OD.BUS_FMODE : Obj := ⟨0x3020, 0x100, 1, 1⟩
def OD.BUS_RANK : Obj := ⟨0x3020, 0x100, 2, 4294967295⟩
def OD.BUS_TBBM : Obj := ⟨0x3020, 0x100, 3, 20⟩
def OD.BUS_XFER_BAND : Obj := ⟨0x3020, 0x100, 4, 500⟩
def OD.BUS_VFEED_MIN : Obj := ⟨0x3020, 0x100, 5, 2500⟩
def OD.BUS_VFEED_MAX : Obj := ⟨0x3020, 0x100, 6, 4800⟩
def OD.BUS_THEALTH : Obj := ⟨0x3020, 0x100, 7, 100⟩
def OD.BUS_TLOSS : Obj := ⟨0x3020, 0x100, 8, 10⟩
def OD.BUS_REVERT : Obj := ⟨0x3020, 0x100, 9, 0⟩
def OD.BUS_TREVERT : Obj := ⟨0x3020, 0x100, 10, 10000⟩
def OD.BUS_TXFER_MAX : Obj := ⟨0x3020, 0x100, 11, 10⟩
def OD.BUS_XFER_PRE : Obj := ⟨0x3020, 0x100, 12, 0⟩
def OD.BUS_XFER_ONFAULT : Obj := ⟨0x3020, 0x100, 13, 0⟩
def OD.BUS_ORENG : Obj := ⟨0x3020, 0x100, 14, 255⟩
def OD.BUS_OR_VFWD : Obj := ⟨0x3020, 0x100, 15, 50⟩
def OD.BUS_OR_SHARE : Obj := ⟨0x3020, 0x100, 16, 0⟩
def OD.BUS_OR_VON : Obj := ⟨0x3020, 0x100, 17, 500⟩
def OD.BUS_OR_TON : Obj := ⟨0x3020, 0x100, 18, 20⟩
def OD.BUS_OR_VMAX : Obj := ⟨0x3020, 0x100, 19, 200⟩
def OD.BUS_OR_RATIO : Obj := ⟨0x3020, 0x100, 20, 50⟩
def OD.BUS_SEL : Obj := ⟨0x3021, 0x100, 1, 255⟩
def OD.BUS_XFER_STATE : Obj := ⟨0x3021, 0x100, 2, 0⟩
def OD.BUS_ELIGIBLE : Obj := ⟨0x3021, 0x100, 3, 0⟩
def OD.BUS_XFERS : Obj := ⟨0x3021, 0x100, 4, 0⟩
def OD.BUS_XFER_GAP : Obj := ⟨0x3021, 0x100, 5, 0⟩
def OD.BUS_XFER_DROOP : Obj := ⟨0x3021, 0x100, 6, 0⟩
def OD.BUS_XFER_FAILS : Obj := ⟨0x3021, 0x100, 7, 0⟩
def OD.BUS_OR_STATE : Obj := ⟨0x3021, 0x100, 8, 0⟩
def OD.BUS_OR_VTGT : Obj := ⟨0x3021, 0x100, 9, 0⟩
def OD.BUS_OR_BLOCKS : Obj := ⟨0x3021, 0x100, 10, 0⟩
def OD.BUS_XFER_RESUME : Obj := ⟨0x3021, 0x100, 11, 0⟩
/-! Objects of R490, 15_object_dictionary.md. -/
def OD.BUS_COMMIT : Obj := ⟨0x30F0, 0x100, 1, 0⟩
def OD.BUS_COMMIT_RES : Obj := ⟨0x30F0, 0x100, 2, 0⟩
def OD.BUS_COMMIT_DIRTY : Obj := ⟨0x30F0, 0x100, 3, 0⟩
def OD.BUS_COMMIT_COUNT : Obj := ⟨0x30F0, 0x100, 4, 0⟩
def OD.BUS_COMMIT_TIME : Obj := ⟨0x30F0, 0x100, 5, 0⟩
def OD.BUS_COMMIT_FAILOBJ : Obj := ⟨0x30F0, 0x100, 6, 0⟩
/-! Objects of R136, 04_insertion_and_start.md. -/
def OD.CH_STATE : Obj := ⟨0x4000, 0x200, 1, 0⟩
def OD.CH_ENABLE : Obj := ⟨0x4000, 0x200, 2, 0⟩
/-! Objects of R248, 07_trips_and_rules.md. -/
def OD.CH_DMG_CLEAR : Obj := ⟨0x4000, 0x200, 3, 0⟩
/-! Objects of R421, 13_power_states_and_clocks.md. -/
def OD.CH_POD_STATE : Obj := ⟨0x4000, 0x200, 4, 0⟩
def OD.CH_POD_SUPPLY : Obj := ⟨0x4000, 0x200, 5, 0⟩
/-! Objects of R542, 17_partnering_and_persistence.md. -/
def OD.CH_THOLD : Obj := ⟨0x4002, 0x200, 1, 50⟩
def OD.CH_OWNER : Obj := ⟨0x4002, 0x200, 2, 255⟩
def OD.CH_OEPOCH : Obj := ⟨0x4002, 0x200, 3, 0⟩
def OD.CH_HOLD_LEFT : Obj := ⟨0x4002, 0x200, 4, 0⟩
def OD.CH_HOLDS : Obj := ⟨0x4002, 0x200, 5, 0⟩
def OD.CH_CFG_SRC : Obj := ⟨0x4002, 0x200, 6, 0⟩
/-! Objects of R59, 02_power_path.md. -/
def OD.CH_ROLE : Obj := ⟨0x4010, 0x200, 1, 0⟩
def OD.CH_BUS : Obj := ⟨0x4010, 0x200, 2, 255⟩
def OD.CH_RSHUNT : Obj := ⟨0x4011, 0x200, 1, 100000⟩
def OD.CH_IRANGE : Obj := ⟨0x4011, 0x200, 2, 1⟩
def OD.CH_KDIV_IN : Obj := ⟨0x4011, 0x200, 3, 26279936⟩
def OD.CH_KDIV_OUT : Obj := ⟨0x4011, 0x200, 4, 26279936⟩
def OD.CH_KDIV_NEG : Obj := ⟨0x4011, 0x200, 5, 26279936⟩
def OD.CH_NTC_R25 : Obj := ⟨0x4011, 0x200, 6, 10000⟩
def OD.CH_NTC_BETA : Obj := ⟨0x4011, 0x200, 7, 3435⟩
def OD.CH_IFS : Obj := ⟨0x4011, 0x200, 8, 1600000⟩
/-! Objects of R98, 03_gate_drive.md. -/
def OD.CH_GPRE_ON : Obj := ⟨0x4020, 0x200, 1, 2000⟩
def OD.CH_GEXIT_ON : Obj := ⟨0x4020, 0x200, 2, 10000⟩
def OD.CH_ISLEW_ON : Obj := ⟨0x4020, 0x200, 3, 10⟩
def OD.CH_GPRE_OFF : Obj := ⟨0x4020, 0x200, 4, 9000⟩
def OD.CH_GEXIT_OFF : Obj := ⟨0x4020, 0x200, 5, 1000⟩
def OD.CH_ISLEW_OFF : Obj := ⟨0x4020, 0x200, 6, 20⟩
def OD.CH_ISOFT : Obj := ⟨0x4020, 0x200, 7, 100⟩
def OD.CH_TSLEW_ON : Obj := ⟨0x4020, 0x200, 8, 1000⟩
def OD.CH_TOFF_MAX : Obj := ⟨0x4020, 0x200, 9, 100⟩
def OD.CH_GORDER : Obj := ⟨0x4020, 0x200, 10, 0⟩
def OD.CH_VNEG_USE : Obj := ⟨0x4020, 0x200, 11, 1⟩
def OD.CH_GPHASE_IN : Obj := ⟨0x4021, 0x200, 1, 9⟩
def OD.CH_GPHASE_OUT : Obj := ⟨0x4021, 0x200, 2, 9⟩
def OD.CH_GPROFILE : Obj := ⟨0x4021, 0x200, 3, 0⟩
def OD.CH_GSTAT : Obj := ⟨0x4021, 0x200, 4, 3⟩
def OD.CH_VPOS_MV : Obj := ⟨0x4021, 0x200, 5, 0⟩
def OD.CH_VNEG_MV : Obj := ⟨0x4021, 0x200, 6, 0⟩
def OD.CH_TLAST_ON : Obj := ⟨0x4021, 0x200, 7, 0⟩
def OD.CH_GCYCLES : Obj := ⟨0x4021, 0x200, 8, 0⟩
/-! Objects of R223, 06_protection.md. -/
def OD.CH_ISC2 : Obj := ⟨0x4040, 0x200, 1, 1400000⟩
def OD.CH_ISC1 : Obj := ⟨0x4040, 0x200, 2, 1200000⟩
def OD.CH_TSC1 : Obj := ⟨0x4040, 0x200, 3, 20⟩
def OD.CH_IOCL : Obj := ⟨0x4040, 0x200, 4, 1000000⟩
def OD.CH_TLIM_EXIT : Obj := ⟨0x4040, 0x200, 5, 10⟩
def OD.CH_IREV : Obj := ⟨0x4040, 0x200, 6, 100000⟩
def OD.CH_REV_EN : Obj := ⟨0x4040, 0x200, 7, 0⟩
def OD.CH_TREV : Obj := ⟨0x4040, 0x200, 8, 0⟩
def OD.CH_TBLANK : Obj := ⟨0x4040, 0x200, 9, 30⟩
def OD.CH_VDESAT : Obj := ⟨0x4040, 0x200, 10, 7000⟩
def OD.CH_VOV : Obj := ⟨0x4041, 0x200, 1, 4800⟩
def OD.CH_VUV : Obj := ⟨0x4041, 0x200, 2, 2500⟩
def OD.CH_TBUSW : Obj := ⟨0x4041, 0x200, 3, 10⟩
def OD.CH_TWARN : Obj := ⟨0x4041, 0x200, 4, 110⟩
def OD.CH_TTRIP : Obj := ⟨0x4041, 0x200, 5, 130⟩
def OD.CH_THYST : Obj := ⟨0x4041, 0x200, 6, 10⟩
def OD.CH_DMG_EN : Obj := ⟨0x4042, 0x200, 1, 3⟩
def OD.CH_VOUTP : Obj := ⟨0x4042, 0x200, 2, 600⟩
def OD.CH_TDECAY : Obj := ⟨0x4042, 0x200, 3, 50⟩
def OD.CH_STEST_PER : Obj := ⟨0x4042, 0x200, 4, 1000⟩
def OD.CH_STEST_ONL : Obj := ⟨0x4042, 0x200, 5, 100⟩
def OD.CH_ISC2_EFF : Obj := ⟨0x4043, 0x200, 1, 1400000⟩
def OD.CH_ISC1_EFF : Obj := ⟨0x4043, 0x200, 2, 1200000⟩
def OD.CH_IOCL_EFF : Obj := ⟨0x4043, 0x200, 3, 1000000⟩
def OD.CH_IREV_EFF : Obj := ⟨0x4043, 0x200, 4, 100000⟩
def OD.CH_VUV_EFF : Obj := ⟨0x4043, 0x200, 5, 0⟩
def OD.CH_VOV_EFF : Obj := ⟨0x4043, 0x200, 6, 0⟩
def OD.CH_TEMP_STACK : Obj := ⟨0x4043, 0x200, 7, 32767⟩
def OD.CH_TEMP_DIE : Obj := ⟨0x4043, 0x200, 8, 32767⟩
def OD.CH_DMG_DETAIL : Obj := ⟨0x4043, 0x200, 9, 0⟩
def OD.CH_FT_COUNT : Obj := ⟨0x4060, 0x200, 1, 1000⟩
def OD.CH_FT_PRESC : Obj := ⟨0x4060, 0x200, 2, 0⟩
def OD.CH_FTB1 : Obj := ⟨0x4060, 0x200, 3, 25⟩
def OD.CH_FTB2 : Obj := ⟨0x4060, 0x200, 4, 100⟩
def OD.CH_FTB3 : Obj := ⟨0x4060, 0x200, 5, 400⟩
def OD.CH_FT_ACC : Obj := ⟨0x4061, 0x200, 1, 0⟩
def OD.CH_FT_BAND : Obj := ⟨0x4061, 0x200, 2, 0⟩
def OD.CH_FT_PEAK : Obj := ⟨0x4061, 0x200, 3, 0⟩
def OD.CH_LIMITS : Obj := ⟨0x4061, 0x200, 4, 0⟩
/-! Objects of R248, 07_trips_and_rules.md. -/
def OD.CH_RULE : Obj := ⟨0x4080, 0x200, 1, 256000⟩
def OD.CH_RETRY_RESET : Obj := ⟨0x4080, 0x200, 18, 10000⟩
def OD.CH_TRIP_CAUSE : Obj := ⟨0x4081, 0x200, 1, 0⟩
def OD.CH_TRIP_SET : Obj := ⟨0x4081, 0x200, 2, 0⟩
def OD.CH_TRIP_TIME : Obj := ⟨0x4081, 0x200, 3, 0⟩
def OD.CH_RETRY_N : Obj := ⟨0x4081, 0x200, 4, 0⟩
def OD.CH_RETRY_LEFT : Obj := ⟨0x4081, 0x200, 5, 4294967295⟩
def OD.CH_TRIP_CLASS : Obj := ⟨0x4081, 0x200, 6, 0⟩
def OD.CH_TRIPS : Obj := ⟨0x4081, 0x200, 7, 0⟩
/-! Objects of R136, 04_insertion_and_start.md. -/
def OD.CH_TSEAT : Obj := ⟨0x40A0, 0x200, 1, 20⟩
def OD.CH_TSEATLOSS : Obj := ⟨0x40A0, 0x200, 2, 20⟩
def OD.CH_TPG : Obj := ⟨0x40A0, 0x200, 3, 200⟩
def OD.CH_TCOOL : Obj := ⟨0x40A0, 0x200, 4, 1000⟩
def OD.CH_TRESEAT : Obj := ⟨0x40A0, 0x200, 5, 10000⟩
def OD.CH_REINS_EN : Obj := ⟨0x40A0, 0x200, 6, 1⟩
def OD.CH_FLTQ_LIM : Obj := ⟨0x40A0, 0x200, 7, 0⟩
def OD.CH_CLOAD : Obj := ⟨0x40A0, 0x200, 8, 0⟩
def OD.CH_ESLEW_MAX : Obj := ⟨0x40A0, 0x200, 9, 20000⟩
def OD.CH_SEAT : Obj := ⟨0x40A1, 0x200, 1, 0⟩
def OD.CH_START_BLOCK : Obj := ⟨0x40A1, 0x200, 2, 1⟩
def OD.CH_PGSTAT : Obj := ⟨0x40A1, 0x200, 3, 0⟩
def OD.CH_ESTART : Obj := ⟨0x40A1, 0x200, 4, 0⟩
def OD.CH_COOL_LEFT : Obj := ⟨0x40A1, 0x200, 5, 0⟩
def OD.CH_RESEAT_LEFT : Obj := ⟨0x40A1, 0x200, 6, 0⟩
def OD.CH_REMOVALS : Obj := ⟨0x40A1, 0x200, 7, 0⟩
def OD.CH_TSTART : Obj := ⟨0x40A1, 0x200, 8, 0⟩
/-! Objects of R315, 09_pod_converters.md. -/
def OD.ADC_PAIR : Obj := ⟨0x40C0, 0x200, 1, 0⟩
def OD.ADC_PAIR_TRIG : Obj := ⟨0x40C0, 0x200, 2, 7⟩
def OD.ADC_PARK_PER : Obj := ⟨0x40C0, 0x200, 3, 1⟩
def OD.ADC_CAL : Obj := ⟨0x40C1, 0x200, 1, 0⟩
def OD.ADC_RECAL : Obj := ⟨0x40C1, 0x200, 2, 0⟩
def OD.ADC_CALSTATE : Obj := ⟨0x40C1, 0x200, 3, 0⟩
def OD.ADC_CAL_TIME : Obj := ⟨0x40C1, 0x200, 4, 0⟩
def OD.ADC_CAL_TEMP : Obj := ⟨0x40C1, 0x200, 5, 32767⟩
def OD.ADC_MODE : Obj := ⟨0x40C1, 0x200, 6, 0⟩
def OD.ADC_HEALTH : Obj := ⟨0x40C1, 0x200, 7, 0⟩
def OD.ADC_URGENTS : Obj := ⟨0x40C1, 0x200, 8, 0⟩
def OD.ADC_ABORTS : Obj := ⟨0x40C1, 0x200, 9, 0⟩
def OD.ADC_PAIR_WINS : Obj := ⟨0x40C1, 0x200, 10, 0⟩
def OD.ADC_PAIR_MISSED : Obj := ⟨0x40C1, 0x200, 11, 0⟩
def OD.ADC_DISCARDS : Obj := ⟨0x40C1, 0x200, 12, 0⟩
def OD.ADC_IC_OFS : Obj := ⟨0x40C2, 0x200, 1, 0⟩
def OD.ADC_IC_GAIN : Obj := ⟨0x40C2, 0x200, 5, 0⟩
def OD.ADC_IC_SKEW : Obj := ⟨0x40C2, 0x200, 9, 0⟩
def OD.ADC_VC_OFS : Obj := ⟨0x40C3, 0x200, 1, 0⟩
def OD.ADC_VC_GAIN : Obj := ⟨0x40C3, 0x200, 5, 0⟩
def OD.ADC_VC_SKEW : Obj := ⟨0x40C3, 0x200, 9, 0⟩
def OD.ADC_FE_OFS_LOW : Obj := ⟨0x40C4, 0x200, 1, 0⟩
def OD.ADC_FE_OFS_HIGH : Obj := ⟨0x40C4, 0x200, 2, 0⟩
def OD.ADC_FE_GAIN_LOW : Obj := ⟨0x40C4, 0x200, 3, 0⟩
def OD.ADC_FE_GAIN_HIGH : Obj := ⟨0x40C4, 0x200, 4, 0⟩
/-! Objects of R344, 10_metering.md. -/
def OD.MTR_AVG : Obj := ⟨0x4100, 0x200, 1, 72⟩
def OD.MTR_AVG_V : Obj := ⟨0x4100, 0x200, 2, 38⟩
def OD.MTR_AVG_NTC : Obj := ⟨0x4100, 0x200, 5, 68⟩
def OD.MTR_VAGE_MAX : Obj := ⟨0x4100, 0x200, 6, 2000⟩
def OD.MTR_I : Obj := ⟨0x4101, 0x200, 1, 0⟩
def OD.MTR_VIN : Obj := ⟨0x4101, 0x200, 2, 0⟩
def OD.MTR_VOUT : Obj := ⟨0x4101, 0x200, 3, 0⟩
def OD.MTR_P : Obj := ⟨0x4101, 0x200, 4, 0⟩
def OD.MTR_AVG_WORD : Obj := ⟨0x4101, 0x200, 5, 0⟩
def OD.MTR_STATUS : Obj := ⟨0x4101, 0x200, 10, 1⟩
def OD.MTR_Q : Obj := ⟨0x4102, 0x200, 1, 0⟩
def OD.MTR_E : Obj := ⟨0x4102, 0x200, 2, 0⟩
def OD.MTR_I2T : Obj := ⟨0x4102, 0x200, 3, 0⟩
def OD.MTR_GAP_I : Obj := ⟨0x4102, 0x200, 4, 0⟩
def OD.MTR_GAP_V : Obj := ⟨0x4102, 0x200, 5, 0⟩
def OD.MTR_OR_I : Obj := ⟨0x4102, 0x200, 6, 0⟩
def OD.MTR_OR_V : Obj := ⟨0x4102, 0x200, 7, 0⟩
def OD.MTR_VAGE_PEAK : Obj := ⟨0x4102, 0x200, 8, 0⟩
def OD.MTR_ACC_FLAGS : Obj := ⟨0x4102, 0x200, 9, 0⟩
def OD.MTR_CLEAR_TIME : Obj := ⟨0x4102, 0x200, 10, 0⟩
def OD.MTR_SNAP_Q : Obj := ⟨0x4103, 0x200, 1, 0⟩
def OD.MTR_SNAP_E : Obj := ⟨0x4103, 0x200, 2, 0⟩
def OD.MTR_SNAP_I2T : Obj := ⟨0x4103, 0x200, 3, 0⟩
def OD.MTR_SNAP_VIN : Obj := ⟨0x4103, 0x200, 4, 0⟩
def OD.MTR_SNAP_VOUT : Obj := ⟨0x4103, 0x200, 5, 0⟩
def OD.MTR_SNAP_I : Obj := ⟨0x4103, 0x200, 6, 0⟩
def OD.MTR_SNAP_VALID : Obj := ⟨0x4103, 0x200, 7, 0⟩
def OD.MTR_CLEAR : Obj := ⟨0x4104, 0x200, 1, 0⟩
def OD.MTR_MM_WIN : Obj := ⟨0x4140, 0x200, 1, 1000⟩
def OD.MTR_MM_IMIN : Obj := ⟨0x4141, 0x200, 1, 0⟩
def OD.MTR_MM_IMAX : Obj := ⟨0x4141, 0x200, 2, 0⟩
def OD.MTR_MM_VINMIN : Obj := ⟨0x4141, 0x200, 3, 0⟩
def OD.MTR_MM_VINMAX : Obj := ⟨0x4141, 0x200, 4, 0⟩
def OD.MTR_MM_VOUTMIN : Obj := ⟨0x4141, 0x200, 5, 0⟩
def OD.MTR_MM_VOUTMAX : Obj := ⟨0x4141, 0x200, 6, 0⟩
def OD.MTR_MM_FLAGS : Obj := ⟨0x4141, 0x200, 7, 0⟩
def OD.MTR_MM_END : Obj := ⟨0x4141, 0x200, 8, 0⟩
def OD.MTR_MM_T : Obj := ⟨0x4142, 0x200, 1, 0⟩
/-! Objects of R223, 06_protection.md. -/
def OD.CH_CMPCFG : Obj := ⟨0x4180, 0x200, 1, 1⟩
def OD.CH_CMPCFG_BUS : Obj := ⟨0x4180, 0x200, 9, 11⟩
def OD.CH_CMP_OUT : Obj := ⟨0x4181, 0x200, 1, 0⟩
def OD.CH_CMP_CAPT : Obj := ⟨0x4181, 0x200, 2, 0⟩
def OD.CH_SELFTEST_FAIL : Obj := ⟨0x4181, 0x200, 3, 0⟩
def OD.CH_SELFTEST_ROUNDS : Obj := ⟨0x4181, 0x200, 4, 0⟩
def OD.CH_STACKTESTS : Obj := ⟨0x4181, 0x200, 5, 0⟩
/-! Objects of R490, 15_object_dictionary.md. -/
def OD.CH_COMMIT : Obj := ⟨0x41F0, 0x200, 1, 0⟩
def OD.CH_COMMIT_RES : Obj := ⟨0x41F0, 0x200, 2, 0⟩
def OD.CH_COMMIT_DIRTY : Obj := ⟨0x41F0, 0x200, 3, 0⟩
def OD.CH_COMMIT_COUNT : Obj := ⟨0x41F0, 0x200, 4, 0⟩
def OD.CH_COMMIT_TIME : Obj := ⟨0x41F0, 0x200, 5, 0⟩
def OD.CH_COMMIT_FAILOBJ : Obj := ⟨0x41F0, 0x200, 6, 0⟩
/-! Objects of R62, 02_power_path.md. -/
def OD.PRE_BUS : Obj := ⟨0x6000, 0x80, 1, 255⟩
def OD.PRE_FEED : Obj := ⟨0x6000, 0x80, 2, 255⟩
/-! Objects of R173, 05_switched_precharge_and_discharge.md. -/
def OD.PRE_MODE : Obj := ⟨0x6000, 0x80, 3, 0⟩
def OD.PRE_IPK : Obj := ⟨0x6000, 0x80, 4, 10000⟩
def OD.PRE_KSENS : Obj := ⟨0x6000, 0x80, 5, 3276800⟩
def OD.PRE_L : Obj := ⟨0x6000, 0x80, 6, 470000⟩
def OD.PRE_CMIN : Obj := ⟨0x6000, 0x80, 7, 100⟩
def OD.PRE_CMAX : Obj := ⟨0x6000, 0x80, 8, 1000⟩
def OD.PRE_TPERIOD : Obj := ⟨0x6000, 0x80, 9, 4000⟩
def OD.PRE_DMAX : Obj := ⟨0x6000, 0x80, 10, 9500⟩
def OD.PRE_TOFF_MIN : Obj := ⟨0x6000, 0x80, 11, 30⟩
def OD.PRE_FF_MARGIN : Obj := ⟨0x6000, 0x80, 12, 25⟩
def OD.PRE_CLOSE : Obj := ⟨0x6000, 0x80, 13, 500⟩
def OD.PRE_TCLOSEQ : Obj := ⟨0x6000, 0x80, 14, 50⟩
def OD.PRE_TCLOSE_MAX : Obj := ⟨0x6000, 0x80, 15, 20⟩
def OD.PRE_TMAX : Obj := ⟨0x6000, 0x80, 16, 2000⟩
def OD.PRE_TPROG : Obj := ⟨0x6000, 0x80, 17, 50⟩
def OD.PRE_VPROG : Obj := ⟨0x6000, 0x80, 18, 100⟩
def OD.PRE_TPAUSE_MAX : Obj := ⟨0x6000, 0x80, 19, 5000⟩
def OD.PRE_TREFRESH : Obj := ⟨0x6000, 0x80, 20, 60⟩
def OD.PRE_STATE : Obj := ⟨0x6001, 0x80, 1, 0⟩
def OD.PRE_STATUS : Obj := ⟨0x6001, 0x80, 2, 0⟩
def OD.PRE_IPK_EFF : Obj := ⟨0x6001, 0x80, 3, 0⟩
def OD.PRE_TFF : Obj := ⟨0x6001, 0x80, 4, 0⟩
def OD.PRE_TELAPSED : Obj := ⟨0x6001, 0x80, 5, 0⟩
def OD.PRE_PULSES : Obj := ⟨0x6001, 0x80, 6, 0⟩
def OD.PRE_SKIPS : Obj := ⟨0x6001, 0x80, 7, 0⟩
def OD.PRE_PAUSES : Obj := ⟨0x6001, 0x80, 8, 0⟩
def OD.PRE_VRESID : Obj := ⟨0x6001, 0x80, 9, 0⟩
/-! Objects of R490, 15_object_dictionary.md. -/
def OD.PRE_COMMIT : Obj := ⟨0x6070, 0x80, 1, 0⟩
def OD.PRE_COMMIT_RES : Obj := ⟨0x6070, 0x80, 2, 0⟩
def OD.PRE_COMMIT_DIRTY : Obj := ⟨0x6070, 0x80, 3, 0⟩
def OD.PRE_COMMIT_COUNT : Obj := ⟨0x6070, 0x80, 4, 0⟩
def OD.PRE_COMMIT_TIME : Obj := ⟨0x6070, 0x80, 5, 0⟩
def OD.PRE_COMMIT_FAILOBJ : Obj := ⟨0x6070, 0x80, 6, 0⟩
/-! Objects of R62, 02_power_path.md. -/
def OD.DIS_BUS : Obj := ⟨0x6200, 0x80, 1, 255⟩
/-! Objects of R174, 05_switched_precharge_and_discharge.md. -/
def OD.DIS_R : Obj := ⟨0x6200, 0x80, 2, 10000⟩
def OD.DIS_PTARGET : Obj := ⟨0x6200, 0x80, 3, 0⟩
def OD.DIS_DMAX : Obj := ⟨0x6200, 0x80, 4, 10000⟩
def OD.DIS_TPERIOD : Obj := ⟨0x6200, 0x80, 5, 4000⟩
def OD.DIS_VDONE : Obj := ⟨0x6200, 0x80, 6, 600⟩
def OD.DIS_TDONEQ : Obj := ⟨0x6200, 0x80, 7, 1000⟩
def OD.DIS_TMAX : Obj := ⟨0x6200, 0x80, 8, 5000⟩
def OD.DIS_EMAX : Obj := ⟨0x6200, 0x80, 9, 1000⟩
def OD.DIS_PCONT : Obj := ⟨0x6200, 0x80, 10, 50⟩
def OD.DIS_BRMODE : Obj := ⟨0x6200, 0x80, 11, 0⟩
def OD.DIS_REQ : Obj := ⟨0x6201, 0x80, 1, 0⟩
def OD.DIS_STATE : Obj := ⟨0x6201, 0x80, 2, 0⟩
def OD.DIS_STATUS : Obj := ⟨0x6201, 0x80, 3, 0⟩
def OD.DIS_DUTY : Obj := ⟨0x6201, 0x80, 4, 0⟩
def OD.DIS_EACC : Obj := ⟨0x6201, 0x80, 5, 0⟩
def OD.DIS_TELAPSED : Obj := ⟨0x6201, 0x80, 6, 0⟩
/-! Objects of R490, 15_object_dictionary.md. -/
def OD.DIS_COMMIT : Obj := ⟨0x6270, 0x80, 1, 0⟩
def OD.DIS_COMMIT_RES : Obj := ⟨0x6270, 0x80, 2, 0⟩
def OD.DIS_COMMIT_DIRTY : Obj := ⟨0x6270, 0x80, 3, 0⟩
def OD.DIS_COMMIT_COUNT : Obj := ⟨0x6270, 0x80, 4, 0⟩
def OD.DIS_COMMIT_TIME : Obj := ⟨0x6270, 0x80, 5, 0⟩
def OD.DIS_COMMIT_FAILOBJ : Obj := ⟨0x6270, 0x80, 6, 0⟩
/-! Objects of R393, 12_pwm_generator.md. -/
def OD.PWM_EN : Obj := ⟨0x6400, 0x40, 1, 0⟩
def OD.PWM_MODE : Obj := ⟨0x6400, 0x40, 2, 0⟩
def OD.PWM_DT : Obj := ⟨0x6400, 0x40, 3, 20⟩
def OD.PWM_TMIN : Obj := ⟨0x6400, 0x40, 4, 40⟩
def OD.PWM_DMAX : Obj := ⟨0x6400, 0x40, 5, 10000⟩
def OD.PWM_TOFF_MIN : Obj := ⟨0x6400, 0x40, 6, 0⟩
def OD.PWM_UPD : Obj := ⟨0x6400, 0x40, 7, 0⟩
def OD.PWM_FLTSRC : Obj := ⟨0x6400, 0x40, 8, 0⟩
def OD.PWM_FLTMODE : Obj := ⟨0x6400, 0x40, 9, 0⟩
def OD.PWM_WORD : Obj := ⟨0x6400, 0x40, 10, 4000⟩
def OD.PWM_STATE : Obj := ⟨0x6401, 0x40, 1, 0⟩
def OD.PWM_OWNER : Obj := ⟨0x6401, 0x40, 2, 255⟩
def OD.PWM_PCOUNT : Obj := ⟨0x6401, 0x40, 3, 0⟩
def OD.PWM_TAKEN : Obj := ⟨0x6401, 0x40, 4, 0⟩
def OD.PWM_DROPPED : Obj := ⟨0x6401, 0x40, 5, 0⟩
def OD.PWM_CLIPPED : Obj := ⟨0x6401, 0x40, 6, 0⟩
def OD.PWM_TSKIPS : Obj := ⟨0x6401, 0x40, 7, 0⟩
def OD.PWM_TERMS : Obj := ⟨0x6401, 0x40, 8, 0⟩
def OD.PWM_FAULTS : Obj := ⟨0x6401, 0x40, 9, 0⟩
def OD.PWM_WORD_ACT : Obj := ⟨0x6401, 0x40, 10, 4000⟩
def OD.PWM_RUN : Obj := ⟨0x6402, 0x40, 1, 0⟩
def OD.PWM_FREL : Obj := ⟨0x6402, 0x40, 2, 0⟩
/-! Objects of R490, 15_object_dictionary.md. -/
def OD.PWM_COMMIT : Obj := ⟨0x6430, 0x40, 1, 0⟩
def OD.PWM_COMMIT_RES : Obj := ⟨0x6430, 0x40, 2, 0⟩
def OD.PWM_COMMIT_DIRTY : Obj := ⟨0x6430, 0x40, 3, 0⟩
def OD.PWM_COMMIT_COUNT : Obj := ⟨0x6430, 0x40, 4, 0⟩
def OD.PWM_COMMIT_TIME : Obj := ⟨0x6430, 0x40, 5, 0⟩
def OD.PWM_COMMIT_FAILOBJ : Obj := ⟨0x6430, 0x40, 6, 0⟩
/-! Objects of R370, 11_comparators.md. -/
def OD.CMP_EN : Obj := ⟨0x6600, 0x20, 1, 0⟩
def OD.CMP_REF : Obj := ⟨0x6600, 0x20, 2, 512⟩
def OD.CMP_HYST : Obj := ⟨0x6600, 0x20, 3, 1⟩
def OD.CMP_SPEED : Obj := ⟨0x6600, 0x20, 4, 1⟩
def OD.CMP_POL : Obj := ⟨0x6600, 0x20, 5, 0⟩
def OD.CMP_INIT : Obj := ⟨0x6600, 0x20, 6, 0⟩
def OD.CMP_PAIR : Obj := ⟨0x6600, 0x20, 7, 0⟩
def OD.CMP_FILT : Obj := ⟨0x6600, 0x20, 8, 0⟩
def OD.CMP_ROUTE : Obj := ⟨0x6600, 0x20, 9, 0⟩
def OD.CMP_PWM_TERM : Obj := ⟨0x6600, 0x20, 10, 0⟩
def OD.CMP_PWM_FLT : Obj := ⟨0x6600, 0x20, 11, 0⟩
def OD.CMP_EDGE : Obj := ⟨0x6600, 0x20, 12, 0⟩
def OD.CMP_OUT : Obj := ⟨0x6601, 0x20, 1, 0⟩
def OD.CMP_CAPT_TIME : Obj := ⟨0x6601, 0x20, 2, 0⟩
def OD.CMP_CAPT_EDGE : Obj := ⟨0x6601, 0x20, 3, 0⟩
def OD.CMP_CAPTS : Obj := ⟨0x6601, 0x20, 4, 0⟩
def OD.CMP_EVENTS_SUPPR : Obj := ⟨0x6601, 0x20, 5, 0⟩
def OD.CMP_OWNER : Obj := ⟨0x6601, 0x20, 6, 255⟩
def OD.CMP_THR_MV : Obj := ⟨0x6601, 0x20, 7, 1024⟩
def OD.CMP_TEST_FAILS : Obj := ⟨0x6601, 0x20, 8, 0⟩
def OD.CMP_TEST : Obj := ⟨0x6602, 0x20, 1, 0⟩
/-! Objects of R490, 15_object_dictionary.md. -/
def OD.CMP_COMMIT : Obj := ⟨0x6610, 0x20, 1, 0⟩
def OD.CMP_COMMIT_RES : Obj := ⟨0x6610, 0x20, 2, 0⟩
def OD.CMP_COMMIT_DIRTY : Obj := ⟨0x6610, 0x20, 3, 0⟩
def OD.CMP_COMMIT_COUNT : Obj := ⟨0x6610, 0x20, 4, 0⟩
def OD.CMP_COMMIT_TIME : Obj := ⟨0x6610, 0x20, 5, 0⟩
def OD.CMP_COMMIT_FAILOBJ : Obj := ⟨0x6610, 0x20, 6, 0⟩
/-! Objects of R526, 16_fotar_stream.md. -/
def OD.STR_CREDIT_MAX : Obj := ⟨0x6800, 0x0, 1, 8⟩
def OD.STR_FLUSH : Obj := ⟨0x6800, 0x0, 2, 100⟩
def OD.STR_JNL_RATE : Obj := ⟨0x6800, 0x0, 3, 10000⟩
def OD.STR_CREDITS : Obj := ⟨0x6801, 0x0, 1, 0⟩
def OD.STR_BUF_USED : Obj := ⟨0x6801, 0x0, 2, 0⟩
def OD.STR_BLOCKS : Obj := ⟨0x6801, 0x0, 3, 0⟩
def OD.STR_DROPS : Obj := ⟨0x6801, 0x0, 4, 0⟩
def OD.STR_RDY_ERR : Obj := ⟨0x6801, 0x0, 8, 0⟩
def OD.STR_RATE_PORT : Obj := ⟨0x6801, 0x0, 9, 0⟩
def OD.STR_EN : Obj := ⟨0x6802, 0x0, 1, 0⟩
def OD.STR_CAPTURE : Obj := ⟨0x6802, 0x0, 2, 0⟩
def OD.STR_JNL_EXPORT : Obj := ⟨0x6802, 0x0, 3, 0⟩
def OD.STR_JNL_FROM : Obj := ⟨0x6802, 0x0, 4, 0⟩
def OD.STR_DIV : Obj := ⟨0x6810, 0x1, 1, 0⟩
def OD.STR_MM : Obj := ⟨0x6810, 0x1, 6, 0⟩
def OD.STR_CAP_RATE : Obj := ⟨0x6810, 0x1, 7, 0⟩
def OD.STR_RATE_POD : Obj := ⟨0x6810, 0x1, 8, 2560⟩
/-! Objects of R490, 15_object_dictionary.md. -/
def OD.STR_COMMIT : Obj := ⟨0x68F0, 0x0, 1, 0⟩
def OD.STR_COMMIT_RES : Obj := ⟨0x68F0, 0x0, 2, 0⟩
def OD.STR_COMMIT_DIRTY : Obj := ⟨0x68F0, 0x0, 3, 0⟩
def OD.STR_COMMIT_COUNT : Obj := ⟨0x68F0, 0x0, 4, 0⟩
def OD.STR_COMMIT_TIME : Obj := ⟨0x68F0, 0x0, 5, 0⟩
def OD.STR_COMMIT_FAILOBJ : Obj := ⟨0x68F0, 0x0, 6, 0⟩
/-! Objects of R557, 17_partnering_and_persistence.md. -/
def OD.JNL_NEWEST : Obj := ⟨0x7000, 0x0, 1, 0⟩
def OD.JNL_OLDEST : Obj := ⟨0x7000, 0x0, 2, 0⟩
def OD.JNL_HELD : Obj := ⟨0x7000, 0x0, 3, 0⟩
def OD.JNL_DATA : Obj := ⟨0x7000, 0x0, 4, 0⟩
def OD.JNL_DISCARDED : Obj := ⟨0x7000, 0x0, 5, 0⟩
def OD.JNL_BOOTN : Obj := ⟨0x7000, 0x0, 6, 0⟩
def OD.JNL_WRITES : Obj := ⟨0x7000, 0x0, 7, 0⟩
/-! Objects of R479, 15_object_dictionary.md. -/
def OD.SES_OPEN : Obj := ⟨0x7100, 0x0, 1, 0⟩
def OD.SES_CHALLENGE : Obj := ⟨0x7100, 0x0, 2, 0⟩
def OD.SES_RESPONSE : Obj := ⟨0x7100, 0x0, 3, 0⟩
def OD.SES_CLOSE : Obj := ⟨0x7100, 0x0, 4, 0⟩
def OD.SES_ROLE : Obj := ⟨0x7100, 0x0, 5, 0⟩
def OD.SES_VIEW : Obj := ⟨0x7100, 0x0, 6, 0⟩
def OD.SES_TIMEOUT : Obj := ⟨0x7100, 0x0, 7, 300⟩
def OD.SES_COUNT : Obj := ⟨0x7100, 0x0, 8, 0⟩
def OD.SES_AUTH_FAILS : Obj := ⟨0x7100, 0x0, 9, 0⟩
def OD.SES_LOCK : Obj := ⟨0x7100, 0x0, 10, 0⟩
def OD.SES_TABLE : Obj := ⟨0x7101, 0x0, 1, 0⟩
/-! Objects of R552, 17_partnering_and_persistence.md. -/
def OD.FW_RUNNING : Obj := ⟨0x7200, 0x0, 1, 0⟩
def OD.FW_VER_A : Obj := ⟨0x7200, 0x0, 2, 0⟩
def OD.FW_VER_B : Obj := ⟨0x7200, 0x0, 3, 0⟩
def OD.FW_STATE_A : Obj := ⟨0x7200, 0x0, 4, 0⟩
def OD.FW_STATE_B : Obj := ⟨0x7200, 0x0, 5, 0⟩
def OD.FW_LOAD : Obj := ⟨0x7200, 0x0, 6, 0⟩
def OD.FW_IMAGE : Obj := ⟨0x7200, 0x0, 7, 0⟩
def OD.FW_ACTIVATE : Obj := ⟨0x7200, 0x0, 8, 0⟩
def OD.FW_CONFIRM : Obj := ⟨0x7200, 0x0, 9, 0⟩
def OD.FW_TRIAL : Obj := ⟨0x7200, 0x0, 10, 0⟩
def OD.FW_TTRIAL : Obj := ⟨0x7200, 0x0, 11, 600⟩
def OD.FW_BLOCK : Obj := ⟨0x7200, 0x0, 12, 1⟩
def OD.FW_FALLBACKS : Obj := ⟨0x7200, 0x0, 13, 0⟩

end Sys2Proof
end

