-- ==== Sys2Proof/Machine/State.lean ====
section
/-! DEFINITION. The state of the block: sixteen pods and their ports, eight buses, the converters, choppers, PWM
generators and comparators, the fault lines, the hub, the ring, the dictionary and what is kept in MRAM and OTP. -/

namespace Sys2Proof.Machine

/-- Why the block stops. No command of this block stops it (R20, R28: it goes on whatever happens); the one constructor
keeps the type inhabited and is raised by nobody. Safe. -/
inductive Fault where
  /-- Raised by nobody. Safe. -/
  | halted
  deriving DecidableEq, Repr

/-- Why a command has no meaning here. -/
inductive Refusal where
  /-- Raised by `exec` for a command that has no meaning yet. Safe: nothing is claimed of it. -/
  | notModelled (mnemonic : String)
  deriving DecidableEq, Repr

/-! ## Pods -/

/-- One gate driver and its phase sequencer (R74, R85, R97). `endMv`, `limitAt` and `ma` are the end level, time limit
and current that the running phase keeps; `levelAt` is the instant at which a strong stage reached its level. -/
structure Gate where
  phase : GPhase := .depletion
  since : Nat := 0
  mv : Int := 0
  lead : Bool := false
  endMv : Int := 0
  limitAt : Option Nat := none
  ma : Nat := 0
  levelAt : Option Nat := none
  deriving DecidableEq, Repr

/-- The trip a pod keeps (R227, R228, R237): causes, primary cause, first trigger, number of the trip. -/
structure PodTrip where
  set : Nat := 0
  primary : Nat := 0
  time : Nat := 0
  n : Nat := 0
  deriving DecidableEq, Repr

/-- Seat pins as the pod samples them (R106 to R110). -/
structure SeatStatus where
  s1 : Bool := false
  s2 : Bool := false
  debounced : Bool := false
  tUnseat : Option Nat := none
  /-- a removal that the pod has recorded while in HOLD or SAFE (R129) -/
  removed : Bool := false
  deriving DecidableEq, Repr

/-- Latest valid conversion of a source, in µV or µA, and its instant (R294). -/
structure Sample where
  v : Int := 0
  at_ : Nat := 0
  ok : Bool := false
  deriving DecidableEq, Repr

/-- What a pod measures: V(IN), V(OUT), V(DC−) against S, the shunt current, and the gate supplies (R281, R287). -/
structure Meas where
  vdi : Sample := {}
  vdo : Sample := {}
  vdn : Sample := {}
  i : Sample := {}
  vposMv : Int := 0
  vnegMv : Int := 0
  tempStack : Int := 0x7FFF
  tempDie : Int := 0x7FFF
  deriving DecidableEq, Repr

/-- Counters a pod keeps from its last LINKING; the hub adds their rise to the counters of the port (R100, R225). -/
structure PodCounts where
  cycles : Nat := 0
  limits : Nat := 0
  rounds : Nat := 0
  stackTests : Nat := 0
  orBlocks : Nat := 0
  warns : Nat := 0
  foreign : Nat := 0
  notes : Nat := 0
  /-- starts that have ended, by which a hub tells the energy of a new one from that of an old one (R124) -/
  starts : Nat := 0
  urgents : Nat := 0
  aborts : Nat := 0
  windows : Nat := 0
  missed : Nat := 0
  discards : Nat := 0
  deriving DecidableEq, Repr

/-- The protection part of a status frame (R177, R190, R209 to R219). -/
structure ProtStatus where
  ftAcc : Nat := 0
  ftBand : Nat := 0
  ftPeak : Nat := 0
  cmpOut : Nat := 0
  cmpCapt : Nat := 0
  /-- BUSW_UV and BUSW_OV active for their filter, bits 9 and 10 (R113, R202) -/
  window : Nat := 0
  outpArmed : Bool := false
  suspect : Option Side := none
  /-- bits of `CH_DMG_DETAIL` that the pod's checks hold -/
  detail : Nat := 0
  selftestFail : Nat := 0
  /-- tie tests running: no side leaves static clamp by command -/
  tieRun : Bool := false
  /-- a suspect waits for its confirmation -/
  confirmDue : Bool := false
  deriving DecidableEq, Repr

/-- Ownership as a pod reports it (R527 to R530). `own` is whether the pod obeys the link of this hub. -/
structure OwnStatus where
  epoch : Nat := 0
  link : Option Bool := none
  released : Bool := false
  conflict : Bool := false
  deriving DecidableEq, Repr

/-- Converter part of what a pod reports (R282, R303 to R315). -/
structure AdcStatus where
  routing : Routing := .off
  cal : Nat := 0
  recal : Nat := 0
  /-- runs of each that have ended, by which a hub tells a new result from an old one -/
  calN : Nat := 0
  recalN : Nat := 0
  calibrated : Bool := false
  calTime : Nat := 0
  calTemp : Int := 0x7FFF
  health : Nat := 0
  deriving DecidableEq, Repr

/-- Everything a pod reports in its status frames (R31, R568). -/
structure PodStatus where
  /-- the channel has been commanded off and turns off (R119, R256) -/
  leaving : Bool := false
  pod : PodState := .unpowered
  ch : ChState := .absent
  /-- fault state kept while the seat is lost (R125, R127, R129) -/
  kept : ChState := .off
  seat : SeatStatus := {}
  gIn : Gate := {}
  gOut : Gate := {}
  profile : Option Profile := none
  /-- bits 0, 1 and 4 to 7 of `CH_GSTAT` (R98, R99) -/
  gstat : Nat := 3
  pg : Bool := false
  counting : Bool := false
  startEnergy : Bool := false
  fltq : Bool := false
  trip : PodTrip := {}
  prot : ProtStatus := {}
  meas : Meas := {}
  own : OwnStatus := {}
  adc : AdcStatus := {}
  counts : PodCounts := {}
  oring : OringState := .off
  /-- a start, close or retry command that R26 ignored -/
  ignored : Bool := false
  /-- start conditions that failed at the pod (R111) -/
  refused : Nat := 0
  /-- causes recorded as events in LATCHED, with their instants, newest first, and how many there were at the entry into HOLD or
  SAFE (R229, R250) -/
  notes : List (Nat × Nat) := []
  notesOwned : Nat := 0
  /-- both sides in static clamp since -/
  tStatic : Option Nat := none
  /-- the start applied at, and of a precharge feed the close (R259) -/
  startAt : Option Nat := none
  closeAt : Option Nat := none
  lastOnUs : Nat := 0
  /-- slewing-side energy of the last start in mJ (R124) -/
  eStart : Nat := 0
  hvOn : Bool := false
  lvA : Bool := false
  lvB : Bool := false
  holds : Nat := 0
  holdFrom : Option Nat := none
  deriving DecidableEq, Repr

/-- Collection of a trip's causes (R227): open, with gate action, state still to be entered. -/
structure Collect where
  isOpen : Bool := false
  gate : Bool := false
  due : Bool := false
  deriving DecidableEq, Repr

/-- A partial average: sum, conversions taken, OR of their flags (R321). -/
structure Avg where
  sum : Int := 0
  n : Nat := 0
  flags : Nat := 0
  /-- conversions sampled before this instant are not taken (R297) -/
  from_ : Nat := 0
  deriving DecidableEq, Repr

/-- A completed average (R321). -/
structure AvgDone where
  src : Source
  value : Int
  k : Nat
  shift : Nat
  flags : Nat
  at_ : Nat
  deriving DecidableEq, Repr

/-- An extreme with its instant (R333). -/
structure Extreme where
  v : Int := 0
  at_ : Nat := 0
  ok : Bool := false
  deriving DecidableEq, Repr

/-- Running totals of a pod, or the accumulators of a port: charge, energy and I²t with 32 fraction bits, the counters and
flags (R324 to R330). -/
structure Totals where
  q : Int := 0
  e : Int := 0
  i2t : Int := 0
  gapI : Nat := 0
  gapV : Nat := 0
  orI : Nat := 0
  orV : Nat := 0
  agePeak : Nat := 0
  flags : Nat := 0
  deriving DecidableEq, Repr

/-- The six trackers in the order of `MTR_MM_*` and their flags (R333 to R336). -/
structure Trackers where
  iMin : Extreme := {}
  iMax : Extreme := {}
  vinMin : Extreme := {}
  vinMax : Extreme := {}
  voutMin : Extreme := {}
  voutMax : Extreme := {}
  flags : Nat := 0
  deriving DecidableEq, Repr

/-- A record of the stream port: its type, source, time and body (R515). `since` is when it reached the buffer. -/
structure StrRec where
  type : Nat
  src : Nat
  time : Nat
  body : List Byte
  since : Nat := 0
  deriving DecidableEq, Repr

/-- Metering of a pod. `sentAt` is the tick of its last transfer; `tx` what it sent. -/
structure PodMeter where
  epoch : Nat := 0
  total : Totals := {}
  trk : Trackers := {}
  sentAt : Nat := 0
  tx : Totals := {}
  txEpoch : Nat := 0
  /-- what the snapshot latched: totals, current in µA and tap voltages in µV with their validity (R337, R338) -/
  snap : Totals := {}
  snapTaken : Bool := false
  snapDue : Option Nat := none
  snapI : Option Int := none
  snapV : Option (Int × Int) := none
  deriving DecidableEq, Repr

/-- SETTLE counts that remain (R296). -/
structure Settle where
  shunt : Nat := 0
  vdi : Nat := 0
  vdo : Nat := 0
  vdn : Nat := 0
  ntc : Nat := 0
  int : Nat := 0
  ic : Nat := 0
  vc : Nat := 0
  deriving DecidableEq, Repr

/-- Last valid codes, held for words that carry SETTLE or ABORTED, with their instants and over-range (R295). `int` holds those
of the five internal nodes in the order of R287. -/
structure HeldCodes where
  shunt : Int := 0
  vdi : Int := 0
  vdo : Int := 0
  vdn : Int := 0
  ntc : Int := 0
  int : List Int := [0, 0, 0, 0, 0]
  tVdo : Nat := 0
  tVdn : Nat := 0
  orVdo : Bool := false
  orVdn : Bool := false
  /-- the held codes carried UNCAL (R327, R336) -/
  ucShunt : Bool := false
  ucVdo : Bool := false
  ucVdn : Bool := false
  deriving DecidableEq, Repr

/-- A dwell of INT that has ended: its node, the sum of its valid codes and their number (R287). -/
structure Dwell where
  node : Nat
  sum : Int
  n : Nat
  deriving DecidableEq, Repr

/-- A paired window (R290 to R292): from, to, the bit of its trigger (15 for a command), of ALTERNATE, and its words. -/
structure Win where
  from_ : Nat
  to_ : Nat
  trig : Nat := 15
  alt : Bool := false
  words : List Nat := []
  deriving DecidableEq, Repr

/-- An urgent list that runs (R300 to R302): who asked, the points at which its inputs and, last, the aborted input are sampled,
the aborted input, the findings that are known, and whether its results have been delivered. -/
structure UrgRun where
  causes : List Urgent
  pts : List (Nat × Tap)
  re : Option (Nat × Tap) := none
  codes : List (Tap × Raw) := []
  delivered : Bool := false
  deriving DecidableEq, Repr

/-- A valid conversion as the hub follows it in a transfer: a shunt code, or V(IN) or V(OUT) against DC− in µV (R606). -/
structure Fed where
  tap : Tap
  at_ : Nat
  v : Int
  deriving DecidableEq, Repr

/-- The converters of a pod (R280 to R315). Factors are in the order of `ADC_IC_*`, `ADC_VC_*` and `ADC_FE_*`. -/
structure PodAdc where
  calFrom : Option Nat := none
  recalKind : Nat := 0
  recalFrom : Option Nat := none
  coverFrom : Option Nat := none
  recalOk : Bool := false
  /-- the last load of factors by CAL (R301) -/
  loadAt : Option Nat := none
  icF : List Int := List.replicate 12 0
  vcF : List Int := List.replicate 12 0
  feF : List Int := List.replicate 4 0
  /-- routings of the running tick, newest first, each with the instant from which it is in force (R282) -/
  routes : List (Nat × Routing) := []
  /-- the tick boundary at which a start-up ends and routing NORMAL begins (R314) -/
  wakeAt : Option Nat := none
  /-- the next shunt conversion is the first after a return to integration (R326) -/
  returned : Bool := false
  settle : Settle := {}
  /-- counts that begin with the first conversion at or after an instant (R296) -/
  settleNext : Option (Nat × Settle) := none
  held : HeldCodes := {}
  intNode : Nat := 0
  intCount : Nat := 0
  intSum : Int := 0
  intN : Nat := 0
  dwells : List Dwell := []
  /-- conversions whose codes are not delivered yet, in the order of their instants (R280) -/
  inFlight : List Conv := []
  /-- conversions of the running tick that an event inside it has had delivered (R280) -/
  early : Option Nat := none
  /-- valid conversions that the last tick delivered, oldest first -/
  fed : List Fed := []
  /-- corrected code and instant of the last shunt conversion (R284) -/
  lastShunt : Option (Int × Nat) := none
  /-- the last 20 IC words (R291) -/
  icWords : List Nat := []
  /-- windows that run or whose samples are not all there, oldest first -/
  wins : List Win := []
  winFrom : Option Nat := none
  winEnd : Nat := 0
  /-- the capture buffer, oldest first (R291) -/
  captures : List StrRec := []
  /-- tick from which ALTERNATE counts (R292) -/
  altFrom : Nat := 0
  /-- urgent lists, oldest first, and the requests that wait for the end of CAL (R301, R302) -/
  runs : List UrgRun := []
  waiting : List Urgent := []
  avgs : List Avg := List.replicate 5 {}
  ready : List AvgDone := []
  ntcSum : Int := 0
  ntcN : Nat := 0
  /-- start of the last burst's start-up (R313) -/
  burstAt : Nat := 0
  deriving DecidableEq, Repr

/-- Tests of a pod (R210 to R219): schedules, tie tests that remain, member under online test, confirmation. -/
structure PodTests where
  stackAt : Option Nat := none
  stackRun : Bool := false
  tieLeft : List PodCmp := []
  /-- the start of the tie test that runs, and the tests that have ended in this tick: cell, start, end (R366) -/
  tieFrom : Nat := 0
  ties : List (PodCmp × Nat × Nat) := []
  onlineAt : Nat := 0
  onlineLeft : List PodCmp := []
  member : Option PodCmp := none
  memberAt : Nat := 0
  confirmSide : Option Side := none
  /-- the second conversion of a confirmation has been asked for, and its codes (R211) -/
  confirmAsked : Bool := false
  confirmCodes : Option (Int × Int) := none
  /-- the partner of the member under test has acted (R218) -/
  partnerActed : Bool := false
  /-- tie tests of an entry into ACTIVE wait for the end of CAL (R307) -/
  tiesDue : Bool := false
  /-- BUSW_UV and BUSW_OV active since (R179) -/
  uvFrom : Option Nat := none
  ovFrom : Option Nat := none
  /-- the last thermal evaluation (R203) -/
  thermAt : Nat := 0
  /-- SELFTEST_FAIL toggle running since (R239) -/
  toggle : Bool := false
  outpFrom : Option Nat := none
  outpDone : Bool := false
  warnExc : Bool := false
  tripExc : Bool := false
  tripRaised : Bool := false
  ntcMiss : Nat := 0
  /-- ORing: REV still active since the reverse turn-off (R270), re-entry qualification since (R271) -/
  revStill : Bool := false
  vonFrom : Option Nat := none
  deriving DecidableEq, Repr

/-- A pod. `st` is its live status, `up` the frame it last composed, `params` its copy of the channel's committed set with
keys of instance 0 (R230, R545), `held` the command set it holds (R27). -/
structure Pod where
  kind : PodKind := .none
  rev : Nat := 0
  uid : Nat := 0
  st : PodStatus := {}
  up : PodStatus := {}
  params : Store := []
  /-- the sets before, newest first, each with the instant at which a COMMIT replaced it: running filters and periods keep the one
  that they started with (R223) -/
  past : List (Nat × Store) := []
  held : CmdFrame := {}
  /-- output holds after a change of speed mode: OUTP, BUSW_UV, BUSW_OV (R350) -/
  holdOutp : Option Nat := none
  holdUv : Option Nat := none
  holdOv : Option Nat := none
  /-- which comparator inputs lay on the active side of the middle of their bands (R354) -/
  midCmp : Nat := 0
  /-- levels of VPOS and VNEG against SREF in mV, and of the supplies across the barrier -/
  vpos : Int := 0
  vneg : Int := 0
  seatFrom : Option Nat := none
  waitOn : Option OnAsk := none
  turnOff : Option Profile := none
  coll : Collect := {}
  acked : Bool := true
  pgCount : Nat := 0
  pgSince : Bool := false
  /-- which sides slew in the start, IN and OUT (R124) -/
  slewing : Bool × Bool := (false, false)
  /-- slewing-side energy in 10^−21 J -/
  energy : Nat := 0
  tOnStart : Nat := 0
  onSides : Nat := 0
  /-- in current limit: the regulated gate counts as full-on since, both OCL members are safe since, the qualification runs
  since, it is complete (R185) -/
  limitFull : Option Nat := none
  oclSafe : Option Nat := none
  limitExit : Option Nat := none
  limitEnds : Bool := false
  /-- the running count period of the fault timer (R190) -/
  periodFrom : Nat := 0
  periodAt : Nat := 0
  limited : Option Side := none
  /-- the limit that a turn-off has ended: side, step and fault-timer count (R193) -/
  limitCut : Option (Side × Nat × Nat) := none
  /-- seat lost: ABSENT follows at the next boundary (R125) -/
  absentDue : Bool := false
  /-- frames received and not applied yet, oldest first (R21, R23) -/
  cmds : List CmdFrame := []
  blankIn : Option Nat := none
  blankOut : Option Nat := none
  dsArmed : Nat := 0
  tests : PodTests := {}
  adc : PodAdc := {}
  mtr : PodMeter := {}
  /-- a sample of the tick showed |Vds| above 2 V, or the stack below the re-entry level (R118, R271) -/
  vdsHigh : Bool := false
  vonLow : Bool := false
  /-- the last boundary of its tick -/
  tickAt : Nat := 0
  misses : Nat := 0
  gotFrame : Bool := false
  lastFrame : Nat := 0
  barrierLost : Bool := false
  /-- target in force of an ORing feed in mV; none: not in an engine (R266) -/
  orTarget : Option Nat := none
  tLatch : Nat := 0
  tEnable0 : Nat := 0
  enable : Bool := false
  /-- on the resting link: the seat pins and the trip number at the last report to it (R411) -/
  rest : Option (Bool × Bool × Nat) := none
  /-- the start of the last wake signal, whose level lasts 200 µs (R411) -/
  wakeAt : Option Nat := none
  deriving DecidableEq, Repr

/-! ## Ports -/

/-- Trip status of a port (R248). -/
structure PortTrip where
  cause : Nat := 0
  set : Nat := 0
  time : Nat := 0
  bus : Bool := false
  retryN : Nat := 0
  retryDue : Option Nat := none
  seenN : Nat := 0
  /-- the fault state that the port holds: TRIPPED, LATCHED, DAMAGED or OFF (R128) -/
  state : ChState := .off
  /-- hub-decided causes that the last frames carry, and since when (R246) -/
  sent : Nat := 0
  sentAt : Nat := 0
  /-- causes decided since the last boundary that have left with a frame (R246) -/
  left : Nat := 0
  /-- DAMAGED has been cleared and the pod has not reported it yet (R240) -/
  clearing : Bool := false
  deriving DecidableEq, Repr

/-- Removal and reinsertion of a port (R126 to R131). -/
structure PortSeat where
  /-- the seat has been lost since, and how long a loss confirms the removal -/
  lossFrom : Option Nat := none
  lossFor : Nat := 0
  confirmed : Bool := false
  guardUntil : Option Nat := none
  removedAt : Nat := 0
  /-- no module has completed its debounce since the removal (R131) -/
  away : Bool := false
  /-- a reseat guard was running at the last reset (R546) -/
  guardRan : Bool := false
  deriving DecidableEq, Repr

/-- Accumulators of a port in the hub (R331, R332). -/
structure PortMeter where
  acc : Totals := {}
  base : Totals := {}
  baseEpoch : Nat := 0
  /-- the charge and the instant of the latest transfer (R274) -/
  lastQ : Option Int := none
  lastAt : Nat := 0
  /-- the instant of the totals in `base`: a transfer sent before it has nothing that is not counted (R339) -/
  baseAt : Nat := 0
  /-- mean current in µA between the last two transfers (R274) -/
  meanI : Option Int := none
  /-- the latest average of each source, in the order of `MTR_AVG` -/
  means : List (Option AvgDone) := List.replicate 5 none
  /-- averages of each source since the last record of its divider (R517) -/
  divs : List Nat := List.replicate 5 0
  /-- capture records sent in the running millisecond (R517) -/
  caps : Nat := 0
  /-- the bits of a clear and the boundary at which it applies (R339) -/
  clearMask : Nat := 0
  clearAt : Nat := 0
  /-- energy at the last millisecond (R323) -/
  msE : Int := 0
  /-- the running window is PARTIAL (R336) -/
  partialWin : Bool := true
  /-- free-running extremes from the checkpoint (R335, R341) -/
  trk : Trackers := {}
  /-- the accumulators at the snapshot tick (R337, R342) -/
  snapAcc : Totals := {}
  deriving DecidableEq, Repr

/-- Feed qualification (R254 to R257). -/
structure PortFeed where
  healthFrom : Option Nat := none
  /-- the source has been out of its window since, and the filter in µs that it started with (R256, R488) -/
  lossFrom : Option Nat := none
  lossFor : Nat := 0
  eligibleFrom : Option Nat := none
  /-- lowest bus voltage that the pod measured since its bus's transfer started (R606) -/
  droop : Option Int := none
  deriving DecidableEq, Repr

/-- Pod supply output of a port (R396). -/
structure PortSupply where
  openSince : Option Nat := none
  deriving DecidableEq, Repr

/-- A pod port of the hub. -/
structure Port where
  linked : Bool := false
  noPod : Bool := true
  seen : PodStatus := {}
  /-- what the port holds of a pod's last start, CAL and recalibration: `CH_ESTART`, `ADC_CAL`, `ADC_RECAL` (R568) -/
  eStart : Nat := 0
  cal : Nat := 0
  recal : Nat := 0
  down : CmdFrame := {}
  enable : Bool := false
  tEnable0 : Nat := 0
  tLatch : Nat := 0
  cleared : Bool := false
  trip : PortTrip := {}
  cleanFrom : Option Nat := none
  seat : PortSeat := {}
  /-- bits of `CH_DMG_DETAIL` that the hub holds (R225) -/
  detail : Nat := 0
  /-- the DAMAGED latch of the port (R128, R129) -/
  damaged : Bool := false
  feed : PortFeed := {}
  mtr : PortMeter := {}
  supply : PortSupply := {}
  cfgFromPod : Bool := false
  /-- this hub owns the port: it sends OWN, or RELEASE while it hands the group over (R527, R536) -/
  own : Bool := false
  epoch : Nat := 0
  releasing : Option Nat := none
  /-- the partnered pod has reported no owner since (R535) -/
  ownerless : Option Nat := none
  /-- frames of the port that failed their CRC (R27) -/
  linkErrors : Nat := 0
  /-- last toggle accepted: the tests of R239 run -/
  toggling : Bool := false
  /-- this hub has obeyed pods here since its BOOT: what the host has set stands (R28, R41) -/
  kept : Bool := false
  /-- the epoch of an orphan that is to be taken over at the next tick (R538) -/
  takeDue : Option Nat := none
  deriving DecidableEq, Repr

/-! ## Buses, converters, choppers -/

/-- A bus: selection, transfer, bus fault, ORing (R241, R255 to R275, R606). -/
structure Bus where
  vsrc : Option Chan := none
  sel : Option Chan := none
  /-- the selected feed was running at the last tick -/
  selRan : Bool := false
  xfer : XferState := .steady
  xOld : Option Chan := none
  xNew : Option Chan := none
  tStatic : Option Nat := none
  tried : Nat := 0
  xFrom : Nat := 0
  xPre : Bool := false
  /-- the start has been sent to the new feed -/
  xSent : Bool := false
  xRank : Nat := 0xFFFFFFFF
  xBand : Nat := 500
  xPreOn : Bool := false
  xTbbm : Nat := 20
  xTmax : Nat := 10
  xVmin : Nat := 2500
  xVmax : Nat := 4800
  xHealth : Nat := 100
  gapFrom : Option Nat := none
  gapTo : Option Nat := none
  steadyFrom : Nat := 0
  eligible : Nat := 0
  bf : Bool := false
  /-- the bus-fault latch at the last tick (R243, R246) -/
  bfOn : Bool := false
  resume : Bool := false
  blockedFrom : Option Nat := none
  blockedNoted : Bool := false
  target1 : Nat := 0
  target2 : Nat := 0
  shareAt : Nat := 0
  deriving DecidableEq, Repr

/-- A precharge converter (R140 to R161). -/
structure Pre where
  state : PreState := .idle
  status : PreStatus := .none
  resumeTo : PreState := .idle
  selfAt : Nat := 0
  chargedAt : Option Nat := none
  pauseAt : Nat := 0
  qualAt : Nat := 0
  closeAt : Nat := 0
  winAt : Nat := 0
  winV : Int := 0
  winVin : Int := 0
  /-- V_bus at the last ticks, newest first, for the estimate of R146 -/
  hist : List Int := []
  /-- none is unbounded -/
  tff : Option Nat := some 0
  elapsed : Nat := 0
  pulses : Nat := 0
  skips : Nat := 0
  pauses : Nat := 0
  vresid : Int := 0
  /-- the converter left the span from SELFTEST to HANDOVER at (R154) -/
  leftAt : Option Nat := none
  deriving DecidableEq, Repr

/-- A discharge chopper (R162 to R172). `eacc` is in nJ, `duty` in 1/16 counts of the period. -/
structure Dis where
  req : Bool := false
  state : DisState := .idle
  status : DisStatus := .none
  runAt : Option Nat := none
  doneFrom : Option Nat := none
  doneOnce : Bool := false
  eacc : Int := 0
  duty : Nat := 0
  /-- the driver has not been ready for 20 µs since it was lost -/
  driverLow : Bool := false
  elapsedMs : Nat := 0
  deriving DecidableEq, Repr

/-- The journal (R553, R557): records held, newest first, at most 8192. -/
structure Journal where
  recs : List JRec := []
  next : Nat := 0
  boot : Nat := 0
  discarded : Nat := 0
  deriving DecidableEq, Repr

/-! ## PWM generators and comparators of the hub -/

/-- Period, duty and dither (R375). -/
structure PwmWord where
  p : Nat := 4000
  d : Nat := 0
  dith : Nat := 0
  deriving DecidableEq, Repr

/-- A PWM generator (R372 to R391). `from_` and `until_` bound the main pulse of the running period, `partnerAt` is the
instant at which the partner output becomes active. -/
structure Pwm where
  run : Bool := false
  word : PwmWord := {}
  reload : PwmWord := {}
  reloadAt : Option Nat := none
  /-- Words written before `reload` and not taken, the newest first, each with the instant at which it is visible (R385). -/
  earlier : List (Nat × PwmWord) := []
  acc : Nat := 0
  /-- A before the period that runs, which a period without a main pulse leaves it at (R382) -/
  accWas : Nat := 0
  startAt : Option Nat := none
  periodAt : Nat := 0
  main : Bool := false
  from_ : Nat := 0
  until_ : Option Nat := none
  partner : Bool := false
  partnerAt : Option Nat := none
  clipped : Bool := false
  terminated : Bool := false
  fault : Bool := false
  faultCounted : Bool := false
  released : Bool := false
  /-- the fault sources seen active: bit k comparator k, bits 8 and 9 the ready inputs (R389) -/
  sources : Nat := 0
  /-- when the last main pulse was terminated, and when one ended by itself, with whether it was counted as clipped (R383, R391) -/
  termAt : Option Nat := none
  endAt : Option (Nat × Bool) := none
  /-- a word taken at the midperiod edge, whose P and d wait for the boundary (R386) -/
  midWord : Option PwmWord := none
  pcount : Nat := 0
  taken : Nat := 0
  deriving DecidableEq, Repr

/-- A comparator cell of the hub (R345 to R370). `out` and `filt` are the unfiltered and the filtered output. -/
structure Cell where
  powered : Bool := false
  /-- the input lies on the active side of the middle of its band (R354) -/
  mid : Bool := false
  out : Bool := false
  filt : Bool := false
  /-- PESSIMISTIC wait, and an active sense that initialisation set (R353, R355) -/
  wait : Bool := false
  init : Bool := false
  /-- the output has become active at, and its filter ends at (R361) -/
  rising : Option (Nat × Nat) := none
  /-- the side of its band on which the pin was last seen while the cell was masked or held (R350, R369) -/
  later : Option Bool := none
  holdUntil : Option Nat := none
  /-- masked by the tie test that a precharge converter runs in SELFTEST (R366) -/
  mask : Bool := false
  /-- `CMP_TEST` as it reads -/
  test : Nat := 0
  swap : Bool := false
  /-- a test that waits for the end of a speed-mode hold -/
  testDue : Option Bool := none
  /-- when the output last became active (R364) -/
  outAt : Nat := 0
  kept : Bool := false
  keptFilt : Bool := false
  testAt : Nat := 0
  lastEvent : Option Nat := none
  captTime : Nat := 0
  captEdge : Nat := 0
  deriving DecidableEq, Repr

/-! ## Fault lines (R244 to R247, R443, R444) -/

/-- FLTO_A_N or FLTO_B_N. -/
structure Flto where
  asserted : Bool := false
  since : Nat := 0
  held : Bool := false
  deriving DecidableEq, Repr

/-- A fault line of the ring as this hub drives and sees it. -/
structure RLine where
  asserting : Bool := false
  pulseUntil : Option Nat := none
  view : Bool := false
  lastToken : Nat := 0
  /-- the last token sent or forwarded, and the last one of this hub's own (R443, R444) -/
  lastSent : Option Nat := none
  ownAt : Option Nat := none
  /-- the view has become asserted since the last tick -/
  due : Bool := false
  /-- source of the last FAULT frame -/
  last : Nat := 0xFFF
  count : Nat := 0
  deriving DecidableEq, Repr

/-- The stream port (R508 to R523). `queue` holds the records oldest first, `sent` the bytes of the first that have left,
`arriving` the records on their way to the buffer. -/
structure Stream where
  en : Bool := false
  enAt : Nat := 0
  credits : Nat := 0
  bseq : Nat := 0
  arriving : List StrRec := []
  queue : List StrRec := []
  sent : Nat := 0
  /-- the partly filled block is to be sent (R512) -/
  flush : Bool := false
  /-- records dropped since the last LOSS record, by type, and the time of the first (R515) -/
  loss : List Nat := [0, 0, 0, 0]
  lossAt : Option Nat := none
  /-- the journal export: records left, next sequence number, time from which the next may go (R519) -/
  left : Nat := 0
  next : Nat := 0
  exportAt : Nat := 0
  /-- start of the last block, and its bytes from MARK to CRC (R511) -/
  blockAt : Option Nat := none
  block : List Byte := []
  deriving DecidableEq, Repr

/-- What a checkpoint holds of a port (R340). -/
structure CkptPort where
  acc : Totals := {}
  base : Totals := {}
  baseEpoch : Nat := 0
  trk : Trackers := {}
  damaged : Bool := false
  detail : Nat := 0
  trip : PortTrip := {}
  deriving DecidableEq, Repr

/-- A checkpoint (R340, R566): its sequence number, its latch time, the ports and the counts. -/
structure Ckpt where
  seq : Nat
  at_ : Nat
  ports : List CkptPort := []
  counts : Store := []
  deriving DecidableEq, Repr

/-- The checkpoint region of the MRAM, and the write in progress. -/
structure CkptRegion where
  slot0 : Option Ckpt := none
  slot1 : Option Ckpt := none
  writing : Option Ckpt := none
  /-- latched while another was being written, and written after it -/
  waiting : Option Ckpt := none
  deriving DecidableEq, Repr

/-- Power warning (R558 to R560). -/
structure Pfw where
  on : Bool := false
  from_ : Nat := 0
  /-- the checkpoint of the sequence is to be latched, or is being written -/
  latch : Bool := false
  saving : Bool := false
  doneAt : Option Nat := none
  deriving DecidableEq, Repr

/-! ## The dictionary (R467 to R502) -/

/-- The answer to an access (R430, R507). -/
structure Answer where
  err : Err
  data : List Byte := []
  deriving DecidableEq, Repr

/-- A COMMIT that is accepted and has not applied (R482, R483); its answer is still owed (R484). -/
structure Pend where
  unit : CUnit
  set : Store
  req : Req
  at_ : Nat
  /-- answered at acceptance (R484) -/
  told : Bool := false
  deriving DecidableEq, Repr

/-- A session, open or pending (R474 to R479). -/
structure Session where
  handle : Nat
  role : Role
  src : Nat
  isOpen : Bool := false
  challenge : List Byte := []
  readAt : Option Nat := none
  /-- the challenge has lapsed (R475) -/
  late : Bool := false
  idleFrom : Nat := 0
  shadowView : Bool := false
  deriving DecidableEq, Repr

/-- Failures and lock of a role (R476), by role code. -/
structure RoleLock where
  fails : Nat := 0
  lockedAt : Option Nat := none
  deriving DecidableEq, Repr

/-- A slot of the OTP bank: its value, and whether it verified (R497, R498). -/
structure SealSlot where
  value : List Byte
  ok : Bool
  deriving DecidableEq, Repr

/-- A sealed object: its slots, oldest first, and `SEAL_PROG`; a reset has cut its last slot, which is not yet journalled (R498). -/
structure SealBank where
  slots : List SealSlot := []
  prog : Nat := 0
  cut : Bool := false
  deriving DecidableEq, Repr

/-- The seal that is being programmed. -/
structure Sealing where
  index : Nat
  value : List Byte
  deriving DecidableEq, Repr

/-- An image of the stored configuration (R491, R492): its sets, the address table as (UID, address), firmware version. -/
structure CfgImage where
  seq : Nat
  at_ : Nat
  fw : Nat
  set : Store
  addrs : List (Nat × Nat) := []
  deriving DecidableEq, Repr

/-- The stored configuration: images A and B, the save that was asked for and the one being written (R492, R495). -/
structure CfgRegion where
  a : Option CfgImage := none
  b : Option CfgImage := none
  due : Option Nat := none
  writing : Option CfgImage := none
  deriving DecidableEq, Repr

/-! ## The ring (R422 to R461) -/

/-- A port of the ring: link delay exchanges in ps, newest first (R451), end of its wake tone (R455), T1 of its last request. -/
structure RingPort where
  delays : List Nat := []
  toneUntil : Option Nat := none
  t1 : Nat := 0
  deriving DecidableEq, Repr

/-- A hub in `RING_MAP`. -/
structure MapEntry where
  addr : Nat
  hops : Nat
  /-- the port byte of its REPORT (R430) -/
  port : Nat
  dup : Bool := false
  /-- reached by the head's K0 -/
  rev : Bool := false
  uid : Nat
  deriving DecidableEq, Repr

/-- A response that a hub keeps (R434). -/
structure Kept where
  src : Nat
  seq : Nat
  answered : Option (List Byte) := none
  deriving DecidableEq, Repr

/-- An outstanding submission of the head (R435, R459). -/
structure Sent where
  tag : Nat
  frame : Frame
  at_ : Nat
  again : Bool := false
  deriving DecidableEq, Repr

/-- The head's SPI port: item queue, oldest first, the last item removed, the two bits of STATUS that the previous transfer
left, what SDO carried in the last transfer (R457 to R459). -/
structure Spi where
  items : List Item := []
  last : Option Item := none
  badCrc : Bool := false
  refused : Bool := false
  sdo : List Byte := []
  deriving DecidableEq, Repr

/-- A node of the ring. -/
structure Ring where
  addr : Nat := 0xFFF
  addrSrc : Nat := 3
  strap : Nat := 0
  upstream : Option KPort := none
  hops : Nat := 0xFF
  topo : Nat := 0
  nodes : Nat := 0
  gen : Nat := 0
  /-- an enumeration of the head has begun at, and its hubs so far -/
  enumAt : Option Nat := none
  found : List MapEntry := []
  returned : Bool := false
  map : List MapEntry := []
  /-- identifiers and their enumerated addresses (R438) -/
  addrs : List (Nat × Nat) := []
  addrsNew : Bool := false
  branch : List Nat := []
  ports : Bank RingPort 3 := Bank.fill 3 {}
  seq : Nat := 0
  kept : List Kept := []
  sent : List Sent := []
  /-- latched bits of `RING_IRQ_SRC` -/
  irq : Nat := 0
  /-- SYNC: its number at the head, whether the time base has been stepped, SYNCs in a row within 10 ns, the last one -/
  syncSeq : Nat := 0
  syncAt : Nat := 0
  stepped : Bool := false
  good : Nat := 0
  /-- offset in ps that is still to be slewed away (R452) -/
  slew : Int := 0
  /-- the hub is wired on a branch, not on the ring itself (R422, R447): wiring, which no command changes -/
  onBranch : Bool := false
  deriving DecidableEq, Repr

/-- The always-on domain and what belongs to it (R402, R413): latched reset causes, start of the last BOOT, acceptance of a
`HUB_SLEEP`, entry into SLEEP, whether BOOT follows a wake, whether the last SLEEP burst met a wake limit (R412). -/
structure Power where
  latch : Nat := 4
  bootFrom : Nat := 0
  sleep : Option Nat := none
  /-- where the always-on time counter began: at the last entry into SLEEP, or cleared by an always-on reset (R402, R414) -/
  sleptAt : Nat := 0
  woke : Bool := false
  hkOut : Bool := false
  /-- inputs of housekeeping that have a mean since they were enabled (R316) -/
  hkHad : Nat := 0
  /-- steps 3 and 4 of BOOT have run (R399) -/
  loaded : Bool := false
  /-- the ring port whose clock is in use (R404), and since when the crystal is lost (R407) -/
  clkPort : Nat := 0
  xtalLost : Option Nat := none
  /-- `HUB_WAKE_EN`, `HUB_PODPORT_WAKE` and `HUB_WAKE_TIMER` as the always-on domain took them into SLEEP (R412, R413) -/
  wakeEn : Nat := 0
  wakePods : Nat := 0
  wakeTimer : Nat := 0
  /-- the last measurement of the crystal, or the last move of the reference (R406) -/
  xtalAt : Nat := 0
  deriving DecidableEq, Repr

/-- A firmware slot: its state with the codes of `FW_STATE_A`, whether the MRAM holds an image that passes its check, version,
image bytes (R549, R550). -/
structure FwSlot where
  state : Nat := 0
  sound : Bool := false
  ver : Nat := 0
  image : List Byte := []
  deriving DecidableEq, Repr

/-- Firmware (R549 to R552): slots A and B, the slot that runs (B when true), the boot selection, the trial flag, the start of
the trial. Slot A of a hub as delivered holds an image (log 12). -/
structure Fw where
  a : FwSlot := { sound := true }
  b : FwSlot := {}
  runsB : Bool := false
  selB : Bool := false
  trial : Bool := false
  trialAt : Nat := 0
  deriving DecidableEq, Repr


/-! ## The block -/

/-- The state of the block. -/
structure State where
  /-- ns of the aligned time base (R33) -/
  now : Nat := 0
  /-- the model's own: how many free values have been used -/
  fresh : Nat := 0
  /-- the commands that wait, first in first out -/
  pending : List Instr := []
  active : Store := []
  shadow : Store := []
  status : Store := []
  pods : Bank Pod 16 := Bank.fill 16 {}
  ports : Bank Port 16 := Bank.fill 16 {}
  buses : Bank Bus 8 := Bank.fill 8 {}
  pre : Bank Pre 4 := Bank.fill 4 {}
  dis : Bank Dis 4 := Bank.fill 4 {}
  jnl : Journal := {}
  pwm : Bank Pwm 8 := Bank.fill 8 {}
  cells : Bank Cell 8 := Bank.fill 8 {}
  /-- RDYn_N inputs that are deasserted, bit n -/
  rdyLost : Nat := 0
  hub : HubState := .boot
  flto : Bank Flto 2 := Bank.fill 2 {}
  /-- FLTI inputs asserted after their filter, bit x -/
  flti : Nat := 0
  lines : Bank RLine 4 := Bank.fill 4 {}
  /-- what the hub has sent on the ring, newest first -/
  out : List RingOut := []
  /-- ring ports that are UP, bit k (R426) -/
  ringUp : Nat := 0
  str : Stream := {}
  /-- tick of a running snapshot, and whether it is latched (R337) -/
  snap : Option Nat := none
  snapLatched : Bool := false
  /-- start of the last housekeeping burst in SLEEP (R319) -/
  hkAt : Nat := 0
  /-- the running sixteen rounds of the housekeeping converter: their start, and how many inputs have their mean (R316, R318) -/
  hkFrom : Nat := 0
  hkPos : Nat := 0
  ckpt : CkptRegion := {}
  pfw : Pfw := {}
  /-- COMMITs accepted and not applied, oldest first -/
  pend : List Pend := []
  /-- the answer to the last access, and where it went -/
  resp : Option (Via × Answer) := none
  sessions : List Session := []
  locks : Bank RoleLock 4 := Bank.fill 4 {}
  /-- OTP bank: the sealed objects 0x7800 to 0x783F -/
  seals : Bank SealBank 64 := Bank.fill 64 {}
  sealing : Option Sealing := none
  cfg : CfgRegion := {}
  ring : Ring := {}
  spi : Spi := {}
  power : Power := {}
  fw : Fw := {}
  /-- writes of RW objects that apply at the next tick, as (key, value), oldest first -/
  rwNext : List (Nat × Int) := []
  /-- the partner holds the mirrored sets (R534) -/
  pxReady : Bool := false
  deriving DecidableEq, Repr

/-- The block right after reset (R15, R35, R398): the hub in BOOT with every object at its Default, no pod on any port, MRAM
and OTP blank. -/
def State.reset : State := {}

end Sys2Proof.Machine
end

