-- ==== Sys2Proof/Machine/Ops.lean ====
section
/-! DEFINITION. The named operations over the state: pods, ports and units, time, status objects, parameter sets,
free values, the journal. -/

namespace Sys2Proof.Machine

/-! ## Units of the state -/

def State.pod (s : State) (c : Chan) : Pod := s.pods.get c
def State.port (s : State) (c : Chan) : Port := s.ports.get c
def State.bus (s : State) (b : BusId) : Bus := s.buses.get b
def State.updPod (s : State) (c : Chan) (f : Pod → Pod) : State := { s with pods := s.pods.upd c f }
def State.updPort (s : State) (c : Chan) (f : Port → Port) : State := { s with ports := s.ports.upd c f }
def State.updBus (s : State) (b : BusId) (f : Bus → Bus) : State := { s with buses := s.buses.upd b f }
def State.updPre (s : State) (p : Quad) (f : Pre → Pre) : State := { s with pre := s.pre.upd p f }
def State.updDis (s : State) (d : Quad) (f : Dis → Dis) : State := { s with dis := s.dis.upd d f }

/-- The channels in ascending order. -/
def allChans : List Chan := [0, 1, 2, 3, 4, 5, 6, 7, 8, 9, 10, 11, 12, 13, 14, 15]
def allBuses : List BusId := [0, 1, 2, 3, 4, 5, 6, 7]
def allOct : List Oct := [0, 1, 2, 3, 4, 5, 6, 7]
def allQuads : List Quad := [0, 1, 2, 3]

/-- Do the same for every channel of a list. -/
def State.forChans (s : State) (l : List Chan) (f : State → Chan → State) : State := l.foldl f s

/-- Time moves on to `t`, never back. -/
def State.at (s : State) (t : Nat) : State := { s with now := max s.now t }

/-- What every meaning answers. -/
abbrev Result := Host.Outcome State Fault Refusal

/-- An event at a pod at time `t` that changes the pod only. An event whose conditions `ok` do not hold at that pod has not
come about and changes nothing (log 5). -/
def State.podEvent (s : State) (c : Chan) (t : Nat) (ok : Pod → Nat → Bool) (f : Pod → Nat → Pod) : State :=
  if ok (s.pod c) (max s.now t) then (s.at t).updPod c (fun p => f p (max s.now t)) else s

/-! ## Objects -/

/-- Active value of an object (R480). -/
def State.act (s : State) (o : Obj) (i : Nat := 0) (k : Nat := 0) : Nat := s.active.getN o i k
def State.actI (s : State) (o : Obj) (i : Nat := 0) (k : Nat := 0) : Int := s.active.get o i k
def State.actB (s : State) (o : Obj) (i : Nat := 0) (k : Nat := 0) : Bool := s.active.getB o i k

/-- Value of a status object or counter. -/
def State.stat (s : State) (o : Obj) (i : Nat := 0) (k : Nat := 0) : Nat := s.status.getN o i k

/-- Set a status object. -/
def State.set (s : State) (o : Obj) (i : Nat) (v : Int) (k : Nat := 0) : State :=
  { s with status := s.status.set o i v k }

/-- Add to a counter; it wraps at its 32 bits. -/
def State.count (s : State) (o : Obj) (i : Nat := 0) (n : Nat := 1) (k : Nat := 0) : State :=
  s.set o i (((s.stat o i k + n) % 2 ^ 32 : Nat) : Int) k

/-- Add to a counter of 64 bits. -/
def State.count64 (s : State) (o : Obj) (i : Nat := 0) (n : Nat := 1) : State :=
  s.set o i (((s.stat o i + n) % 2 ^ 64 : Nat) : Int)

/-- The channel set of channel `c` in a store, with the keys of instance 0 (R545). -/
def chanSet (m : Store) (c : Chan) : Store :=
  (m.filter fun e => decide (keyOf (0x4000 + 0x200 * c.val) 0 ≤ e.1) && decide (e.1 < keyOf (0x4200 + 0x200 * c.val) 0)).map
    fun e => (e.1 - keyOf (0x200 * c.val) 0, e.2)

/-- A store with the channel set of `c` replaced by `set` (R545). -/
def putChanSet (m : Store) (c : Chan) (set : Store) : Store :=
  let lo := keyOf (0x4000 + 0x200 * c.val) 0
  let hi := keyOf (0x4200 + 0x200 * c.val) 0
  (m.filter fun e => decide (e.1 < lo)) ++ set.map (fun e => (e.1 + keyOf (0x200 * c.val) 0, e.2)) ++
    (m.filter fun e => decide (hi ≤ e.1))

/-- Parameters of a pod's own copy (R230, R545). -/
def Pod.prm (p : Pod) (o : Obj) (k : Nat := 0) : Nat := p.params.getN o 0 k
def Pod.prmI (p : Pod) (o : Obj) (k : Nat := 0) : Int := p.params.get o 0 k
def Pod.prmB (p : Pod) (o : Obj) (k : Nat := 0) : Bool := p.params.getB o 0 k

/-- The set that was in force at an instant, of the sets `past` and the present one. -/
def setSince (past : List (Nat × Store)) (now : Store) (since : Nat) : Store :=
  match (past.filter fun e => decide (since < e.1)).getLast? with
  | some e => e.2
  | none => now

/-- A parameter for a filter or a period that has run since `since`: it keeps the value that it started with (R223). -/
def Pod.prmSince (p : Pod) (since : Nat) (o : Obj) (k : Nat := 0) : Nat := (setSince p.past p.params since).getN o 0 k

/-- The 5 ns step of an instant (R33). -/
def stepOf (t : Nat) : Nat := t / 5 * 5

/-! ## Roles and buses of channels (R59 to R62) -/

def isFeed (m : Store) (c : Chan) : Bool := m.getN OD.CH_ROLE c.val == 1
def isBranch (m : Store) (c : Chan) : Bool := m.getN OD.CH_ROLE c.val == 2

/-- The bus of a channel (R61). -/
def busOf (m : Store) (c : Chan) : Option BusId :=
  if h : m.getN OD.CH_BUS c.val < 8 then some ⟨m.getN OD.CH_BUS c.val, h⟩ else none

def onBus (m : Store) (b : BusId) (c : Chan) : Bool := busOf m c == some b

/-- FEED channels of a bus, ascending. -/
def feedsOf (m : Store) (b : BusId) : List Chan := allChans.filter fun c => isFeed m c && onBus m b c

/-- BRANCH channels of a bus, ascending. -/
def branchesOf (m : Store) (b : BusId) : List Chan := allChans.filter fun c => isBranch m c && onBus m b c

def membersOf (m : Store) (b : BusId) : List Chan := allChans.filter fun c => onBus m b c

/-- The precharge converter of a bus (R62, R65). -/
def preOf (m : Store) (b : BusId) : Option Quad := allQuads.find? fun p => m.getN OD.PRE_BUS p.val == b.val

/-- The discharge chopper of a bus (R62, R65). -/
def disOf (m : Store) (b : BusId) : Option Quad := allQuads.find? fun d => m.getN OD.DIS_BUS d.val == b.val

/-- The bus of a converter. -/
def busOfPre (m : Store) (p : Quad) : Option BusId :=
  if h : m.getN OD.PRE_BUS p.val < 8 then some ⟨m.getN OD.PRE_BUS p.val, h⟩ else none

/-- The precharge feed of a converter. -/
def feedOfPre (m : Store) (p : Quad) : Option Chan :=
  if h : m.getN OD.PRE_FEED p.val < 16 then some ⟨m.getN OD.PRE_FEED p.val, h⟩ else none

def busOfDis (m : Store) (d : Quad) : Option BusId :=
  if h : m.getN OD.DIS_BUS d.val < 8 then some ⟨m.getN OD.DIS_BUS d.val, h⟩ else none

/-- The PWM generator of a converter and its complement (R62). -/
def pwmOf (p : Quad) : Oct := ⟨p.val, by omega⟩
def pwmLow (p : Quad) : Oct := ⟨p.val + 4, by omega⟩

/-! ## Scaling (R48, R53, R54, R281, R323) -/

/-- I_FS in mA from the shunt in nΩ and the range (R53). -/
def ifsOf (rshunt range : Nat) : Nat := (if range = 0 then 32000000000 else 160000000000) / rshunt

/-- Current of a shunt code in µA. -/
def iUa (ifs : Nat) (code : Int) : Int := code * ifs * 125 / 4096

/-- Voltage at the terminal of a divider code in µV; `k` in Q16.16. -/
def vUv (k : Nat) (code : Int) : Int := code * k * 125 / 131072

/-! ## Free values -/

/-- The next free value of a state; the counter moves on (log 2). -/
def State.take (s : State) : Nat × State := (Config.freeValue s.fresh, { s with fresh := s.fresh + 1 })

/-! ## Journal (R250, R553 to R556) -/

/-- Twelve data bytes from fields of (length, value). -/
def jdata (l : List (Nat × Nat)) : List Byte :=
  let b := (l.flatMap fun e => leBytes e.1 e.2).take 12
  b ++ List.replicate (12 - b.length) 0

/-! ## Sending on the ring (R433, R459, R460) -/

/-- The hub drives its outputs in IDLE, RUN and ADOPT (R373, R374). -/
def State.hubUp (s : State) : Bool := s.hub == .idle || s.hub == .run || s.hub == .adopt

/-- The bypass is open: from ring join in BOOT until RESET or SLEEP (R419, R427). -/
def ringOpen (s : State) : Bool :=
  s.hubUp || s.hub == .boot && (s.power.loaded || s.stat OD.HUB_BOOT_STATUS != 0)

/-- This hub is the head. -/
def isHead (s : State) : Bool := s.ring.addr == 0

/-- A source of `RING_IRQ_SRC` latches (R460). -/
def State.irq (s : State) (bit : Nat) : State := { s with ring := { s.ring with irq := setBit s.ring.irq bit true } }

/-- Bytes that an item takes in the queue. -/
def itemSize (x : Item) : Nat := 6 + x.bytes.length

/-- Bytes free in the item queue. -/
def queueFree (s : State) : Nat := 16384 - (s.spi.items.map itemSize).sum

/-- Put an item into the queue. -/
def State.push (s : State) (x : Item) : State := { s with spi := { s.spi with items := s.spi.items ++ [x] } }

/-- An EVENT or FAULT item is dropped with less than 2 KiB free (R459). -/
def State.pushOrDrop (s : State) (x : Item) : State :=
  if queueFree s < 2048 then (s.count OD.RING_OUTQ_DROPS).irq 5 else s.push x

/-- A frame leaves on the UP ports of a mask. -/
def State.sendOn (s : State) (f : Frame) (ports : Nat) : State :=
  if ports &&& (s.ringUp % 8) = 0 then s else { s with out := .frame f (ports &&& (s.ringUp % 8)) :: s.out }

/-- The port of the upstream, as a mask; K0 faces the head before a DISCOVER has come (R422). -/
def upMask (s : State) : Nat :=
  match s.ring.upstream with
  | some k => 2 ^ k.val
  | none => if isHead s then 0 else 1

/-- Ports by which the head, or a hub away from the head, reaches an address: K2 by the branch table, else its ring port that
is not upstream; the head of a broken ring uses K1 and K0, and a hub that its K0 reached is answered by K0 (R433, R449,
R461). -/
def awayPorts (s : State) (dst : Nat) : Nat :=
  if s.ring.branch.contains dst then 4
  else if isHead s then
    if s.ring.topo.testBit 2 then 3 else if s.ring.map.any fun e => e.addr == dst && e.rev then 1 else 2
  else match s.ring.upstream with
    | some k => if k.val = 0 then 2 else if k.val = 1 then 1 else 3
    | none => 2

/-- Send a frame of this hub's own: from the head away from it, a broadcast on every port; from another hub toward the head,
which sends it on (R433; DEDUCED for a broadcast, log 42). -/
def State.sendOwn (s : State) (type seq dst : Nat) (payload : List Byte) : State :=
  let f : Frame :=
    { type := type, toHead := !isHead s, seq := seq % 256, dst := dst, src := s.ring.addr,
      len := payload.length, payload := payload }
  s.sendOn f.signed (if isHead s then if dst = 0xFFF then 7 else awayPorts s dst else upMask s)

/-- Take the next sequence number of this hub. -/
def State.nextSeq (s : State) : State := { s with ring := { s.ring with seq := (s.ring.seq + 1) % 256 } }

/-- A journal record goes toward the head: an EVENT frame, at the head itself an item (R250, R458). -/
def State.sendEvent (s : State) (r : JRec) : State :=
  if isHead s then s.pushOrDrop { kind := 2, tag := 0, src := 0, bytes := r.bytes }
  else if ringOpen s then s.nextSeq.sendOwn 5 s.ring.seq 0 r.bytes else s

/-- Write a journal record, timed `t`. -/
def State.journalAt (s : State) (t kind : Nat) (src : JSrc) (code : Nat) (data : List (Nat × Nat) := [])
    (held : Bool := false) (clean : Bool := false) : State :=
  let r : JRec :=
    { seq := s.jnl.next, time := stepOf t, kind := kind, src := src.code, code := code, held := held,
      clean := clean, unlocked := s.stat OD.RING_TIME_STATE != 2, data := jdata data, boot := s.jnl.boot }
  let s := { s with jnl := { s.jnl with recs := (r :: s.jnl.recs).take 8192, next := (s.jnl.next + 1) % 2 ^ 32 } }
  let s := s.count64 OD.JNL_WRITES
  s.sendEvent r

/-- Write a journal record of this moment. -/
def State.journal (s : State) (kind : Nat) (src : JSrc) (code : Nat) (data : List (Nat × Nat) := []) : State :=
  s.journalAt s.now kind src code data

/-- Write a Warning record (R556). -/
def State.warn (s : State) (src : JSrc) (code : Nat) (data : List (Nat × Nat) := []) : State :=
  s.journal 0x0A src code data
/-! ## Speed holds of pod cells (R350) -/

/-- The hold of one of the three pod cells that take a mode. -/
def Pod.hold (p : Pod) : PodCmp → Option Nat
  | .outp => p.holdOutp
  | .buswUv => p.holdUv
  | .buswOv => p.holdOv
  | _ => none

/-- A hold has ended by `t`. -/
def holdOver (h : Option Nat) (t : Nat) : Bool :=
  match h with
  | some u => decide (u ≤ t)
  | none => false

/-- Response of a speed mode in ns (R349). -/
def speedNs (m : Nat) : Nat :=
  match m with
  | 0 => 25
  | 1 => 120
  | 2 => 1500
  | _ => 25000

end Sys2Proof.Machine
end

