-- ==== Sys2Proof/Machine/Gate.lean ====
section
/-! DEFINITION. Gate drive of a pod (chapter 3): phases, turn-on, the four off profiles, supplies and clamps. -/

namespace Sys2Proof.Machine

def Pod.gate (p : Pod) : Side → Gate
  | .inS => p.st.gIn
  | .outS => p.st.gOut

def Pod.setGate (p : Pod) (x : Side) (g : Gate) : Pod :=
  match x with
  | .inS => { p with st := { p.st with gIn := g } }
  | .outS => { p with st := { p.st with gOut := g } }

/-- Both sides in static clamp or depletion clamp. -/
def PodStatus.bothClamped (s : PodStatus) : Bool := s.gIn.phase.clamped && s.gOut.phase.clamped

def Pod.bothClamped (p : Pod) : Bool := p.st.bothClamped

/-- Level at which a gate is full-on: VPOS − 1 V (R74). -/
def Pod.fullOnMv (p : Pod) : Int := p.vpos - 1000

/-- Level at which strong CLAMP is timed: VNEG + 1 V (R85). -/
def Pod.clampMv (p : Pod) : Int := p.vneg + 1000

/-- Whether a side counts as full-on (R83, and R267 in an engine). -/
def Pod.fullOn (p : Pod) (x : Side) : Bool :=
  ((p.gate x).phase == .staticHold && decide (p.fullOnMv ≤ (p.gate x).mv)) ||
  (x == .outS && p.st.oring == .conducting && (p.gate x).phase == .regulated)

/-- Set or clear a held bit of `CH_GSTAT`. -/
def Pod.gbit (p : Pod) (i : Nat) (b : Bool) : Pod := { p with st := { p.st with gstat := setBit p.st.gstat i b } }

/-- Gate-fault bit of a side (R98). -/
def faultBit : Side → Nat
  | .inS => 4
  | .outS => 5

/-! ## Entering phases (R74, R76, R85, R97) -/

/-- A gate in a phase from `t`, with the end level, limit and current it keeps. -/
def Gate.enter (g : Gate) (ph : GPhase) (t : Nat) (endMv : Int := 0) (limitAt : Option Nat := none) (ma : Nat := 0)
    (levelAt : Option Nat := none) : Gate :=
  { g with phase := ph, since := t, endMv := endMv, limitAt := limitAt, ma := ma, levelAt := levelAt }

/-- Blanking starts and the desaturation check is inactive when a side enters turn-on HOLD (R82, R194). -/
def Pod.startBlank (p : Pod) (x : Side) (t : Nat) : Pod :=
  let b := t + p.prm OD.CH_TBLANK * 50
  match x with
  | .inS => { p with blankIn := some b, dsArmed := setBit p.dsArmed 0 false }
  | .outS => { p with blankOut := some b, dsArmed := setBit p.dsArmed 1 false }

/-- A side leaves turn-on HOLD: its desaturation check and blanking end (R194). -/
def Pod.endBlank (p : Pod) (x : Side) : Pod :=
  match x with
  | .inS => { p with blankIn := none, dsArmed := setBit p.dsArmed 0 false }
  | .outS => { p with blankOut := none, dsArmed := setBit p.dsArmed 1 false }

/-- Strong HOLD: 5 µs to full-on; a level already reached counts from entry (R74, R76). -/
def Pod.strongHold (p : Pod) (x : Side) (t : Nat) : Pod :=
  let g := p.gate x
  let p := p.startBlank x t
  p.setGate x (g.enter .strongHold t p.fullOnMv (some (t + 5000)) 0 (if p.fullOnMv ≤ g.mv then some t else none))

/-- End level of turn-on SLEW (R74). -/
def Pod.slewOnEnd (p : Pod) : Int :=
  if p.prmI OD.CH_GEXIT_ON < p.fullOnMv then p.prmI OD.CH_GEXIT_ON else p.fullOnMv

/-- Turn-on SLEW, skipped where its end is reached (R76). -/
def Pod.slewOn (p : Pod) (x : Side) (t : Nat) : Pod :=
  let g := p.gate x
  if p.slewOnEnd ≤ g.mv then p.strongHold x t
  else p.setGate x (g.enter .slewOn t p.slewOnEnd (some (t + p.prm OD.CH_TSLEW_ON * 10000)) (p.prm OD.CH_ISLEW_ON))

/-- What follows BOOST: strong HOLD for a leading side, SLEW otherwise (R74, R78); regulation for a feed that re-enters
CONDUCTING (R271). -/
def Pod.afterBoost (p : Pod) (x : Side) (t : Nat) : Pod :=
  let g := p.gate x
  if g.lead then
    if x = .outS ∧ p.st.oring = .conducting then p.setGate x (g.enter .regulated t) else p.strongHold x t
  else p.slewOn x t

/-- BOOST, skipped where the pre-level is reached (R74, R76, R80). -/
def Pod.boost (p : Pod) (x : Side) (lead : Bool) (t : Nat) : Pod :=
  let g := { p.gate x with lead := lead }
  let p := p.setGate x g
  if p.prmI OD.CH_GPRE_ON ≤ g.mv then p.afterBoost x t
  else p.setGate x (g.enter .boost t (p.prmI OD.CH_GPRE_ON) (some (t + 2000)))

/-- Strong CLAMP: 5 µs to VNEG + 1 V (R85, R87). -/
def Pod.strongClamp (p : Pod) (x : Side) (t : Nat) : Pod :=
  let g := p.gate x
  p.setGate x (g.enter .strongClamp t p.clampMv (some (t + 5000)) 0 (if g.mv ≤ p.clampMv then some t else none))

/-- Turn-off SLEW at `ma`, skipped where its end is reached (R76, R85). -/
def Pod.slewOff (p : Pod) (x : Side) (t : Nat) (limit : Option Nat) (ma : Nat) : Pod :=
  let g := p.gate x
  if g.mv ≤ p.prmI OD.CH_GEXIT_OFF then p.strongClamp x t
  else p.setGate x (g.enter .slewOff t (p.prmI OD.CH_GEXIT_OFF) limit ma)

/-- What follows DUMP: SLEW in NORMAL, strong CLAMP in FAST (R85). -/
def Pod.afterDump (p : Pod) (x : Side) (t : Nat) : Pod :=
  if p.turnOff = some .fast then p.strongClamp x t else p.slewOff x t (p.gate x).limitAt (p.prm OD.CH_ISLEW_OFF)

/-- DUMP, skipped where its end is reached (R76, R85). -/
def Pod.dump (p : Pod) (x : Side) (t : Nat) (limit : Option Nat) : Pod :=
  let g := { p.gate x with limitAt := limit }
  if g.mv ≤ p.prmI OD.CH_GPRE_OFF then (p.setGate x g).afterDump x t
  else p.setGate x (g.enter .dump t (p.prmI OD.CH_GPRE_OFF) limit)

/-- Limit before forced CLAMP, counted from `t` (R85, R89). -/
def Pod.offLimit (p : Pod) (prof : Profile) (t : Nat) : Option Nat :=
  match prof with
  | .normal | .soft => some (t + p.prm OD.CH_TOFF_MAX * 10000)
  | .supplyLoss => some (t + 16000)
  | .fast => none

/-- One side runs an off profile from its present gate voltage; a side already off stays off, and one in strong CLAMP enters that
of the new profile, never an earlier phase (R76, R85, R88 to R90). -/
def Pod.sideOff (p : Pod) (x : Side) (prof : Profile) (t : Nat) : Pod :=
  if (p.gate x).phase.clamped then p
  else if (p.gate x).phase = .strongClamp then p.strongClamp x t
  else
    let p := (p.endBlank x).setGate x { p.gate x with lead := false }
    match prof with
    | .normal | .fast => p.dump x t (p.offLimit prof t)
    | .soft | .supplyLoss => p.slewOff x t (p.offLimit prof t) (p.prm OD.CH_ISOFT)

/-- Power-good is gone and PGO_N released (R118). -/
def Pod.pgLost (p : Pod) : Pod := { p with pgCount := 0, st := { p.st with pg := false, counting := false } }

/-- The start energy is reported at the end of a start (R124). -/
def Pod.endStart (p : Pod) : Pod :=
  if p.st.ch = .starting || p.st.ch = .limiting && !p.pgSince then
    { p with st := { p.st with eStart := p.energy / 10 ^ 18, counts := { p.st.counts with starts := p.st.counts.starts + 1 } } }
  else p

/-- A side that is neither off nor turning off runs a profile as well (R85, R96). -/
def Pod.restOff (p : Pod) (x : Side) (prof : Profile) (t : Nat) : Pod :=
  if (p.gate x).phase.clamped || (p.gate x).phase.turningOff then p else p.sideOff x prof t

/-- A turn-off starts: the fault timer clears and the current limit ends; which limit it cut is kept for R193 (R192). -/
def Pod.cutLimit (p : Pod) (t : Nat) : Pod :=
  let cut := p.limited.map fun x => (x, t, p.st.prot.ftAcc)
  { p with limitCut := (if cut.isSome then cut else p.limitCut), limitFull := none, oclSafe := none, limitExit := none,
           limitEnds := false, limited := none, st := { p.st with prot := { p.st.prot with ftAcc := 0 } } }

/-- A turn-off trigger: ends any turn-on, starts its profile on both sides, or takes over a running turn-off if it ranks
higher. Where it does not, a side that a per-side command left on runs the profile in progress. An OUT side that the reverse path
of R198 is turning off goes on (R88 to R90, R96, R192). -/
def Pod.off (p : Pod) (prof : Profile) (t : Nat) : Pod :=
  let p := { (p.endStart.pgLost.cutLimit t) with waitOn := none, onSides := 0,
                                                 tests := { p.tests with member := none, onlineLeft := [] } }
  if p.bothClamped then p
  else
    let run := match p.turnOff with
      | some cur => decide (cur.rank < prof.rank)
      | none => true
    if run then
      let side := if p.turnOff.isSome then Pod.sideOff else Pod.restOff
      let p : Pod := { p with turnOff := some prof, st := { p.st with profile := some prof, oring := .off } }
      side (side p .inS prof t) .outS prof t
    else
      let p : Pod := { p with st := { p.st with oring := .off } }
      (p.restOff .inS (p.turnOff.getD prof) t).restOff .outS (p.turnOff.getD prof) t

/-- One side off by per-side command: every turn-off ends a current limit and clears the fault timer; a limit of the other side, whose
current the turn-off ends, is over as R84 sets (R96, R192). -/
def Pod.offSide (p : Pod) (x : Side) (t : Nat) : Pod :=
  if (p.gate x).phase.clamped || (p.gate x).phase.turningOff then p
  else
    let p := if p.limited = some x.other then p.strongHold x.other t else p
    let p := { (p.pgLost.cutLimit t) with turnOff := some .normal }
    { p with st := { p.st with profile := some .normal } }.sideOff x .normal t

/-! ## Static clamp -/

/-- A side enters static clamp. When both are there the turn-off is over, t_s is known, a confirmation that a turn-off cut
short is over, and the first stack test follows after `CH_TDECAY` (R85, R214, R227, R258). -/
def Pod.clampEntered (p : Pod) (x : Side) (t : Nat) : Pod :=
  let p := p.setGate x ({ p.gate x with lead := false, mv := p.vneg }.enter .staticClamp t)
  if p.bothClamped then
    { p with turnOff := none, coll := { p.coll with isOpen := p.coll.isOpen && !p.coll.gate },
             tests := { p.tests with stackAt := some (p.tests.stackAt.getD (t + p.prm OD.CH_TDECAY * 1000000)), confirmSide := none,
                                     confirmAsked := false, confirmCodes := none,
                                     stackRun := p.tests.stackRun && p.tests.confirmSide.isNone },
             st := { p.st with tStatic := some t } }
  else if (p.gate x.other).phase.turningOff then p else { p with turnOff := none }

/-- Whether a side has been in static clamp for 1 µs (R91). -/
def Pod.clampedFor (p : Pod) (x : Side) (t d : Nat) : Bool :=
  (p.gate x).phase == .staticClamp && decide ((p.gate x).since + d ≤ t)

/-- Whether a turn-on command may start (R91). -/
def Pod.canTurnOn (p : Pod) (a : OnAsk) (t : Nat) : Bool :=
  match a with
  | .whole => p.clampedFor .inS t 1000 && p.clampedFor .outS t 1000
  | .side x => p.clampedFor x t 1000

/-! ## Turn-on ordering (R77 to R79) -/

/-- Stack voltage V(IN) − V(OUT) in µV from the latest valid samples (R77). -/
def Meas.stackUv (m : Meas) : Option Int := if m.vdi.ok && m.vdo.ok then some (m.vdi.v - m.vdo.v) else none

/-- Slewing sides of a whole-stack turn-on: IN, OUT (R77, R79). -/
def Pod.slews (p : Pod) : Bool × Bool :=
  match p.prm OD.CH_GORDER with
  | 1 => (true, false)
  | 2 => (false, true)
  | 3 => (true, true)
  | _ =>
    match p.st.meas.stackUv with
    | none => (true, true)
    | some v => if 5000000 < v then (true, false) else if v < -5000000 then (false, true) else (false, false)

/-- The other side slews once this leading side is full-on (R78). -/
def Pod.startSlewing (p : Pod) (x : Side) (t : Nat) : Pod :=
  if (p.gate x).lead && (p.gate x).levelAt.isSome && p.onSides == 3 &&
      (p.gate x.other).phase == .staticClamp && p.turnOff.isNone then
    p.boost x.other false t
  else p

/-- Start the turn-on of the whole stack: leading sides run BOOST, slewing sides too where none leads (R77, R78). -/
def Pod.turnOnWhole (p : Pod) (t : Nat) : Pod :=
  let w := p.slews
  let p : Pod := { p with tOnStart := t, onSides := 3, energy := 0, slewing := w, waitOn := none,
                          tests := { p.tests with stackAt := none }, st := { p.st with tStatic := none } }
  let p := if w.1 then p.setGate .inS { p.gate .inS with lead := false } else p.boost .inS true t
  let p := if w.2 then p.setGate .outS { p.gate .outS with lead := false } else p.boost .outS true t
  if w = (true, true) then (p.boost .inS false t).boost .outS false t
  else (p.startSlewing .inS t).startSlewing .outS t

/-- Start the turn-on of one side by per-side command: it runs as a slewing side (R96). -/
def Pod.turnOnSide (p : Pod) (x : Side) (t : Nat) : Pod :=
  let p : Pod := { p with tOnStart := t, onSides := (if x = .inS then 1 else 2), waitOn := none,
                          slewing := (x == .inS, x == .outS),
                          tests := { p.tests with stackAt := if p.st.ch.running then none else p.tests.stackAt },
                          st := { p.st with tStatic := none } }
  p.boost x false t

def Pod.turnOn (p : Pod) (a : OnAsk) (t : Nat) : Pod :=
  match a with
  | .whole => p.turnOnWhole t
  | .side x => p.turnOnSide x t

/-- A turn-on command. The whole stack is ordered and started by its own event; a side starts now or waits (R91, R96). -/
def Pod.askOn (p : Pod) (a : OnAsk) (t : Nat) : Pod :=
  match a with
  | .whole => { p with waitOn := some .whole }
  | .side x => if p.canTurnOn (.side x) t then p.turnOn (.side x) t else { p with waitOn := some (.side x) }

/-- The qualification of the end of a current limit runs from the later of its two conditions; one that is complete stands
(R185). -/
def Pod.exitRule (p : Pod) : Pod :=
  { p with limitExit := match p.limitFull, p.oclSafe with
      | some a, some b => some (max a b)
      | _, _ => none }

/-! ## Levels (R74, R75, R85) -/

/-- A detector reports the level of a gate: the phase whose end is reached gives way to the next. -/
def Pod.level (p : Pod) (x : Side) (mv : Int) (t : Nat) : Pod :=
  let p := p.setGate x { p.gate x with mv := mv }
  let g := p.gate x
  match g.phase with
  | .boost => if g.endMv ≤ mv then (p.afterBoost x t).startSlewing x t else p
  | .slewOn => if g.endMv ≤ mv then p.strongHold x t else p
  | .strongHold =>
    if g.endMv ≤ mv ∧ g.levelAt = none then
      (p.setGate x { g with levelAt := some t, limitAt := none }).startSlewing x t
    else p
  | .dump => if mv ≤ g.endMv then p.afterDump x t else p
  | .slewOff => if mv ≤ g.endMv then p.strongClamp x t else p
  | .strongClamp =>
    if mv ≤ g.endMv ∧ g.levelAt = none then p.setGate x { g with levelAt := some t, limitAt := none } else p
  | .staticHold => if mv < p.fullOnMv then p.pgLost else p
  | .regulated =>
    if p.limited = some x then
      { p with limitFull := if p.fullOnMv ≤ mv then some (p.limitFull.getD t) else none }.exitRule
    else p
  | .staticClamp | .depletion => p

/-- Strong HOLD ends 200 ns after full-on; the turn-on is counted and timed when its last side is there (R74, R98). -/
def Pod.toStaticHold (p : Pod) (x : Side) (t : Nat) : Pod :=
  let tFull := (p.gate x).levelAt.getD t
  let p := p.setGate x ({ p.gate x with mv := p.vpos }.enter .staticHold t)
  let all := (p.onSides % 2 == 0 || p.st.gIn.phase == .staticHold) && (p.onSides < 2 || p.st.gOut.phase == .staticHold)
  if all && p.onSides != 0 then
    { p with onSides := 0, st := { p.st with lastOnUs := (tFull - p.tOnStart) / 1000,
                                             counts := { p.st.counts with cycles := p.st.counts.cycles + 1 } } }
  else p

end Sys2Proof.Machine
end

