-- ==== Sys2Proof/Machine/Trip.lean ====
section
/-! DEFINITION. Trips of a pod (chapter 7): the causes, their collection, the state a trip leads to, and commanded off. -/

namespace Sys2Proof.Machine

/-- The cause of a code. -/
def causeOf (n : Nat) : Option Cause := Cause.all.find? fun k => k.code == n

/-- States in which a cause can be raised (R226). -/
def raisedIn (k : Cause) (ch : ChState) : Bool :=
  match k with
  | .sc2 | .sc1 | .desatIn | .desatOut | .busOv | .reverse | .gateUvlo | .busFault => ch.running
  | .limitTimeout => ch == .limiting
  | .busUv => ch == .on || ch == .limiting
  | .thermal | .external => ch == .off || ch.running || ch == .tripped
  | .damagedIn | .damagedOut => ch == .off || ch == .tripped || ch == .latched
  | .linkLossSafe => ch == .off || ch.running || ch == .tripped || ch == .latched
  | .prechargeTimeout => ch == .starting
  | .selftestFail => ch == .off || ch.running || ch == .tripped || ch == .latched

/-- Off profile of a cause, but for the cases in which R72, R80, R81 and R124 name another (R88, R226). -/
def profileOf : Cause → Profile
  | .sc2 | .sc1 | .desatIn | .desatOut | .reverse => .fast
  | .gateUvlo | .linkLossSafe => .soft
  | _ => .normal

/-- Retry count of a cause in a set of rules (R232). -/
def ruleCount (rule : Nat) : Nat := rule % 16

/-- Multiplier of a rule: 1, 2 or 4 (R232). -/
def ruleMult (rule : Nat) : Nat := 2 ^ (rule / 16 % 4)

/-- Base delay of a rule in ms (R232). -/
def ruleBase (rule : Nat) : Nat := rule / 256 % 65536

/-- The rule of a cause in the pod's copy (R230). -/
def Pod.rule (p : Pod) (k : Cause) : Nat := p.prm OD.CH_RULE (k.code - 1)

/-- The state that the rules give a set of causes (R230). -/
def Pod.ruleState (p : Pod) (set : Nat) : ChState :=
  if hasCause set .damagedIn || hasCause set .damagedOut then .damaged
  else if hasCause set .sc2 || hasCause set .selftestFail ||
      (causesOf set).any (fun k => decide (ruleCount (p.rule k) ≤ p.held.retryN)) then .latched
  else .tripped

/-- The stricter of two states (R229). -/
def stricter (a b : ChState) : ChState := if a.strictness < b.strictness then b else a

/-- Add a cause to the trip: the earliest is primary, on a tie the order of R228. -/
def PodTrip.join (r : PodTrip) (k : Cause) (t : Nat) : PodTrip :=
  let first := decide (stepOf t < r.time) || (stepOf t == r.time && match causeOf r.primary with
    | some k' => decide (k.prec < k'.prec)
    | none => true)
  { r with set := addCause r.set k, primary := (if first then k.code else r.primary), time := min r.time (stepOf t) }

/-- A new trip with one cause. -/
def PodTrip.fresh (r : PodTrip) (k : Cause) (t : Nat) : PodTrip :=
  { set := addCause 0 k, primary := k.code, time := stepOf t, n := r.n + 1 }

/-- A cause joins the trip that collects (R227). -/
def Pod.joinTrip (p : Pod) (k : Cause) (prof : Profile) (t : Nat) : Pod :=
  { p with coll := { p.coll with due := true }, st := { p.st with trip := p.st.trip.join k t } }.off prof t

/-- A trigger that starts no trip turns off what is on by per-side command, or takes over the turn-off that runs (R89, R96). -/
def Pod.trigger (p : Pod) (prof : Profile) (t : Nat) : Pod := if p.bothClamped then p else p.off prof t

/-- A trigger without a seat: recorded only if its profile ranks higher than the turn-off in progress; a side that a per-side
command left on turns off (R96, R125, R231). -/
def Pod.tripAway (p : Pod) (k : Cause) (prof : Profile) (t : Nat) : Pod :=
  match p.turnOff with
  | some cur =>
    if !decide (cur.rank < prof.rank) then p.off prof t
    else if p.coll.isOpen then p.joinTrip k prof t
    else
      { p with coll := { isOpen := true, gate := true, due := true }, acked := false,
               st := { p.st with trip := p.st.trip.fresh k t } }.off prof t
  | none => p.trigger prof t

/-- Raise a cause with an off profile: join the open collection, start a new trip, or, in LATCHED, only note it
(R226, R227, R229). Where the state permits no trip, the trigger turns off all the same (R96). -/
def Pod.trip (p : Pod) (k : Cause) (prof : Profile) (t : Nat) : Pod :=
  if p.st.ch = .absent ∨ p.st.ch = .seating ∨ p.absentDue = true then p.tripAway k prof t
  else if p.coll.isOpen && (p.st.ch.faulted || raisedIn k p.st.ch) then p.joinTrip k prof t
  else if p.st.ch = .latched ∧ k ≠ .damagedIn ∧ k ≠ .damagedOut then
    if raisedIn k .latched then
      { p with st := { p.st with notes := (k.code, stepOf t) :: p.st.notes,
                                 counts := { p.st.counts with notes := p.st.counts.notes + 1 } } }.trigger prof t
    else p.trigger prof t
  else if raisedIn k p.st.ch then
    { p with coll := { isOpen := true, gate := !p.bothClamped, due := true }, acked := false,
             st := { p.st with trip := p.st.trip.fresh k t, fltq := true } }.off prof t
  else p.trigger prof t

/-- Step 1 of a boundary: the state of the trip is entered, with FLTQ_N (R117, R120, R230). -/
def Pod.settleTrip (p : Pod) (b : Nat) : Pod :=
  if p.coll.due then
    let away := p.st.ch == .absent || p.st.ch == .seating
    let ch := stricter (if away then p.st.kept else p.st.ch) (p.ruleState p.st.trip.set)
    { p with coll := { p.coll with due := false },
             tLatch := (if ch ≠ p.st.ch then b else p.tLatch),
             pgSince := false,
             st := { p.st with ch := (if away then p.st.ch else ch), kept := (if away then ch else .off),
                               fltq := p.st.fltq || (!away && ch.faulted) } }
  else p

/-- A trip without gate action collects no longer than its tick: the model keeps each such collection open to the end of its
tick, the longer of the two spans that R227 names (DESIGN CHOICE, log 77). -/
def Pod.closeTrip (p : Pod) : Pod := { p with coll := { p.coll with isOpen := p.coll.isOpen && p.coll.gate } }

/-- The channel whose seat is lost is ABSENT at the boundary; a fault state is kept (R125, R127). -/
def Pod.settleAbsent (p : Pod) : Pod :=
  if p.absentDue then
    { p with absentDue := false, pgSince := false, waitOn := none, tests := { p.tests with toggle := false },
             st := { p.st with leaving := false, ch := .absent, kept := (if p.st.ch.faulted then p.st.ch else .off),
                               fltq := p.st.pod == .safe } }
  else p

/-- FLTQ_N follows the channel state, and a trip whose state is still to be entered, but in ABSENT and SEATING (R120, R121). -/
def Pod.fltqRule (p : Pod) : Pod :=
  let away := p.st.ch == .absent || p.st.ch == .seating
  { p with st := { p.st with fltq := p.st.ch.faulted || (p.coll.due && !away) || (p.st.ch == .limiting && p.prmB OD.CH_FLTQ_LIM) ||
    p.st.pod == .safe } }

/-- Set the channel state and what follows it on FLTQ_N (R120). -/
def Pod.toState (p : Pod) (ch : ChState) : Pod := { p with st := { p.st with ch := ch } }.fltqRule

/-- Commanded off: a running channel turns off with NORMAL and is then OFF; a trip of the same tick applies first
(R88, R119, R231). -/
def Pod.commandOff (p : Pod) (t : Nat) : Pod :=
  if p.st.ch.running && !p.coll.due then
    let q := p.off .normal t
    { q with st := { q.st with leaving := true } }
  else { p with waitOn := none }

/-- At a boundary the channel that was commanded off is OFF once both sides are in static clamp; a trip takes its place
(R119, DEDUCED, log 76). -/
def Pod.settleOff (p : Pod) : Pod :=
  if p.st.leaving && p.st.ch.running && !p.bothClamped then p
  else
    let q := if p.st.leaving && p.st.ch.running then p.toState .off else p
    { q with st := { q.st with leaving := false } }

/-! ## Starting (R111 to R114) -/

/-- The bus window allows a start: BUSW_OV safe and, on a branch of a bus, BUSW_UV safe, after their filters (R113, R202). -/
def windowOk (role bus window : Nat) : Bool :=
  !window.testBit 10 && (role != 2 || bus == 0xFF || !window.testBit 9)

/-- `CH_GSTAT` bits 0 and 1 as they read (R71). -/
def uvloBits (s : PodStatus) (useVneg : Bool) : Nat :=
  if s.hvOn then s.gstat % 2 + (if useVneg then s.gstat / 2 % 2 * 2 else 0) else if useVneg then 3 else 1

/-- Start conditions that fail at the pod, bits of R111. -/
def Pod.startBits (p : Pod) : Nat :=
  bitAt (!p.st.seat.debounced) 0 + bitAt (uvloBits p.st (p.prmB OD.CH_VNEG_USE) != 0) 3 +
  bitAt (!windowOk (p.prm OD.CH_ROLE) (p.prm OD.CH_BUS) p.st.prot.window) 4 + bitAt p.st.ch.faulted 5

/-- Neither CAL nor the settling of its load runs; the load of a recalibration delays nothing (R307, R312). -/
def PodAdc.settled (a : PodAdc) : Bool := a.calFrom.isNone && (a.loadAt.isNone || (a.settle.ic == 0 && a.settle.vc == 0))

/-- A stack test, tie tests or a calibration make a start wait (R215, R219, R307). -/
def Pod.busyForStart (p : Pod) : Bool :=
  p.st.prot.tieRun || p.tests.stackRun || !p.adc.settled

/-- The pod applies a start of the whole stack, or refuses it with the failing bits (R111). -/
def Pod.applyStart (p : Pod) (t : Nat) : Pod :=
  if p.startBits ≠ 0 then { p with st := { p.st with refused := p.startBits } }
  else
    let p : Pod := { p with pgSince := false, pgCount := 0, energy := 0,
                            st := { p.st with refused := 0, startAt := some t, closeAt := none } }
    (p.toState .starting).askOn .whole t

/-- The precharge feed enters STARTING with its stack off (R153). -/
def Pod.startStackOff (p : Pod) (t : Nat) : Pod :=
  ({ p with pgSince := false, pgCount := 0, energy := 0, slewing := (false, false),
            st := { p.st with refused := 0, startAt := some t, closeAt := none } }).toState
    .starting

/-- The whole-stack close after precharge (R159, R160). -/
def Pod.applyClose (p : Pod) (t : Nat) : Pod :=
  if p.st.ch = .starting && !p.absentDue && p.bothClamped && p.waitOn.isNone then
    { p with st := { p.st with closeAt := some t } }.askOn .whole t
  else p

end Sys2Proof.Machine
end

