-- ==== Sys2Proof/Machine/Slots.lean ====
section
/-! DEFINITION. The slices of a pod's converters (chapter 9): which slice samples what at which instant, by routing, paired window
and urgent list. -/

namespace Sys2Proof.Machine

/-! ## Slots, routings, windows (R280, R282, R290) -/

/-- The slot boundary at or after `t` (R280). -/
def slotUp (t : Nat) : Nat := (t + 49) / 50 * 50

/-- The slot boundary or half-slot point at or after `t` (R290). -/
def halfUp (t : Nat) : Nat := (t + 24) / 25 * 25

/-- The slot of its tick in which an instant lies, and the slice that owns it (R280). -/
def slotOf (a : Nat) : Nat := a % 1000 / 50
def sliceOf (a : Nat) : Nat := slotOf a % 4

/-- The routing changes at the next slot boundary (R282); the change is reported at once, less than 50 ns early (log 4). -/
def Pod.route (p : Pod) (r : Routing) (t : Nat) : Pod :=
  { p with adc := { p.adc with routes := (slotUp t, r) :: p.adc.routes,
                               returned := p.adc.returned || (r.integrates && !p.st.adc.routing.integrates) },
           st := { p.st with adc := { p.st.adc with routing := r } } }

/-- The routing in force at an instant of the running tick. -/
def Pod.routingAt (p : Pod) (a : Nat) : Routing :=
  match p.adc.routes.find? fun e => decide (e.1 ≤ a) with
  | some e => e.2
  | none => if p.adc.routes.isEmpty then p.st.adc.routing else .off

/-- An instant lies in a paired window. -/
def Pod.inWin (p : Pod) (a : Nat) : Bool := p.adc.wins.any fun w => decide (w.from_ ≤ a) && decide (a < w.to_)

/-! ## The pattern (R286, R290, R310) -/

/-- The sequence of the VC (R286). -/
def vcSequence : List Tap :=
  [.vdi, .vdo, .vdn, .vdi, .vdo, .ntc, .vdi, .vdo, .vdn, .vdi, .vdo, .int, .vdi, .vdo, .vdn, .vdi, .vdo, .int, .vdn, .ntc]

/-- The entry of the sequence that a covering converter converts in an odd slot: a pass takes 2 µs (R310). -/
def Pod.coverEntry (p : Pod) (a : Nat) : Nat := (a - p.adc.recalFrom.getD 0) / 1000 % 2 * 10 + slotOf a / 2

/-- The recalibrated converter is back on its own inputs while the other still covers (R311). -/
def Pod.coverEnds (p : Pod) (a : Nat) : Bool :=
  match p.adc.coverFrom with
  | some f => decide (f ≤ a)
  | none => false

/-- What the converters sample at an instant on the grid of half slots, urgent lists apart; the VC stands first. `burst` is on in
the one tick of a burst (R282, R286, R290, R310, R311, R313). -/
def Pod.baseAt (p : Pod) (burst : Bool) (a : Nat) : List Conv :=
  let r := p.routingAt a
  let slot := a % 50 == 0
  let conv (vc : Bool) (x : Tap) (used : Bool := true) : Conv :=
    { tap := x, at_ := a, vc := vc, slice := sliceOf a, used := used, routing := r }
  let seq := vcSequence.getD (slotOf a) .vdi
  let cover := if slotOf a % 2 = 0 then Tap.shunt else vcSequence.getD (p.coverEntry a) .vdi
  match r with
  | .normal | .paired =>
    if p.inWin a then if slot then [conv false .shunt] else [conv true .shunt]
    else if slot then [conv true seq, conv false .shunt] else []
  | .burst => if burst && slot then [conv true seq, conv false .shunt] else []
  | .icRecal => if slot then conv true cover :: (if p.coverEnds a then [conv false .shunt false] else []) else []
  | .vcRecal => if slot then (if p.coverEnds a then [conv true seq false] else []) ++ [conv false cover] else []
  | .cal | .off => []

/-- The instants that an urgent list takes, first and last. -/
def UrgRun.first (r : UrgRun) : Nat := (r.pts.head?.map (·.1)).getD 0
def UrgRun.last (r : UrgRun) : Nat :=
  match r.re with
  | some e => e.1
  | none => (r.pts.getLast?.map (·.1)).getD 0

/-- The instant at which the last listed input is sampled. -/
def UrgRun.lastListed (r : UrgRun) : Nat := (r.pts.getLast?.map (·.1)).getD 0

/-- What an urgent list puts at an instant in place of the sequence (R300, R302). -/
def UrgRun.at_ (r : UrgRun) (a : Nat) (routing : Routing) : List Conv :=
  let conv (x : Tap) (lost : Bool) : Conv :=
    { tap := x, at_ := a, vc := routing != .vcRecal, slice := sliceOf a, routing := routing, lost := lost }
  (match r.re with
   | some e => if r.first = a then [conv e.2 true] else if e.1 = a then [conv e.2 false] else []
   | none => []) ++
  ((r.pts.filter fun e => e.1 == a).map fun e => conv e.2 false)

/-- What the converters sample at an instant (R286, R300). -/
def Pod.pointsAt (p : Pod) (burst : Bool) (a : Nat) : List Conv :=
  match p.adc.runs.find? fun r => decide (r.first ≤ a) && decide (a ≤ r.last) with
  | some r => r.at_ a (p.routingAt a) ++ (p.baseAt burst a).filter fun c => !c.volt
  | none => p.baseAt burst a

/-- What the converters sample in the tick that begins at `b`, in the order of the instants (R283). -/
def Pod.plan (p : Pod) (burst : Bool) (b : Nat) : List Conv := (List.range 40).flatMap fun m => p.pointsAt burst (b + 25 * m)

/-! ## Urgent lists (R300 to R302, R314) -/

/-- The first sampling point of the voltage path at or after an instant. -/
def Pod.nextVolt (p : Pod) (a : Nat) : Nat :=
  if p.st.adc.routing == .icRecal || p.st.adc.routing == .vcRecal then (a + 49) / 100 * 100 + 50
  else
    let s := slotUp a
    let h := (a + 24) / 50 * 50 + 25
    if p.inWin h && (decide (h < s) || p.inWin s) then h else if p.inWin s then s + 50 else s

/-- `n` points of the voltage path from an instant. -/
def Pod.voltPoints (p : Pod) : Nat → Nat → List Nat
  | 0, _ => []
  | n + 1, a => p.nextVolt a :: p.voltPoints n (p.nextVolt a + 1)

/-- The inputs of an urgent list: those of a stack test, of its confirmation and of a snapshot are the same three (R300, R337). -/
def urgentTaps : List Tap := [.vdi, .vdo, .vdn]

/-- The point at which a request could begin: after a start-up, and after the settling of a load by CAL (R301, R314). -/
def Pod.urgentFrom (p : Pod) (t : Nat) : Nat :=
  let t := match p.adc.loadAt with
    | some f => max t (f + 200)
    | none => t
  if p.st.adc.routing = .burst then
    let due := p.adc.burstAt + p.prm OD.ADC_PARK_PER * msNs
    p.nextVolt (if due ≤ t && decide (t < due + 5000) then max t (due + 4000) else t + 4000)
  else
    p.nextVolt (match p.adc.wakeAt with
      | some w => max t w
      | none => t)

/-- A list whose first point is `a`. Its fourth point converts the input again that the first has displaced, unless that one is
on the list (R300). -/
def Pod.newRun (p : Pod) (u : Urgent) (a : Nat) : Pod :=
  let l := p.voltPoints 4 a
  let re := match (p.baseAt false a).find? Conv.volt with
    | some c => if urgentTaps.contains c.tap then none else l.getLast?.map fun e => (e, c.tap)
    | none => none
  { p with adc := { p.adc with runs := p.adc.runs ++ [{ causes := [u], pts := (l.take 3).zip urgentTaps, re := re }] },
           st := { p.st with counts := { p.st.counts with urgents := p.st.counts.urgents + 1 } } }

/-- A list begins, or joins one that begins at the same point, be it that both wait for an earlier one; a list waits for the one before
it and its reconversion (R300, R302). -/
def Pod.startRun (p : Pod) (u : Urgent) (t : Nat) : Pod :=
  let a := p.urgentFrom t
  match p.adc.runs.getLast? with
  | some r =>
    if a ≤ r.first then
      { p with adc := { p.adc with runs := p.adc.runs.dropLast ++ [{ r with causes := r.causes ++ [u] }] } }
    else p.newRun u (if a ≤ r.last then p.nextVolt (r.last + 1) else a)
  | none => p.newRun u a

/-- An urgent request; during CAL it waits (R301). -/
def Pod.askUrgent (p : Pod) (u : Urgent) (t : Nat) : Pod :=
  if p.adc.calFrom.isSome then
    if u ∈ p.adc.waiting then p else { p with adc := { p.adc with waiting := p.adc.waiting ++ [u] } }
  else p.startRun u t

/-! ## What the slices found (R280, R283, R302) -/

/-- The finding that is known of a listed input at an instant. -/
def Pod.knownRaw (p : Pod) (c : Conv) : Option Raw :=
  match p.adc.runs.find? fun r => r.pts.contains (c.at_, c.tap) with
  | some r => (r.codes.find? fun e => e.1 == c.tap).map (·.2)
  | none => none

/-- Give the points of a tick what their slices found: the IC slot by slot, the VC point by point. -/
def Pod.fill (p : Pod) (ic : List Raw) : List Raw → List Conv → List Conv
  | _, [] => []
  | vc, c :: l =>
    if c.lost then c :: p.fill ic vc l
    else if c.vc then { c with raw := (p.knownRaw c).getD (vc.headD { code := 0 }) } :: p.fill ic vc.tail l
    else { c with raw := (p.knownRaw c).getD (ic.getD (slotOf c.at_) { code := 0 }) } :: p.fill ic vc l

/-- The instant of the first shunt conversion in use, or the end of the tick. -/
def nextShunt (b : Nat) (l : List Conv) : Nat :=
  match l.find? fun c => c.tap == .shunt && c.used with
  | some c => c.at_
  | none => b

/-- Each shunt conversion stands for the interval up to the next one; `b` is the end of the tick, where the next tick has its
first (R283). -/
def spread (b : Nat) : List Conv → List Conv
  | [] => []
  | c :: l => (if c.tap == .shunt && c.used then { c with dt := min 100 (nextShunt b l - c.at_) } else c) :: spread b l

/-- The conversions of the tick that ends at `b`. -/
def Pod.converts (p : Pod) (burst : Bool) (smp : TickSamples) (b : Nat) : List Conv :=
  spread b (p.fill smp.ic smp.vc (p.plan burst (b - 1000)))

/-- What was found at the points of an urgent list is kept for its delivery. -/
def UrgRun.learn (r : UrgRun) (l : List Conv) : UrgRun :=
  { r with codes := r.codes ++ (r.pts.filterMap fun e =>
      if r.codes.any fun k => k.1 == e.2 then none
      else (l.find? fun c => c.at_ == e.1 && c.tap == e.2 && !c.lost).map fun c => (e.2, c.raw)) }

end Sys2Proof.Machine
end

