-- ==== Sys2Proof/Machine/Samples.lean ====
section
/-! DEFINITION. What a pod makes of its conversions (chapters 9 and 10): correction, validity and held values, latest samples,
averages, running totals, extremes, start energy. -/

namespace Sys2Proof.Machine

/-- The range of the shunt front end in nV: 32 mV or 160 mV (R53). I_FS in A is this over `CH_RSHUNT` in nΩ. -/
def Pod.vrange (p : Pod) : Nat := if p.prm OD.CH_IRANGE = 0 then 32000000 else 160000000

/-! ## Correction (R284, R299, R304) -/

/-- A factor of the slice that made a conversion: offsets from place 0, gains from 4, skews from 8 (R315). -/
def Pod.factor (p : Pod) (cv : Conv) (k : Nat) : Int := (if cv.vc then p.adc.vcF else p.adc.icF).getD (k + cv.slice) 0

/-- `n / d` rounded to nearest. -/
def roundInt (n d : Int) : Int := (2 * n + d) / (2 * d)

/-- The code after offset and gain of the slice and, of the shunt, those of the front end in the range in force (R284, R304,
log 75). -/
def Pod.correct (p : Pod) (cv : Conv) : Int :=
  let y := (16 * cv.raw.code - p.factor cv 0) * (1048576 + p.factor cv 4)
  if cv.tap = .shunt then
    let high := if p.prm OD.CH_IRANGE = 0 then 0 else 1
    roundInt ((y - p.adc.feF.getD high 0 * 1048576) * (1048576 + p.adc.feF.getD (2 + high) 0)) 17592186044416
  else roundInt y 16777216

/-- The change that moves a shunt sample from the instant at which its slice took it to the slot grid: the slope between its
neighbours over the slice's skew in ps (R284, log 75). -/
def skewed (skew : Int) (prev next : Option (Int × Nat)) (code : Int) : Int :=
  match prev, next with
  | some a, some b => if a.2 < b.2 then code - roundInt (skew * (b.1 - a.1)) (((b.2 - a.2) * 1000 : Nat) : Int) else code
  | _, _ => code

/-- Code after clamping (R299). -/
def clampCode (c : Int) : Int := clampInt (-32768) 32767 c

/-- The value of a conversion, given the shunt sample that follows it (R284, R299). -/
def Pod.codeOf (p : Pod) (cv : Conv) (next : Option (Int × Nat)) : Int :=
  if cv.raw.isOver then (if 0 ≤ cv.raw.code then 32767 else -32768)
  else if cv.tap = .shunt then clampCode (skewed (p.factor cv 8) p.adc.lastShunt next (p.correct cv))
  else clampCode (p.correct cv)

/-! ## Settling and held values (R295, R296) -/

/-- SETTLE conversions that remain for an input, with those of the converter (R296). -/
def Settle.left (s : Settle) (x : Tap) (vc : Bool) : Nat :=
  max (if vc then s.vc else s.ic) (match x with
    | .shunt => s.shunt
    | .vdi => s.vdi
    | .vdo => s.vdo
    | .vdn => s.vdn
    | .ntc => s.ntc
    | .int => s.int)

/-- A conversion of a converter counts down (R296). -/
def Settle.tickConverter (s : Settle) (vc : Bool) : Settle := if vc then { s with vc := s.vc - 1 } else { s with ic := s.ic - 1 }

/-- A conversion of an input counts down (R296). -/
def Settle.tick (s : Settle) (x : Tap) (vc : Bool) : Settle :=
  match x with
  | .shunt => { s with shunt := s.shunt - 1 }.tickConverter vc
  | .vdi => { s with vdi := s.vdi - 1 }.tickConverter vc
  | .vdo => { s with vdo := s.vdo - 1 }.tickConverter vc
  | .vdn => { s with vdn := s.vdn - 1 }.tickConverter vc
  | .ntc => { s with ntc := s.ntc - 1 }.tickConverter vc
  | .int => { s with int := s.int - 1 }.tickConverter vc

/-- Settling counts of an event never add: each restarts at the larger (R298). -/
def Settle.merge (a b : Settle) : Settle :=
  { shunt := max a.shunt b.shunt, vdi := max a.vdi b.vdi, vdo := max a.vdo b.vdo, vdn := max a.vdn b.vdn,
    ntc := max a.ntc b.ntc, int := max a.int b.int, ic := max a.ic b.ic, vc := max a.vc b.vc }

/-- The held value of an input; of INT, of the node that it carries. -/
def HeldCodes.of (h : HeldCodes) (x : Tap) (node : Nat) : Int :=
  match x with
  | .shunt => h.shunt
  | .vdi => h.vdi
  | .vdo => h.vdo
  | .vdn => h.vdn
  | .ntc => h.ntc
  | .int => h.int.getD node 0

/-- Keep a valid code (R295). -/
def HeldCodes.keep (h : HeldCodes) (x : Tap) (node : Nat) (code : Int) (t : Nat) (ovr uncal : Bool) : HeldCodes :=
  match x with
  | .shunt => { h with shunt := code, ucShunt := uncal }
  | .vdi => { h with vdi := code }
  | .vdo => { h with vdo := code, tVdo := t, orVdo := ovr, ucVdo := uncal }
  | .vdn => { h with vdn := code, tVdn := t, orVdn := ovr, ucVdn := uncal }
  | .ntc => { h with ntc := code }
  | .int => { h with int := h.int.set node code }

/-- Averaged source of an input (R320). -/
def sourceOf : Tap → Option Source
  | .shunt => some .shunt
  | .vdi => some .vdi
  | .vdo => some .vdo
  | .vdn => some .vdn
  | .ntc => some .ntc
  | .int => none

/-- A converter word (R293). -/
def convWord (value : Int) (input flags : Nat) : Nat := (value % 16777216).toNat + input * 2 ^ 24 + flags % 16 * 2 ^ 28

/-! ## Averages (R320, R321) -/

/-- Averaging of a source in a set: the byte with k in [3:0] and s in [7:4] (R320). -/
def avgByte (m : Store) (c : Nat) : Source → Nat
  | .shunt => m.getN OD.MTR_AVG c
  | .vdi => m.getN OD.MTR_AVG_V c 0
  | .vdo => m.getN OD.MTR_AVG_V c 1
  | .vdn => m.getN OD.MTR_AVG_V c 2
  | .ntc => m.getN OD.MTR_AVG_NTC c

def avgK (b : Nat) : Nat := b % 16
def avgShift (b : Nat) : Nat := b / 16 % 16

/-- The value of an average: the sum, rounded when shifted (R321). -/
def avgValue (sum : Int) (s : Nat) : Int := (sum + (if s = 0 then 0 else 2 ^ (s - 1))) / 2 ^ s

/-- Take a word into the running average of its source, from the first conversion of the tick at which a change of its averaging
applied; a complete one is queued (R295, R297, R321). -/
def Pod.average (p : Pod) (src : Source) (value : Int) (flags t : Nat) : Pod :=
  let b := avgByte p.params 0 src
  let a := p.adc.avgs.getD src.idx {}
  let a : Avg := if t < a.from_ then a else { a with sum := a.sum + value, n := a.n + 1, flags := a.flags ||| flags }
  if 2 ^ avgK b ≤ a.n then
    let d : AvgDone := { src := src, value := avgValue a.sum (avgShift b), k := avgK b, shift := avgShift b,
                         flags := a.flags, at_ := t }
    { p with adc := { p.adc with avgs := p.adc.avgs.set src.idx { from_ := a.from_ }, ready := p.adc.ready ++ [d] } }
  else { p with adc := { p.adc with avgs := p.adc.avgs.set src.idx a } }

/-! ## Running totals (R324 to R328) -/

/-- Add a shunt word to the running totals: `vr` over `r` is I_FS in A. What an increment has below 2^−32 of its unit is dropped, toward
−∞ (DESIGN CHOICE, log 29). -/
def Totals.add (a : Totals) (vr r kOut kNeg ageMax : Nat) (h : HeldCodes) (value : Int) (t dt : Nat) (valid ovr uncal : Bool) :
    Totals :=
  let v : Int := kOut * h.vdo - kNeg * h.vdn
  let age := t - min h.tVdo h.tVdn
  { q := a.q + value * vr * dt * 131072 / (1000 * r)
    e := a.e + value * vr * v * dt * 125 / (r * 10 ^ 12)
    i2t := a.i2t + value * value * vr * vr * dt * 4 / (r * r * 10 ^ 6)
    gapI := a.gapI + (if valid then 0 else 1)
    gapV := a.gapV + (if ageMax < age then 1 else 0)
    orI := a.orI + (if ovr then 1 else 0)
    orV := a.orV + (if h.orVdo || h.orVdn then 1 else 0)
    agePeak := max a.agePeak age
    flags := a.flags ||| (if uncal then 1 else 0) }

/-! ## Extremes (R333, R336) -/

/-- The first conversion that reaches a new least or greatest value (R333). -/
def Extreme.least (x : Extreme) (v : Int) (t : Nat) : Extreme := if x.ok && decide (x.v ≤ v) then x else ⟨v, t, true⟩
def Extreme.greatest (x : Extreme) (v : Int) (t : Nat) : Extreme := if x.ok && decide (v ≤ x.v) then x else ⟨v, t, true⟩

/-- Track a valid conversion; `ovrN` and `uncalN` are whether the VDN that it is taken with was clamped, and carried UNCAL (R333,
R336). -/
def Trackers.add (k : Trackers) (m : Meas) (x : Tap) (t : Nat) (ovr ovrN uncal uncalN : Bool) : Trackers :=
  let f (o u : Bool) := k.flags ||| ((if o then 4 else 0) + (if u then 8 else 0))
  match x with
  | .shunt => { k with iMin := k.iMin.least m.i.v t, iMax := k.iMax.greatest m.i.v t, flags := f ovr uncal }
  | .vdi =>
    if m.vdn.ok then
      let v := m.vdi.v - m.vdn.v
      { k with vinMin := k.vinMin.least v t, vinMax := k.vinMax.greatest v t, flags := f (ovr || ovrN) (uncal || uncalN) }
    else k
  | .vdo =>
    if m.vdn.ok then
      let v := m.vdo.v - m.vdn.v
      { k with voutMin := k.voutMin.least v t, voutMax := k.voutMax.greatest v t, flags := f (ovr || ovrN) (uncal || uncalN) }
    else k
  | _ => k

def Extreme.lesser (a b : Extreme) : Extreme := if b.ok then a.least b.v b.at_ else a
def Extreme.greater (a b : Extreme) : Extreme := if b.ok then a.greatest b.v b.at_ else a

/-- Two spans of trackers, the first the older. -/
def Trackers.join (a b : Trackers) : Trackers :=
  { iMin := a.iMin.lesser b.iMin, iMax := a.iMax.greater b.iMax, vinMin := a.vinMin.lesser b.vinMin,
    vinMax := a.vinMax.greater b.vinMax, voutMin := a.voutMin.lesser b.voutMin, voutMax := a.voutMax.greater b.voutMax,
    flags := a.flags ||| b.flags }

/-! ## One conversion -/

/-- Current of a shunt code in µA (R54). -/
def Pod.ampUa (p : Pod) (code : Int) : Int := code * p.vrange * 15625 / (512 * p.prm OD.CH_RSHUNT)

/-- A valid conversion as the latest sample of its source (R48, R281). -/
def Pod.sample (p : Pod) (x : Tap) (code : Int) (t : Nat) : Meas :=
  let m := p.st.meas
  match x with
  | .shunt => { m with i := ⟨p.ampUa code, t, true⟩ }
  | .vdi => { m with vdi := ⟨vUv (p.prm OD.CH_KDIV_IN) code, t, true⟩ }
  | .vdo => { m with vdo := ⟨vUv (p.prm OD.CH_KDIV_OUT) code, t, true⟩ }
  | .vdn => { m with vdn := ⟨vUv (p.prm OD.CH_KDIV_NEG) code, t, true⟩ }
  | _ => m

/-- |Vds| of a side in µV from the latest samples: S is the reference (R115, R188). -/
def Meas.vds (m : Meas) : Side → Nat
  | .inS => m.vdi.v.natAbs
  | .outS => m.vdo.v.natAbs

/-- V(IN) − V(DC−) and V(OUT) − V(DC−) in µV from the latest samples. -/
def Meas.vin (m : Meas) : Int := m.vdi.v - m.vdn.v
def Meas.vout (m : Meas) : Int := m.vdo.v - m.vdn.v

/-- Energy of the slewing sides over one shunt interval, in 10^−21 J (R124). -/
def Pod.slewEnergy (p : Pod) (dt : Nat) : Nat :=
  (if p.slewing.1 then p.st.meas.vds .inS * p.st.meas.i.v.natAbs * dt else 0) +
  (if p.slewing.2 then p.st.meas.vds .outS * p.st.meas.i.v.natAbs * dt else 0)

/-- What a valid conversion is to protection, extremes and transfers: the latest sample of its input (R118, R271, R333, R606). -/
def Pod.fresh (p : Pod) (cv : Conv) (code : Int) : Pod :=
  let m := p.sample cv.tap code cv.at_
  let p : Pod := { p with st := { p.st with meas := m } }
  let below := match m.stackUv with
    | some v => decide (v < (p.held.orVon : Int) * 1000)
    | none => true
  let f : List Fed := match cv.tap with
    | .shunt => [⟨.shunt, cv.at_, code⟩]
    | .vdi => if m.vdn.ok then [⟨.vdi, cv.at_, m.vin⟩] else []
    | .vdo => if m.vdn.ok then [⟨.vdo, cv.at_, m.vout⟩] else []
    | _ => []
  let uncal := !p.st.adc.calibrated
  let high := match cv.tap with
    | .vdi => decide (2000000 < m.vds .inS)
    | .vdo => decide (2000000 < m.vds .outS)
    | _ => false
  { p with vdsHigh := p.vdsHigh || high, vonLow := p.vonLow || (cv.tap != .shunt && below),
           adc := { p.adc with held := p.adc.held.keep cv.tap p.adc.intNode code cv.at_ cv.raw.isOver uncal, fed := p.adc.fed ++ f },
           mtr := { p.mtr with
             trk := p.mtr.trk.add m cv.tap cv.at_ cv.raw.isOver p.adc.held.orVdn uncal p.adc.held.ucVdn } }

/-- A word, or what it is taken with, carried UNCAL (R327). -/
def Pod.uncal (p : Pod) : Bool := !p.st.adc.calibrated || p.adc.held.ucShunt || p.adc.held.ucVdo || p.adc.held.ucVdn

/-- A shunt word in metering and in the energy of a start or of a close (R124, R160, R326, R337). -/
def Pod.takeShunt (p : Pod) (cv : Conv) (value : Int) (valid : Bool) : Pod :=
  let dt := if p.adc.returned && cv.routing.integrates then 50 else cv.dt
  let p : Pod := { p with adc := { p.adc with lastShunt := if cv.lost then p.adc.lastShunt else some (p.correct cv, cv.at_) } }
  let total := p.mtr.total.add p.vrange (p.prm OD.CH_RSHUNT) (p.prm OD.CH_KDIV_OUT) (p.prm OD.CH_KDIV_NEG)
    (p.prm OD.MTR_VAGE_MAX) p.adc.held value cv.at_ dt valid cv.raw.isOver p.uncal
  let p : Pod :=
    if cv.routing.integrates then
      { p with adc := { p.adc with returned := false }, mtr := { p.mtr with total := total } }
    else p
  let p : Pod := match p.mtr.snapDue with
    | some T =>
      if T ≤ cv.at_ then
        { p with mtr := { p.mtr with snapDue := none, snapI := (if cv.at_ = T then some (p.ampUa value) else none) } }
      else p
    | none => p
  if p.st.ch = .starting || p.st.ch = .limiting && !p.pgSince then { p with energy := p.energy + p.slewEnergy dt } else p

/-- INT has converted its node: 16 conversions make a dwell, of a burst its two; the next node settles (R287, R296, R313). -/
def Pod.takeInt (p : Pod) (cv : Conv) (value : Int) (valid : Bool) : Pod :=
  let a := p.adc
  let sum := if valid then a.intSum + value else a.intSum
  let n := if valid then a.intN + 1 else a.intN
  if (if cv.routing == .burst then 2 else 16) ≤ a.intCount + 1 then
    { p with adc := { a with intNode := (a.intNode + 1) % 5, intCount := 0, intSum := 0, intN := 0,
                             dwells := a.dwells ++ [⟨a.intNode, sum, n⟩], settle := { a.settle with int := max a.settle.int 8 } } }
  else { p with adc := { a with intCount := a.intCount + 1, intSum := sum, intN := n } }

/-- A word of the shunt or of a window for the capture buffer: the last 20 words of the IC stand before those of a window. The point
that an urgent list takes holds the word of the list; the ABORTED word of that point is no sample of the window (R291, R300, DEDUCED,
log 106). -/
def Win.take (w : Win) (before : List Nat) (word t : Nat) : Win :=
  if w.from_ ≤ t ∧ t < w.to_ then { w with words := (if w.words.isEmpty then before else w.words) ++ [word] } else w

def Pod.takeWord (p : Pod) (cv : Conv) (word : Nat) : Pod :=
  if cv.lost then p
  else
  let wins := p.adc.wins.map fun w => w.take p.adc.icWords word cv.at_
  let ic := if cv.vc then p.adc.icWords else (p.adc.icWords ++ [word]).drop (p.adc.icWords.length + 1 - 20)
  { p with adc := { p.adc with wins := wins, icWords := ic } }

/-- Counts that a change has started begin with the first conversion that follows it, the larger standing (R296, R298). -/
def PodAdc.beginSettle (a : PodAdc) (t : Nat) : PodAdc :=
  match a.settleNext with
  | some e => if e.1 ≤ t then { a with settle := a.settle.merge e.2, settleNext := none } else a
  | none => a

/-- Take one conversion in, given the shunt sample that follows it (R280, R283, R294 to R299, R311). -/
def Pod.takeIn (p : Pod) (next : Option (Int × Nat)) (cv : Conv) : Pod :=
  let p := { p with adc := p.adc.beginSettle cv.at_ }
  if !cv.used then { p with adc := { p.adc with settle := p.adc.settle.tickConverter cv.vc } }
  else
    let settle := cv.routing != .burst && decide (0 < p.adc.settle.left cv.tap cv.vc)
    let valid := !settle && !cv.lost
    let code := p.codeOf cv next
    let node := p.adc.intNode
    let value := if valid then code else p.adc.held.of cv.tap node
    let ovr := cv.raw.isOver && !cv.lost
    let flags := (if settle then 1 else 0) + (if cv.lost then 2 else 0) + (if ovr then 4 else 0) +
      (if p.st.adc.calibrated then 0 else 8)
    let p : Pod :=
      if cv.lost then { p with st := { p.st with counts := { p.st.counts with aborts := p.st.counts.aborts + 1 } } }
      else if cv.routing = .burst then { p with adc := { p.adc with settle := {} } }
      else { p with adc := { p.adc with settle := p.adc.settle.tick cv.tap cv.vc } }
    let p := if valid then p.fresh cv code else p
    let p := p.takeWord cv (convWord value (cv.tap.input node).code flags)
    let p := match cv.tap with
      | .ntc => if valid then { p with adc := { p.adc with ntcSum := p.adc.ntcSum + code, ntcN := p.adc.ntcN + 1 } } else p
      | .shunt => p.takeShunt cv value valid
      | .int => if cv.lost then p else p.takeInt cv value valid
      | _ => p
    match sourceOf cv.tap with
    | some src => p.average src value flags cv.at_
    | none => p

/-- The same with the set that was in force when the conversion was sampled: one that a COMMIT has overtaken in flight keeps its own
(R223, R296, R297). -/
def Pod.takeConv (p : Pod) (next : Option (Int × Nat)) (cv : Conv) : Pod :=
  { ({ p with params := setSince p.past p.params cv.at_ }.takeIn next cv) with params := p.params }

/-- The next shunt sample of a list. -/
def Pod.nextSample (p : Pod) (l : List Conv) : Option (Int × Nat) :=
  (l.find? fun c => c.tap == .shunt && c.used && !c.lost).map fun c => (p.correct c, c.at_)

/-- Deliver what was sampled 225 ns or more before `b`, in the order of the instants; the rest stays in flight (R280, R283). -/
def Pod.deliver (b : Nat) : List Conv → Pod → Pod
  | [], p => { p with adc := { p.adc with inFlight := [] } }
  | c :: l, p =>
    if c.at_ + 225 ≤ b then Pod.deliver b l (p.takeConv (p.nextSample l) c) else { p with adc := { p.adc with inFlight := c :: l } }

/-- The first delivery of a tick: what the samples of the last one showed is over. -/
def Pod.freshTick (p : Pod) : Pod :=
  match p.adc.early with
  | some _ => p
  | none => { p with adc := { p.adc with fed := [] }, vdsHigh := false, vonLow := false }

/-- The conversions of the running tick, as far as findings of the IC and of the VC are given. -/
def Pod.fillSome (p : Pod) (ic : List Raw) : List Raw → List Conv → List Conv
  | _, [] => []
  | vc, c :: l =>
    if c.lost then c :: p.fillSome ic vc l
    else match p.knownRaw c with
    | some r => { c with raw := r } :: p.fillSome ic (if c.vc then vc.tail else vc) l
    | none =>
      match if c.vc then vc.head? else ic[slotOf c.at_]? with
      | some r => { c with raw := r } :: p.fillSome ic (if c.vc then vc.tail else vc) l
      | none => []

/-- An event inside a tick acts on the codes that have been delivered by its instant: `ic` and `vc` are the first findings of the running
tick, of which each counts 225 ns after its sample was taken (R280). -/
def Pod.upTo (p : Pod) (ic vc : List Raw) (t : Nat) : Pod :=
  let n := p.adc.early.getD 0
  let l := (p.fillSome ic vc (spread (p.tickAt + 1000) (p.plan false p.tickAt))).drop n
  let q := Pod.deliver t (p.adc.inFlight ++ l) p.freshTick
  let rest := q.adc.inFlight
  { q with adc := { q.adc with early := some (n + (l.length - rest.length)), inFlight := rest.take (rest.length - l.length) } }

/-- Follow the conversions of the tick that ends at `b` (R280, R286, R300): plan, findings, delivery; what runs on goes on. -/
def Pod.convert (p : Pod) (smp : TickSamples) (b : Nat) : Pod :=
  let l := p.converts false smp b
  let p : Pod := { p.freshTick with adc := { p.freshTick.adc with runs := p.adc.runs.map fun r => r.learn l } }
  let p := Pod.deliver b (p.adc.inFlight ++ l.drop (p.adc.early.getD 0)) p
  { p with adc := { p.adc with runs := p.adc.runs.filter fun r => !(r.delivered && decide (r.last + 225 ≤ b)), early := none,
                               routes := [(b, p.st.adc.routing)] } }

end Sys2Proof.Machine
end

