-- ==== Sys2Proof/Machine/GateEvents.lean ====
section
/-! DEFINITION. Meanings of the gate-drive events of a pod (chapter 3). -/

namespace Sys2Proof.Machine

/-- The routing of a powered pod that calibrates nothing (R313, R314). -/
def Pod.restRouting (p : Pod) : Routing := if p.st.pod = .parked ∨ p.st.pod = .linking then .burst else .normal

/-- The end of CAL or of a recalibration, with its result. -/
def Pod.calEnd (p : Pod) (result : Nat) : Pod :=
  { p with adc := { p.adc with calFrom := none }, st := { p.st with adc := { p.st.adc with cal := result, calN := p.st.adc.calN + 1 } } }

def Pod.recalEnd (p : Pod) (result : Nat) : Pod :=
  { p with adc := { p.adc with recalFrom := none, coverFrom := none },
           st := { p.st with adc := { p.st.adc with recal := result, recalN := p.st.adc.recalN + 1 } } }

/-- Urgent requests that waited for the end of CAL (R301). -/
def Pod.startWaiting (p : Pod) (t : Nat) : Pod :=
  p.adc.waiting.foldl (fun p u => p.startRun u t) { p with adc := { p.adc with waiting := [] } }

/-- CAL and recalibration end with ABORTED and load nothing (R307, R312). -/
def Pod.abortCal (p : Pod) (t : Nat) : Pod :=
  if p.adc.calFrom.isSome then ((p.calEnd 4).route p.restRouting t).startWaiting t
  else if p.adc.recalFrom.isSome then (p.recalEnd 4).route p.restRouting t
  else p

/-- A side in a turn-on phase, in static hold or regulated (R72). -/
def GPhase.conducts (g : GPhase) : Bool := g.turningOn || g == .staticHold || g == .regulated

def Pod.conducts (p : Pod) : Bool := GPhase.conducts p.st.gIn.phase || GPhase.conducts p.st.gOut.phase

/-- UVLO asserts: status bit; a conducting stack trips with GATE_UVLO and SOFT (R70 to R73). -/
def Pod.uvloOn (p : Pod) (vneg : Bool) (t : Nat) : Pod :=
  let p := p.gbit (if vneg then 1 else 0) true
  let p := if vneg then p else p.abortCal t
  if p.conducts && !p.barrierLost && (!vneg || p.prmB OD.CH_VNEG_USE) then p.trip .gateUvlo .soft t else p

/-- A gate supply as its detector has found it. -/
def Pod.supply (p : Pod) (vneg : Bool) (mv : Int) : Pod := if vneg then { p with vneg := mv } else { p with vpos := mv }

/-- A level beyond the assert or the clear threshold of a detector: 14.5 V and 15.5 V of VPOS, −1.5 V and −2.0 V of VNEG (R70). -/
def uvloLow (vneg : Bool) (mv : Int) : Bool := if vneg then decide (-1500 < mv) else decide (mv < 14500)
def uvloGood (vneg : Bool) (mv : Int) : Bool := if vneg then decide (mv < -2000) else decide (15500 < mv)

/-- UVLO_ASSERT: the supply has been at `mv`, beyond the threshold, since `since`, for the whole 2 µs filter (R70). -/
def execUvloAssert (c : Chan) (vneg : Bool) (mv : Int) (since : Nat) (t : Nat) (s : State) : Result :=
  .next (s.podEvent c t (fun p t => p.st.hvOn && uvloLow vneg mv && decide (since + 2000 ≤ t))
    fun p t => (p.supply vneg mv).uvloOn vneg t)

/-- UVLO_CLEAR (R70). -/
def execUvloClear (c : Chan) (vneg : Bool) (mv : Int) (since : Nat) (t : Nat) (s : State) : Result :=
  .next (s.podEvent c t (fun p t => p.st.hvOn && uvloGood vneg mv && decide (since + 2000 ≤ t))
    fun p _ => (p.supply vneg mv).gbit (if vneg then 1 else 0) false)

/-- STACK_TURN_ON: the whole-stack turn-on that stands starts, ordered by the codes delivered by then (R74, R77 to R79, R91, R280). -/
def execStackTurnOn (c : Chan) (ic vc : List Raw) (t : Nat) (s : State) : Result :=
  .next (s.podEvent c t
    (fun p t => p.st.hvOn && p.waitOn == some .whole && p.canTurnOn .whole t && !p.busyForStart)
    fun p t => (p.upTo ic vc t).turnOnWhole t)

/-- A turn-on waits for tests and calibration; the confirmation of a suspect is part of its stack test (R211, R215, R307). -/
def Pod.freeToTurnOn (p : Pod) : Bool := p.tests.confirmSide.isSome || !p.busyForStart

/-- TURN_ON_AFTER_CLAMP: a waiting turn-on starts once the sides it names have been in static clamp for 1 µs (R77, R91, R280). -/
def execTurnOnAfterClamp (c : Chan) (ic vc : List Raw) (t : Nat) (s : State) : Result :=
  .next (s.podEvent c t
    (fun p t => p.st.hvOn && p.freeToTurnOn && (match p.waitOn with
      | some a => p.canTurnOn a t
      | none => false))
    fun p t => match p.waitOn with
      | some a => (p.upTo ic vc t).turnOn a t
      | none => p)

/-- GATE_LEVEL_REACHED (R74 to R76, R78, R83, R85, R118). -/
def execGateLevelReached (c : Chan) (side : Side) (mv : Int) (t : Nat) (s : State) : Result :=
  .next (s.podEvent c t (fun p _ => p.st.hvOn) fun p t => p.level side mv t)

/-- 200 ns have passed since a strong stage reached its level (R74, R85). -/
def Gate.strongDone (g : Gate) (ph : GPhase) (t : Nat) : Bool :=
  g.phase == ph && (match g.levelAt with
    | some t0 => decide (t0 + 200 ≤ t)
    | none => false)

/-- STRONG_HOLD_END (R74, R98). -/
def execStrongHoldEnd (c : Chan) (side : Side) (t : Nat) (s : State) : Result :=
  .next (s.podEvent c t (fun p t => (p.gate side).strongDone .strongHold t) fun p t => p.toStaticHold side t)

/-- STRONG_CLAMP_END (R85, R227). -/
def execStrongClampEnd (c : Chan) (side : Side) (t : Nat) (s : State) : Result :=
  .next (s.podEvent c t (fun p t => (p.gate side).strongDone .strongClamp t) fun p t => p.clampEntered side t)

/-- The time limit of a phase has expired. -/
def Gate.expired (g : Gate) (t : Nat) : Bool :=
  match g.limitAt with
  | some l => decide (l ≤ t)
  | none => false

/-- BOOST_TIME_LIMIT: FAST off, GATE_UVLO, gate-fault bit (R80). -/
def execBoostTimeLimit (c : Chan) (side : Side) (t : Nat) (s : State) : Result :=
  .next (s.podEvent c t
    (fun p t => ((p.gate side).phase == .boost || (p.gate side).phase == .strongHold) && (p.gate side).expired t)
    fun p t => (p.gbit (faultBit side) true).trip .gateUvlo .fast t)

/-- Cause of a turn-on that ends on its slewing side (R81, R124). -/
def desatOf : Side → Cause
  | .inS => .desatIn
  | .outS => .desatOut

/-- SLEW_LIMIT_EXPIRED: NORMAL off, DESAT by the side whose limit expires first, IN on a tie (R81). -/
def execSlewLimitExpired (c : Chan) (side : Side) (t : Nat) (s : State) : Result :=
  .next (s.podEvent c t
    (fun p t => (p.gate side).phase == .slewOn && (p.gate side).expired t)
    fun p t =>
      let tie := p.st.gIn.phase == .slewOn && (match p.st.gIn.limitAt, (p.gate side).limitAt with
        | some a, some b => decide (stepOf a ≤ stepOf b)
        | _, _ => false)
      (p.gbit 7 true).trip (if tie then .desatIn else desatOf side) .normal t)

/-- FORCED_CLAMP: strong CLAMP at once, bit 6 (R86). -/
def execForcedClamp (c : Chan) (side : Side) (t : Nat) (s : State) : Result :=
  .next (s.podEvent c t
    (fun p t => ((p.gate side).phase == .dump || (p.gate side).phase == .slewOff) && (p.gate side).expired t)
    fun p t => (p.gbit 6 true).strongClamp side t)

/-- GATE_UVLO from a strong CLAMP that fails: a trip unless the channel is already TRIPPED, LATCHED or DAMAGED (R87). -/
def Pod.clampFault (p : Pod) (x : Side) (t : Nat) : Pod :=
  let p := (p.gbit (faultBit x) true).setGate x { p.gate x with limitAt := none }
  if p.st.ch.faulted || p.st.kept.faulted then p
  else if p.coll.isOpen || raisedIn .gateUvlo p.st.ch then p.trip .gateUvlo .soft t
  else if p.st.ch = .off then
    { p with coll := { isOpen := true, gate := true, due := true }, acked := false,
             st := { p.st with trip := p.st.trip.fresh .gateUvlo t, fltq := true } }
  else p

/-- CLAMP_GATE_FAULT (R87). -/
def execClampGateFault (c : Chan) (side : Side) (t : Nat) (s : State) : Result :=
  .next (s.podEvent c t
    (fun p t => (p.gate side).phase == .strongClamp && (p.gate side).expired t) fun p t => p.clampFault side t)

/-- BARRIER_SIGNAL_LOSS: SUPPLY_LOSS on both sides; the UVLO detectors are ignored from then on (R92). -/
def execBarrierSignalLoss (c : Chan) (t : Nat) (s : State) : Result :=
  .next (s.podEvent c t (fun p _ => p.st.hvOn) fun p t => { p.off .supplyLoss t with barrierLost := true })

/-- The byte of `CH_CMPCFG` of a comparator bit (R178). -/
def Pod.cmpCfg (p : Pod) (i : Nat) : Nat := if i < 8 then p.prm OD.CH_CMPCFG i else p.prm OD.CH_CMPCFG_BUS (i - 8)

/-- Comparator senses when the cells power up: PESSIMISTIC starts active, MIDPOINT as the input compares with the middle of its
band (R352 to R354). -/
def Pod.initCmp (p : Pod) (mid : Nat) : Nat :=
  (List.range 11).foldl (fun m i => m + bitAt (if (p.cmpCfg i).testBit 5 then mid.testBit i else true) i) 0

/-- What the converters hold of their inputs when the HV side powers up (R295, R296, R306). VDO and VDN have no sampling instant yet:
the model takes 0, so that the age of R328 is the whole time base until both have been converted (DESIGN CHOICE, log 107). -/
def PodAdc.afresh (a : PodAdc) : PodAdc :=
  let eight : Settle := { shunt := 8, vdi := 8, vdo := 8, vdn := 8, ntc := 8, int := 8, ic := 4, vc := 4 }
  { a with settle := a.settle.merge eight, settleNext := none, early := none, loadAt := none, held := {},
           intNode := 0, intCount := 0, intSum := 0, intN := 0, dwells := [], inFlight := [], fed := [], lastShunt := none,
           icWords := [], wins := [], winFrom := none, runs := [], waiting := [] }

/-- The HV side powers up: UVLO asserted, static clamp, depletion clamps released at 10 V, converters settle, factors
load; routing follows a start-up of 4 µs (R70, R94, R296, R306, R313, R314). -/
def Pod.hvUp (p : Pod) (vpos vneg : Int) (mid t : Nat) : Pod :=
  let p := { p with vpos := vpos, vneg := vneg, barrierLost := false, midCmp := mid, adc := p.adc.afresh }
  let p : Pod := { p with st :=
    { p.st with hvOn := true, gstat := p.st.gstat ||| 3, meas := {}, tStatic := some t,
                prot := { p.st.prot with cmpOut := p.initCmp mid, window := 0 },
                gIn := { p.st.gIn with mv := vneg }.enter .staticClamp t,
                gOut := { p.st.gOut with mv := vneg }.enter .staticClamp t } }
  let p : Pod := if p.st.pod = .parked ∨ p.st.pod = .linking then { p with adc := { p.adc with burstAt := t } }.route .burst t
    else { p with adc := { p.adc with wakeAt := some (ceilTick (t + 4000)) } }
  let since (k : PodCmp) : Option Nat := if p.st.prot.cmpOut.testBit k.bit then some t else none
  { p with tests := { p.tests with stackAt := some (t + p.prm OD.CH_TDECAY * 1000000), uvFrom := since .buswUv, ovFrom := since .buswOv } }

/-- HV_POWER_UP: the depletion clamps stay until VPOS − VNEG is at or above 10 V (R94). -/
def execHvPowerUp (c : Chan) (vpos vneg : Int) (mid : Nat) (t : Nat) (s : State) : Result :=
  .next (s.podEvent c t
    (fun p _ => p.st.pod != .unpowered && !p.st.hvOn && decide (10000 ≤ vpos - vneg)) fun p t => p.hvUp vpos vneg mid t)

/-- The HV side powers down: depletion clamps, no conversion, no reading (R71, R93, R94, R313). -/
def Pod.hvDown (p : Pod) (t : Nat) : Pod :=
  let p := if p.conducts then p.trip .gateUvlo .soft t else p
  let p := (p.abortCal t).pgLost
  let p := (p.setGate .inS ({ p.gate .inS with lead := false, mv := 0 }.enter .depletion t))
  let p := (p.setGate .outS ({ p.gate .outS with lead := false, mv := 0 }.enter .depletion t))
  let p := p.route .off t
  { p with turnOff := none, waitOn := none, onSides := 0, limited := none, limitExit := none, limitEnds := false,
           limitFull := none, oclSafe := none, limitCut := none,
           adc := { p.adc.afresh with settle := p.adc.settle, wakeAt := none },
           blankIn := none, blankOut := none, dsArmed := 0, coll := { p.coll with isOpen := p.coll.isOpen && !p.coll.gate },
           tests := { p.tests with stackAt := none, stackRun := false, tieLeft := [], ties := [], onlineLeft := [], member := none,
                                   outpFrom := none, tiesDue := false, uvFrom := none, ovFrom := none,
                                   confirmSide := none, confirmAsked := false, confirmCodes := none },
           st := { p.st with hvOn := false, meas := {}, oring := .off, tStatic := none,
                             prot := { p.st.prot with tieRun := false, cmpOut := 0, window := 0, ftAcc := 0, confirmDue := false } } }

/-- HV_POWER_DOWN (R93, R94). -/
def execHvPowerDown (c : Chan) (t : Nat) (s : State) : Result :=
  .next (s.podEvent c t (fun p _ => p.st.hvOn) fun p t => p.hvDown t)

end Sys2Proof.Machine
end

