-- ==== Sys2Proof/Machine/Thermistor.lean ====
section
/-! DEFINITION. The stack temperature from the NTC conversions: the pin's drive and the B-parameter equation (R52, R203, R580). -/

namespace Sys2Proof.Machine

/-- Bits of a binary logarithm: `m` is the mantissa in [1, 2) with 48 fraction bits. -/
def logBits : Nat → Nat → Nat → Nat
  | 0, _, acc => acc
  | n + 1, m, acc =>
    let q := m * m / 2 ^ 48
    if 2 ^ 49 ≤ q then logBits n (q / 2) (2 * acc + 1) else logBits n q (2 * acc)

/-- ln(num / den) with 32 fraction bits, for positive operands (log 6). -/
def lnFix (num den : Nat) : Int :=
  let v := num * 2 ^ 96 / den
  let e := Nat.log2 v
  let m := v * 2 ^ 48 / 2 ^ e
  let l : Int := ((e : Int) - 96) * 2 ^ 32 + logBits 32 m 0
  l * 2977044472 / 2 ^ 32

/-- Temperature in °C of a thermistor of resistance `num / den` ohms with the data of R52, rounded to the nearest degree:
1 / T = 1 / 298.15 K + ln(R / R25) / B (R203, log 6). -/
def bParameter (num den r25 beta : Nat) : Int :=
  let l := lnFix num (den * r25)
  let d : Int := 20 * 2 ^ 32 * beta + 5963 * l
  if d ≤ 0 then 1000 else (2 * (100 * (5963 * 2 ^ 32 * (beta : Int)) - 27315 * d) + 100 * d) / (200 * d)

/-- Temperature from the sum of `n` codes of the NTC pin, which 10 kΩ bias from 1.800 V (28 800 codes): at or below 0 V a shorted
thermistor, at or above 1.800 V an open one (R203, R205, R580). -/
def ntcTemp (sum : Int) (n r25 beta : Nat) : Int :=
  if sum ≤ 0 then 1000
  else if 28800 * (n : Int) ≤ sum then -273
  else bParameter (10000 * sum.toNat) (28800 * n - sum.toNat) r25 beta

end Sys2Proof.Machine
end

