-- ==== Sys2Proof/Machine/Protection.lean ====
section
/-! DEFINITION. Channel protection in the pod (chapter 6): comparators, current limit, fault timer, thermal checks,
damaged-switch recognition, self-tests. -/

namespace Sys2Proof.Machine

/-- A comparator reaches its active sense; an active sense that its initialisation set is captured by nobody (R177, R187, R197,
R355). -/
def Pod.crossed (p : Pod) (k : PodCmp) : Pod :=
  if p.st.prot.cmpOut.testBit k.bit then p
  else
    { p with st := { p.st with prot := { p.st.prot with cmpOut := setBit p.st.prot.cmpOut k.bit true,
                                                        cmpCapt := setBit p.st.prot.cmpCapt k.bit true } } }

/-- Protection runs with the HV side powered, in ACTIVE and HOLD alike (R176). -/
def Pod.guarded (p : Pod) (_t : Nat) : Bool := p.st.hvOn

/-- A tie test of cell `k` runs, since before `t`; a side out of static clamp has ended it (R219, R366). -/
def Pod.tied (p : Pod) (k : PodCmp) (t : Nat) : Bool :=
  p.st.prot.tieRun && p.bothClamped && p.tests.tieLeft.head? == some k && decide (p.tests.tieFrom ≤ t)

/-- A crossing of cell `k` at `t` is not seen: the member under online test is masked, and a cell under tie test (R217, R366). -/
def Pod.masked (p : Pod) (k : PodCmp) (t : Nat) : Bool := p.tests.member == some k || p.tied k t

/-- SC2_TRIP. -/
def execSc2Trip (c : Chan) (t : Nat) (s : State) : Result :=
  .next (s.podEvent c t (fun p t => p.guarded t && !p.masked .sc2 t) fun p t => (p.crossed .sc2).trip .sc2 .fast t)

/-- The other member of a duplicated pair (R177). -/
def PodCmp.partner : PodCmp → Option PodCmp
  | .sc1a => some .sc1b
  | .sc1b => some .sc1a
  | .ocla => some .oclb
  | .oclb => some .ocla
  | _ => none

/-- A member acts on a real crossing; a test of its partner is then void (R218). -/
def Pod.acted (p : Pod) (k : PodCmp) : Pod :=
  if p.tests.member.isSome && p.tests.member == PodCmp.partner k then { p with tests := { p.tests with partnerActed := true } } else p

/-- A comparator has been active since `since` for the whole of its filter (R179). -/
def filterDone (since filter t : Nat) : Bool := decide (since + filter ≤ t)

def sc1Of (memberB : Bool) : PodCmp := if memberB then .sc1b else .sc1a
def oclOf (memberB : Bool) : PodCmp := if memberB then .oclb else .ocla

/-- SC1_TRIP: either member acts after `CH_TSC1` unless it is under test (R177, R179, R196, R217). -/
def execSc1Trip (c : Chan) (memberB : Bool) (since : Nat) (t : Nat) (s : State) : Result :=
  .next (s.podEvent c t
    (fun p t => p.guarded t && !p.masked (sc1Of memberB) since && filterDone since (p.prmSince since OD.CH_TSC1 * 5) t)
    fun p t => ((p.crossed (sc1Of memberB)).acted (sc1Of memberB)).trip .sc1 .fast t)

/-- Either side out of static clamp. -/
def Pod.anyOut (p : Pod) : Bool := !p.bothClamped

/-- REVERSE_TRIP: after `CH_TREV`, with `CH_REV_EN` 1 and a side out of clamp; in an engine R269 acts in its place (R197). -/
def execReverseTrip (c : Chan) (since : Nat) (t : Nat) (s : State) : Result :=
  .next (s.podEvent c t
    (fun p t => p.guarded t && !p.masked .rev since && filterDone since (p.prmSince since OD.CH_TREV * 5) t) fun p t =>
    let p := p.crossed .rev
    if p.prmB OD.CH_REV_EN && p.anyOut && p.orTarget.isNone then p.trip .reverse .fast t else p)

def dsBit : Side → Nat
  | .inS => 0
  | .outS => 1

def dsCmp : Side → PodCmp
  | .inS => .dsi
  | .outS => .dso

/-- DESAT_TRIP: after 50 ns, armed from the end of blanking while the side is in turn-on HOLD (R177, R194 to R196). -/
def execDesatTrip (c : Chan) (side : Side) (since : Nat) (t : Nat) (s : State) : Result :=
  .next (s.podEvent c t (fun p t => p.guarded t && filterDone since 50 t) fun p t =>
    let p := p.crossed (dsCmp side)
    if p.dsArmed.testBit (dsBit side) && (p.gate side).phase.inHold then p.trip (desatOf side) .fast t else p)

def Pod.blank (p : Pod) : Side → Option Nat
  | .inS => p.blankIn
  | .outS => p.blankOut

/-- DESAT_BLANKING_END (R194). -/
def execDesatBlankingEnd (c : Chan) (side : Side) (t : Nat) (s : State) : Result :=
  .next (s.podEvent c t
    (fun p t => (p.gate side).phase.inHold && (match p.blank side with
      | some b => decide (b ≤ t)
      | none => false))
    fun p _ => { p.endBlank side with dsArmed := setBit p.dsArmed (dsBit side) true })

/-- BUS_OV_TRIP: after `CH_TBUSW`, in STARTING, ON and LIMITING; a cell that holds its output after a change of speed acts by the
sense that it holds. A channel of role NONE never runs, so its window trips nothing (R199, R202, R350). -/
def execBusOvTrip (c : Chan) (since : Nat) (t : Nat) (s : State) : Result :=
  .next (s.podEvent c t
    (fun p t => p.guarded t && (p.holdOv.isNone || p.st.prot.cmpOut.testBit 10) &&
      filterDone since (p.prmSince since OD.CH_TBUSW * 1000) t) fun p t =>
    let p := p.crossed .buswOv
    if p.st.ch.running then p.trip .busOv .normal t else p)

/-- BUS_UV_TRIP: in ON and LIMITING; no trip action while a discharge request suspends it (R170, R202, R350). -/
def execBusUvTrip (c : Chan) (since : Nat) (t : Nat) (s : State) : Result :=
  .next (s.podEvent c t
    (fun p t => p.guarded t && (p.holdUv.isNone || p.st.prot.cmpOut.testBit 9) &&
      filterDone since (p.prmSince since OD.CH_TBUSW * 1000) t) fun p t =>
    let p := p.crossed .buswUv
    if !p.held.uvHold && (p.st.ch == .on || p.st.ch == .limiting) then p.trip .busUv .normal t else p)

/-! ## Current limit and fault timer -/

/-- OCL is armed in turn-on SLEW, turn-on HOLD and regulation (R177, R187). -/
def oclArms (g : GPhase) : Bool := g == .slewOn || g.inHold || g == .regulated

/-- Length of a count period in ns (R190). -/
def Pod.ftPeriod (p : Pod) : Nat := if p.prm OD.CH_FT_PRESC = 0 then 1000 else 16000

/-- LIMIT_TIMEOUT: a trip of a running channel, else the turn-off of what a per-side command has turned on (R96, R190). -/
def Pod.limitTrip (p : Pod) (t : Nat) : Pod :=
  if p.st.ch.running then (p.toState .limiting).trip .limitTimeout .normal t else p.trigger .normal t

/-- Entry into current limit: the blocking side is regulated, or with a count of 0 the channel trips at once. A count period of
16 µs is taken to start at the tick boundary at or before the entry: the spec says only that each period starts on a tick
boundary, not that the periods form a grid of their own (DESIGN CHOICE, log 78) (R84, R183, R190, R191, R268). -/
def Pod.limitEntry (p : Pod) (negative : Bool) (t : Nat) : Pod :=
  let p := { p with st := { p.st with counts := { p.st.counts with limits := p.st.counts.limits + 1 } } }
  if p.prm OD.CH_FT_COUNT = 0 then p.limitTrip t
  else
    let x : Side := if negative && p.orTarget.isNone then .outS else .inS
    let p := (p.pgLost.endBlank x).setGate x ((p.gate x).enter .regulated t)
    { p with limited := some x, limitExit := none, limitEnds := false, limitFull := none, oclSafe := none,
             periodFrom := t / 1000 * 1000, periodAt := t / 1000 * 1000 + p.ftPeriod }

/-- CURRENT_LIMIT_ENTRY: a member that acts while a side is in turn-on SLEW, turn-on HOLD or regulated, be it on by per-side
command (R177, R183). -/
def execCurrentLimitEntry (c : Chan) (memberB : Bool) (negative : Bool) (t : Nat) (s : State) : Result :=
  .next (s.podEvent c t (fun p t => p.guarded t && !p.masked (oclOf memberB) t) fun p t =>
    let p := p.crossed (oclOf memberB)
    if p.turnOff.isNone && (oclArms p.st.gIn.phase || oclArms p.st.gOut.phase) then
      if p.limited.isNone then (p.acted (oclOf memberB)).limitEntry negative t
      else { (p.acted (oclOf memberB)) with oclSafe := none }.exitRule
    else p)

/-- CURRENT_LIMIT_EXIT: the qualification completes; the end waits for the count period (R185). -/
def execCurrentLimitExit (c : Chan) (t : Nat) (s : State) : Result :=
  .next (s.podEvent c t
    (fun p t => p.limited.isSome && (match p.limitExit with
      | some f => filterDone f (p.prmSince f OD.CH_TLIM_EXIT * 1000) t
      | none => false))
    fun p _ => { p with limitEnds := true })

/-- The value that a count period which began at `from_` keeps (R223). -/
def Pod.bandEdge (p : Pod) (from_ : Nat) (o : Obj) : Nat := p.prmSince from_ o * 1000000

/-- Band and weight of the regulated side's |Vds|: weight 8 without a sample younger than 2 µs (R188). -/
def Pod.band (p : Pod) (x : Side) (from_ t : Nat) : Nat × Nat :=
  let sm := match x with
    | .inS => p.st.meas.vdi
    | .outS => p.st.meas.vdo
  if sm.ok && decide (t < sm.at_ + 2000) then
    let v := sm.v.natAbs
    if v < p.bandEdge from_ OD.CH_FTB1 then (0, 1)
    else if v < p.bandEdge from_ OD.CH_FTB2 then (1, 2)
    else if v < p.bandEdge from_ OD.CH_FTB3 then (2, 4)
    else (3, 8)
  else (3, 8)

/-- The current limit ends: the regulated side re-enters turn-on HOLD by its strong stage; a slewing side that waits for it starts
(R78, R84, R119, R185, R192). -/
def Pod.limitOver (p : Pod) (t : Nat) : Pod :=
  let p := match p.limited with
    | some x => (p.strongHold x t).startSlewing x t
    | none => p
  let p := { p with limited := none, limitExit := none, limitEnds := false, limitFull := none, oclSafe := none,
                    st := { p.st with prot := { p.st.prot with ftAcc := 0 } } }
  if p.st.ch = .limiting then p.toState (if p.pgSince then .on else .starting) else p

/-- A count period ends: in LIMITING the weight is added, then the trip or the end of the limit applies. A limit of a side that a
per-side command has turned on in OFF, or in a fault state, is not LIMITING and is not counted (R185, R190, R193). -/
def Pod.periodEnd (p : Pod) (x : Side) (t : Nat) : Pod :=
  let bw := p.band x p.periodFrom t
  let acc := p.st.prot.ftAcc + bw.2
  let count := p.prmSince p.periodFrom OD.CH_FT_COUNT
  let p := { p with periodFrom := p.periodAt, periodAt := p.periodAt + p.ftPeriod }
  let p := if p.st.ch.running then
      { p with st := { p.st with prot := { p.st.prot with ftAcc := acc, ftBand := bw.1, ftPeak := max p.st.prot.ftPeak acc } } }
    else p
  if p.st.ch.running && decide (count ≤ acc) then p.limitTrip t
  else if p.limitEnds then p.limitOver t
  else p

/-- A count period that ends in the very step in which SC1 or SC2 has ended the limit: LIMIT_TIMEOUT joins the set (R193,
R231). -/
def Pod.periodCut (p : Pod) (x : Side) (acc t : Nat) : Pod :=
  let bw := p.band x p.periodFrom t
  let p := { p with limitCut := none,
                    st := { p.st with prot := { p.st.prot with ftBand := bw.1, ftPeak := max p.st.prot.ftPeak (acc + bw.2) } } }
  if p.prmSince p.periodFrom OD.CH_FT_COUNT ≤ acc + bw.2 && p.coll.isOpen then p.joinTrip .limitTimeout .normal t else p

/-- The limit was ended by a turn-off in this step. -/
def cutNow (cut : Option (Side × Nat × Nat)) (t : Nat) : Bool :=
  match cut with
  | some e => decide (stepOf e.2.1 = stepOf t)
  | none => false

/-- FAULT_TIMER_PERIOD_END, on the codes delivered by then (R188, R190, R280). -/
def execFaultTimerPeriodEnd (c : Chan) (ic vc : List Raw) (t : Nat) (s : State) : Result :=
  .next (s.podEvent c t (fun p t => (p.limited.isSome || cutNow p.limitCut t) && decide (p.periodAt ≤ t)) fun p t =>
    let p := p.upTo ic vc t
    match p.limited, p.limitCut with
    | some x, _ => p.periodEnd x t
    | none, some e => p.periodCut e.1 e.2.2 t
    | none, none => p)

/-! ## Thermal -/

/-- Set or clear a bit of `CH_DMG_DETAIL` at the pod. -/
def Pod.detail (p : Pod) (i : Nat) (b : Bool) : Pod :=
  { p with st := { p.st with prot := { p.st.prot with detail := setBit p.st.prot.detail i b } } }

/-- One evaluation: the mean of the valid conversions, or the previous result; the fifth miss is an NTC fault
(R203, R205, R308). -/
def Pod.readNtc (p : Pod) : Int × Nat :=
  if 0 < p.adc.ntcN then (ntcTemp p.adc.ntcSum p.adc.ntcN (p.prm OD.CH_NTC_R25) (p.prm OD.CH_NTC_BETA), 0)
  else if 5 ≤ p.tests.ntcMiss + 1 then (0x7FFF, p.tests.ntcMiss + 1)
  else (p.st.meas.tempStack, p.tests.ntcMiss + 1)

/-- An NTC reading that is a fault: outside −55 °C to +200 °C, or none for five evaluations (R205, R308). -/
def ntcFault (temp : Int) (miss : Nat) : Bool :=
  if miss = 0 then decide (temp < -55) || decide (200 < temp) else decide (5 ≤ miss)

/-- THERMAL is raised once per excursion, at the first evaluation in a state that permits it (R204). -/
def Pod.thermalTrip (p : Pod) (t : Nat) : Pod :=
  if p.tests.tripExc && !p.tests.tripRaised && raisedIn .thermal p.st.ch then
    { p with tests := { p.tests with tripRaised := true } }.trip .thermal .normal t
  else p

/-- The evaluation of one millisecond (R203 to R205, R308). -/
def Pod.thermal (p : Pod) (t : Nat) : Pod :=
  let r := p.readNtc
  let fault := ntcFault r.1 r.2
  let known := fault || r.1 != 0x7FFF
  let hyst : Int := p.prm OD.CH_THYST
  let hot := fault || (known && decide (p.prmI OD.CH_TTRIP ≤ r.1))
  let cool := !fault && decide (r.1 < p.prmI OD.CH_TTRIP - hyst)
  let warm := r.1 != 0x7FFF && decide (p.prmI OD.CH_TWARN ≤ r.1)
  let calm := decide (r.1 < p.prmI OD.CH_TWARN - hyst)
  let begins := warm && !p.tests.warnExc
  let trips := hot || (p.tests.tripExc && !cool)
  let p : Pod :=
    { p with adc := { p.adc with ntcSum := 0, ntcN := 0 },
             tests := { p.tests with thermAt := t, ntcMiss := r.2, warnExc := warm || (p.tests.warnExc && !calm), tripExc := trips,
                                     tripRaised := p.tests.tripRaised && trips },
             st := { p.st with meas := { p.st.meas with tempStack := r.1 },
                               counts := { p.st.counts with warns := p.st.counts.warns + (if begins then 1 else 0) } } }
  (p.detail 5 fault).thermalTrip t

/-- THERMAL_EVALUATION: every 1 ms, on a tick boundary; with the HV side unpowered there is no reading (R203, R313). -/
def execThermalEvaluation (c : Chan) (s : State) : Result :=
  .next (s.podEvent c s.now (fun p t => p.guarded t && decide (t % tickNs = 0) && decide (p.tests.thermAt + msNs ≤ t))
    fun p t => p.thermal t)

/-- DIE_OVER_TEMPERATURE (R206). -/
def execDieOverTemperature (c : Chan) (t : Nat) (s : State) : Result :=
  .next (s.podEvent c t Pod.guarded fun p t => p.trip .thermal .normal t)

/-! ## Output present -/

/-- An armed OUTP that lasts: DAMAGED_OUT, or a foreign output (R209). The spec does not say what V(IN) − V(DC−) is without a valid
sample: the model takes the stored value, 0 after a power-up, which reads as a foreign output (DESIGN CHOICE, log 79). -/
def Pod.outputPresent (p : Pod) (t : Nat) : Pod :=
  let p := { p with tests := { p.tests with outpDone := true } }
  if (p.prm OD.CH_VOUTP : Int) * 100000 ≤ p.st.meas.vin then (p.detail 0 true).trip .damagedOut .normal t
  else
    let p := p.detail 4 true
    { p with st := { p.st with counts := { p.st.counts with foreign := p.st.counts.foreign + 1 } } }

/-- OUTPUT_PRESENT, on the codes delivered by then (R208, R209, R280). -/
def execOutputPresent (c : Chan) (ic vc : List Raw) (t : Nat) (s : State) : Result :=
  .next (s.podEvent c t
    (fun p t => p.st.prot.outpArmed && !p.tests.outpDone && (match p.tests.outpFrom with
      | some f => decide (f + 1000000 ≤ t)
      | none => false))
    fun p t => (p.upTo ic vc t).outputPresent t)

/-! ## Stack test, source-node check, confirmation -/

/-- States in which stack tests run (R214). -/
def testable (ch : ChState) : Bool := ch == .off || ch.faulted

/-- Neither CAL nor the settling of its load runs (R307). -/
def Pod.settled (p : Pod) : Bool := p.adc.settled

/-- A stack test falls due, in every pod state with the HV side powered but LINKING (R214, R215, R307, R411). -/
def Pod.stackDue (p : Pod) (t : Nat) : Bool :=
  p.st.hvOn && testable p.st.ch && p.bothClamped && !p.held.testHold && p.settled && !p.st.prot.tieRun &&
  !p.tests.stackRun && p.st.pod != .unpowered && p.st.pod != .linking && (match p.tests.stackAt with
    | some a => decide (a ≤ t)
    | none => false)

/-- The tie tests begin at `t`; no side leaves static clamp by command until they end (R219). -/
def Pod.startTies (p : Pod) (t : Nat) : Pod :=
  { p with tests := { p.tests with tieLeft := PodCmp.tied, tieFrom := t }, st := { p.st with prot := { p.st.prot with tieRun := true } } }

/-- The tie tests at an entry into ACTIVE, of a stack that is off; during CAL they wait (R219, R307). -/
def Pod.tiesAtActive (p : Pod) (t : Nat) : Pod :=
  if p.st.hvOn && p.bothClamped && !p.st.prot.tieRun && !p.tests.stackRun then
    if p.settled then p.startTies t else { p with tests := { p.tests with tiesDue := true } }
  else p

/-- Tie tests that waited for the end of CAL. -/
def Pod.settleTies (p : Pod) (t : Nat) : Pod :=
  if p.tests.tiesDue && p.settled then { p with tests := { p.tests with tiesDue := false } }.tiesAtActive t else p

/-- STACK_TEST: the urgent conversion; source-node check and tie tests follow its results (R214). -/
def execStackTest (c : Chan) (t : Nat) (s : State) : Result :=
  .next (s.podEvent c t Pod.stackDue fun p t =>
    let p := p.askUrgent .stackTest t
    { p with tests := { p.tests with stackRun := true, stackAt := some (t + p.prm OD.CH_STEST_PER * 1000000) } })

/-- Side that a stack voltage puts in the blocking position, and whether it reads shorted, from two codes (R210). -/
def Pod.nodeCheck (p : Pod) (vdi vdo : Int) : Option (Side × Bool) :=
  let vi := vUv (p.prm OD.CH_KDIV_IN) vdi
  let vo := vUv (p.prm OD.CH_KDIV_OUT) vdo
  if 60000000 ≤ vi - vo then some (.inS, decide (vi.natAbs ≤ 2000000))
  else if 60000000 ≤ vo - vi then some (.outS, decide (vo.natAbs ≤ 2000000))
  else none

/-- The source-node check of a stack test: a side that reads shorted is suspect (R210, R211). -/
def Pod.sourceNode (p : Pod) (vdi vdo : Int) : Pod :=
  match p.nodeCheck vdi vdo with
  | some (x, true) =>
    if (p.prm OD.CH_DMG_EN).testBit 1 && (p.gate x).phase == .staticClamp then
      { p with st := { p.st with prot := { p.st.prot with suspect := some x } } }.detail 3 true
    else p
  | _ => p

/-- The end of a stack test. -/
def Pod.stackOver (p : Pod) : Pod :=
  if p.tests.stackRun then
    { p with tests := { p.tests with stackRun := false },
             st := { p.st with counts := { p.st.counts with stackTests := p.st.counts.stackTests + 1 } } }
  else p

/-- The tie tests have ended: a suspect goes to its confirmation, in HOLD only after adoption (R211, R212, R214). -/
def Pod.tiesOver (p : Pod) : Pod :=
  let p := { p with tests := { p.tests with tieLeft := [] }, st := { p.st with prot := { p.st.prot with tieRun := false } } }
  if p.st.prot.suspect.isSome then
    let p := { p with st := { p.st with prot := { p.st.prot with confirmDue := true } } }
    if p.st.pod = .active then p else p.stackOver
  else p.stackOver

/-- A failed test: its bit and SELFTEST_FAIL (R218, R219). -/
def Pod.testFailed (p : Pod) (k : PodCmp) (t : Nat) : Pod :=
  let p := { p with st := { p.st with prot := { p.st.prot with selftestFail := setBit p.st.prot.selftestFail k.bit true } } }
  p.trip .selftestFail .normal t

/-- The test limit of a cell: 100 ns, or four responses of its speed mode (R366). -/
def Pod.tieLimit (p : Pod) (k : PodCmp) : Nat := if k.bit < 8 then 100 else 4 * speedNs (p.cmpCfg k.bit / 8 % 4)

/-- One tie test ends; the next one begins. A side out of static clamp ends it without a result and drops the rest (R219). -/
def Pod.tieEnd (p : Pod) (k : PodCmp) (pass : Bool) (t : Nat) : Pod :=
  if p.bothClamped then
    let left := p.tests.tieLeft.erase k
    let p := { p with tests := { p.tests with tieLeft := left, tieFrom := t, ties := p.tests.ties ++ [(k, p.tests.tieFrom, t)] } }
    let p := if pass then p else p.testFailed k t
    if left.isEmpty then p.tiesOver else p
  else { p with tests := { p.tests with tieLeft := [], stackRun := false }, st := { p.st with prot := { p.st.prot with tieRun := false } } }

/-- TIE_TEST: it ends with the settling of the input, as long as the test limit, and fails no sooner than at that limit (R366). -/
def execTieTest (c : Chan) (cmp : PodCmp) (pass : Bool) (t : Nat) (s : State) : Result :=
  .next (s.podEvent c t
    (fun p t => p.st.prot.tieRun && p.tests.tieLeft.head? == some cmp &&
      (!p.bothClamped || decide (p.tests.tieFrom + (if pass then 1 else 2) * p.tieLimit cmp ≤ t)))
    fun p t => p.tieEnd cmp pass t)

/-- The hub commands the other side on to confirm a suspect; the side turns on once it has been in static clamp for 1 µs
(R91, R96, R211). -/
def Pod.confirm (p : Pod) (t : Nat) : Pod :=
  match p.st.prot.suspect with
  | some x =>
    { p with tests := { p.tests with confirmSide := some x.other, confirmAsked := false, confirmCodes := none },
             st := { p.st with prot := { p.st.prot with confirmDue := false } } }.askOn (.side x.other) t
  | none => p

/-- A confirmation can begin: tie tests ended, HV side powered, both sides in static clamp (R211, R214). -/
def Pod.canConfirm (p : Pod) : Bool :=
  p.st.prot.confirmDue && !p.st.prot.tieRun && p.st.hvOn && p.st.gIn.phase == .staticClamp && p.st.gOut.phase == .staticClamp

/-- SUSPECT_CONFIRMATION: on a linked pod in ACTIVE (R211, R212). -/
def execSuspectConfirmation (c : Chan) (t : Nat) (s : State) : Result :=
  .next (if (s.port c).linked then
      s.podEvent c t (fun p _ => p.canConfirm && p.st.pod == .active) fun p t => p.confirm t
    else s)

/-- The instant at which the confirming side has been full-on for 100 µs; static HOLD begins 200 ns after full-on (R74, R211). -/
def Pod.confirmAt (p : Pod) : Option Nat :=
  match p.tests.confirmSide with
  | some o => if (p.gate o).phase == .staticHold then some ((p.gate o).since + 99800) else none
  | none => none

/-- The second urgent conversion is asked for in the tick that begins at `b` (R211). -/
def Pod.askConfirm (p : Pod) (b : Nat) : Pod :=
  match p.confirmAt with
  | some a =>
    if a < b + 1000 && !p.tests.confirmAsked then
      { p with tests := { p.tests with confirmAsked := true } }.askUrgent .confirm (max a b)
    else p
  | none => p

/-- DAMAGED cause and detail bit of a side (R211). -/
def damagedOf : Side → Cause
  | .inS => .damagedIn
  | .outS => .damagedOut

def shortBit : Side → Nat
  | .inS => 1
  | .outS => 2

/-- The second conversion, on which R210 is evaluated in full: the finding repeats, does not repeat, or is neither confirmed nor
cleared (R211, R213). -/
def Pod.judge (p : Pod) (x : Side) (vdi vdo : Int) (t : Nat) : Pod :=
  match p.nodeCheck vdi vdo with
  | some (y, shorted) =>
    if y = x ∧ (p.prm OD.CH_DMG_EN).testBit 1 = true ∧ (p.gate x).phase = .staticClamp then
      let p := { p with st := { p.st with prot := { p.st.prot with suspect := none } } }.detail 3 false
      if shorted then (p.detail (shortBit x) true).trip (damagedOf x) .normal t else p
    else p
  | none => p

/-- CONFIRMATION_EVALUATION: on the results of the second conversion (R211). -/
def execConfirmationEvaluation (c : Chan) (t : Nat) (s : State) : Result :=
  .next (s.podEvent c t
    (fun p _ => p.tests.confirmSide.isSome && p.tests.confirmCodes.isSome)
    fun p t =>
      match p.tests.confirmSide, p.tests.confirmCodes with
      | some o, some v =>
        let p := { p with tests := { p.tests with confirmSide := none, confirmAsked := false, confirmCodes := none } }
        ((p.judge o.other v.1 v.2 t).offSide o t).stackOver
      | _, _ => p)

/-! ## Online self-test -/

/-- The next member of a round, or its end (R216, R218). -/
def Pod.nextMember (p : Pod) (t : Nat) : Pod :=
  let left := if p.st.ch = .limiting then p.tests.onlineLeft.filter (fun k => k == .sc1a || k == .sc1b) else p.tests.onlineLeft
  match left with
  | [] =>
    { p with tests := { p.tests with member := none, onlineLeft := [] },
             st := { p.st with counts := { p.st.counts with rounds := p.st.counts.rounds + 1 } } }
  | k :: r => { p with tests := { p.tests with member := some k, memberAt := t, onlineLeft := r, partnerActed := false } }

/-- ONLINE_SELFTEST_ROUND. The spec gives only the period; the model counts it from the start of the last round, also while the
channel is off, and from 0 at a pod's power-up, so that a round starts with STARTING if the period has passed (DESIGN CHOICE, log
80) (R216). -/
def execOnlineSelftestRound (c : Chan) (t : Nat) (s : State) : Result :=
  .next (s.podEvent c t
    (fun p t => p.st.hvOn && p.st.ch.running && p.tests.member.isNone && decide (p.tests.onlineAt ≤ t))
    fun p t =>
      { p with tests := { p.tests with onlineLeft := PodCmp.members,
                                       onlineAt := t + p.prm OD.CH_STEST_ONL * 1000000 } }.nextMember t)

/-- MEMBER_TEST_END: pass, discarded after a real crossing of the partner, or SELFTEST_FAIL (R217, R218). A test without such a
crossing ends in a pass or a failure. -/
def execMemberTestEnd (c : Chan) (cmp : PodCmp) (result : TestResult) (t : Nat) (s : State) : Result :=
  .next (s.podEvent c t
    (fun p t => p.tests.member == some cmp && decide (p.tests.memberAt + 4000 ≤ t) && (result != .void || p.tests.partnerActed))
    fun p t =>
      if result = .fail ∧ p.tests.partnerActed = false then
        { p with tests := { p.tests with member := none, onlineLeft := [] } }.testFailed cmp t
      else p.nextMember t)

end Sys2Proof.Machine
end

