-- ==== Sys2Proof/Machine/PodTick.lean ====
section
/-! DEFINITION. The tick of a pod and what comes to it over its links: the boundary of R117, power-good, command frames,
ownership, HOLD and SAFE, seats, and the ORing events of a feed. -/

namespace Sys2Proof.Machine

/-! ## The tick boundary -/

/-- The four conditions under which power-good qualifies (R115). -/
def Pod.pgHolds (p : Pod) : Bool :=
  p.fullOn .inS && p.fullOn .outS &&
  p.st.meas.vdi.ok && p.st.meas.vdo.ok && decide (p.st.meas.vds .inS ≤ 2000000) && decide (p.st.meas.vds .outS ≤ 2000000) &&
  p.st.prot.ftAcc == 0 && p.st.ch != .limiting && p.limited.isNone && p.turnOff.isNone && !p.coll.due &&
  (p.st.ch == .starting || p.st.ch == .on)

/-- Step 3: the qualification counter counts ticks from the first boundary at which the conditions hold; a sample of the ended tick
above 2 V has failed them in between (R116 to R118). -/
def Pod.settlePg (p : Pod) : Pod :=
  if p.pgHolds then
    let p := if p.vdsHigh then p.pgLost else p
    if p.st.pg then p
    else if p.st.counting then { p with pgCount := p.pgCount + 1 }
    else { p with pgCount := 0, st := { p.st with counting := true } }
  else p.pgLost

/-- Step 2: an entry into current limit of the ending tick (R117, R119). -/
def Pod.settleLimit (p : Pod) : Pod :=
  if p.limited.isSome && (p.st.ch == .starting || p.st.ch == .on) then p.toState .limiting else p

/-- Comparator outputs at the end `b` of a tick; a cell in a speed-mode hold or under tie test keeps its sense (R350, R366). -/
def Pod.heldCmp (p : Pod) (m b : Nat) : Nat :=
  PodCmp.tied.foldl
    (fun m k => if (p.hold k).isSome || p.tied k b then setBit m k.bit (p.st.prot.cmpOut.testBit k.bit) else m) m

/-- A member of OCL that is not under test is in its active sense (R185, R217). -/
def Pod.oclActive (p : Pod) : Bool :=
  (p.st.prot.cmpOut.testBit 3 && p.tests.member != some .ocla) || (p.st.prot.cmpOut.testBit 4 && p.tests.member != some .oclb)

/-- Both members of OCL are safe, or one is active: the qualification of the end of a limit (R185). -/
def Pod.oclRule (p : Pod) (t : Nat) : Pod :=
  if p.limited.isSome then { p with oclSafe := if p.oclActive then none else some (p.oclSafe.getD t) }.exitRule else p

/-- OUTP as armed: its filter runs while it is active, and a safe step ends the excursion (R179, R209). -/
def Pod.outpRule (p : Pod) (t : Nat) : Pod :=
  let on := p.st.prot.outpArmed && p.st.prot.cmpOut.testBit 8
  { p with tests := { p.tests with outpFrom := (if on then some (p.tests.outpFrom.getD t) else none), outpDone := p.tests.outpDone && on } }

/-- The bus window's filters run while its comparators are active (R179, R202). -/
def Pod.busRule (p : Pod) (t : Nat) : Pod :=
  let since (k : PodCmp) (f : Option Nat) : Option Nat := if p.st.prot.cmpOut.testBit k.bit then some (f.getD t) else none
  { p with tests := { p.tests with uvFrom := since .buswUv p.tests.uvFrom, ovFrom := since .buswOv p.tests.ovFrom } }

/-- REV in an engine: an active sense restarts the re-entry qualification, a safe one ends the reverse current (R270, R271). -/
def Pod.revRule (p : Pod) : Pod :=
  if p.st.prot.cmpOut.testBit 5 then { p with tests := { p.tests with vonFrom := none } }
  else { p with tests := { p.tests with revStill := false } }

/-- What follows the senses of the comparators at `t`. -/
def Pod.cmpRules (p : Pod) (t : Nat) : Pod := (((p.oclRule t).outpRule t).busRule t).revRule

/-- An edge of a comparator inside the tick: a crossing is captured, but for that of a member under test and of a cell that holds
its output (R177, R217, R350, R355). -/
def Pod.edge (p : Pod) (e : CmpEdge) : Pod :=
  if (p.hold e.cmp).isSome || p.masked e.cmp e.at_ then p
  else
    let p := if e.active then p.crossed e.cmp
      else { p with st := { p.st with prot := { p.st.prot with cmpOut := setBit p.st.prot.cmpOut e.cmp.bit false } } }
    p.cmpRules e.at_

/-- The sense that the input of cell `k` gives at `t` of the ending tick: before its next edge, or as at the end. -/
def senseAt (smp : TickSamples) (k : PodCmp) (t : Nat) : Bool :=
  match smp.edges.find? fun e => e.cmp == k && decide (t < e.at_) with
  | some e => !e.active
  | none => smp.cmp.testBit k.bit

/-- An edge in its place in time. -/
def insertEdge (x : CmpEdge) : List CmpEdge → List CmpEdge
  | [] => [x]
  | e :: r => if x.at_ < e.at_ then x :: e :: r else e :: insertEdge x r

/-- The edges of a tick as seen: those under a tie test that has ended in the tick give way to what the input shows at its end
(R366, R369). -/
def Pod.seenEdges (p : Pod) (smp : TickSamples) : List CmpEdge :=
  p.tests.ties.foldl (fun l x => insertEdge { cmp := x.1, active := senseAt smp x.1 x.2.2, at_ := x.2.2 } l)
    (smp.edges.filter fun e => !(p.tests.ties.any fun x => x.1 == e.cmp && decide (x.2.1 ≤ e.at_) && decide (e.at_ ≤ x.2.2)))

/-- What the comparators of the ending tick did, and their senses at its end (R179, R202, R354). -/
def Pod.takeCmp (p : Pod) (smp : TickSamples) (b : Nat) : Pod :=
  let p := (p.seenEdges smp).foldl Pod.edge p
  let p := { p with tests := { p.tests with ties := [] } }
  let p := { p with midCmp := smp.mid, st := { p.st with prot := { p.st.prot with cmpOut := p.heldCmp (smp.cmp % 2048) b } } }.cmpRules b
  let done (f : Option Nat) : Bool := match f with
    | some f => filterDone f (p.prmSince f OD.CH_TBUSW * 1000) b
    | none => false
  { p with st := { p.st with prot := { p.st.prot with window := bitAt (done p.tests.uvFrom) 9 + bitAt (done p.tests.ovFrom) 10 } } }

/-- An engine feed at the boundary: a start by the IN side alone, be it so commanded or after a reverse turn-off, ends in ON and
BLOCKING, and the re-entry level is qualified (R269, R271, R272; the former DEDUCED, log 81). -/
def Pod.settleEngine (p : Pod) (b : Nat) : Pod :=
  if p.orTarget.isNone then p
  else
    let p := if p.st.ch == .starting && p.onSides == 0 && p.waitOn.isNone && p.fullOn .inS &&
        p.st.gOut.phase == .staticClamp then
        let q := p.endStart.toState .on
        { q with pgSince := true, st := { q.st with oring := .blocking, closeAt := none } }
      else p
    if p.st.oring = .blocking then
      let above := match p.st.meas.stackUv with
        | some v => decide ((p.held.orVon : Int) * 1000 ≤ v)
        | none => false
      { p with tests := { p.tests with
          vonFrom := if above && !p.st.prot.cmpOut.testBit 5 then some (if p.vonLow then b else p.tests.vonFrom.getD b) else none } }
    else { p with tests := { p.tests with vonFrom := none } }

/-- Silence of the owner is counted at the boundary that ends the tick (R29). -/
def Pod.countFrame (p : Pod) : Pod :=
  { p with misses := (if p.gotFrame then 0 else p.misses + 1), gotFrame := false }

/-- The HV side at the boundary: supplies, comparators, conversions; below 6 V the depletion clamps engage (R93, R280). -/
def Pod.takeTick (p : Pod) (smp : TickSamples) (b : Nat) : Pod :=
  if !p.st.hvOn then { p with vpos := smp.vpos, vneg := smp.vneg }
  else if smp.vpos - smp.vneg < 6000 then { p with vpos := smp.vpos, vneg := smp.vneg }.hvDown b
  else
    let p := ({ p with vpos := smp.vpos, vneg := smp.vneg }.takeCmp smp b).convert smp b
    match p.adc.wakeAt with
    | some w => if w ≤ b then { p with adc := { p.adc with wakeAt := none } }.route .normal b else p
    | none => p

/-- START_ENERGY_EXCEEDED: in STARTING, and in the LIMITING that a start passes through (R124, R160; the latter DEDUCED, log 82). -/
def execStartEnergyExceeded (c : Chan) (ic vc : List Raw) (t : Nat) (s : State) : Result :=
  .next (s.podEvent c t
    (fun p t => (p.st.ch == .starting || p.st.ch == .limiting && !p.pgSince) &&
      decide (p.prm OD.CH_ESLEW_MAX * 10 ^ 18 < (p.upTo ic vc t).energy))
    fun p t =>
      let p := p.upTo ic vc t
      let k := if p.slewing.1 then Cause.desatIn else .desatOut
      { p with st := { p.st with startEnergy := true } }.trip k .normal t)

/-! ## Ownership and frames -/

/-- An epoch is higher when (new − own) mod 256 lies from 1 to 127 (R528). -/
def epochHigher (new own : Nat) : Bool :=
  let d := (new + 256 - own % 256) % 256
  decide (1 ≤ d) && decide (d ≤ 127)

/-- Whether an OWN on a link that the pod does not obey is accepted (R528). -/
def Pod.acceptsOwn (p : Pod) (epoch : Nat) : Bool :=
  epochHigher epoch p.st.own.epoch || p.st.pod == .hold || p.st.pod == .safe || p.st.own.link.isNone

/-- Enter or leave an ORing engine: regulation of a feed in ON, or turn-on HOLD by the strong stage (R266, R276). -/
def Pod.setEngine (p : Pod) (target : Option Nat) (t : Nat) : Pod :=
  let p := { p with orTarget := target }
  match target with
  | some _ =>
    if p.st.oring = .off ∧ p.st.ch = .on ∧ p.fullOn .inS = true ∧ p.fullOn .outS = true then
      ({ p with st := { p.st with oring := .conducting } }.endBlank .outS).setGate .outS ((p.gate .outS).enter .regulated t)
    else p
  | none =>
    let p' := { p with st := { p.st with oring := .off } }
    if p.st.oring = .conducting ∧ p.st.gOut.phase = .regulated ∧ p.limited ≠ some .outS then p'.strongHold .outS t
    else if p.st.oring = .blocking then p'.commandOff t
    else p'

/-- CAL or a recalibration runs. -/
def PodAdc.calRuns (a : PodAdc) : Bool := a.calFrom.isSome || a.recalFrom.isSome

/-- The pod enters ACTIVE: tie tests at the entry; the converters are in NORMAL after their start-up of 4 µs (R219, R314, R416). -/
def Pod.activate (p : Pod) (t : Nat) : Pod :=
  let p := { p with st := { p.st with pod := .active } }
  let p := if p.st.hvOn && !p.adc.calRuns then { p with adc := { p.adc with wakeAt := some (ceilTick (t + 4000)) } } else p
  if p.st.hvOn then p.tiesAtActive t else p

/-- A confirmation that waits for the owner's command is put off to the next stack test: without an owner, and in PARKED, the stack
test ends here (R212, R215). -/
def Pod.deferConfirm (p : Pod) : Pod := if p.st.prot.confirmDue then p.stackOver else p

/-- The pod parks: bursts, the first a period later; a calibration that runs keeps its routing to its end (R313, R411). -/
def Pod.park (p : Pod) (t : Nat) : Pod :=
  let p := p.deferConfirm
  let p := { p with adc := { p.adc with wakeAt := none, burstAt := t }, st := { p.st with pod := .parked } }
  if p.adc.calRuns then p else p.route (if p.st.hvOn then .burst else .off) t

/-- Parked, with the channel off; a channel that runs ignores it (R416). -/
def Pod.askPark (p : Pod) (t : Nat) : Pod :=
  if p.st.pod = .active then if p.st.ch.running then { p with st := { p.st with ignored := true } } else p.park t else p

/-- What a pod on a resting link compares: its seat pins and the number of its trip (R411). -/
def Pod.restKey (p : Pod) : Bool × Bool × Nat := (p.st.seat.s1, p.st.seat.s2, p.st.trip.n)

/-- What a frame asks of the pod state; with the rest flag the resting link stands for a live owner (R411, R416). -/
def Pod.askState (p : Pod) (a : PodAsk) (t : Nat) : Pod :=
  match a with
  | .none => p
  | .activate => if p.st.pod = .parked then { p.activate t with rest := none } else p
  | .park => if p.st.pod = .parked then { p with rest := none } else p.askPark t
  | .parkRest =>
    let p := p.askPark t
    if p.st.pod = .parked then { p with rest := some p.restKey } else p

/-- An acknowledgement of the trip: the channel is released to OFF. One of an earlier trip is a retry that is ignored while a trip
that the hub has not seen stands (R26, R235). -/
def Pod.ackTrip (p : Pod) (n : Nat) : Pod :=
  if n = p.st.trip.n then
    let p := { p with acked := true, coll := { p.coll with isOpen := false } }
    if p.st.ch = .tripped ∨ p.st.ch = .latched then p.toState .off else p
  else if p.acked then p
  else { p with st := { p.st with ignored := true } }

/-- Start, close and per-side commands of a frame; while a trip stands unacknowledged they are ignored and reported
(R26, R96, R541). -/
def Pod.onCommands (p : Pod) (fr : CmdFrame) (t : Nat) : Pod :=
  if fr.start || fr.sideOn.isSome then
    if !p.acked then { p with st := { p.st with ignored := true } }
    else
      let p := if fr.start then
          if p.st.ch = .off then p.applyStart t else if p.st.ch = .starting then p.applyClose t else p
        else p
      match (if p.absentDue then none else fr.sideOn) with
      | some x =>
        let p := if p.st.ch.running then p else { p with energy := 0 }
        let p := if p.orTarget.isSome && p.st.ch == .off && x == .inS then
            let q := p.toState .starting
            { q with energy := 0, pgSince := false, pgCount := 0, st := { q.st with startAt := some t } }
          else p
        if p.busyForStart then { p with waitOn := some (.side x) } else p.askOn (.side x) t
      | none => p
  else p

/-- The output-present check is armed or disarmed (R208, R209). -/
def Pod.armOutp (p : Pod) (arm : Bool) (t : Nat) : Pod :=
  let from_ := if arm && p.st.prot.cmpOut.testBit 8 then some (p.tests.outpFrom.getD t) else none
  { p with st := { p.st with prot := { p.st.prot with outpArmed := arm } },
           tests := { p.tests with outpFrom := from_, outpDone := p.tests.outpDone && arm } }

/-- Hub-decided causes of a frame, at the boundary at which it applies: their state and FLTQ_N follow at once
(R121, R226, R228). PRECHARGE_TIMEOUT takes a feed that R160 has led from STARTING to LIMITING (R158). -/
def Pod.hubTrips (p : Pod) (set t : Nat) : Pod :=
  (causesOf set).foldl (fun p k =>
    let p := if k = .prechargeTimeout ∧ p.st.ch = .limiting ∧ p.pgSince = false then p.toState .starting else p
    p.trip k (profileOf k) t) p |>.settleTrip t

/-- A window of the converters from `f`, for 1 µs (R290). -/
def Pod.openWin (p : Pod) (f trig : Nat) (alt : Bool) : Pod :=
  { p with adc := { p.adc with winFrom := some f, winEnd := f + 1000,
                               wins := p.adc.wins ++ [{ from_ := f, to_ := f + 1000, trig := trig, alt := alt }] },
           st := { p.st with adc := { p.st.adc with routing := .paired } } }

/-- The windows that will take a place in the capture buffer (R291). -/
def PodAdc.pending (a : PodAdc) : Nat := a.captures.length + (a.wins.filter fun w => !w.alt).length

/-- A trigger of a paired window, at the next slot boundary or half-slot point: missed in a window, in the 1 µs after it, with the
buffer full, or where pairing is suspended (R290 to R292). `trig` is the bit of the comparator, or 15 for a command. -/
def Pod.capture (p : Pod) (trig t : Nat) : Pod :=
  if p.adc.winFrom.isSome || (decide (0 < p.adc.winEnd) && decide (t < p.adc.winEnd + 1000)) ||
      decide (16 ≤ p.adc.pending) || p.st.adc.routing != .normal then
    { p with st := { p.st with counts := { p.st.counts with missed := p.st.counts.missed + 1 } } }
  else p.openWin (halfUp t) trig false

/-- The windows that have ended; a change of routing cuts the one that runs. -/
def PodAdc.doneWins (a : PodAdc) (t : Nat) : List Win := a.wins.filter fun w => decide (w.to_ ≤ t)

/-- CAL starts at the boundary at which the pod applies the command; with the HV side unpowered it ends with ABORTED (R303,
R307). -/
def Pod.calStart (p : Pod) (t : Nat) : Pod :=
  if !p.st.hvOn then p.calEnd 4
  else { p with adc := { p.adc with calFrom := some t, wakeAt := none, winFrom := none, wins := p.adc.doneWins t },
                st := { p.st with adc := { p.st.adc with cal := 1 } } }.route .cal t

/-- A recalibration starts: 1 of the IC, 2 of the VC (R310). A running window ends with the routing. -/
def Pod.recalStart (p : Pod) (kind t : Nat) : Pod :=
  if !p.st.hvOn then p.recalEnd 4
  else { p with adc := { p.adc with recalKind := kind, recalFrom := some t, coverFrom := none, wakeAt := none,
                                    winFrom := none, wins := p.adc.doneWins t },
                st := { p.st with adc := { p.st.adc with recal := 1 } } }.route (if kind = 1 then .icRecal else .vcRecal) t

/-- The calibration commands of a frame: 0 for CAL, 1 and 2 for a recalibration. -/
def Pod.calAsk (p : Pod) (k : Option Nat) (t : Nat) : Pod :=
  match k with
  | some 0 => p.calStart t
  | some n => p.recalStart n t
  | none => p

/-- A SERVICE session has cleared DAMAGED: LATCHED, bits 0 to 3 of the detail clear (R240). -/
def Pod.dmgCleared (p : Pod) : Pod :=
  if p.st.ch = .damaged then
    let q := p.toState .latched
    { q with st := { q.st with prot := { q.st.prot with detail := q.st.prot.detail / 16 * 16 } } }
  else p

/-- What a frame commands at a boundary: trips and off before starts (R21, R26, R231). -/
def Pod.command (p : Pod) (fr : CmdFrame) (t : Nat) : Pod :=
  let p := (p.askState fr.ask t).hubTrips fr.trips t
  let p := match fr.ack with
    | some n => p.ackTrip n
    | none => p
  let p := if fr.dmgClear then p.dmgCleared else p
  let p := if fr.toggle && p.st.ch == .latched then { p with tests := { p.tests with toggle := true } } else p
  let p := if fr.off then p.commandOff t else p
  let p := match fr.sideOff with
    | some x => p.offSide x t
    | none => p
  let p := (((p.setEngine fr.oring t).onCommands fr t).armOutp fr.outpArm t).calAsk fr.cal t
  let p := if fr.confirm && p.canConfirm then p.confirm t else p
  if fr.capture && p.prm OD.ADC_PAIR == 1 then p.capture 15 t else p

/-- The content of a frame of the owner, at the boundary `t` that follows its arrival (R21, R23, R546). -/
def Pod.apply (p : Pod) (fr : CmdFrame) (t : Nat) : Pod :=
  { p with held := fr, enable := fr.enable, tEnable0 := (if p.enable && !fr.enable then t else p.tEnable0) }.command fr t

/-- The frames that the tick brought, in their order. -/
def Pod.applyAll (p : Pod) (t : Nat) : Pod := p.cmds.foldl (fun p fr => p.apply fr t) { p with cmds := [] }

/-- The boundary `b`: what the tick found, then triggers, current limit, the commands that the tick brought, power-good; then the
status frame is composed, which reports the commands that were ignored since the last one (R21, R23, R26, R117, R119, R125, R211). -/
def Pod.boundary (p : Pod) (smp : TickSamples) (b : Nat) : Pod :=
  let p := { p with st := { p.st with seat := { p.st.seat with s1 := smp.s1, s2 := smp.s2 } } }
  let p := ((p.takeTick smp b).settleTrip b).settleLimit.applyAll b
  let p := (((p.closeTrip.settleOff.settleAbsent.settleEngine b).settleTies b).askConfirm b).settlePg.countFrame
  { p with tickAt := b, up := p.st, st := { p.st with ignored := false } }

/-- The pod has an owner again: HOLD resumes the kept state, SAFE its trip, with the tie tests of ACTIVE (R38, R219, R416). -/
def Pod.owned (p : Pod) (own : Bool) (epoch t : Nat) : Pod :=
  let p := { p with gotFrame := true, misses := 0, lastFrame := t,
                    st := { p.st with own := { epoch := epoch, link := some own, released := false, conflict := false } } }
  match p.st.pod with
  | .linking => { p with st := { p.st with pod := .parked } }
  | .hold => { p with st := { p.st with pod := .active, holdFrom := none } }.tiesAtActive t
  | .safe => { p with st := { p.st with pod := .active, holdFrom := none } }.fltqRule.tiesAtActive t
  | _ => p

/-- The content of a frame waits for the next boundary of the pod (R21, R23). -/
def Pod.queue (p : Pod) (fr : CmdFrame) : Pod := { p with cmds := p.cmds ++ [fr] }

/-- A valid frame at the pod (R27 to R29, R416, R527 to R529). -/
def Pod.receive (p : Pod) (own : Bool) (fr : CmdFrame) (t : Nat) : Pod :=
  if p.st.pod = .unpowered then p
  else if p.st.own.link = some own then
    match fr.claim with
    | .own => (p.owned own fr.epoch t).queue fr
    | .release => { p with gotFrame := true, lastFrame := t, st := { p.st with own := { p.st.own with released := true } } }
    | .standby | .none => p
  else if fr.claim = .own then
    if p.acceptsOwn fr.epoch then (p.owned own fr.epoch t).queue fr
    else { p with st := { p.st with own := { p.st.own with conflict := true } } }
  else p

/-- The ownership word of a command frame (R527). -/
def CmdFrame.ownWord (f : CmdFrame) : Nat := f.epoch % 256 + f.claim.code * 256

/-- A downstream frame with its single commands taken out: what the hub goes on sending. -/
def frameLevel (f : CmdFrame) : CmdFrame :=
  { f with ask := .none, start := false, off := false, sideOn := none, sideOff := none, trips := 0, ack := none,
           confirm := false, capture := false, toggle := false, dmgClear := false, cal := none }

/-! ## HOLD and SAFE -/

/-- The pod enters SAFE: SOFT off, LINK_LOSS_SAFE, FLTQ_N asserted (R37, R120, R416, R541, R542). -/
def Pod.toSafe (p : Pod) (t : Nat) : Pod :=
  let p := (p.trip .linkLossSafe .soft t).off .soft t
  { p with st := { p.st with pod := .safe, fltq := true } }

/-- The pod becomes an orphan: what it notes from now on is new to the hub that will adopt it (R29, R37, R250, R416). -/
def Pod.orphan (p : Pod) (t : Nat) : Pod :=
  let p := { p.deferConfirm with st := { p.deferConfirm.st with notesOwned := p.st.counts.notes } }
  if p.prm OD.CH_THOLD = 0 then p.toSafe t
  else
    let p := p.armOutp false t
    { p with st := { p.st with pod := .hold, holdFrom := some t, holds := p.st.holds + 1 } }

/-- ORPHAN: 20 frames missed in ACTIVE. -/
def execOrphan (c : Chan) (s : State) : Result :=
  .next (s.podEvent c s.now (fun p _ => p.st.pod == .active && decide (20 ≤ p.misses)) fun p t => p.orphan t)

/-- HOLD_WINDOW_END: `CH_THOLD` has passed in HOLD (R541, R542). -/
def execHoldWindowEnd (c : Chan) (s : State) : Result :=
  .next (s.podEvent c s.now
    (fun p t => p.st.pod == .hold && (match p.st.holdFrom with
      | some f => decide (f + p.prm OD.CH_THOLD * 1000000 ≤ t)
      | none => false))
    fun p t => p.toSafe t)

/-! ## ORing events of a feed (R269 to R271, R275) -/

/-- Reverse current turns the OUT side off by the strong sink; the IN side stays. A start goes on with its IN side alone (R198,
R269; the latter DEDUCED, log 81). -/
def Pod.reverseBlock (p : Pod) (t : Nat) : Pod :=
  let p := ((p.crossed .rev).pgLost.endBlank .outS).strongClamp .outS t
  { p with tests := { p.tests with vonFrom := none, revStill := true },
           onSides := (if p.onSides = 3 then (if p.st.gIn.phase = .staticHold then 0 else 1) else p.onSides),
           st := { p.st with oring := .blocking, counts := { p.st.counts with orBlocks := p.st.counts.orBlocks + 1 } } }

/-- ORING_REVERSE_BLOCK: REV for `CH_TREV` while the OUT side of an engine feed conducts or is turning on (R269). -/
def execOringReverseBlock (c : Chan) (since : Nat) (t : Nat) (s : State) : Result :=
  .next (s.podEvent c t (fun p t => p.st.hvOn && p.orTarget.isSome && p.turnOff.isNone &&
      (p.st.oring == .conducting || p.st.ch.running && GPhase.conducts p.st.gOut.phase) &&
      filterDone since (p.prmSince since OD.CH_TREV * 5) t)
    fun p t => p.reverseBlock t)

/-- ORING_REVERSE_TRIP (R270). -/
def execOringReverseTrip (c : Chan) (t : Nat) (s : State) : Result :=
  .next (s.podEvent c t
    (fun p t => p.st.oring == .blocking && p.clampedFor .outS t 1000 && p.tests.revStill && p.st.prot.cmpOut.testBit 5)
    fun p t => p.trip .reverse .fast t)

/-- ORING_REENTRY: BOOST to the pre-level, then regulation; decided at a boundary, where a REV crossing of the ended tick has
restarted the qualification (R271, R275). -/
def execOringReentry (c : Chan) (t : Nat) (s : State) : Result :=
  .next (s.podEvent c t
    (fun p t => p.tickAt == t && p.st.oring == .blocking && p.st.gOut.phase == .staticClamp && (match p.tests.vonFrom with
      | some f => decide (f + p.held.orTon * 1000 ≤ t)
      | none => false))
    fun p t => { p with tests := { p.tests with vonFrom := none }, st := { p.st with oring := .conducting } }.boost .outS true t)

end Sys2Proof.Machine
end

