-- ==== Sys2Proof/Machine/Pwm.lean ====
section
/-! DEFINITION. PWM generators (chapter 12): words, periods, dither, limits, termination, faults, ownership. -/

namespace Sys2Proof.Machine

def State.gen (s : State) (n : Oct) : Pwm := s.pwm.get n
def State.updGen (s : State) (n : Oct) (f : Pwm → Pwm) : State := { s with pwm := s.pwm.upd n f }
def State.cell (s : State) (n : Oct) : Cell := s.cells.get n
def State.updCell (s : State) (n : Oct) (f : Cell → Cell) : State := { s with cells := s.cells.upd n f }

/-- One PWM count in ns (R372). -/
abbrev stepNs : Nat := 5

/-- The generator whose partner `n` can be, and the partner of `n` (R379). -/
def mainOf (n : Oct) : Oct := ⟨n.val % 4, by omega⟩
def partnerOf (n : Oct) : Oct := ⟨n.val % 4 + 4, by omega⟩

/-! ## Owners (R379, R392) -/

/-- The precharge converter that owns generator `n`. -/
def preOwner (s : State) (n : Oct) : Option Quad :=
  if h : n.val < 4 then if s.act OD.PRE_BUS n.val < 8 then some ⟨n.val, h⟩ else none else none

/-- The chopper that owns generator `n`. -/
def disOwner (s : State) (n : Oct) : Option Quad :=
  if 4 ≤ n.val then if s.act OD.DIS_BUS (n.val - 4) < 8 then some ⟨n.val % 4, by omega⟩ else none else none

/-- COMPLEMENTARY mode of generator `n`, below 4. -/
def compl (s : State) (n : Oct) : Bool := decide (n.val < 4) && s.act OD.PWM_MODE n.val == 1

/-- Whether `n` is the partner of a complementary pair. -/
def isPartner (s : State) (n : Oct) : Bool := decide (4 ≤ n.val) && compl s (mainOf n)

/-- `PWM_OWNER`. -/
def pwmOwner (s : State) (n : Oct) : Nat :=
  match preOwner s n with
  | some p => p.val
  | none => if isPartner s n then 0x20 + n.val % 4 else match disOwner s n with
    | some d => 0x10 + d.val
    | none => 0xFF

def pwmOwned (s : State) (n : Oct) : Bool := pwmOwner s n != 0xFF

/-! ## Words (R375, R385) -/

def PwmWord.pack (w : PwmWord) : Nat := w.p + w.d * 2 ^ 16 + w.dith * 2 ^ 32

def PwmWord.unpack (v : Nat) : PwmWord := { p := v % 2 ^ 16, d := v / 2 ^ 16 % 2 ^ 16, dith := v / 2 ^ 32 % 16 }

/-- A word goes into the reload register; it is visible 10 ns later. Until then the word before it still is (R385). -/
def Pwm.load (g : Pwm) (w : PwmWord) (t : Nat) : Pwm :=
  { g with reload := w, reloadAt := some (t + 10),
           earlier := match g.reloadAt with
             | some r => (r, g.reload) :: (if r ≤ t then [] else g.earlier)
             | none => [] }

/-- The reload register holds a word that is visible at `t`. -/
def Pwm.visible (g : Pwm) (t : Nat) : Bool :=
  match g.reloadAt with
  | some r => decide (r ≤ t)
  | none => false

/-- The word that a reload edge at `t` takes: the last written of those visible at it (R385). -/
def Pwm.offer (g : Pwm) (t : Nat) : Option PwmWord :=
  if g.visible t then some g.reload else (g.earlier.find? fun e => decide (e.1 ≤ t)).map (·.2)

/-- What still waits after a reload edge at `t`. -/
def Pwm.offered (g : Pwm) (t : Nat) : Pwm :=
  if g.visible t then { g with reloadAt := none, earlier := [] }
  else { g with earlier := g.earlier.filter fun e => decide (t < e.1) }

/-! ## Fault and termination sources -/

/-- The cell is under test: an edge at its pin is not seen (R366). -/
def Cell.masked (c : Cell) : Bool := c.test == 1 || c.mask

/-- A powered cell in its active sense; under test it keeps the sense it had (R362, R366). -/
def Cell.sense (c : Cell) : Bool := c.powered && (if c.test = 1 then c.kept else c.out)

/-- The output that the routes of cell `k` read: the window of a pair for its upper member (R358). -/
def routeOut (s : State) (k : Oct) : Bool :=
  (s.cell k).sense ||
  (k.val % 2 == 0 && s.actB OD.CMP_PAIR k.val && decide (k.val + 1 < 8) && (s.cells.get ⟨(k.val + 1) % 8, by omega⟩).sense)

def routeBit (s : State) (k : Oct) (bit : Nat) : Bool := (s.act OD.CMP_ROUTE k.val).testBit bit && (s.cell k).powered

/-- Comparator `k` holds the PWM fault of `n`; in COMPLEMENTARY mode one that names either output acts on both (R362, R389). -/
def cmpFault (s : State) (n k : Oct) : Bool :=
  routeBit s k 4 && routeOut s k &&
  ((s.act OD.CMP_PWM_FLT k.val).testBit n.val || compl s n && (s.act OD.CMP_PWM_FLT k.val).testBit (partnerOf n).val)

/-- A comparator terminates pulses of `n` now (R383, R384). -/
def cmpTerm (s : State) (n : Oct) : Bool :=
  allOct.any fun k => routeBit s k 3 && s.act OD.CMP_PWM_TERM k.val == n.val && routeOut s k

/-- A ready input is enabled for `n`: by its bit of `PWM_FLTSRC`, or always on a generator owned by a converter or chopper
(R147, R165, R389). -/
def readyEnabled (s : State) (n : Oct) (bit : Nat) : Bool :=
  (preOwner s n).isSome || (disOwner s n).isSome || (s.act OD.PWM_FLTSRC n.val).testBit bit

/-- The fault sources of `n` that are active, as a mask: comparators 0 to 7, RDYn_N, and RDY(n+4)_N in COMPLEMENTARY mode (R389). -/
def faultMask (s : State) (n : Oct) : Nat :=
  (allOct.foldl (fun m k => setBit m k.val (cmpFault s n k)) 0) +
  bitAt (s.rdyLost.testBit n.val && readyEnabled s n 0) 8 +
  bitAt (compl s n && s.rdyLost.testBit (n.val + 4) && readyEnabled s n 1) 9

/-- A fault source of `n` is active. -/
def faultSource (s : State) (n : Oct) : Bool := faultMask s n != 0

/-! ## Output state (R373) -/

/-- A partnered port (R531). -/
def partnered (s : State) (c : Chan) : Bool := (s.act OD.HUB_PX_PORTS).testBit c.val

/-- The group of the generator's owner belongs to the partner, which then drives the output (R531, R539). -/
def drivenElsewhere (s : State) (n : Oct) : Bool :=
  let bus := match preOwner s n with
    | some p => busOfPre s.active p
    | none => match disOwner s n with
      | some d => busOfDis s.active d
      | none => none
  match bus with
  | some b => (membersOf s.active b).any fun c => partnered s c && !(s.port c).own
  | none => false

/-- State code of a generator that is no partner. -/
def pwmMain (s : State) (n : Oct) : Nat :=
  if !s.hubUp || !s.actB OD.PWM_EN n.val || drivenElsewhere s n then 0
  else if (s.gen n).run then if (s.gen n).fault then 3 else 2
  else if (s.gen n).fault || faultSource s n then 3 else 1

/-- `PWM_STATE`: a partner follows its main. -/
def pwmState (s : State) (n : Oct) : Nat := if isPartner s n then pwmMain s (mainOf n) else pwmMain s n

/-! ## Pulses -/

/-- The outputs of a generator off. -/
def Pwm.quiet (g : Pwm) : Pwm :=
  { g with main := false, until_ := none, partner := false, partnerAt := none, clipped := false, terminated := false }

/-- Start: period 0 at the next tick boundary (R374, R376). -/
def Pwm.start (g : Pwm) (t : Nat) : Pwm :=
  if g.run then g else { g.quiet with run := true, startAt := some (nextTick t), acc := 0, pcount := 0 }

/-- Stop: the running pulse ends and the output is INACTIVE; a fault under LATCH stays (R374, R390). -/
def Pwm.stop (latch : Bool) (g : Pwm) : Pwm :=
  { g.quiet with run := false, startAt := none, fault := g.fault && latch, released := false }

/-- Stop generator `n` (R374, R390). -/
def State.pwmStop (s : State) (n : Oct) : State := s.updGen n (Pwm.stop (s.act OD.PWM_FLTMODE n.val == 1))

/-- L of R377 in counts. -/
def pwmLimit (s : State) (n : Oct) (p : Nat) : Nat :=
  min (s.act OD.PWM_DMAX n.val * p / 10000) (p - s.act OD.PWM_TOFF_MIN n.val)

/-- The counter takes one back; it wraps at its 32 bits. -/
def State.uncount (s : State) (o : Obj) (i : Nat) : State := s.count o i (2 ^ 32 - 1)

/-- A termination in the step of `t` is not counted: a fault of the same step applies instead (R391). -/
def State.untermed (s : State) (n : Oct) (t : Nat) : State :=
  match (s.gen n).termAt with
  | some e => if stepOf e = stepOf t then (s.uncount OD.PWM_TERMS n.val).updGen n fun g => { g with termAt := none } else s
  | none => s

/-- A fault begins: the outputs go high-impedance; it counts once in a period. A main pulse that has not begun is lost, and A stands
as before its period (R382, R389, R391). A pulse that the fault cuts short is not lost (DEDUCED, log 108). -/
def State.pwmFault (s : State) (n : Oct) : State :=
  let s := s.untermed n s.now
  let s := if (s.gen n).faultCounted then s else s.count OD.PWM_FAULTS n.val
  s.updGen n fun g => { g.quiet with fault := true, faultCounted := true, released := false,
                                     acc := (if g.main && decide (s.now ≤ g.from_) then g.accWas else g.acc) }

/-- The converter that drives generator `n` is PAUSED: its outputs have left FAULT for the refresh pulses (R147, R149). -/
def pausedOn (s : State) (n : Oct) : Bool :=
  match preOwner s n with
  | some p => (s.pre.get p).state == .paused
  | none => false

/-- The fault sources of generator `n` as they are now: one that begins, or that acts on a running output, is a fault; a stopped one
is held in FAULT under LATCH alone (R389, R390). -/
def State.faultSee (s : State) (n : Oct) : State :=
  let m := faultMask s n
  let g := s.gen n
  let fresh := (List.range 10).any fun i => m.testBit i && !g.sources.testBit i
  let st := pwmMain s n
  let s := s.updGen n fun g => { g with sources := m }
  if m == 0 || st == 0 then s
  else if g.run then if fresh || !g.fault && !pausedOn s n then s.pwmFault n else s
  else s.updGen n fun g => { g with fault := g.fault || s.act OD.PWM_FLTMODE n.val == 1 }

/-- What the sources that have changed do to the generators (R389). -/
def State.pwmFaults (s : State) : State :=
  allOct.foldl (fun s n => if isPartner s n then s else s.faultSee n) s

/-- End of the main pulse at `t`: in COMPLEMENTARY mode the partner follows after the dead time, unless its pulse would be
too short (R379, R381, R383). -/
def State.mainEnds (s : State) (n : Oct) (t : Nat) : State :=
  let due := t + s.act OD.PWM_DT n.val * stepNs
  let g := s.gen n
  let stop := g.periodAt + g.word.p * stepNs
  let follow := compl s n && decide (due + s.act OD.PWM_TMIN n.val * stepNs ≤ stop)
  s.updGen n fun g => { g with main := false, until_ := none, clipped := false, terminated := false,
                               partnerAt := if follow then some due else none }

/-- The main pulse of a period of `on` counts that begins at `t`. -/
def State.mainStarts (s : State) (n : Oct) (t on p : Nat) (clipped : Bool) : State :=
  let dt := if compl s n then s.act OD.PWM_DT n.val else 0
  let whole := !compl s n && decide (p ≤ on)
  s.updGen n fun g => { g with main := true, from_ := (if whole && g.main then g.from_ else t + dt * stepNs),
                               until_ := (if whole then none else some (t + (on - dt) * stepNs)), clipped := clipped,
                               terminated := false, partner := false, partnerAt := none }

/-- The least on-time of a period whose main pulse is not dropped (R381). -/
def pwmLeast (s : State) (n : Oct) : Nat :=
  s.act OD.PWM_TMIN n.val + (if compl s n then 2 * s.act OD.PWM_DT n.val else 0)

/-- What a period does once reloaded: skip, drop, nothing or a pulse (R376 to R378, R381, R382, R384). `emit` counts the
pulse and `skip` the skipped period for an owner. -/
def State.period (s : State) (n : Oct) (t : Nat) (emit skip : State → State) : State :=
  let g := s.gen n
  let hold := fun (s : State) => s.updGen n Pwm.quiet
  if cmpTerm s n then
    let s := skip ((hold s).count OD.PWM_TSKIPS n.val)
    let dt := s.act OD.PWM_DT n.val
    if compl s n && decide (dt + s.act OD.PWM_TMIN n.val ≤ g.word.p) then
      s.updGen n fun g => { g with partnerAt := some (t + dt * stepNs) } else s
  else
    let sum := g.acc + g.word.dith
    let req := g.word.d + sum / 16
    let on := min req (pwmLimit s n g.word.p)
    if req = 0 then (hold s).updGen n fun g => { g with acc := sum % 16 }
    else if on < pwmLeast s n then (hold s).count OD.PWM_DROPPED n.val
    else emit ((s.updGen n fun g => { g with acc := sum % 16 }).mainStarts n t on g.word.p (decide (on < req)))

/-- The instant of the next period boundary. -/
def Pwm.boundaryAt (g : Pwm) : Nat := g.startAt.getD (g.periodAt + g.word.p * stepNs)

/-- A new period begins at `t`: numbered, and reloaded where a word is visible (R385 to R387). -/
def Pwm.newPeriod (g : Pwm) (t : Nat) : Pwm :=
  let g := if g.startAt.isSome then { g with startAt := none, pcount := 0, acc := 0, periodAt := t }
    else { g with pcount := (g.pcount + 1) % 2 ^ 32, periodAt := t }
  let mid := g.midWord
  let g := { g with faultCounted := false, midWord := none, accWas := g.acc, termAt := none, endAt := none }
  match g.offer t, mid with
  | some w, _ => { g.offered t with word := w, taken := g.pcount % 2 ^ 31 }
  | none, some w => { g with word := { g.word with p := w.p, dith := w.dith } }
  | none, none => g

/-- A period boundary of a running generator (R376 to R391). -/
def State.pwmBoundary (s : State) (n : Oct) (t : Nat) (emit skip : State → State) : State :=
  let s := (s.updGen n fun g => g.newPeriod t).faultSee n
  let source := faultSource s n
  if (s.gen n).fault then
    if !source && (s.act OD.PWM_FLTMODE n.val == 0 || (s.gen n).released) then
      (s.updGen n fun g => { g with fault := false, released := false }).period n t emit skip
    else if source then s.updGen n fun g => { g with released := false } else s
  else s.period n t emit skip

/-- The instant of the midperiod edge of the period that runs (R386). -/
def Pwm.midAt (g : Pwm) : Nat := g.periodAt + g.word.p / 2 * stepNs

/-- The midperiod edge takes a word: its D is in force, its P and d wait for the boundary (R386, R387). -/
def Pwm.midTake (g : Pwm) (w : PwmWord) : Pwm :=
  { g.offered g.midAt with word := { g.word with d := w.d }, midWord := some w, taken := g.pcount % 2 ^ 31 + 2 ^ 31 }

/-- The midperiod reload: D ends the running pulse anew, or holds it through the boundary, and leaves it no shorter than `PWM_TMIN`;
P and d wait for the boundary (R377, R381, R386). -/
def State.pwmMid (s : State) (n : Oct) : State :=
  let g := s.gen n
  match g.offer g.midAt with
  | none => s
  | some w =>
    let s := s.updGen n fun g => g.midTake w
    if g.main && !g.terminated then
      let dt := if compl s n then s.act OD.PWM_DT n.val else 0
      let on := min w.d (pwmLimit s n g.word.p)
      let fin := g.periodAt + (on - dt) * stepNs
      let least := g.from_ + s.act OD.PWM_TMIN n.val * stepNs
      if !compl s n && decide (g.word.p ≤ on) then s.updGen n fun g => { g with until_ := none, clipped := false }
      else if fin ≤ g.midAt then s.updGen n fun g => { g with until_ := some (max (g.midAt + stepNs) least), clipped := false }
      else s.updGen n fun g => { g with until_ := some (max fin least), clipped := decide (on < w.d) }
    else s

/-- A comparator enters its active sense at `t` and ends the running main pulse, not before `PWM_TMIN`. A pulse that has ended in the
same step is terminated, and not clipped (R383). -/
def State.pwmTerminate (s : State) (n : Oct) (t : Nat) : State :=
  let g := s.gen n
  if pwmState s n != 2 then s
  else if g.main then
    if g.terminated then s
    else (s.count OD.PWM_TERMS n.val).updGen n fun g =>
      { g with terminated := true, clipped := false, termAt := some t,
               until_ := some (max t (g.from_ + s.act OD.PWM_TMIN n.val * stepNs)) }
  else match g.endAt with
    | some (e, cut) =>
      if stepOf e = stepOf t then
        let s := if cut then s.uncount OD.PWM_CLIPPED n.val else s
        (s.count OD.PWM_TERMS n.val).updGen n fun g => { g with termAt := some t, endAt := none }
      else s
    | none => s

/-- The assignment of an owner ends: RUN and EN are written 0 (R392). -/
def State.pwmRelease (s : State) (n : Oct) : State :=
  { s.pwmStop n with active := s.active.set OD.PWM_EN n.val 0, shadow := s.shadow.set OD.PWM_EN n.val 0 }

/-- A reload edge in the step of `t` takes its word, though the generator is about to stop there (R391). -/
def State.lastReload (s : State) (n : Oct) (t : Nat) : State :=
  let g := s.gen n
  if !g.run then s
  else if stepOf g.boundaryAt = stepOf t && (g.startAt.isSome || decide (g.periodAt < g.boundaryAt)) then
    s.updGen n fun g => g.newPeriod g.boundaryAt
  else if s.act OD.PWM_UPD n.val == 1 && g.startAt.isNone && stepOf g.midAt = stepOf t then
    match g.offer g.midAt with
    | some w => s.updGen n fun g => g.midTake w
    | none => s
  else s

/-! ## What the host asks -/

/-- PWM_RUN (R374, R392). -/
def State.pwmRun (s : State) (n : Oct) (on : Bool) : State × Err :=
  if pwmOwned s n then (s, .state)
  else if on then ((s.updGen n fun g => g.start s.now).faultSee n, .ok)
  else ((s.lastReload n s.now).pwmStop n, .ok)

/-- PWM_WORD (R372, R375, R385, R392). -/
def State.pwmWord (s : State) (n : Oct) (v : Nat) : State × Err :=
  if v % 2 ^ 16 = 0 ∨ 2 ^ 36 ≤ v then (s, .range)
  else if pwmOwned s n then (s, .state)
  else ({ s.updGen n fun g => g.load (PwmWord.unpack v) s.now with
          active := s.active.set OD.PWM_WORD n.val v, shadow := s.shadow.set OD.PWM_WORD n.val v }, .ok)

/-- PWM_FREL: a running generator resumes at its next boundary, a stopped one is INACTIVE at once (R390). -/
def State.pwmFrel (s : State) (n : Oct) : State × Err :=
  if faultSource s n then (s, .state)
  else (s.updGen n fun g => { g with released := g.fault && g.run, fault := g.fault && g.run }, .ok)

end Sys2Proof.Machine
end

