-- ==== Sys2Proof/Machine/Comparator.lean ====
section
/-! DEFINITION. Hub comparator cells (chapter 11): speed hold, initialisation, window pairs, routes, self-tests. -/

namespace Sys2Proof.Machine

/-- The hold of the output after a change from mode `a` to mode `b` (R350). -/
def holdNs (a b : Nat) : Nat := 2 * max (speedNs a) (speedNs b)

/-- The converter that owns comparator `n` (R365). -/
def cmpOwner (s : State) (n : Oct) : Option Quad := preOwner s n

/-- The filter of cell `n` in ns (R361). -/
def State.filterOf (s : State) (n : Oct) : Nat := s.act OD.CMP_FILT n.val * 5

/-- Initialisation: PESSIMISTIC starts active and waits; MIDPOINT compares the pin once with the middle of the band (R352 to
R354). -/
def State.cellInit (s : State) (n : Oct) : State :=
  let f := s.filterOf n
  s.updCell n fun c =>
    let out := s.act OD.CMP_INIT n.val = 0 || c.mid
    { c with powered := true, out := out, outAt := s.now, filt := out && f == 0, wait := s.act OD.CMP_INIT n.val = 0, init := out,
             rising := if out && f != 0 then some (s.now, s.now + f) else none }

/-- The cell loses its supply: its output reads safe (R360). -/
def State.cellOff (s : State) (n : Oct) : State :=
  s.updCell n fun c => { c with powered := false, out := false, filt := false, wait := false, init := false, rising := none,
                                later := none, holdUntil := none, mask := false }

/-- Power the cells as `CMP_EN` says; a cell that gains its supply initialises (R352, R360). -/
def State.cellsPower (s : State) : State :=
  allOct.foldl (fun s n =>
    let want := s.actB OD.CMP_EN n.val && s.hubUp
    if want && !(s.cell n).powered then s.cellInit n
    else if !want && (s.cell n).powered then s.cellOff n else s) s

/-- The even member of the pair of `n`, and whether the pair is set (R356). -/
def upperOf (n : Oct) : Oct := ⟨n.val - n.val % 2, by omega⟩
def paired (s : State) (n : Oct) : Bool := s.actB OD.CMP_PAIR (upperOf n).val

def lowerOf (n : Oct) : Oct := ⟨n.val - n.val % 2 + 1, by omega⟩

/-- Filtered output that the routes of `n` read (R358, R361). -/
def routeFilt (s : State) (n : Oct) : Bool :=
  (s.cell n).filt || (n.val % 2 == 0 && paired s n && (s.cell (lowerOf n)).filt)

/-- An edge is one that `CMP_EDGE` selects. -/
def edgeSelected (s : State) (n : Oct) (active : Bool) : Bool :=
  match s.act OD.CMP_EDGE n.val with
  | 0 => active
  | 1 => !active
  | _ => true

/-- Capture (R362). -/
def State.cmpCapture (s : State) (n : Oct) (active : Bool) (t : Nat) : State :=
  (s.count OD.CMP_CAPTS n.val).updCell n fun c => { c with captTime := t, captEdge := if active then 1 else 2 }

/-- Event: at most one in 1 ms (R362). -/
def State.cmpEvent (s : State) (n : Oct) (active : Bool) (t : Nat) : State :=
  let soon := match (s.cell n).lastEvent with
    | some e => decide (t < e + msNs)
    | none => false
  if soon then s.count OD.CMP_EVENTS_SUPPR n.val
  else (s.journalAt t 0x0B (.cmp n) 1 [(1, if active then 1 else 2)]).updCell n fun c => { c with lastEvent := some t }

/-- Capture and event routes of cell `n` on a filtered edge. -/
def State.slowRoutes (s : State) (n : Oct) (active : Bool) (t : Nat) : State :=
  if edgeSelected s n active then
    let s := if routeBit s n 0 then s.cmpCapture n active t else s
    if routeBit s n 1 then s.cmpEvent n active t else s
  else s

/-- The PWM termination route of cell `n` when its output enters its active sense. -/
def State.termRoute (s : State) (n : Oct) (t : Nat) : State :=
  if routeBit s n 3 then s.pwmTerminate ⟨s.act OD.CMP_PWM_TERM n.val % 8, by omega⟩ t else s

/-- Both route cells of a change at `n`: the cell, and the upper member of its pair (R358). -/
def routeCells (s : State) (n : Oct) : List Oct := if paired s n && n.val % 2 == 1 then [n, upperOf n] else [n]

/-- The filtered output of cell `n` becomes `active`: capture and event routes act on it, stamped with the step `t` at which the
unfiltered output changed; the edges of an initialised sense are neither captured nor sent (R355, R361, R362). -/
def State.filtEdge (s : State) (n : Oct) (active : Bool) (t : Nat) : State :=
  let initial := (s.cell n).init
  let s' := s.updCell n fun c => { c with filt := active, rising := none, init := c.init && active }
  if initial || !s.hubUp then s'
  else (routeCells s n).foldl (fun a k => if routeFilt s k != routeFilt s' k then a.slowRoutes k (routeFilt s' k) t else a) s'

/-- The filter of cell `n` has confirmed its output by `t` (R361). -/
def State.cellFilter (s : State) (n : Oct) (t : Nat) : State :=
  match (s.cell n).rising with
  | some (a, e) => if e ≤ t ∧ (s.cell n).masked = false then s.filtEdge n true a else s
  | none => s

/-- What the unfiltered outputs that have changed since `old` do on their routes, be it by a crossing or by initialisation; faults
apply before terminations (R355, R361, R362, R391). -/
def State.routesAct (s old : State) (t : Nat) : State :=
  allOct.foldl (fun a k => if !routeOut old k && routeOut s k then a.termRoute k t else a) s.pwmFaults

/-- The unfiltered output of cell `n` changes sense at `t` (R361, R362). -/
def State.cellOut (s : State) (n : Oct) (active : Bool) (t : Nat) : State :=
  (s.updCell n fun c => { c with out := active, outAt := if active then t else c.outAt, wait := c.wait && active }).routesAct s t

/-- The output of cell `n` changes sense at `t`: its active sense passes the filter first, its safe sense ends a filter that runs
and passes at once (R179, R361). -/
def State.cellEdge (s : State) (n : Oct) (active : Bool) (t : Nat) : State :=
  if active then
    let f := s.filterOf n
    let s := s.cellOut n true t
    if f = 0 then s.filtEdge n true t else s.updCell n fun c => { c with rising := some (t, t + f) }
  else ((s.cellFilter n (t - 1)).cellOut n false t).filtEdge n false t

/-- What the pin of cell `n` shows at `t` reaches the output: a change of sense, or the end of its filter. -/
def State.cellAt (s : State) (n : Oct) (active : Bool) (t : Nat) : State :=
  if (s.cell n).out != active then s.cellEdge n active t else s.cellFilter n t

/-- Whether an edge at the pin is seen: powered, neither held nor masked. -/
def Cell.sees (c : Cell) : Bool := c.powered && c.holdUntil.isNone && !c.masked

/-- HUB_CMP_EDGE: the pin of a cell is on the side `active` of its band with hysteresis, and on the side `mid` of its middle, which
initialisation reads (R354). A cell that is held or masked takes it when that ends (R350, R369). -/
def execHubCmpEdge (n : Oct) (active : Bool) (mid : Bool) (t : Nat) (s : State) : Result :=
  let s := s.updCell n fun c => { c with mid := mid }
  .next (if (s.cell n).sees then (s.at t).cellAt n active (stepOf (max s.now t))
    else s.updCell n fun c => { c with later := some active })

/-- A test that waited for the end of a hold starts (R369). -/
def State.testBegin (s : State) (n : Oct) (swap : Bool) : State :=
  s.updCell n fun c => { c with test := 1, swap := swap, testDue := none, kept := c.out, keptFilt := c.filt, testAt := s.now,
                                later := none }

/-- The hold of a hub cell ends at `t`: it evaluates its input, and what crossed meanwhile is stamped there (R350). -/
def State.holdEnd (s : State) (n : Oct) (active : Bool) (t : Nat) : State :=
  let s := (s.updCell n fun c => { c with holdUntil := none, later := none }).cellAt n active t
  match (s.cell n).testDue with
  | some swap => s.testBegin n swap
  | none => s

/-- A pod cell is out of its hold. -/
def Pod.holdOff (p : Pod) (k : PodCmp) : Pod :=
  match k with
  | .outp => { p with holdOutp := none }
  | .buswUv => { p with holdUv := none }
  | .buswOv => { p with holdOv := none }
  | _ => p

/-- The hold of a pod cell ends at `t`: its output follows its input; a crossing is captured there (R350). -/
def Pod.holdEnd (p : Pod) (k : PodCmp) (active : Bool) (t : Nat) : Pod :=
  let p := p.holdOff k
  let p := if active && !p.st.prot.cmpOut.testBit k.bit then p.crossed k
    else { p with st := { p.st with prot := { p.st.prot with cmpOut := setBit p.st.prot.cmpOut k.bit active } } }
  p.cmpRules t

/-- SPEED_HOLD_END: the input of the cell is on the side `active` (R350). -/
def execSpeedHoldEnd (cell : CellId) (active : Bool) (s : State) : Result :=
  .next (match cell with
    | .hub n =>
      match (s.cell n).holdUntil with
      | some u => if u ≤ s.now then s.holdEnd n active u else s
      | none => s
    | .pod c k =>
      match (s.pod c).hold k with
      | some u => if u ≤ s.now then s.updPod c fun p => p.holdEnd k active u else s
      | none => s)

/-! ## Self-test (R366 to R369) -/

/-- A test of the cell, or its self-test in a precharge, is running. -/
def testRunning (s : State) (n : Oct) : Bool :=
  (s.cell n).test == 1 || (s.cell n).testDue.isSome || (s.cell n).mask

/-- A channel named by the termination or fault route of the cell is RUNNING; a partner runs with its main (R368, R373). -/
def routesRunning (s : State) (n : Oct) : Bool :=
  (routeBit s n 3 && pwmState s ⟨s.act OD.CMP_PWM_TERM n.val % 8, by omega⟩ == 2) ||
  (routeBit s n 4 && allOct.any fun m => (s.act OD.CMP_PWM_FLT n.val).testBit m.val && pwmState s m == 2)

/-- CMP_TEST (R368). -/
def State.cmpTest (s : State) (n : Oct) (swap : Bool) : State × Err :=
  if !s.actB OD.CMP_EN n.val || routesRunning s n then (s, .state)
  else if testRunning s n || (paired s n && (testRunning s (upperOf n) || testRunning s (lowerOf n))) then (s, .busy)
  else if (s.cell n).holdUntil.isSome then (s.updCell n fun c => { c with testDue := some swap }, .ok)
  else (s.testBegin n swap, .ok)

/-- A FAIL of a test is counted and journalled (R368). -/
def State.testFail (s : State) (n : Oct) : State := (s.count OD.CMP_TEST_FAILS n.val).journal 0x0B (.cmp n) 2 [(1, 3)]

/-- A test ends: PASS, FAIL or INCONCLUSIVE; a FAIL is counted and journalled (R367, R368). A tie test has no inconclusive
end. A crossing during the test is taken now (R369). -/
def State.testEnd (s : State) (n : Oct) (r : TestResult) : State :=
  let code := match r with
    | .pass => 2
    | .fail => 3
    | .void => if (s.cell n).swap then 4 else 3
  let seen := (s.cell n).later
  let s := s.updCell n fun c => { c with test := code, later := none }
  let s := match seen with
    | some a => s.cellAt n a s.now
    | none => s
  if code = 3 then s.testFail n else s

/-- CMP_TEST_DONE. A test lasts at least four response times: the swapped sense is read at their end, and the input settles for as
long after a tie test (R366, R367). -/
def execCmpTestDone (n : Oct) (result : TestResult) (s : State) : Result :=
  let c := s.cell n
  .next (if c.test = 1 ∧ c.testAt + 4 * speedNs (s.act OD.CMP_SPEED n.val) ≤ s.now then s.testEnd n result else s)

/-- The converter's tie test of its comparator begins: the cell is masked (R366). -/
def State.selfMask (s : State) (n : Oct) : State := s.updCell n fun c => { c with mask := true, later := none }

/-- It ends: the cell takes what its input shows (R366, R369). -/
def State.selfUnmask (s : State) (n : Oct) : State :=
  if (s.cell n).mask then
    let seen := (s.cell n).later
    let s := s.updCell n fun c => { c with mask := false, later := none }
    match seen with
    | some a => s.cellAt n a s.now
    | none => s
  else s

/-- Entry into SLEEP ends a test (R369). -/
def State.testAbort (s : State) (n : Oct) : State :=
  if (s.cell n).test = 1 || (s.cell n).testDue.isSome then
    s.updCell n fun c => { c with test := 5, testDue := none, out := (if c.test = 1 then c.kept else c.out),
                                  filt := (if c.test = 1 then c.keptFilt else c.filt) }
  else s

/-- `CMP_OUT`. -/
def cmpOut (s : State) (n : Oct) : Nat :=
  bitAt ((s.cell n).filt && (s.cell n).powered) 0 + bitAt (s.cell n).sense 1 +
  bitAt (n.val % 2 == 0 && paired s n && routeFilt s n) 2 + bitAt ((s.cell n).wait && (s.cell n).powered) 3

end Sys2Proof.Machine
end

