-- ==== Sys2Proof/Machine/HubPort.lean ====
section
/-! DEFINITION. What the hub holds of its pod ports: its view of the channels, the next command frame, bus voltages, the
start conditions of a channel. -/

namespace Sys2Proof.Machine

/-! ## The hub's view (R27, R38, R568) -/

def State.seen (s : State) (c : Chan) : PodStatus := (s.port c).seen

/-- Channel state at the hub: HELD while the pod is in HOLD or SAFE, ABSENT without a link (R38, R129). -/
def hubCh (s : State) (c : Chan) : ChState :=
  if !(s.port c).linked then .absent
  else if (s.seen c).pod = .hold || (s.seen c).pod = .safe then .held
  else (s.seen c).ch

/-- Pod state at the hub. -/
def hubPod (s : State) (c : Chan) : PodState := if (s.port c).linked then (s.seen c).pod else .unpowered

/-- The pod of a port obeys this hub. -/
def owns (s : State) (c : Chan) : Bool := (s.port c).linked && (s.seen c).own.link == some true

/-- Whether the hub hears the pod of a port. -/
def hears (s : State) (c : Chan) : Bool := (s.port c).linked && s.hubUp

/-- This hub is the owner of a channel: it is not partnered, or the hub holds its group and is not giving it up; only the owner decides
for a group (R532, R536, R539; DEDUCED, log 105). -/
def holdsPort (s : State) (c : Chan) : Bool := !partnered s c || ((s.port c).own && (s.port c).releasing.isNone)

/-- The hub runs the engine, converter and chopper of a bus whose group it owns and is not handing over (R532, R536). -/
def runsBus (s : State) (b : BusId) : Bool := (membersOf s.active b).all (holdsPort s)

/-- The hub runs a chopper: one without a bus, or that of a bus which it runs. -/
def runsDis (s : State) (d : Quad) : Bool :=
  match busOfDis s.active d with
  | some b => runsBus s b
  | none => true

/-- Change the next command frame of a port (R21). -/
def State.down (s : State) (c : Chan) (f : CmdFrame → CmdFrame) : State :=
  s.updPort c fun q => { q with down := f q.down }

/-- Trip a channel with a cause that the hub decides (R226). -/
def State.tripBy (s : State) (c : Chan) (k : Cause) : State := s.down c fun f => { f with trips := addCause f.trips k }

/-- Command a channel off (R88). -/
def State.offBy (s : State) (c : Chan) : State := s.down c fun f => { f with off := true, start := false }

/-- Whether a command that acts at the pod's boundary reaches it: linked, in ACTIVE, and obeying this hub, which sends it no
RELEASE (R529). -/
def reaches (s : State) (c : Chan) : Bool :=
  (s.port c).linked && (s.pod c).st.pod == .active && (s.pod c).st.own.link == some true && (s.port c).releasing.isNone

/-- The part of a status that a command's direct effect is reported in at once; what a port holds until it is cleared only grows
(R137, R568). -/
def PodStatus.follow (v w : PodStatus) : PodStatus :=
  { v with ch := w.ch, refused := w.refused, gstat := w.gstat, startEnergy := v.startEnergy || w.startEnergy, seat := w.seat,
           adc := w.adc,
           prot := { v.prot with cmpCapt := v.prot.cmpCapt ||| w.prot.cmpCapt, ftPeak := max v.prot.ftPeak w.prot.ftPeak,
                                 detail := w.prot.detail, selftestFail := v.prot.selftestFail ||| w.prot.selftestFail } }

/-- The port takes a status; of what it holds itself it follows the changes (R568). -/
def Port.sees (q : Port) (v : PodStatus) : Port :=
  { q with seen := v, eStart := if v.counts.starts = q.seen.counts.starts then q.eStart else v.eStart,
           cal := if v.adc.cal = q.seen.adc.cal ∧ v.adc.calN = q.seen.adc.calN then q.cal else v.adc.cal,
           recal := if v.adc.recal = q.seen.adc.recal ∧ v.adc.recalN = q.seen.adc.recalN then q.recal else v.adc.recal }

/-- An effect of a command on a pod that it reaches: what it changes is reported at once. -/
def State.podNow (s : State) (c : Chan) (f : Pod → Pod) : State :=
  if reaches s c then
    let p := f (s.pod c)
    (s.updPod c fun _ => { p with up := p.up.follow p.st }).updPort c fun q => q.sees (q.seen.follow p.st)
  else s

/-! ## Voltages (R63, R142) -/

/-- V(IN) − V(DC−) and V(OUT) − V(DC−) of a channel, from valid samples only, in µV. -/
def vinOf (s : State) (c : Chan) : Option Int :=
  let m := (s.seen c).meas
  if m.vdi.ok && m.vdn.ok then some m.vin else none

def voutOf (s : State) (c : Chan) : Option Int :=
  let m := (s.seen c).meas
  if m.vdo.ok && m.vdn.ok then some m.vout else none

/-- The voltage of the bus at a channel: OUT of a FEED, IN of a BRANCH (R10). -/
def busSide (s : State) (c : Chan) : Option Int := if isFeed s.active c then voutOf s c else vinOf s c

/-- The channel that supplies a bus's voltage (R63). -/
def pickVsrc (s : State) (b : BusId) : Option Chan :=
  match (feedsOf s.active b).find? fun c => hubPod s c == .active with
  | some c => some c
  | none => (branchesOf s.active b).find? fun c => hubPod s c == .active

/-- The bus voltage in µV (R63). -/
def busV (s : State) (b : BusId) : Option Int :=
  match (s.bus b).vsrc with
  | some c => busSide s c
  | none => none

/-! ## Start conditions (R111) -/

/-- The end of the cool-down of a port (R132). -/
def coolEnd (s : State) (c : Chan) : Nat := max (s.port c).tLatch (s.port c).tEnable0 + s.act OD.CH_TCOOL c.val * msNs

/-- A cool-down is pending: of a LATCHED channel, or of a latch that a removal cleared (R131, R132). -/
def coolPending (s : State) (c : Chan) : Bool :=
  if hubCh s c = .latched then (s.port c).enable || decide (s.now < coolEnd s c)
  else (s.port c).cleared && decide (s.now < coolEnd s c)

/-- The ORing engine of a bus is on (R6, R264): active `BUS_FMODE` ORING. -/
def oringBus (s : State) (b : BusId) : Bool := s.act OD.BUS_FMODE b.val == 2

/-- The two feeds of an engine, the lower-numbered first (R253). -/
def engineFeeds (s : State) (b : BusId) : Option (Chan × Chan) :=
  if oringBus s b then
    match feedsOf s.active b with
    | [x, y] => some (x, y)
    | _ => none
  else none

/-- The one feed of an engine whose bus has no second one. -/
def soloFeed (s : State) (b : BusId) : Option Chan :=
  if oringBus s b then
    match feedsOf s.active b with
    | [x] => some x
    | _ => none
  else none

/-- The pod type that the port reports meets the active set: a FEED of an ORing bus needs a TM6422 (R6). -/
def typeOk (s : State) (c : Chan) : Bool :=
  s.stat OD.DEV_POD_TYPE 0 c.val == 0x6422 || !(isFeed s.active c && allBuses.any fun b => onBus s.active b c && oringBus s b)

/-- Failing start conditions but for bit 9 (R111). -/
def startBits8 (s : State) (c : Chan) : Nat :=
  let v := s.seen c
  let ch := hubCh s c
  bitAt (!(s.port c).linked || !v.seat.debounced) 0 + bitAt (!(s.port c).enable) 1 +
  bitAt (s.act OD.CH_ROLE c.val == 0) 2 + bitAt (uvloBits v (s.actB OD.CH_VNEG_USE c.val) != 0) 3 +
  bitAt (!windowOk (s.act OD.CH_ROLE c.val) (s.act OD.CH_BUS c.val) v.prot.window) 4 + bitAt ch.faulted 5 +
  bitAt (coolPending s c) 6 + bitAt (hubPod s c != .active) 7 + bitAt (!typeOk s c) 8

end Sys2Proof.Machine
end

