-- ==== Sys2Proof/Machine/Precharge.lean ====
section
/-! DEFINITION. Precharge converters (R138 to R161): control law, stop causes, sequence. -/

namespace Sys2Proof.Machine

def State.conv (s : State) (p : Quad) : Pre := s.pre.get p

/-- V_in and V_bus of the precharge feed, from valid samples (R142). -/
def preVin (s : State) (p : Quad) : Option Int := (feedOfPre s.active p).bind (vinOf s)
def preVbus (s : State) (p : Quad) : Option Int := (feedOfPre s.active p).bind (voutOf s)

/-- The close band: |V_in − V_bus| ≤ `PRE_CLOSE` · V_in (R156). -/
def inBand (s : State) (p : Quad) : Bool :=
  match preVin s p, preVbus s p with
  | some vi, some vb => decide (((vi - vb).natAbs : Int) * 10000 ≤ s.act OD.PRE_CLOSE p.val * vi)
  | _, _ => false

/-- The bus is above the source: V_bus > V_in · (1 + `PRE_CLOSE`) (R156). -/
def busHigh (s : State) (p : Quad) : Bool :=
  match preVin s p, preVbus s p with
  | some vi, some vb => decide (vi * (10000 + s.act OD.PRE_CLOSE p.val) < vb * 10000)
  | _, _ => false

/-- The code nearest to `PRE_IPK` × `PRE_KSENS` at 2 mV per code (R140, R346). -/
def preRef (m : Store) (p : Quad) : Nat := roundDiv (m.getN OD.PRE_IPK p.val * m.getN OD.PRE_KSENS p.val) (2000 * 65536)

/-- `PRE_IPK_EFF` in mA (R140). -/
def ipkEff (m : Store) (p : Quad) : Nat := roundDiv (preRef m p * 2000 * 65536) (max 1 (m.getN OD.PRE_KSENS p.val))

/-- t_ff in ns; none is unbounded (R142). -/
def tffOf (s : State) (p : Quad) (dv : Int) : Option Nat :=
  if dv ≤ 0 then none
  else some (1000 * s.act OD.PRE_L p.val * s.act OD.PRE_IPK p.val * (100 + s.act OD.PRE_FF_MARGIN p.val) / (100 * dv.toNat))

/-- FEED_FORWARD_UPDATE: t_ff of this tick, from valid samples (R142). -/
def State.feedForward (s : State) (p : Quad) : State :=
  match preVin s p, preVbus s p with
  | some vi, some vb => s.updPre p fun x => { x with tff := tffOf s p (vi - vb) }
  | _, _ => s

/-- The word of PWMp: period and the ceiling of the on-time (R141, R143). -/
def preWord (s : State) (p : Quad) : PwmWord :=
  { p := s.act OD.PRE_TPERIOD p.val,
    d := min 65535 (match (s.conv p).tff with
      | some t => t / stepNs
      | none => 65535) }

/-- Pulses of PWMp start (R143). -/
def State.preRun (s : State) (p : Quad) : State :=
  s.updGen (pwmOf p) fun g => (g.load (preWord s p) s.now).start s.now

/-- Every output of the converter at its inactive level (R158). -/
def State.preQuiet (s : State) (p : Quad) : State := s.pwmStop (pwmOf p)

/-! ## Stop causes (R144, R146, R148, R156 to R158) -/

/-- Charge-current estimate above 1.5 · `PRE_IPK_EFF`, over the last 100 µs (R146). -/
def rateHigh (s : State) (p : Quad) : Bool :=
  let x := s.conv p
  (x.state == .charging || x.state == .paused || x.state == .qualify) &&
  (match x.chargedAt, x.hist.head?, x.hist.getLast? with
   | some t, some v1, some v0 =>
     decide (t + 100000 ≤ s.now) && decide (x.hist.length = 101) &&
     decide (3 * (ipkEff s.active p : Int) * 100000 < 2 * s.act OD.PRE_CMIN p.val * (v1 - v0))
   | _, _, _ => false)

/-- The feed is lost: neither STARTING, ON nor LIMITING, its seat lost, or owned elsewhere (R158). -/
def preFeedLost (s : State) (p : Quad) : Bool :=
  match feedOfPre s.active p with
  | some c => !(hubCh s c).running || !(s.seen c).seat.debounced || !owns s c
  | none => true

/-- A discharge request is in force on a bus, or its end has not been processed (R169, R172). -/
def disHolds (s : State) (b : BusId) : Bool :=
  match disOf s.active b with
  | some d => (s.dis.get d).req || (s.dis.get d).state != .idle
  | none => false

def disReq (s : State) (b : BusId) : Bool :=
  match disOf s.active b with
  | some d => (s.dis.get d).req
  | none => false

def preDischarge (s : State) (p : Quad) : Bool :=
  match busOfPre s.active p with
  | some b => disReq s b
  | none => false

def preDisabled (s : State) (p : Quad) : Bool :=
  match feedOfPre s.active p with
  | some c => !(s.port c).enable
  | none => false

/-- A pause, or the wait for the ready inputs in SELFTEST, outlasts `PRE_TPAUSE_MAX` (R148, R156). -/
def pauseOver (s : State) (p : Quad) : Bool :=
  let x := s.conv p
  let limit := s.act OD.PRE_TPAUSE_MAX p.val * usNs
  x.state == .paused && decide (x.pauseAt + limit < s.now)

def closeOver (s : State) (p : Quad) : Bool :=
  (s.conv p).state == .handover && decide ((s.conv p).closeAt + s.act OD.PRE_TCLOSE_MAX p.val * msNs ≤ s.now)

/-- SELFTEST to QUALIFY: the span of `PRE_TMAX` and of the progress windows (R157). -/
def PreState.timed : PreState → Bool
  | .selftest | .charging | .paused | .qualify => true
  | _ => false

def timeOver (s : State) (p : Quad) : Bool :=
  PreState.timed (s.conv p).state && decide ((s.conv p).selfAt + s.act OD.PRE_TMAX p.val * msNs ≤ s.now)

/-- The present V_bus of the feed from its latest valid conversions. -/
def preV (s : State) (p : Quad) : Int :=
  match feedOfPre s.active p with
  | some c => (s.seen c).meas.vout
  | none => 0

def preVinRaw (s : State) (p : Quad) : Int :=
  match feedOfPre s.active p with
  | some c => (s.seen c).meas.vin
  | none => 0

/-- A progress window has ended. -/
def windowOver (s : State) (p : Quad) : Bool :=
  PreState.timed (s.conv p).state && decide ((s.conv p).winAt + s.act OD.PRE_TPROG p.val * msNs ≤ s.now)

/-- The bus rose by less than `PRE_VPROG` · V_in in the window that has ended (R157). -/
def noProgress (s : State) (p : Quad) : Bool :=
  windowOver s p && decide ((preV s p - (s.conv p).winV) * 10000 < s.act OD.PRE_VPROG p.val * (s.conv p).winVin)

/-- The stop events that hold now, in the order of R158; SENSOR_FAULT stops at once and is not among them. -/
def preDue (s : State) (p : Quad) : List PreStatus :=
  (if rateHigh s p then [.rateHigh] else []) ++ (if pauseOver s p then [.pauseLimit] else []) ++
  (if closeOver s p then [.closeLimit] else []) ++ (if noProgress s p then [.noProgress] else []) ++
  (if timeOver s p then [.timeLimit] else []) ++ (if preFeedLost s p then [.feedLost] else []) ++
  (if preDischarge s p then [.discharge] else []) ++ (if preDisabled s p then [.commanded] else [])

/-- What a stop does to the feed (R158). -/
def State.preFeedActs (s : State) (p : Quad) (ev : PreStatus) : State :=
  match feedOfPre s.active p with
  | none => s
  | some c =>
    match ev with
    | .sensorFault | .rateHigh | .noProgress | .timeLimit | .pauseLimit | .closeLimit => s.tripBy c .prechargeTimeout
    | .discharge | .commanded => s.offBy c
    | _ => s

/-- PRECHARGE_STOP (R158). -/
def State.preStop (s : State) (p : Quad) (ev : PreStatus) : State :=
  if (s.conv p).state.busy then
    let s := ((s.selfUnmask (pwmOf p)).preQuiet p).updPre p fun x =>
      { x with state := .aborted, status := ev, elapsed := (s.now - x.selfAt) / usNs, leftAt := some s.now }
    s.preFeedActs p ev
  else s

/-- Stop with the first of the due events if `ev` is among them. -/
def State.preStopOn (s : State) (p : Quad) (ev : List PreStatus) : State :=
  if (s.conv p).state.busy && (preDue s p).any ev.contains then
    match preDue s p with
    | e :: _ => s.preStop p e
    | [] => s
  else s

/-! ## The sequence -/

/-- Whether a feed reports both sides clamped, and since when: of a removed module since it reported so, else since the removal;
in SAFE since its entry (R255, R258, R262). -/
def clampAt (s : State) (c : Chan) : Option Nat :=
  if (s.port c).noPod then
    if (s.port c).linked && !(s.seen c).bothClamped then none else some ((s.seen c).tStatic.getD (s.port c).seat.removedAt)
  else if !(s.port c).linked then none
  else if (s.seen c).pod = .safe then some (s.seen c).trip.time
  else if (s.seen c).bothClamped then some ((s.seen c).tStatic.getD 0)
  else none

/-- Break-before-make of a selection: every other feed clamped for `BUS_TBBM` (R255). -/
def bbmOk (s : State) (b : BusId) (c : Chan) : Bool :=
  (feedsOf s.active b).all fun k => k == c || (match clampAt s k with
    | some t => decide (t + s.act OD.BUS_TBBM b.val * usNs ≤ s.now)
    | none => false)

/-- The bus leaves the precharge feed to start: it is the selected one and the others have broken before it makes; a transfer that runs
is the precharged close to it, with `BUS_TBBM` passed; a FAILED bus has selected none (R255, R256, R258, R260, R261, R263, R272). -/
def preInTurn (s : State) (b : BusId) (c : Chan) : Bool :=
  let x := s.bus b
  if x.xfer.moving then
    x.xfer == .precharge && x.xNew == some c && (match x.tStatic with
      | some t => decide (t + x.xTbbm * usNs ≤ s.now)
      | none => false)
  else x.sel == some c && bbmOk s b c

/-- Conditions of R153 besides those of the feed's bus mode; the start waits for a stack test or a calibration (R215, R307). -/
def preCanStart (s : State) (p : Quad) : Bool :=
  match busOfPre s.active p, feedOfPre s.active p with
  | some b, some c =>
    (s.conv p).state == .idle && s.hubUp && hubCh s c == .off && startBits8 s c == 0 &&
    (feedsOf s.active b).all (fun k => !(hubCh s k).running) && !disHolds s b && !busHigh s p && !(s.bus b).bf &&
    preInTurn s b c && !(s.pod c).busyForStart
  | _, _ => false

/-- Entry into SELFTEST: CMPp is under test; limits and windows start from zero, with `PRE_PULSES`, of this precharge;
`PRE_SKIPS` and `PRE_PAUSES` count on, and `PRE_VRESID` stands until the next close command (R153, R157, R161, R173, R567). -/
def State.preSelftest (s : State) (p : Quad) : State :=
  ((s.preQuiet p).selfMask (pwmOf p)).updPre p fun x =>
    { state := .selftest, selfAt := s.now, winAt := s.now, winV := preV s p, winVin := preVinRaw s p, tff := x.tff,
      skips := x.skips, pauses := x.pauses, vresid := x.vresid, leftAt := x.leftAt }

/-- Entry into CHARGING. -/
def State.preCharge (s : State) (p : Quad) : State :=
  s.updPre p fun x => { x with state := .charging, chargedAt := some (x.chargedAt.getD s.now) }

/-- Entry into QUALIFY: the band is held from now. -/
def State.preQualify (s : State) (p : Quad) : State := s.updPre p fun x => { x with state := .qualify, qualAt := s.now }

/-- Pulses begin in CHARGING or, within the close band, in QUALIFY (R156). -/
def State.preBegin (s : State) (p : Quad) : State :=
  (if inBand s p then s.preQualify p else s.preCharge p).preRun p

/-- BOOTSTRAP_LOW: a ready input of the running converter deasserts (R147). `PRE_PAUSES` wraps at its 16 bits (DESIGN CHOICE,
log 19). -/
def State.prePause (s : State) (p : Quad) : State :=
  let x := s.conv p
  if x.state == .charging || x.state == .qualify then
    s.updPre p fun x => { x with state := .paused, resumeTo := x.state, status := .bootstrapLow, pauseAt := s.now,
                                 pauses := (x.pauses + 1) % 65536 }
  else s

/-- The feed has reached ON: HANDOVER ends in DONE (R156). -/
def State.preFeedOn (s : State) (c : Chan) : State :=
  allQuads.foldl (fun s p =>
    if feedOfPre s.active p == some c && (s.conv p).state == .handover then
      s.updPre p fun x => { x with state := .done, elapsed := (s.now - x.selfAt) / usNs, leftAt := some s.now }
    else s) s

/-- V_bus of this tick joins the last 100 µs (R146). -/
def State.preHist (s : State) (p : Quad) : State :=
  s.updPre p fun x => { x with hist := if PreState.timed x.state then (preV s p :: x.hist).take 101 else [] }

/-- A progress window that has ended with progress gives way to the next (R157). -/
def State.preWindow (s : State) (p : Quad) : State :=
  if windowOver s p && !noProgress s p then
    s.updPre p fun x => { x with winAt := s.now, winV := preV s p, winVin := preVinRaw s p }
  else s

/-- The converter at a control tick: feed-forward, rate, stops, progress window, close band, return to IDLE (R142, R146, R156 to R158).
R158 keeps the reason of a stop to the next SELFTEST and R156 gives an IDLE converter BUS_HIGH: BUS_HIGH takes the reason's place
(DESIGN CHOICE, log 111). -/
def State.preTick (s : State) (p : Quad) : State :=
  if (busOfPre s.active p).isNone then s
  else
    let s := (s.feedForward p).preHist p
    let was := (s.conv p).state
    let s := (s.preStopOn p [.rateHigh, .feedLost, .discharge, .commanded]).preWindow p
    let feed := match feedOfPre s.active p with
      | some c => hubCh s c
      | none => .absent
    match (s.conv p).state with
    | .idle => if busHigh s p then s.updPre p fun x => { x with status := .busHigh } else s
    | .charging =>
      let s := s.updGen (pwmOf p) fun g => g.load (preWord s p) s.now
      if inBand s p then s.preQualify p else s
    | .qualify =>
      let s := s.updGen (pwmOf p) fun g => g.load (preWord s p) s.now
      if inBand s p then s else s.preCharge p
    | .done => if feed.running then s else s.updPre p fun x => { x with state := .idle }
    | .aborted => if feed == .starting || was != .aborted then s else s.updPre p fun x => { x with state := .idle }
    | _ => s

/-- The time since entry into SELFTEST in µs, `PRE_TELAPSED`. -/
def preElapsed (s : State) (p : Quad) : Nat :=
  if (s.conv p).state.busy then (s.now - (s.conv p).selfAt) / usNs else (s.conv p).elapsed

/-! ## Meanings -/

/-- The start with the stack off at the pod: ignored and reported while a trip stands unacknowledged (R26, R153). -/
def Pod.askStackOff (p : Pod) (t : Nat) : Pod :=
  if p.acked then p.startStackOff t else { p with st := { p.st with ignored := true } }

/-- PRECHARGE_START, at a tick: the converter enters SELFTEST and the feed STARTING with its stack off (R153, R114). -/
def execPrechargeStart (p : Quad) (s : State) : Result :=
  .next (match feedOfPre s.active p with
    | some c =>
      if preCanStart s p && reaches s c && decide (s.now % tickNs = 0) then
        ((s.preSelftest p).down c fun f => { f with off := false }).podNow c fun x => x.askStackOff s.now
      else s
    | none => s)

/-- PRECHARGE_SELFTEST_DONE: a failure of the tie test of CMPp is counted and journalled too (R156, R366, R368). -/
def execPrechargeSelftestDone (p : Quad) (passed : Bool) (ready : Bool) (s : State) : Result :=
  .next (if (s.conv p).state = .selftest then
      let s := s.selfUnmask (pwmOf p)
      if !passed then (s.testFail (pwmOf p)).preStop p .sensorFault
      else if !ready then
        if (s.conv p).selfAt + s.act OD.PRE_TPAUSE_MAX p.val * usNs ≤ s.now then s.preStop p .pauseLimit else s
      else if (preDue s p).isEmpty then s.preBegin p
      else s.preStopOn p (preDue s p)
    else s)

/-- PRECHARGE_RESUME (R148). -/
def execPrechargeResume (p : Quad) (s : State) : Result :=
  .next (if (s.conv p).state = .paused ∧ pauseOver s p = false then
      let lost := setBit s.rdyLost p.val false
      let s := { s with rdyLost := if s.act OD.PRE_MODE p.val = 1 then setBit lost (p.val + 4) false else lost }
      s.updPre p fun x => { x with state := x.resumeTo, qualAt := s.now }
    else s)

/-- PAUSE_LIMIT (R148). -/
def execPauseLimit (p : Quad) (s : State) : Result := .next (s.preStopOn p [.pauseLimit])

/-- The hand-over: the pulse ends and the close goes out in the frame of this tick (R159). -/
def State.preHandover (s : State) (p : Quad) : State :=
  match feedOfPre s.active p with
  | some c =>
    ((s.preQuiet p).updPre p fun x =>
      { x with state := .handover, closeAt := s.now, vresid := (preVinRaw s p - preV s p) / 1000 }).down c
      fun f => { f with start := true }
  | none => s

/-- PRECHARGE_CLOSE: a limit that expires in the same tick prevails (R158, R159). -/
def execPrechargeClose (p : Quad) (s : State) : Result :=
  .next (if (s.conv p).state = .qualify ∧ (s.conv p).qualAt + s.act OD.PRE_TCLOSEQ p.val * usNs ≤ s.now then
      if (preDue s p).isEmpty then s.preHandover p else s.preStopOn p (preDue s p)
    else s)

/-- NO_PROGRESS: a window ends; with progress the next one starts (R157). -/
def execNoProgress (p : Quad) (s : State) : Result :=
  .next (if noProgress s p then s.preStopOn p [.noProgress] else s.preWindow p)

/-- PRECHARGE_TIME_LIMIT (R157). -/
def execPrechargeTimeLimit (p : Quad) (s : State) : Result := .next (s.preStopOn p [.timeLimit])

/-- CLOSE_LIMIT (R156). -/
def execCloseLimit (p : Quad) (s : State) : Result := .next (s.preStopOn p [.closeLimit])

/-! ## PWM events: generators and their owners -/

/-- A Qp pulse is emitted or a period skipped, for the counters of the owner (R143, R173). -/
def State.preEmit (s : State) (n : Oct) : State :=
  match preOwner s n with
  | some p => s.updPre p fun x => { x with pulses := (x.pulses + 1) % 2 ^ 32 }
  | none => s

def State.preSkip (s : State) (n : Oct) : State :=
  match preOwner s n with
  | some p => s.updPre p fun x => { x with skips := (x.skips + 1) % 2 ^ 32 }
  | none => s

/-- A period of a paused converter: no Qp pulse; in COMPLEMENTARY mode the refresh pulse (R147, R149). -/
def State.refresh (s : State) (n : Oct) (t : Nat) : State :=
  let s := s.updGen n fun g => { (g.newPeriod t).quiet with fault := false, released := false }
  let len := s.act OD.PRE_TREFRESH n.val * stepNs
  if compl s n && decide (0 < len) then s.updGen n fun g => { g with partner := true, until_ := some (t + len) } else s

/-- PWM_PERIOD_BOUNDARY: `rdy` is the level of the ready inputs, 1 asserted. -/
def execPwmPeriodBoundary (n : Oct) (rdy : Nat) (s : State) : Result :=
  let g := s.gen n
  let due := g.boundaryAt
  .next (if g.run && !isPartner s n && s.hubUp then
      let s := s.at due
      let s := { s with rdyLost := setBit (setBit s.rdyLost n.val (!rdy.testBit n.val)) (partnerOf n).val
                          (!rdy.testBit (partnerOf n).val) }
      match preOwner s n with
      | some p => if (s.conv p).state = .paused then s.refresh n due
                  else s.pwmBoundary n due (fun s => s.preEmit n) (fun s => s.preSkip n)
      | none => s.pwmBoundary n due id id
    else s)

/-- PWM_MIDPERIOD_RELOAD (R386). -/
def execPwmMidperiodReload (n : Oct) (s : State) : Result :=
  let g := s.gen n
  .next (if g.run && g.startAt.isNone && s.act OD.PWM_UPD n.val == 1 && !isPartner s n then
      (s.at g.midAt).pwmMid n
    else s)

/-- MISSED_TRIP: a Qp pulse that ended at t_ff (R144). -/
def State.missedTrip (s : State) (n : Oct) : State :=
  match preOwner s n with
  | some p => if (s.conv p).state == .charging || (s.conv p).state == .qualify then s.preStop p .sensorFault else s
  | none => s

/-- PWM_PULSE_END (R377, R379, R383, R144). -/
def execPwmPulseEnd (n : Oct) (s : State) : Result :=
  let g := s.gen n
  .next (match g.until_ with
    | none => s
    | some e =>
      if g.main then
        let s := s.at e
        let cut := g.clipped && !g.terminated
        let s := if cut then s.count OD.PWM_CLIPPED n.val else s
        let s := (s.mainEnds n e).updGen n fun x => { x with endAt := if g.terminated then none else some (e, cut) }
        if g.clipped || g.terminated then s else s.missedTrip n
      else if g.partner then (s.at e).updGen n fun g => { g with partner := false, until_ := none }
      else s)

/-- PWM_DEAD_TIME_END (R379). -/
def execPwmDeadTimeEnd (n : Oct) (s : State) : Result :=
  .next (match (s.gen n).partnerAt with
    | some t => if (s.gen n).fault then s else (s.at t).updGen n fun g => { g with partner := true, partnerAt := none }
    | none => s)

end Sys2Proof.Machine
end

