-- ==== Sys2Proof/Machine/Discharge.lean ====
section
/-! DEFINITION. Discharge choppers (R162 to R172) and the loss of a driver's ready input (R147, R165, R389). -/

namespace Sys2Proof.Machine

def State.chop (s : State) (d : Quad) : Dis := s.dis.get d

/-- Voltage of the chopper's bus in µV. -/
def disV (s : State) (d : Quad) : Option Int := (busOfDis s.active d).bind (busV s)

/-- A feed counts as clamped: without a pod, or linked and reporting its IN side clamped (R164). -/
def inClamped (s : State) (c : Chan) : Bool :=
  (s.port c).noPod || ((s.port c).linked && (s.seen c).gIn.phase.clamped)

/-- The interlock of R164. -/
def disInterlock (s : State) (d : Quad) : Bool :=
  match busOfDis s.active d with
  | some b =>
    (feedsOf s.active b).all (inClamped s) &&
    (match preOf s.active b with
     | some p => (s.conv p).state == .idle || (s.conv p).state == .aborted
     | none => true)
  | none => false

/-- What holds the chopper in WAIT, first condition first (R167). -/
def disReason (s : State) (d : Quad) : Option DisStatus :=
  if (disV s d).isNone then some .noMeasure
  else if !disInterlock s d then some .interlock
  else if (s.chop d).driverLow || s.rdyLost.testBit (d.val + 4) then some .driverLow
  else none

/-- On-time in 1/16 counts of `DIS_TPERIOD`: min(`DIS_DMAX`, `DIS_PTARGET` · R / V²) (R162). -/
def disOn (s : State) (d : Quad) (v : Int) : Nat :=
  let full := 16 * s.act OD.DIS_TPERIOD d.val
  let most := full * s.act OD.DIS_DMAX d.val / 10000
  if v ≤ 0 then most
  else min most (full * s.act OD.DIS_PTARGET d.val * s.act OD.DIS_R d.val * 1000000000 / (v.toNat * v.toNat))

/-- Write the duty of this tick. -/
def State.disDuty (s : State) (d : Quad) (v : Int) : State :=
  let on := disOn s d v
  (s.updDis d fun x => { x with duty := on }).updGen (pwmLow d) fun g =>
    g.load { p := s.act OD.DIS_TPERIOD d.val, d := on / 16, dith := on % 16 } s.now

/-- The output inactive. -/
def State.disQuiet (s : State) (d : Quad) : State := (s.updDis d fun x => { x with duty := 0 }).pwmStop (pwmLow d)

/-- Back to WAIT with a reason (R164 to R167). -/
def State.disWait (s : State) (d : Quad) (r : DisStatus) : State :=
  (s.disQuiet d).updDis d fun x => { x with state := .wait, status := r, doneFrom := none }

/-- Resistor energy of one tick in nJ (R167). -/
def disEnergy (s : State) (d : Quad) : Int :=
  let x := s.chop d
  let v := ((disV s d).getD 0).natAbs
  ((x.duty * v * v / (16 * s.act OD.DIS_TPERIOD d.val * s.act OD.DIS_R d.val * 1000000) : Nat) : Int) -
    1000 * s.act OD.DIS_PCONT d.val

/-- `DIS_VDONE` is met (R167). -/
def disLow (s : State) (d : Quad) (v : Int) : Bool := decide (v ≤ s.act OD.DIS_VDONE d.val * 100000)

/-- The integrator of a tick, in every state of the chopper and of its hub (R167). -/
def State.disHeat (s : State) (d : Quad) : State :=
  let e := disEnergy s d
  s.updDis d fun x => { x with eacc := (if x.eacc + e < 0 then 0 else x.eacc + e) }

/-- The feeds of the chopper's bus, and in OPEN its branches, are commanded off, a start that still waits in a frame with them (R167,
R169, R171). -/
def State.disOff (s : State) (d : Quad) : State :=
  match busOfDis s.active d with
  | some b =>
    let off := feedsOf s.active b ++ (if s.act OD.DIS_BRMODE d.val = 1 then branchesOf s.active b else [])
    off.foldl (fun s c => if (hubCh s c).running && !(s.seen c).leaving || (s.port c).down.start then s.offBy c else s) s
  | none => s

/-- The chopper at a control tick (R162, R164 to R167, R172). The spec does not say what `DIS_TELAPSED` shows once the chopper is
STOPPED or its request 0: it stands still there (DESIGN CHOICE, log 84). -/
def State.disTick (s : State) (d : Quad) : State :=
  if (busOfDis s.active d).isNone then s
  else
    let x := s.chop d
    let s := match x.runAt with
      | some r => if x.req && x.state != .stopped then s.updDis d fun x => { x with elapsedMs := (s.now - r) / msNs } else s
      | none => s
    if !x.req then
      if x.state = .idle then s else (s.disQuiet d).updDis d fun x => { x with state := .idle, doneFrom := none }
    else
      match x.state with
      | .wait =>
        let s := s.disOff d
        match disReason s d with
        | some r => s.updDis d fun x => { x with status := r }
        | none => s
      | .run | .done =>
        match disReason s d, disV s d with
        | some r, _ => s.disWait d r
        | none, some v =>
          (s.disDuty d v).updDis d fun x =>
            { x with doneFrom := if disLow s d v then some (x.doneFrom.getD s.now) else none }
        | none, none => s
      | _ => s

/-- STOPPED with a status, recorded (R167, R168). -/
def State.disStop (s : State) (d : Quad) (r : DisStatus) : State :=
  let s := (s.disQuiet d).updDis d fun x => { x with state := .stopped, status := r }
  s.warn (.dis d) 9 [(1, r.code), (4, ((s.chop d).eacc / 1000000000).toNat), (4, (s.chop d).elapsedMs)]

/-- DISCHARGE_RUN (R164 to R167). -/
def execDischargeRun (d : Quad) (s : State) : Result :=
  .next (if (s.chop d).state = .wait ∧ (s.chop d).req = true ∧ runsDis s d = true ∧ disReason s d = none then
      match disV s d with
      | some v =>
        ((s.disDuty d v).updDis d fun x => { x with state := .run, runAt := some (x.runAt.getD s.now),
                                                    doneFrom := if disLow s d v then some s.now else none }).updGen (pwmLow d)
          fun g => g.start s.now
      | none => s
    else s)

/-- CHOPPER_RESUME: the ready input has been asserted for 20 µs (R165). -/
def execChopperResume (d : Quad) (s : State) : Result :=
  .next ({ s with rdyLost := setBit s.rdyLost (d.val + 4) false }.updDis d fun x => { x with driverLow := false })

/-- DISCHARGE_DONE (R167). -/
def execDischargeDone (d : Quad) (s : State) : Result :=
  .next (match (s.chop d).doneFrom with
    | some f => if (s.chop d).state = .run ∧ f + s.act OD.DIS_TDONEQ d.val * usNs ≤ s.now then
        s.updDis d fun x => { x with state := .done, doneOnce := true } else s
    | none => s)

/-- ENERGY_LIMIT (R167). -/
def execEnergyLimit (d : Quad) (s : State) : Result :=
  .next (if ((s.chop d).state = .run ∨ (s.chop d).state = .done ∨ (s.chop d).state = .wait) ∧
      (s.act OD.DIS_EMAX d.val : Int) * 1000000000 < (s.chop d).eacc then s.disStop d .energyLimit else s)

/-- DISCHARGE_TIME_LIMIT: `DIS_TMAX` from the first entry into RUN, before DONE was reached (R167). -/
def execDischargeTimeLimit (d : Quad) (s : State) : Result :=
  .next (match (s.chop d).runAt with
    | some r => if ((s.chop d).state = .run ∨ (s.chop d).state = .wait) ∧ (s.chop d).doneOnce = false ∧
        r + s.act OD.DIS_TMAX d.val * msNs ≤ s.now then s.disStop d .timeLimit else s
    | none => s)

/-! ## Driver ready (R147, R165, R389) -/

/-- A ready input deasserts: the generators it guards go high-impedance, a converter pauses, a chopper waits. -/
def State.readyLoss (s : State) (n : Oct) : State :=
  let s := { s with rdyLost := setBit s.rdyLost n.val true }.pwmFaults
  let s := match preOwner s (mainOf n) with
    | some p => if n.val < 4 || compl s (mainOf n) then s.prePause p else s
    | none => s
  match disOwner s n with
  | some d =>
    let s := s.updDis d fun x => { x with driverLow := true }
    if (s.chop d).state == .run || (s.chop d).state == .done then s.disWait d .driverLow else s
  | none => s

/-- DRIVER_READY_LOSS: RDYn_N deasserts, or, with `back`, is asserted again, which the table has no row of its own for: its loss acts
no more from there (R389, R390; the operand DESIGN CHOICE, log 109). -/
def execDriverReadyLoss (n : Oct) (back : Bool) (s : State) : Result :=
  .next (if back then { s with rdyLost := setBit s.rdyLost n.val false }.pwmFaults else s.readyLoss n)

end Sys2Proof.Machine
end

