-- ==== Sys2Proof/Machine/Feeds.lean ====
section
/-! DEFINITION. Redundant feeds (chapter 8): eligibility, selection, transfers, and bit 9 of the start conditions. -/

namespace Sys2Proof.Machine

/-- The feeds of a bus in the order of a rank word (R252). -/
def rankBy (s : State) (b : BusId) (rank : Nat) : List Chan :=
  let feeds := feedsOf s.active b
  let named := [0, 1, 2, 3].filterMap fun i => feeds.find? fun c => c.val == rank / 256 ^ i % 256
  named ++ feeds.filter fun c => !named.contains c

/-- The feeds of a bus by rank (R252). -/
def rankList (s : State) (b : BusId) : List Chan := rankBy s b (s.act OD.BUS_RANK b.val)

/-- The bus is live (R254). -/
def busLive (s : State) (b : BusId) : Bool :=
  (feedsOf s.active b).any (fun c => (hubCh s c).running) ||
  (match preOf s.active b with
   | some p => (s.conv p).state.busy
   | none => false)

/-- |V_in − V_bus| ≤ band · V_bus, the band in 0.01 %. -/
def inBandBy (s : State) (b : BusId) (c : Chan) (band : Nat) : Bool :=
  match vinOf s c, busV s b with
  | some vi, some vb => decide (((vi - vb).natAbs : Int) * 10000 ≤ band * vb)
  | _, _ => false

/-- |V_in − V_bus| ≤ `BUS_XFER_BAND` · V_bus (R263). -/
def feedInBand (s : State) (b : BusId) (c : Chan) : Bool := inBandBy s b c (s.act OD.BUS_XFER_BAND b.val)

/-- A precharged close is open to the feed, with a setting of `BUS_XFER_PRE` and a band (R260). -/
def preOpenBy (s : State) (b : BusId) (c : Chan) (on : Bool) (band : Nat) : Bool :=
  on &&
  (match preOf s.active b with
   | some p => feedOfPre s.active p == some c
   | none => false) &&
  (match vinOf s c, busV s b with
   | some vi, some vb => decide (vb * (10000 + band) < vi * 10000)
   | _, _ => false)

/-- A setting of selection: a transfer that runs keeps the value it started with (R278). -/
def busKept (s : State) (b : BusId) (o : Obj) (kept : Bus → Nat) : Nat :=
  if (s.bus b).xfer.moving then kept (s.bus b) else s.act o b.val

/-- V_in lies in the source window (R254). -/
def inSource (s : State) (b : BusId) (c : Chan) : Bool :=
  match vinOf s c with
  | some v => decide (busKept s b OD.BUS_VFEED_MIN Bus.xVmin * 100000 ≤ v) &&
      decide (v ≤ busKept s b OD.BUS_VFEED_MAX Bus.xVmax * 100000)
  | none => false

/-- Conditions of R254 but for the `BUS_THEALTH` qualification. -/
def feedGood (s : State) (b : BusId) (c : Chan) : Bool :=
  let sel := (s.bus b).sel == some c
  let band := busKept s b OD.BUS_XFER_BAND Bus.xBand
  let pre := busKept s b OD.BUS_XFER_PRE (fun x => bitAt x.xPreOn 0) != 0
  ((hubCh s c == .off && startBits8 s c == 0) || (sel && (hubCh s c).running)) && inSource s b c &&
  (sel || !busLive s b || inBandBy s b c band || preOpenBy s b c pre band)

/-- `BUS_THEALTH` has passed since every condition began to hold. -/
def feedEligible (s : State) (b : BusId) (c : Chan) : Bool :=
  match (s.port c).feed.healthFrom with
  | some f => decide (f + busKept s b OD.BUS_THEALTH Bus.xHealth * msNs ≤ s.now)
  | none => false

/-! ## Bit 9 of `CH_START_BLOCK` (R111) -/

/-- The converter of a bus is in its span from SELFTEST to HANDOVER. -/
def preBusy (s : State) (b : BusId) : Bool :=
  match preOf s.active b with
  | some p => (s.conv p).state.busy
  | none => false

/-- The precharge feed of a bus. -/
def preFeed (s : State) (b : BusId) : Option Chan := (preOf s.active b).bind (feedOfPre s.active)

/-- What holds a FEED besides selection: discharge, bus fault, a running precharge, R155, a bus above the source
(R154 to R156, R169, R242). R155 brings up a dead bus; it does not hold the feed that a transfer has chosen. -/
def feedHeld (s : State) (b : BusId) (c : Chan) : Bool :=
  disHolds s b || (s.bus b).bf || (s.bus b).bfOn ||
  (match preOf s.active b with
   | some p =>
     let mine := feedOfPre s.active p == some c
     ((s.conv p).state.busy && !mine) ||
     ((s.conv p).state == .idle && !mine && !(s.bus b).xfer.moving &&
       !(feedsOf s.active b).any fun k => hubCh s k == .on || hubCh s k == .limiting) ||
     ((s.conv p).state == .idle && mine && busHigh s p)
   | none => false)

/-- The hub holds back the start of a feed that is not selected, or whose break-before-make has not passed
(R255, R258, R263). -/
def selectHolds (s : State) (b : BusId) (c : Chan) : Bool :=
  let x := s.bus b
  if x.xfer.moving then !(x.xNew == some c && (x.xSent || x.xfer == .precharge))
  else if s.act OD.BUS_FMODE b.val = 1 || !busLive s b then !(x.sel == some c && bbmOk s b c)
  else if s.act OD.BUS_FMODE b.val = 0 then !feedInBand s b c
  else false

/-- A BRANCH is held by an OPEN discharge, a bus fault, a running precharge or a precharged close (R154, R171, R242,
R260). -/
def branchHeld (s : State) (b : BusId) : Bool :=
  (disHolds s b && (match disOf s.active b with
    | some d => s.act OD.DIS_BRMODE d.val == 1
    | none => false)) ||
  (s.bus b).bf || (s.bus b).bfOn || preBusy s b || ((s.bus b).xfer.moving && (s.bus b).xPre)

/-- Bit 9 of a channel. -/
def bit9 (s : State) (c : Chan) : Bool :=
  match busOf s.active c with
  | none => false
  | some b =>
    if isFeed s.active c then feedHeld s b c || selectHolds s b c
    else if isBranch s.active c then branchHeld s b else false

/-- Bit 9 as it holds a due retry: not by selection on a feed of a PRIORITY bus that is not the selected one (R235, R255). -/
def bit9Retry (s : State) (c : Chan) : Bool :=
  match busOf s.active c with
  | none => false
  | some b =>
    if isFeed s.active c then
      feedHeld s b c || ((s.act OD.BUS_FMODE b.val != 1 || (s.bus b).sel == some c) && selectHolds s b c)
    else if isBranch s.active c then branchHeld s b else false

/-- `CH_START_BLOCK` (R111, R112). -/
def startBlock (s : State) (c : Chan) : Nat :=
  if (hubCh s c).running then 0 else startBits8 s c + bitAt (bit9 s c) 9

/-- The feed closes after precharge: the precharge feed of a bus that is not live and in no direct transfer to it (R114). -/
def byPrecharge (s : State) (c : Chan) : Bool :=
  match busOf s.active c with
  | some b => preFeed s b == some c && isFeed s.active c && !busLive s b && !((s.bus b).xfer.moving && !(s.bus b).xPre)
  | none => false

/-! ## Transfers (R256 to R262, R606) -/

/-- A current in µA lies below 1 % of the channel's I_FS (R53). -/
def belowOne (s : State) (c : Chan) (i : Int) : Bool :=
  decide (i.natAbs * 100 * s.act OD.CH_RSHUNT c.val < (if s.act OD.CH_IRANGE c.val = 0 then 32000000 else 160000000) * 1000000)

/-- The highest-ranked eligible feed outside a mask, by a rank word. -/
def nextBy (s : State) (b : BusId) (rank mask : Nat) : Option Chan :=
  (rankBy s b rank).find? fun c => (s.bus b).eligible.testBit c.val && !mask.testBit c.val

/-- The highest-ranked eligible feed outside a mask. -/
def nextFeed (s : State) (b : BusId) (mask : Nat) : Option Chan := nextBy s b (s.act OD.BUS_RANK b.val) mask

/-- The end of a transfer: its gap and droop are written (R606). -/
def State.xferEnd (s : State) (b : BusId) : State :=
  let x := s.bus b
  let gap : Nat := match x.gapFrom, x.gapTo with
    | some f, some t => min (t - f) 0xFFFFFFFF
    | _, _ => 0xFFFFFFFF
  let droop : Nat := match x.xNew.bind fun c => (s.port c).feed.droop with
    | some v => min (v / 100000).toNat 0xFFFF
    | none => 0xFFFF
  (s.set OD.BUS_XFER_GAP b.val gap).set OD.BUS_XFER_DROOP b.val droop

/-- No eligible feed is left: FAILED, recorded (R256). -/
def State.xferFailed (s : State) (b : BusId) : State :=
  let x := s.bus b
  let s := if x.xfer.moving then s.xferEnd b else s
  let sel := match x.sel with
    | some c => c.val
    | none => 0xFF
  let s := s.warn (.bus b) 6 [(2, x.eligible), (1, sel)]
  s.updBus b fun x => { x with xfer := .failed, sel := none, selRan := false, xOld := none, xNew := none, xSent := false,
                               resume := false }

/-- Commands every running BRANCH off for a precharged close (R260). -/
def State.branchesOff (s : State) (b : BusId) : State :=
  (branchesOf s.active b).foldl (fun s c => if (hubCh s c).running then s.offBy c else s) s

/-- The hub chooses the new feed, which is the selected one from then on: direct within the band, else precharged where that is
open, by the settings that the transfer keeps (R255, R258, R260, R278). A feed that is neither, as it may be on a bus that is not
live, closes directly (DESIGN CHOICE, log 112). -/
def State.xferChoose (s : State) (b : BusId) (new : Chan) : State :=
  let k := s.bus b
  let pre := !inBandBy s b new k.xBand && preOpenBy s b new k.xPreOn k.xBand
  let s := s.updBus b fun x =>
    { x with sel := some new, xNew := some new, tried := setBit x.tried new.val true, xPre := pre, xSent := false, gapTo := none }
  if pre then s.branchesOff b else s

/-- What a transfer that starts keeps, and what it begins afresh (R278, R606). -/
def State.xferKeep (s : State) (b : BusId) : State :=
  let s := s.updBus b fun x =>
    { x with xRank := s.act OD.BUS_RANK b.val, xBand := s.act OD.BUS_XFER_BAND b.val, xPreOn := s.actB OD.BUS_XFER_PRE b.val,
             xTbbm := s.act OD.BUS_TBBM b.val, xTmax := s.act OD.BUS_TXFER_MAX b.val, xVmin := s.act OD.BUS_VFEED_MIN b.val,
             xVmax := s.act OD.BUS_VFEED_MAX b.val, xHealth := s.act OD.BUS_THEALTH b.val,
             gapFrom := none, gapTo := none, selRan := false, resume := false }
  (feedsOf s.active b).foldl (fun s c => s.updPort c fun q => { q with feed := { q.feed with droop := none } }) s

/-- A transfer away from `old` starts, to `to` or to the highest-ranked eligible feed; one that ran ends here (R256, R258, R606). -/
def State.xferStart (s : State) (b : BusId) (old : Chan) (dest : Option Chan) : State :=
  match dest.orElse (fun _ => nextFeed s b (2 ^ old.val)) with
  | none => s.xferFailed b
  | some new =>
    let s := if (s.bus b).xfer.moving then s.xferEnd b else s
    let low := belowOne s old (s.seen old).meas.i.v
    let s := (s.xferKeep b).updBus b fun x =>
      { x with xfer := .break_, xOld := some old, tStatic := none, tried := 2 ^ old.val, xFrom := s.now,
               gapFrom := if low then some s.now else none }
    s.xferChoose b new

/-- The new feed is lost or late: off, counted, and on to the next one (R259). -/
def State.xferNext (s : State) (b : BusId) : State :=
  match (s.bus b).xNew with
  | none => s
  | some new =>
    let s := (s.offBy new).count OD.BUS_XFER_FAILS b.val
    match nextBy s b (s.bus b).xRank (s.bus b).tried with
    | none => s.xferFailed b
    | some k => (s.updBus b fun x => { x with xfer := .break_, xOld := some new, tStatic := none }).xferChoose b k

/-- TRANSFER_COMPLETE: the new feed has reached ON (R259). -/
def State.xferComplete (s : State) (b : BusId) : State :=
  let s := (s.xferEnd b).count OD.BUS_XFERS b.val
  s.updBus b fun x => { x with xfer := .steady, sel := x.xNew, selRan := true, xOld := none, xNew := none, xPre := false,
                               xSent := false, steadyFrom := s.now }

/-- A feed has reached ON: a transfer to it completes, a halted bus that it carries is STEADY (R259, R261). -/
def State.feedOn (s : State) (c : Chan) : State :=
  let s := s.preFeedOn c
  allBuses.foldl (fun s b =>
    let x := s.bus b
    if (x.xSent || x.xfer == .precharge) && x.xfer.moving && x.xNew == some c then s.xferComplete b
    else if x.xfer == .halted && x.sel == some c then
      s.updBus b fun x => { x with xfer := .steady, selRan := true, steadyFrom := s.now }
    else s) s

/-- The new feed has lost its eligibility before its start: the hub chooses again (R262). -/
def State.xferAgain (s : State) (b : BusId) (new : Chan) : State :=
  let mask := setBit (s.bus b).tried new.val false
  let s := s.updBus b fun x => { x with tried := mask }
  match nextBy s b (s.bus b).xRank mask with
  | some k => s.xferChoose b k
  | none => s.xferFailed b

/-- The new feed has started in this transfer: it runs, or its pod has reported the start (R259). -/
def xferStarted (s : State) (b : BusId) (new : Chan) : Bool :=
  (hubCh s new).running || (match (s.seen new).startAt with
    | some t => decide ((s.bus b).xFrom ≤ t)
    | none => false)

/-- The selected feed has left STARTING, ON and LIMITING: HALTED after a short-circuit-class trip, else a transfer. Nothing
starts while its pod is silent or in HOLD (R256, R261, R262). -/
def State.selLost (s : State) (b : BusId) (c : Chan) : State :=
  if hubPod s c = .hold || (!(s.port c).linked && !(s.port c).noPod) then s
  else
    let short := match causeOf (s.seen c).trip.primary with
      | some k => k.shortClass && (hubCh s c).faulted
      | none => false
    if short && !s.actB OD.BUS_XFER_ONFAULT b.val then
      s.updBus b fun x => { x with xfer := .halted, selRan := false, resume := false }
    else s.xferStart b c none

/-- A transfer at a tick: static clamp of the old feed, the start of the new one and its loss by a trip or otherwise (R256, R258,
R259, R262). A new feed that trips, though it is the selected one, is passed over by R259 and does not halt the bus by R261
(DESIGN CHOICE, log 113). -/
def State.xferTick (s : State) (b : BusId) : State :=
  let x := s.bus b
  match x.xOld, x.xNew with
  | some old, some new =>
    if x.xfer != .make && !xferStarted s b new then
      let s := if x.xfer == .break_ && (hubCh s old).running then s.offBy old else s
      let s := if x.xSent || x.eligible.testBit new.val then s else s.xferAgain b new
      let x := s.bus b
      if !x.xfer.moving then s
      else
        match (if x.xfer == .break_ then clampAt s old else x.tStatic) with
        | some t => s.updBus b fun x => { x with tStatic := some t, xfer := if x.xPre then .precharge else .gap }
        | none => s
    else if (hubCh s new).faulted then s.xferNext b
    else if x.xfer == .gap then s.updBus b fun x => { x with xfer := .make }
    else if (hubCh s new).running then s
    else s.selLost b new
  | _, _ => s

/-- FEED_SELECTION on a dead bus: the precharge feed, or the highest-ranked eligible feed (R155, R255, R272). -/
def State.selectDead (s : State) (b : BusId) : State :=
  s.updBus b fun x => { x with sel := (preFeed s b).orElse fun _ => nextFeed s b 0 }

/-- Health, source loss and eligibility of a feed at a tick (R254, R256, R257). -/
def State.feedTick (s : State) (b : BusId) (c : Chan) : State :=
  let good := feedGood s b c
  let out := (s.bus b).sel == some c && (vinOf s c).isSome && !inSource s b c
  s.updPort c fun q =>
    { q with feed := { q.feed with healthFrom := if good then some (q.feed.healthFrom.getD s.now) else none,
                                   lossFrom := if out then some (q.feed.lossFrom.getD s.now) else none,
                                   lossFor := if q.feed.lossFrom.isSome then q.feed.lossFor else s.act OD.BUS_TLOSS b.val } }

/-- `BUS_ELIGIBLE` and the times since which feeds are eligible. -/
def State.eligibleTick (s : State) (b : BusId) : State :=
  let feeds := feedsOf s.active b
  let mask := feeds.foldl (fun m c => m + bitAt (feedGood s b c && feedEligible s b c) c.val) 0
  let s := feeds.foldl (fun s c => s.updPort c fun q =>
    { q with feed := { q.feed with eligibleFrom := if mask.testBit c.val then some (q.feed.eligibleFrom.getD s.now) else none } }) s
  s.updBus b fun x => { x with eligible := mask }

/-- The feed that ends FAILED: the first eligible one, but on a dead bus with a converter its precharge feed, which needs no health
qualification: as soon as it meets R111 but for bit 9, or another feed is eligible (R255, R256, log 95). -/
def failedNext (s : State) (b : BusId) : Option Chan :=
  match if busLive s b then none else preFeed s b with
  | some c => if (hubCh s c == .off && startBits8 s c == 0) || (nextFeed s b 0).isSome then some c else none
  | none => nextFeed s b 0

/-- The source of a bus's voltage, and the bus-fault latch as bit 9 and FLTO follow it, at a control tick of any hub (R63, R243,
R246). -/
def State.busSource (s : State) (b : BusId) : State := s.updBus b fun x => { x with vsrc := pickVsrc s b, bfOn := x.bf }

/-- No feed is selected and no transfer runs (R262). -/
def Bus.noFeed (x : Bus) (t : Nat) : Bus :=
  { x with xfer := .steady, sel := none, selRan := false, xOld := none, xNew := none, xPre := false, xSent := false, steadyFrom := t }

/-- A discharge request or a bus fault leaves the bus without a feed; a transfer that ran ends (R262, R606). -/
def State.noFeed (s : State) (b : BusId) : State :=
  (if (s.bus b).xfer.moving then s.xferEnd b else s).updBus b fun x => x.noFeed s.now

/-- The feed runs and has not been commanded off (R256). -/
def staysOn (s : State) (c : Chan) : Bool := (hubCh s c).running && !(s.seen c).leaving

/-- The feeds of a bus at a control tick (R254 to R263). -/
def State.busTick (s : State) (b : BusId) : State :=
  let s := ((feedsOf s.active b).foldl (fun s c => s.feedTick b c) s).eligibleTick b
  let x := s.bus b
  if x.bf || disHolds s b then
    s.noFeed b
  else
    match x.xfer with
    | .failed =>
      match failedNext s b with
      | some c => s.updBus b fun x => { x with xfer := .steady, sel := some c, steadyFrom := s.now }
      | none => s
    | .halted =>
      match x.sel with
      | some c => if x.resume then s.xferStart b c none else s
      | none => s
    | .steady =>
      match x.sel with
      | some c =>
        if staysOn s c then s.updBus b fun x => { x with selRan := true }
        else if x.selRan then
          if s.act OD.BUS_FMODE b.val = 1 then s.selLost b c else s.updBus b fun x => { x with selRan := false }
        else if busLive s b then s else s.selectDead b
      | none => if busLive s b then s else s.selectDead b
    | _ => s.xferTick b

/-! ## Meanings -/

/-- SOURCE_LOSS (R256). -/
def execSourceLoss (b : BusId) (s : State) : Result :=
  .next (match (s.bus b).sel with
    | some c =>
      if runsBus s b = true ∧ (s.bus b).xfer = .steady ∧ s.act OD.BUS_FMODE b.val = 1 ∧ (hubCh s c).running = true then
        match (s.port c).feed.lossFrom with
        | some f => if f + (s.port c).feed.lossFor * usNs ≤ s.now then (s.offBy c).xferStart b c none else s
        | none => s
      else s
    | none => s)

/-- The feed to revert to: the highest-ranked feed above the selected one that has been eligible for `BUS_TREVERT` (R257). -/
def revertTo (s : State) (b : BusId) (c : Chan) : Option Chan :=
  ((rankList s b).takeWhile fun k => k != c).find? fun k => match (s.port k).feed.eligibleFrom with
    | some f => decide (f + s.act OD.BUS_TREVERT b.val * msNs ≤ s.now)
    | none => false

/-- REVERT_DUE (R257). -/
def execRevertDue (b : BusId) (s : State) : Result :=
  .next (match (s.bus b).sel with
    | some c =>
      if runsBus s b = true ∧ (s.bus b).xfer = .steady ∧ s.act OD.BUS_FMODE b.val = 1 ∧ s.actB OD.BUS_REVERT b.val = true ∧
          (s.bus b).steadyFrom + s.act OD.BUS_TREVERT b.val * msNs ≤ s.now ∧ (hubCh s c).running = true then
        match revertTo s b c with
        | some k => (s.offBy c).xferStart b c (some k)
        | none => s
      else s
    | none => s)

/-- TRANSFER_MAKE: the first tick at or after t_s + `BUS_TBBM`; the start goes out in its frame. The bus is in MAKE once the
pod of the new feed has started (R258); the start waits for a stack test or a calibration (R215, R307). -/
def execTransferMake (b : BusId) (s : State) : Result :=
  .next (match (s.bus b).xfer, (s.bus b).tStatic, (s.bus b).xNew with
    | .gap, some t, some new =>
      if t + (s.bus b).xTbbm * usNs ≤ s.now ∧ runsBus s b = true ∧ (s.bus b).xSent = false ∧ (s.pod new).busyForStart = false then
        (s.updBus b fun x => { x with xSent := true }).down new fun f => { f with start := true }
      else s
    | _, _, _ => s)

/-- The start of the new feed as its pod reports it; of a precharged close, the close of its stack (R259). -/
def makeFrom (s : State) (b : BusId) (c : Chan) : Option Nat :=
  let started := (s.seen c).startAt.bind fun t => if (s.bus b).xFrom ≤ t then some t else none
  match (s.bus b).xfer with
  | .make => started
  | .gap => if (s.bus b).xSent then started else none
  | .precharge =>
    if (hubCh s c).running then started.bind fun _ => (s.seen c).closeAt else started
  | _ => none

/-- TRANSFER_TIMEOUT (R259). -/
def execTransferTimeout (b : BusId) (s : State) : Result :=
  .next (match (s.bus b).xNew with
    | some new =>
      match makeFrom s b new with
      | some t =>
        if runsBus s b = false then s
        else if hubCh s new = .on then s.feedOn new
        else if t + (s.bus b).xTmax * msNs ≤ s.now then s.xferNext b
        else s
      | none => s
    | none => s)

/-- `BUS_XFER_RESUME` (R261, R279). -/
def State.xferResume (s : State) (b : BusId) : State × Err :=
  ((if (s.bus b).xfer = .halted then s.updBus b fun x => { x with resume := true } else s), .ok)

/-! ## Conversions of a transfer (R606) -/

/-- |I| of a shunt code lies below, or above, 1 % of I_FS. -/
def codeBelow (code : Int) : Bool := decide (code.natAbs * 100 < 32768)
def codeAbove (code : Int) : Bool := decide (32768 < code.natAbs * 100)

/-- The gap begins at the first conversion of the old feed below 1 % of its I_FS and ends at the first of the new feed above
1 % of its own. -/
def Bus.gapConv (x : Bus) (c : Chan) (code : Int) (t : Nat) : Bus :=
  if x.xfer.moving && x.xOld == some c && x.gapFrom.isNone && codeBelow code then { x with gapFrom := some t }
  else if x.xfer.moving && x.xNew == some c && x.gapTo.isNone && x.gapFrom.isSome && codeAbove code then { x with gapTo := some t }
  else x

/-- The lowest bus voltage that the pod of a feed measures in a transfer. -/
def PortFeed.droopConv (x : PortFeed) (v : Int) : PortFeed :=
  { x with droop := some (match x.droop with
      | some d => min d v
      | none => v) }

/-- Follow the valid conversions that a tick brought from a feed of a running transfer. -/
def State.xferScan (s : State) (c : Chan) (l : List Fed) : State :=
  match busOf s.active c with
  | none => s
  | some b =>
    if (s.bus b).xfer.moving then
      l.foldl (fun s f =>
        if f.at_ < (s.bus b).xFrom then s
        else match f.tap with
          | .shunt => s.updBus b fun x => x.gapConv c f.v f.at_
          | .vdo => s.updPort c fun q => { q with feed := q.feed.droopConv f.v }
          | _ => s) s
    else s

end Sys2Proof.Machine
end

