-- ==== Sys2Proof/Machine/Lines.lean ====
section
/-! DEFINITION. Fault lines: FLTO and FLTI toward the inverter (R244 to R247), the lines of the ring (R443 to R446). -/

namespace Sys2Proof.Machine

def allAB : List AB := [0, 1]

def State.out_ (s : State) (x : AB) : Flto := s.flto.get x
def State.updFlto (s : State) (x : AB) (f : Flto → Flto) : State := { s with flto := s.flto.upd x f }
def State.line (s : State) (l : Quad) : RLine := s.lines.get l
def State.updLine (s : State) (l : Quad) (f : RLine → RLine) : State := { s with lines := s.lines.upd l f }

/-- A channel of a mask is TRIPPED, LATCHED or DAMAGED with a cause of a mask, or the hub has sent it such a cause at a tick
(R244, R246, R443). -/
def tripIn (s : State) (chans causes : Nat) : Bool :=
  allChans.any fun c => chans.testBit c.val &&
    (((hubCh s c).faulted && ((s.port c).trip.set &&& causes) != 0) || ((s.port c).trip.sent &&& causes) != 0)

/-- A bus of a mask has a bus fault latched, from the tick at which the hub sends its commands (R244, R246, R443). -/
def bfIn (s : State) (buses : Nat) : Bool := allBuses.any fun b => buses.testBit b.val && (s.bus b).bf && (s.bus b).bfOn

/-! ## FLTO (R244, R245) -/

def fltoCond (s : State) (x : AB) : Bool :=
  tripIn s (s.act OD.HUB_FLTO_CH x.val) (s.act OD.HUB_FLTO_CAUSE x.val) || bfIn s (s.act OD.HUB_FLTO_BUS x.val) ||
  allAB.any fun y => (s.act OD.HUB_FLTO_MODE x.val).testBit (y.val + 1) && s.flti.testBit y.val

/-- HOLD mode. -/
def fltoHold (s : State) (x : AB) : Bool := (s.act OD.HUB_FLTO_MODE x.val).testBit 0

/-- The output follows its conditions: FOLLOW not before `HUB_FLTO_MINW`, HOLD until the ack; released while the hub is not
up (R245). -/
def Flto.next (f : Flto) (up cond hold : Bool) (minw t : Nat) : Flto :=
  if !up then {}
  else if cond then { asserted := true, since := if f.asserted then f.since else t, held := false }
  else if f.asserted && hold then { f with held := true }
  else if f.asserted && decide (t < f.since + minw) then { f with held := false }
  else {}

def State.fltoOne (s : State) (x : AB) : State :=
  s.updFlto x fun f => f.next s.hubUp (fltoCond s x) (fltoHold s x) (s.act OD.HUB_FLTO_MINW x.val * usNs) s.now

def State.fltoEval (s : State) : State := allAB.foldl State.fltoOne s

/-- `HUB_FLTO_STATE`. -/
def fltoState (s : State) (x : AB) : Nat := bitAt (s.out_ x).asserted 0 + bitAt (s.out_ x).held 1

/-- FLTO_MIN_WIDTH_END. -/
def execFltoMinWidthEnd (x : AB) (s : State) : Result := .next (s.fltoOne x)

/-- `HUB_FLTO_ACK` (R245). An ack in mode FOLLOW while a condition holds meets two sentences of the rule: STATE goes first (DESIGN
CHOICE, log 87). -/
def State.fltoAck (s : State) (x : AB) : State × Err :=
  if fltoCond s x then (s, .state)
  else if fltoHold s x && (s.out_ x).held then (s.updFlto x fun _ => {}, .ok) else (s, .ok)

/-! ## Ring lines (R443 to R446) -/

/-- Ports of a mask that are UP. -/
def upPorts (s : State) : Nat := s.ringUp % 8

/-- Send a fault token for a line, with its hops, on every UP port but those of a mask (R442). -/
def State.sendToken (s : State) (l : Quad) (hops but t : Nat) : State :=
  let s := s.updLine l fun x => { x with lastSent := some t, lastToken := t }
  { s with out := .token (tokenByte false l.val hops) (upPorts s - (upPorts s &&& but)) :: s.out }

/-- A token of this hub's own, on every UP port (R443). -/
def State.ownToken (s : State) (l : Quad) : State :=
  (s.sendToken l 0 0 s.now).updLine l fun x => { x with ownAt := some s.now }

/-- The view of a line becomes, or stays, asserted (R444, R460). -/
def State.lineSeen (s : State) (l : Quad) (t : Nat) : State :=
  let s := if (s.line l).view then s else s.irq 3
  s.updLine l fun x => { x with view := true, lastToken := t, due := x.due || !x.view,
                                count := if x.view then x.count else (x.count + 1) % 2 ^ 32 }

/-- Channels of a line whose trip asserts it (R430). -/
def lineChans (s : State) (l : Quad) : List Chan :=
  allChans.filter fun c => tripIn s (s.act OD.RING_FT_CH l.val &&& 2 ^ c.val) (s.act OD.RING_FT_CAUSE l.val)

/-- Payload of a FAULT frame (R430). -/
def faultPayload (s : State) (l : Quad) (start : Bool) : List Byte :=
  let chans := lineChans s l
  let faulted := allBuses.filter fun b => (s.act OD.RING_FT_BUS l.val).testBit b.val && (s.bus b).bf
  let buses : Nat := faulted.foldl (fun (m : Nat) b => m + 2 ^ b.val) 0
  let cause := match chans.head? with
    | some c => if (hubCh s c).faulted then (s.port c).trip.cause else (s.port c).trip.sent.log2
    | none => 0
  leBytes 1 l.val ++ leBytes 1 (bitAt start 0) ++ leBytes 2 (chans.foldl (fun (m : Nat) c => m + 2 ^ c.val) 0) ++
    leBytes 1 cause ++ leBytes 1 buses ++ leBytes 8 s.now

/-- A FAULT frame, broadcast; at the head it is an item as well (R443, R458). -/
def State.sendFault (s : State) (l : Quad) (start : Bool) : State :=
  let b := faultPayload s l start
  let s := s.nextSeq.sendOwn 6 s.ring.seq 0xFFF b
  let s := s.updLine l fun x => { x with last := s.ring.addr }
  if isHead s then s.pushOrDrop { kind := 3, tag := 0, src := 0, bytes := b } else s

/-- The hub starts to assert a line: token and FAULT frame (R443). -/
def State.lineStart (s : State) (l : Quad) : State :=
  (((s.lineSeen l s.now).ownToken l).updLine l fun x => { x with asserting := true }).sendFault l true

/-- The assertion ends (R443). -/
def State.lineStop (s : State) (l : Quad) : State :=
  (s.updLine l fun x => { x with asserting := false, pulseUntil := none }).sendFault l false

/-- The conditions of R443 hold. -/
def lineCond (s : State) (l : Quad) : Bool :=
  tripIn s (s.act OD.RING_FT_CH l.val) (s.act OD.RING_FT_CAUSE l.val) || bfIn s (s.act OD.RING_FT_BUS l.val)

/-- FOLLOW: the line is asserted while a condition holds. PULSE: an assertion that is no pulse ends. -/
def State.lineEval (s : State) : State :=
  allQuads.foldl (fun s l =>
    if !s.hubUp then s
    else if s.act OD.RING_FT_MODE l.val = 0 then
      let s := s.updLine l fun x => { x with pulseUntil := none }
      if lineCond s l && !(s.line l).asserting then s.lineStart l
      else if !lineCond s l && (s.line l).asserting then s.lineStop l else s
    else if (s.line l).asserting && (s.line l).pulseUntil.isNone then s.lineStop l else s) s

/-- PULSE: the line is asserted for `RING_FT_PULSE` from a new trip or bus fault (R443). -/
def State.linePulse (s : State) (l : Quad) : State :=
  let s := if (s.line l).asserting then s else s.lineStart l
  s.updLine l fun x => { x with pulseUntil := some (s.now + s.act OD.RING_FT_PULSE l.val * usNs) }

def State.pulses (s : State) (hit : State → Quad → Bool) : State :=
  allQuads.foldl (fun s l => if s.act OD.RING_FT_MODE l.val == 1 && s.hubUp && hit s l then s.linePulse l else s) s

/-- A new trip of a channel, or causes that the hub has just sent it, for the lines in PULSE. -/
def State.pulseTrip (s : State) (c : Chan) (set : Nat) : State :=
  s.pulses fun s l => (s.act OD.RING_FT_CH l.val).testBit c.val && (s.act OD.RING_FT_CAUSE l.val &&& set) != 0

/-- A new bus fault, for the lines in PULSE. -/
def State.pulseBus (s : State) (b : BusId) : State :=
  s.pulses fun s l => (s.act OD.RING_FT_BUS l.val).testBit b.val

/-- All fault lines follow their conditions. -/
def State.evalLines (s : State) : State := s.fltoEval.lineEval

/-- FAULT_TOKEN_REPEAT: every 5 µs while the line is asserted, whatever the hub forwards meanwhile (R443). -/
def execFaultTokenRepeat (l : Quad) (s : State) : Result :=
  .next (if (s.line l).asserting then
      match (s.line l).ownAt with
      | some t => if t + 5000 ≤ s.now then s.ownToken l else s
      | none => s.ownToken l
    else s)

/-- FAULT_PULSE_END (R443). -/
def execFaultPulseEnd (l : Quad) (s : State) : Result :=
  .next (match (s.line l).pulseUntil with
    | some u => if u ≤ s.now then s.lineStop l else s
    | none => s)

/-- FAULT_VIEW_RELEASE: 12 µs after the last token (R444). -/
def execFaultViewRelease (l : Quad) (s : State) : Result :=
  .next (if (s.line l).view = true ∧ (s.line l).lastToken + 12000 ≤ s.now then
      s.updLine l fun x => { x with view := false, due := false }
    else s)

/-- FAULT_TOKEN at port `k`, its byte `b`: view, forwarding unless one was sent or forwarded within 4 µs; in RESET and SLEEP it
passes through the bypass (R441, R442, R444, R446). -/
def execFaultToken (k : KPort) (b : Byte) (t : Nat) (s : State) : Result :=
  .next (if ringOpen s && s.ringUp.testBit k.val && !tokenLink b then
      let s := s.at t
      let l := tokenLine b
      let soon := match (s.line l).lastSent with
        | some u => decide (s.now < u + 4000)
        | none => false
      let s := s.lineSeen l s.now
      if soon then s else s.sendToken l (min 31 (tokenHops b + 1)) (2 ^ k.val) s.now
    else s)

/-- At the tick after a view became asserted, mapped channels trip with EXTERNAL (R445). -/
def State.lineTrips (s : State) : State :=
  allQuads.foldl (fun s l =>
    if (s.line l).due then
      let hit := allChans.filter fun c => (s.act OD.RING_FT_RXCH l.val).testBit c.val && raisedIn .external (hubCh s c)
      let s := hit.foldl (fun s c => s.tripBy c .external) s
      let s := s.updLine l fun x => { x with due := false }
      if hit.isEmpty then s else s.journal 0x08 .hub (0x10 + l.val) [(2, hit.foldl (fun m c => m + 2 ^ c.val) 0)]
    else s) s

/-! ## FLTI (R247) -/

/-- The line through which EXTERNAL still holds a channel: a mapped FLTI input asserted, or a ring line's view (R247, R445). -/
def externalHeld (s : State) (c : Chan) : Bool :=
  (allAB.any fun x => s.flti.testBit x.val && (s.act OD.HUB_FLTI_CH x.val).testBit c.val) ||
  (allQuads.any fun l => (s.line l).view && (s.act OD.RING_FT_RXCH l.val).testBit c.val)

/-- FLTI_ASSERT: the input has been low at every step since `since`, for `HUB_FLTI_FILT` (R247). -/
def execFltiAssert (x : AB) (since : Nat) (t : Nat) (s : State) : Result :=
  .next (if s.hubUp && !s.flti.testBit x.val && filterDone since (s.act OD.HUB_FLTI_FILT x.val * 5) (max s.now t) then
      let s := s.at t
      let s := { s with flti := setBit s.flti x.val true }.count OD.HUB_FLTI_EVENTS x.val
      let hit := allChans.filter fun c => (s.act OD.HUB_FLTI_CH x.val).testBit c.val && raisedIn .external (hubCh s c)
      let s := hit.foldl (fun s c => s.tripBy c .external) s
      (s.journal 0x08 .hub x.val [(2, hit.foldl (fun m c => m + 2 ^ c.val) 0)]).evalLines
    else s)

/-- FLTI_RELEASE (R247). -/
def execFltiRelease (x : AB) (s : State) : Result :=
  .next ({ s with flti := setBit s.flti x.val false }.evalLines)

end Sys2Proof.Machine
end

