-- ==== Sys2Proof/Machine/HubTrips.lean ====
section
/-! DEFINITION. Trips at the hub (chapter 7, R126 to R135): intake from the status, retries, toggles, enable, cool-down,
removal, bus faults. -/

namespace Sys2Proof.Machine

/-! ## Intake of a trip (R234, R248, R250) -/

/-- The longest retry delay of a set, in ms: base · m^N, capped (R234). -/
def retryDelay (s : State) (c : Chan) (set n : Nat) : Nat :=
  (causesOf set).foldl (fun d k =>
    let r := s.act OD.CH_RULE c.val (k.code - 1)
    if ruleCount r = 0 then d else max d (min 86400000 (ruleBase r * ruleMult r ^ n))) 0

/-- The retry of a TRIPPED channel is armed from the trip's timestamp (R234, R237). -/
def State.armRetry (s : State) (c : Chan) : State :=
  let q := (s.port c).trip
  s.updPort c fun p => { p with trip := { p.trip with
    retryDue := if q.state = .tripped then some (q.time + retryDelay s c q.set q.retryN * msNs) else none } }

/-- Data of a trip record (R555). -/
def tripData (set : Nat) (ch : ChState) (n : Nat) : List (Nat × Nat) := [(4, set), (1, ch.code), (1, n)]

/-- A new trip: status, counter, record, ring pulses, retry (R234, R248 to R250). `held` marks one kept in HOLD. -/
def State.tripNew (s : State) (c : Chan) (r : PodTrip) (ch : ChState) (held : Bool) : State :=
  let n := (s.port c).trip.retryN
  let s := s.updPort c fun p =>
    { p with damaged := p.damaged || ch == .damaged, tLatch := (if ch = .latched then nextTick r.time else p.tLatch),
             trip := { p.trip with cause := r.primary, set := r.set, time := r.time, bus := false, seenN := r.n, state := ch } }
  let s := (s.count OD.CH_TRIPS c.val).journalAt r.time 0x01 (.chan c) r.primary (tripData r.set ch n) held
  (s.pulseTrip c (r.set - (r.set &&& (s.port c).trip.sent))).armRetry c

/-- A further cause or a stricter state of the trip (R227, R230). -/
def State.tripMore (s : State) (c : Chan) (r : PodTrip) (ch : ChState) : State :=
  let q := (s.port c).trip
  let up := decide (q.state.strictness < ch.strictness)
  let s := s.updPort c fun p =>
    { p with damaged := p.damaged || ch == .damaged,
             tLatch := (if up && ch == .latched then s.now else p.tLatch),
             trip := { p.trip with cause := r.primary, set := r.set, time := r.time, state := if up then ch else p.trip.state } }
  let s := if up then s.journalAt r.time 0x02 (.chan c) r.primary (tripData r.set ch q.retryN) else s
  let old := q.set ||| q.sent
  (s.pulseTrip c (r.set - (r.set &&& old))).armRetry c

/-- The fault state that a status reports, or keeps while the seat is lost. -/
def PodStatus.faultState (v : PodStatus) : ChState := if v.ch = .absent || v.ch = .seating then v.kept else v.ch

/-- Causes raised in LATCHED that the pod has noted: since the last status, or, where it was held, since it became an orphan
(R229, R250). -/
def State.noteSeen (s : State) (c : Chan) (v : PodStatus) (held : Bool) : State :=
  let known := if held then v.notesOwned else (s.seen c).counts.notes
  (v.notes.take (v.counts.notes - known)).reverse.foldl (fun s e => s.journalAt e.2 0x05 (.chan c) e.1 [] held) s

/-- The trip part of a status frame (R227, R229, R248, R250). -/
def State.tripSeen (s : State) (c : Chan) (v : PodStatus) (held : Bool) : State :=
  let q := (s.port c).trip
  let ch := v.faultState
  let s := if ch.faulted then
      if v.trip.n ≠ q.seenN then s.tripNew c v.trip ch held
      else if q.clearing && ch == .damaged then s
      else if (v.trip.set ≠ q.set || decide (q.state.strictness < ch.strictness)) && q.state.faulted then s.tripMore c v.trip ch
      else s
    else s
  s.noteSeen c v held

/-! ## Waits (R207, R226, R605) -/

/-- The stack and the die have cooled down. An NTC fault counts as over-temperature while it lasts (DEDUCED from R205, log 88); a die
without a valid reading counts as below 150 °C (DESIGN CHOICE, log 89) (R207). -/
def cooled (s : State) (c : Chan) : Bool :=
  let m := (s.seen c).meas
  !(s.seen c).prot.detail.testBit 5 && decide (m.tempStack < s.actI OD.CH_TTRIP c.val - s.act OD.CH_THYST c.val) &&
  (m.tempDie == 0x7FFF || decide (m.tempDie < 150))

/-- The wait of a cause is met. -/
def waitMet (s : State) (c : Chan) (k : Cause) : Bool :=
  match k with
  | .thermal => cooled s c
  | .gateUvlo => uvloBits (s.seen c) (s.actB OD.CH_VNEG_USE c.val) == 0
  | .linkLossSafe => owns s c
  | .external => !externalHeld s c
  | .busFault =>
    match busOf s.active c with
    | some b => !(s.bus b).bf
    | none => true
  | _ => true

def waitsMet (s : State) (c : Chan) : Bool := (causesOf (s.port c).trip.set).all (waitMet s c)

/-! ## Retry (R234 to R236) -/

/-- Nothing holds a due retry, which the owner settles at a tick boundary (R235, R536). -/
def retryReady (s : State) (c : Chan) : Bool :=
  decide (s.now % tickNs = 0) && holdsPort s c && hubCh s c == .tripped && waitsMet s c && !bit9Retry s c && hubPod s c == .active &&
  (match busOf s.active c with
   | some b => !(s.bus b).bf
   | none => true)

def retryIsDue (s : State) (c : Chan) : Bool :=
  match (s.port c).trip.retryDue with
  | some t => decide (t ≤ s.now)
  | none => false

/-- Acknowledge the trip that the hub has seen, by the next frame: the channel is OFF at the boundary at which it applies
(R23, R26, R133). -/
def State.release (s : State) (c : Chan) : State :=
  let n := (s.seen c).trip.n
  (s.updPort c fun q => { q with trip := { q.trip with state := .off, retryDue := none } }).down c fun f => { f with ack := some n }

/-- The same at the boundary itself, of a pod that it reaches (R235). -/
def State.releaseNow (s : State) (c : Chan) : State :=
  if reaches s c then
    let n := (s.seen c).trip.n
    (s.updPort c fun q => { q with trip := { q.trip with state := .off, retryDue := none } }).podNow c fun p => p.ackTrip n
  else s.release c

/-- The retry: OFF, and with the enable set at that boundary one more retry (R235). -/
def State.retry (s : State) (c : Chan) : State :=
  let s := s.releaseNow c
  if (s.port c).enable then
    let s := s.updPort c fun q => { q with trip := { q.trip with retryN := min 255 (q.trip.retryN + 1) } }
    s.journal 0x03 (.chan c) (s.port c).trip.cause [(1, (s.port c).trip.retryN)]
  else s

/-- RETRY_DUE: the delay has expired; the channel retries or waits (R234, R235). -/
def execRetryDue (c : Chan) (s : State) : Result :=
  .next (if retryIsDue s c && retryReady s c then (s.retry c).evalLines else s)

/-- RETRY_RELEASED: a due retry whose waits are met (R235). -/
def execRetryReleased (c : Chan) (s : State) : Result :=
  .next (if retryIsDue s c && retryReady s c then (s.retry c).evalLines else s)

/-- `CH_RETRY_LEFT` in ms (R248). -/
def retryLeft (s : State) (c : Chan) : Nat :=
  match (s.port c).trip.retryDue with
  | some t => (t - s.now + msNs - 1) / msNs
  | none => 0xFFFFFFFF

/-- RETRY_COUNT_RESET (R236). -/
def execRetryCountReset (c : Chan) (s : State) : Result :=
  .next (match (s.port c).cleanFrom with
    | some f => if f + s.act OD.CH_RETRY_RESET c.val * msNs ≤ s.now then
        s.updPort c fun q => { q with trip := { q.trip with retryN := 0 } } else s
    | none => s)

/-- Clean running in ON or LIMITING is timed (R236). -/
def State.cleanTick (s : State) (c : Chan) : State :=
  let run := hubCh s c == .on || hubCh s c == .limiting
  s.updPort c fun q => { q with cleanFrom := if run then some (q.cleanFrom.getD s.now) else none }

/-! ## Toggle, enable, cool-down (R132 to R135, R238, R239) -/

/-- The held bits of `CH_GSTAT` and `CH_PGSTAT`, the captures and the fault-timer peak (R99, R137, R238). -/
def Pod.clearHeld (p : Pod) : Pod :=
  { p with st := { p.st with gstat := p.st.gstat % 4, startEnergy := false,
                             prot := { p.st.prot with cmpCapt := 0, ftPeak := 0 } } }

/-- The same at the hub's view, for a pod that the clearing does not reach. -/
def PodStatus.clearHeld (v : PodStatus) : PodStatus :=
  { v with gstat := v.gstat % 4, startEnergy := false, prot := { v.prot with cmpCapt := 0, ftPeak := 0 } }

/-- The held bits clear at the pod as well, as far as its link reaches (R99, R137, R238). -/
def State.clearPod (s : State) (c : Chan) : State :=
  let s := s.updPort c fun q => { q with seen := q.seen.clearHeld }
  if (s.port c).linked && (s.pod c).st.own.link == some true then
    s.updPod c fun p => { p.clearHeld with up := p.up.clearHeld }
  else s

/-- A parked pod is commanded to ACTIVE, by the next frame (R418). -/
def State.activatePod (s : State) (c : Chan) : State :=
  if hubPod s c = .parked then s.down c fun f => { f with ask := .activate } else s

/-- The latch of a selected feed is gone: a bus that it HALTED transfers (R261). -/
def State.latchGone (s : State) (c : Chan) : State :=
  allBuses.foldl (fun s b =>
    if (s.bus b).xfer == .halted && (s.bus b).sel == some c then s.updBus b fun x => { x with resume := true } else s) s

/-- A latch is cleared: held bits, retry count 0, record with its way: 0 toggle, 1 removal (R131, R238, R250). -/
def State.latchCleared (s : State) (c : Chan) (way : Nat) : State :=
  let set := (s.port c).trip.set
  let s := (s.clearPod c).updPort c fun q => { q with trip := { q.trip with retryN := 0 } }
  (s.latchGone c).journal 0x04 (.chan c) way [(4, set)]

/-- A toggle clears a latch: the acknowledgement goes out, to a pod that is ACTIVE or is to be (R132, R238). -/
def State.clearLatch (s : State) (c : Chan) : State := ((s.activatePod c).release c).latchCleared c 0

/-- R418: a pod is wanted ACTIVE: its seat is complete, or its bus has a discharge request in force (R166). -/
def wantsActive (s : State) (c : Chan) : Bool :=
  (s.seen c).seat.debounced ||
  (match busOf s.active c with
   | some b => disReq s b
   | none => false)

/-- CH_ENABLE written 1 (R132, R133, R135, R239, R605). -/
def State.enableSet (s : State) (c : Chan) : State × Err :=
  let q := s.port c
  if hubCh s c = .latched then
    let waits := (causesOf q.trip.set).all fun k => k == .selftestFail || waitMet s c k
    if q.enable || decide (s.now < coolEnd s c) || !waits then (s, .state)
    else if hasCause q.trip.set .selftestFail then
      let s := s.updPort c fun q => { q with enable := true, toggling := true }
      ((s.activatePod c).down c fun f => { f with toggle := true }, .ok)
    else (((s.updPort c fun q => { q with enable := true }).clearLatch c).evalLines, .ok)
  else (s.updPort c fun q => { q with enable := true }, .ok)

/-- The enable becomes 0. -/
def State.disable (s : State) (c : Chan) : State :=
  if (s.port c).enable then s.updPort c fun q => { q with enable := false, tEnable0 := s.now } else s

/-- CH_ENABLE written 0: a running channel is commanded off by the next frame, a running precharge stops, the cool-down starts
(R23, R88, R119, R132, R134, R158, R231). A 0 already in force has no effect (R135). -/
def State.enableClear (s : State) (c : Chan) : State × Err :=
  if !(s.port c).enable then (s, .ok)
  else
    let s := s.disable c
    let s := allQuads.foldl (fun s p => if feedOfPre s.active p == some c then s.preStopOn p [.commanded] else s) s
    (if (hubCh s c).running || (s.port c).down.start then s.offBy c else s, .ok)

/-- COOL_DOWN_END (R132). -/
def execCoolDownEnd (c : Chan) (s : State) : Result :=
  .next (if coolEnd s c ≤ s.now ∧ (s.port c).enable = false ∨ coolEnd s c ≤ s.now ∧ (s.port c).cleared = true then
      s.updPort c fun q => { q with cleared := false }
    else s)

/-- `CH_COOL_LEFT` in ms (R133). -/
def coolLeft (s : State) (c : Chan) : Nat :=
  if hubCh s c = .latched then
    if (s.port c).enable then s.act OD.CH_TCOOL c.val else (coolEnd s c - s.now + msNs - 1) / msNs
  else 0

/-- The tests of a SELFTEST_FAIL toggle end: OFF, or LATCHED with a new trip (R239). -/
def Pod.toggleFailed (p : Pod) (mask t : Nat) : Pod :=
  { p with acked := false, tests := { p.tests with toggle := false },
           st := { p.st with trip := p.st.trip.fresh .selftestFail t,
                             prot := { p.st.prot with selftestFail := p.st.prot.selftestFail ||| mask } } }

/-- All tests of a SELFTEST_FAIL toggle have passed (R239). -/
def Pod.togglePassed (p : Pod) : Pod :=
  { p with tests := { p.tests with toggle := false }, st := { p.st with prot := { p.st.prot with selftestFail := 0 } } }

/-- The failed tests that the port and the last frame of the pod hold clear with those of the pod (R225, R239). -/
def State.testsPassed (s : State) (c : Chan) : State :=
  let clear (v : PodStatus) : PodStatus := { v with prot := { v.prot with selftestFail := 0 } }
  (s.updPod c fun p => { p with up := clear p.up }).updPort c fun q => { q with seen := clear q.seen }

/-- SELFTEST_TOGGLE_DONE, at a tick boundary: `failMask` holds the members and cells that failed (R239). -/
def execSelftestToggleDone (c : Chan) (failMask : Nat) (t : Nat) (s : State) : Result :=
  .next (if (s.port c).toggling && (s.pod c).tests.toggle && reaches s c && decide (max s.now t % tickNs = 0) then
      let s := (s.at t).updPort c fun q => { q with toggling := false }
      if failMask % 2048 = 0 then ((((s.podNow c Pod.togglePassed).testsPassed c).releaseNow c).latchCleared c 0).evalLines
      else s.podNow c fun p => p.toggleFailed (failMask % 2048) s.now
    else s)

/-- CH_DMG_CLEAR in a SERVICE session; the pod follows with the next frame (R23, R240). -/
def State.dmgClear (s : State) (c : Chan) : State × Err :=
  if hubCh s c ≠ .damaged then (s, .state)
  else
    let s := (s.activatePod c).down c fun f => { f with dmgClear := true }
    let s := s.updPort c fun q =>
      { q with damaged := false, tLatch := s.now, detail := q.detail / 16 * 16,
               trip := { q.trip with state := .latched, clearing := true } }
    (s.journal 0x04 (.chan c) 2 [(4, (s.port c).trip.set)], .ok)

/-! ## Removal and reinsertion (R126 to R131) -/

/-- State that a seated channel takes from what its port keeps (R109, R128, R131). -/
def reinsertState (s : State) (c : Chan) : ChState :=
  if (s.port c).damaged then .damaged else if (s.port c).trip.state.faulted then (s.port c).trip.state else .off

/-- The pod-sourced objects that the hub keeps as values are at their Defaults on a port without a pod (R568, R569). -/
def State.unheard (s : State) (c : Chan) : State :=
  let s := [OD.CH_HOLD_LEFT, OD.MTR_I, OD.MTR_VIN, OD.MTR_VOUT, OD.MTR_P, OD.MTR_STATUS].foldl (fun s o => s.set o c.val o.dflt) s
  let s := [0, 1, 2, 3, 4].foldl (fun s k => s.set OD.MTR_AVG_WORD c.val OD.MTR_AVG_WORD.dflt k) s
  s.updPort c fun q => { q with mtr := { q.mtr with means := List.replicate 5 none } }

/-- The hub times a removal from the first unseated sample, by the `CH_TSEAT` in force when it begins (R126, R488). -/
def State.seatTimer (s : State) (c : Chan) (t : Nat) : State :=
  let span := s.act OD.CH_TSEAT c.val * 100000
  s.updPort c fun q => { q with seat := { q.seat with lossFrom := some t, lossFor := span } }

/-- A confirmed removal on the port (R126, R127, R130, R569, R570). -/
def State.removed (s : State) (c : Chan) : State :=
  let q := s.port c
  let set := q.trip.set
  let latched := q.trip.state == .latched
  let s := (s.count OD.CH_REMOVALS c.val).unheard c
  let s := s.updPort c fun q =>
    { q with noPod := true, seen := { ({} : PodStatus) with
               own := q.seen.own, pod := q.seen.pod, counts := q.seen.counts, holds := q.seen.holds, startEnergy := q.seen.startEnergy,
               tStatic := (if q.seen.bothClamped then q.seen.tStatic else none),
               prot := { ({} : ProtStatus) with cmpCapt := q.seen.prot.cmpCapt, ftPeak := q.seen.prot.ftPeak,
                                                selftestFail := q.seen.prot.selftestFail } },
             seat := { q.seat with lossFrom := none, confirmed := true, away := true, removedAt := s.now,
                                   guardUntil := some (s.now + s.act OD.CH_TRESEAT c.val * msNs) },
             cleared := q.cleared || latched, tEnable0 := (if latched && q.enable then s.now else q.tEnable0),
             trip := { q.trip with state := (if latched then .off else q.trip.state),
                                   retryN := (if q.trip.state = .tripped then q.trip.retryN else 0) } }
  let s := if s.act OD.CH_REINS_EN c.val = 0 then s.disable c else s
  let s := if s.act OD.CH_TRESEAT c.val = 0 then
      s.updPort c fun q => { q with trip := { q.trip with
        state := if q.trip.state = .tripped then .off else q.trip.state, retryN := 0, retryDue := none } } else s
  if latched then (s.latchGone c).journal 0x04 (.chan c) 1 [(4, set)] else s

/-- REMOVAL_CONFIRMED (R126): `CH_TSEAT` after the first unseated sample, timed by the hub. -/
def execRemovalConfirmed (c : Chan) (s : State) : Result :=
  .next (match (s.port c).seat.lossFrom with
    | some f => if f + (s.port c).seat.lossFor ≤ s.now then (s.removed c).evalLines else s
    | none => s)

/-- RESEAT_GUARD_EXPIRY: a trip whose module has not completed its debounce since the removal is forgotten (R131, R236). -/
def execReseatGuardExpiry (c : Chan) (s : State) : Result :=
  .next (match (s.port c).seat.guardUntil with
    | some u => if u ≤ s.now then
        s.updPort c fun q =>
          { q with seat := { q.seat with guardUntil := none },
                   trip := (if q.seat.away && q.trip.state == .tripped then
                     { q.trip with state := .off, retryN := 0, retryDue := none } else q.trip) }
      else s
    | none => s)

/-- `CH_RESEAT_LEFT` in ms: what remains of a millisecond counts as a whole one (DESIGN CHOICE, log 29). -/
def reseatLeft (s : State) (c : Chan) : Nat :=
  match (s.port c).seat.guardUntil with
  | some u => (u - s.now + msNs - 1) / msNs
  | none => 0

/-! ## Bus faults (R241 to R243) -/

/-- A feed has tripped with a short-circuit class cause that is not part of a former bus fault. -/
def shortTrip (s : State) (c : Chan) : Bool :=
  hubCh s c != .absent && (hubCh s c).faulted && !(s.port c).trip.bus &&
  (match causeOf (s.port c).trip.cause with
   | some k => k.shortClass
   | none => false)

/-- The feed was in STARTING, ON or LIMITING at an instant: it had started by then. -/
def startedBy (s : State) (c : Chan) (t : Nat) : Bool :=
  match (s.seen c).startAt with
  | some a => decide (a ≤ t)
  | none => false

/-- The feeds of a bus fault whose first trip is that of `c` (R241). -/
def bfGroup (s : State) (b : BusId) (c : Chan) : List Chan :=
  let t0 := (s.port c).trip.time
  (feedsOf s.active b).filter fun k =>
    shortTrip s k && decide (t0 ≤ (s.port k).trip.time) &&
    decide ((s.port k).trip.time ≤ t0 + s.act OD.BUS_BF_WIN b.val * stepNs) && startedBy s k t0

/-- A trip opens a group of at least two whose window is over, and whose last status has had its 1.25 µs to arrive (R22). -/
def bfOpens (s : State) (b : BusId) (c : Chan) : Bool :=
  shortTrip s c && startedBy s c (s.port c).trip.time && decide (2 ≤ (bfGroup s b c).length) &&
  decide ((s.port c).trip.time + s.act OD.BUS_BF_WIN b.val * stepNs + 1250 ≤ s.now)

/-- The first trip of the bus fault that can be classified now: the earliest that opens one, of equals the lowest channel (R22,
R241). -/
def bfFirst (s : State) (b : BusId) : Option Chan :=
  ((feedsOf s.active b).filter (bfOpens s b)).foldl (fun (a : Option Chan) c =>
    match a with
    | some k => if (s.port c).trip.time < (s.port k).trip.time then some c else a
    | none => some c) none

/-- Classification (R242). -/
def State.busFault (s : State) (b : BusId) (first : Chan) : State :=
  let group := bfGroup s b first
  let mask : Nat := group.foldl (fun m c => m + 2 ^ c.val) 0
  let s := (s.set OD.BUS_BF_FEEDS b.val mask).set OD.BUS_BF_TIME b.val (s.port first).trip.time
  let s := (s.count OD.BUS_BF_COUNT b.val).updBus b fun x => { x with bf := true }
  let s := group.foldl (fun s c => s.updPort c fun q => { q with trip := { q.trip with bus := true } }) s
  let s := (branchesOf s.active b).foldl (fun s c => if (hubCh s c).running then s.tripBy c .busFault else s) s
  (s.journal 0x06 (.bus b) 0x11 [(2, mask)]).evalLines

/-- BUS_FAULT_CLASSIFY. -/
def execBusFaultClassify (b : BusId) (s : State) : Result :=
  .next (if s.actB OD.BUS_BF_EN b.val && !(s.bus b).bf then
      match bfFirst s b with
      | some c => s.busFault b c
      | none => s
    else s)

/-- BUS_BF_CLEAR: the latch clears; bit 9 is released at the next tick (R243). -/
def State.busBfClear (s : State) (b : BusId) : State × Err :=
  if (s.bus b).bf then
    (((s.updBus b fun x => { x with bf := false }).journal 0x07 (.bus b) 0).evalLines, .ok)
  else (s, .ok)

/-- DIS_REQ written 1 (R163, R168, R169, R171, R262). A write of 1 on a request that stands, of a chopper whose active `DIS_PTARGET`
is 0 or that is unassigned, meets two sentences of R163: STATE goes first (DESIGN CHOICE, log 86). -/
def State.disReqSet (s : State) (d : Quad) : State × Err :=
  match busOfDis s.active d with
  | none => (s, .state)
  | some b =>
    if s.act OD.DIS_PTARGET d.val = 0 then (s, .state)
    else if (s.chop d).req then (s, .ok)
    else
      let s := (s.disQuiet d).updDis d fun x =>
        { x with req := true, state := .wait, status := .none, runAt := none, doneOnce := false, doneFrom := none, elapsedMs := 0 }
      let s := match preOf s.active b with
        | some p => s.preStopOn p [.discharge]
        | none => s
      let s := (membersOf s.active b).foldl State.activatePod (s.disOff d)
      (s.noFeed b, .ok)

/-- DIS_REQ written 0: the output goes inactive, the chopper returns to IDLE and bit 9 is released at the next tick
(R167, R172). -/
def State.disReqClear (s : State) (d : Quad) : State × Err :=
  (s.updDis d fun x => { x with req := false }, .ok)

end Sys2Proof.Machine
end

