-- ==== Sys2Proof/Machine/Status.lean ====
section
/-! DEFINITION. Status frames at the hub (R27, R568 to R570), ownership between partner hubs (R527 to R540), and the command
frame at the pod. -/

namespace Sys2Proof.Machine

/-! ## Groups and claims (R532, R535 to R540) -/

/-- The ownership group of a channel. -/
def groupOf (s : State) (c : Chan) : List Chan :=
  match busOf s.active c with
  | some b => membersOf s.active b
  | none => [c]

/-- Ring address of the partner (R535). -/
def partnerAddr (s : State) : Nat := s.act OD.HUB_PX_ADDR

/-! ## Rebuilding (R161, R262, R543) -/

/-- The transfer of a PRIORITY bus that a reset of its hub has broken off, as the states that its pods keep tell it: in MAKE a feed starts
as R258 times it after the static clamp of another; before MAKE no feed runs and one has been clamped about the last frame of its
former owner, too late for the next to have been started (R262; DEDUCED, log 90). -/
def keptXfer (s : State) (b : BusId) : Option (Chan × Option Chan) :=
  let feeds := feedsOf s.active b
  let gap := s.act OD.BUS_TBBM b.val * usNs
  let st (c : Chan) : PodStatus := (s.pod c).st
  if s.act OD.BUS_FMODE b.val ≠ 1 ∨ (s.bus b).xfer.moving = true then none
  else match feeds.find? fun c => (st c).ch.running with
    | some new =>
      match (st new).startAt with
      | some t0 =>
        if (s.pod new).pgSince then none
        else (feeds.find? fun k => k != new && (match (st k).tStatic with
          | some t => decide (t + gap ≤ t0) && decide (t0 ≤ t + gap + 3000)
          | none => false)).map fun k => (k, some new)
      | none => none
    | none =>
      (feeds.find? fun k => (st k).pod == .hold && (match (st k).tStatic with
        | some t => decide ((s.pod k).lastFrame < t + gap + 3000) && decide (t ≤ (s.pod k).lastFrame + 100000)
        | none => false)).map fun k => (k, none)

/-- The adopting hub finishes the transfer: `BUS_TBBM` runs from the kept t_s, and feeds that are good now have been good (R262; the
latter DEDUCED, log 90). -/
def State.resumeXfer (s : State) (b : BusId) (k : Option (Chan × Option Chan)) : State :=
  match k with
  | none => s
  | some (old, some new) =>
    let t := ((s.seen old).tStatic).getD 0
    (s.xferKeep b).updBus b fun x =>
      { x with xfer := .make, sel := some new, xOld := some old, xNew := some new, tStatic := some t, xFrom := t, xSent := true,
               xPre := false, tried := setBit (2 ^ old.val) new.val true }
  | some (old, none) =>
    let s := (feedsOf s.active b).foldl (fun s c => s.updPort c fun q => { q with feed := { q.feed with healthFrom := some 0 } }) s
    (s.eligibleTick b).xferStart b old none

/-- Adoption step 3 for a bus, from the states that the pods keep: the conducting feed of a PRIORITY bus is selected, an engine takes
the targets that the pods hold (R262, R543). -/
def State.rebuildBus (s : State) (b : BusId) : State :=
  let runs (c : Chan) : Bool := (s.port c).linked && (s.seen c).ch.running
  let run := (rankList s b).find? runs
  let t1 := match engineFeeds s b with
    | some (x, _) => (s.pod x).orTarget
    | none => (soloFeed s b).bind fun x => (s.pod x).orTarget
  let t2 := match engineFeeds s b with
    | some (_, y) => (s.pod y).orTarget
    | none => none
  let v := s.act OD.BUS_OR_VFWD b.val
  let keep := (s.bus b).xfer.moving || (match (s.bus b).sel with
    | some c => runs c
    | none => run.isNone)
  s.updBus b fun x =>
    { x with sel := if s.act OD.BUS_FMODE b.val = 1 && !keep then run.orElse (fun _ => x.sel) else x.sel,
             xfer := if x.xfer == .failed && run.isSome then .steady else x.xfer,
             selRan := x.selRan || run.isSome, target1 := t1.getD v, target2 := t2.getD v }

/-- The stack of a precharge feed was closing when its pod was adopted: its close had been applied, or a side is on (R161). -/
def PodStatus.closing (v : PodStatus) : Bool :=
  (v.ch == .starting && !v.bothClamped) || ((v.ch == .starting || v.ch == .limiting) && v.closeAt.isSome && !v.pg)

/-- Step 3 for an idle converter that is assigned and whose precharge feed is adopted: a stack that was closing is taken as it is
found, in HANDOVER with `PRE_TCLOSE_MAX` restarted; a feed in STARTING with both sides off starts again at SELFTEST (R161). -/
def State.rebuildPre (s : State) (c : Chan) : State :=
  allQuads.foldl (fun s p =>
    if (busOfPre s.active p).isSome && feedOfPre s.active p == some c && busOf s.active c == busOfPre s.active p &&
        (s.port c).linked && (s.conv p).state == .idle then
      if (s.seen c).closing then s.updPre p fun x => { x with state := .handover, closeAt := s.now, selfAt := s.now }
      else if (s.seen c).ch == .starting then s.preSelftest p else s
    else s) s

/-- What this hub runs of a channel follows the kept state of its pod: its bus and its converter. -/
def State.rebuild (s : State) (c : Chan) : State :=
  match busOf s.active c with
  | some b => (s.rebuildBus b).rebuildPre c
  | none => s

/-! ## Claims -/

/-- Record an OWNERSHIP event (R555). -/
def State.ownership (s : State) (c : Chan) (code epoch : Nat) : State :=
  s.journal 0x0F (.chan c) code [(1, epoch), (2, partnerAddr s)]

/-- The hub claims a port with an epoch; its frames carry the command set that the pod holds (R536 to R538, R543). -/
def State.claim (s : State) (c : Chan) (epoch : Nat) : State :=
  let held := (s.pod c).held
  s.updPort c fun q =>
    { q with own := true, epoch := epoch % 256, releasing := none, ownerless := none, takeDue := none, kept := true,
             down := { frameLevel held with claim := .own, epoch := epoch % 256 } }

/-- Claim a port from another owner: the retry count and a toggle's tests under way are those of the command set that the pod
holds (R236, R239, R536, R538). -/
def State.claimHeld (s : State) (c : Chan) (epoch : Nat) : State :=
  let p := s.pod c
  (s.claim c epoch).updPort c fun q =>
    { q with toggling := p.tests.toggle,
             trip := { q.trip with retryN := (if p.st.own.link.isSome || p.st.pod.holds then p.held.retryN else q.trip.retryN) } }

/-- Claim a whole group; its bus follows the kept states of its pods (R536, R538, R543). -/
def State.claimGroup (s : State) (c : Chan) (epoch : Nat) : State :=
  let s := (groupOf s c).foldl (fun s k => s.claimHeld k epoch) s
  match busOf s.active c with
  | some b => s.rebuildBus b
  | none => s

/-- The hub turns STANDBY on a port: what it timed of the channel as a feed is no longer watched. -/
def State.standby (s : State) (c : Chan) : State :=
  s.updPort c fun q =>
    { q with own := false, kept := false, releasing := none, takeDue := none, feed := {},
             down := { frameLevel q.down with claim := .standby } }

/-- Turn STANDBY for the whole group: converters stop with their outputs high-impedance, the chopper is in WAIT, the bus has no
selected feed (R158, R539, R540; DEDUCED, log 105). -/
def State.standbyGroup (s : State) (c : Chan) : State :=
  let s := match busOf s.active c with
    | some b =>
      let s : State := match preOf s.active b with
        | some p => s.preStop p .feedLost
        | none => s
      let s : State := match disOf s.active b with
        | some d => if (s.chop d).state == .run || (s.chop d).state == .done then s.disWait d .noMeasure else s
        | none => s
      s.updBus b fun x => { x.noFeed s.now with eligible := 0, blockedFrom := none }
    | none => s
  (groupOf s c).foldl State.standby s

/-- TAKEOVER: a partnered pod has reported HOLD on a STANDBY link; the group is claimed at the tick that follows, unless it has an
owner here by then (R538). -/
def State.takeover (s : State) (c : Chan) : State :=
  match (s.port c).takeDue with
  | some e =>
    if (s.port c).own || !(s.port c).linked then s.updPort c fun q => { q with takeDue := none }
    else ((s.claimGroup c (e + 1)).count OD.HUB_PX_TAKEOVERS).ownership c 2 ((e + 1) % 256)
  | none => s

/-- A group whose pod obeys the other hub at a higher epoch: the end of a move, or YIELD (R536, R539). -/
def State.yield (s : State) (c : Chan) (epoch : Nat) : State :=
  if (s.port c).releasing.isSome then
    ((s.standbyGroup c).count OD.HUB_PX_MOVES).ownership c 1 epoch
  else (s.standbyGroup c).ownership c 3 epoch

/-- What the ownership byte of a status frame means to this hub (R536, R538, R539). -/
def State.ownSeen (s : State) (c : Chan) (old v : PodStatus) : State :=
  let q := s.port c
  let s := if v.own.conflict && !old.own.conflict then
      if !q.own then s
      else if v.own.link == some true then (s.count OD.HUB_PX_CONFLICTS).ownership c 6 v.own.epoch
      else s.standby c
    else s
  if partnered s c then
    if (s.port c).own then
      if v.own.link == some false && epochHigher v.own.epoch (s.port c).epoch then s.yield c v.own.epoch else s
    else if v.own.released && v.own.link == some false then
      ((s.claimGroup c (v.own.epoch + 1)).count OD.HUB_PX_MOVES).ownership c 1 ((v.own.epoch + 1) % 256)
    else if v.pod == .hold then s.updPort c fun q => { q with takeDue := some v.own.epoch }
    else
      let lone := v.own.link.isNone || v.pod == .safe
      s.updPort c fun q => { q with takeDue := none, ownerless := if lone then some (q.ownerless.getD s.now) else none }
  else s

/-- OWNERLESS_CLAIM: 100 ms without an owner (R535). -/
def execOwnerlessClaim (c : Chan) (s : State) : Result :=
  .next (match (s.port c).ownerless with
    | some f =>
      if f + 100 * msNs ≤ s.now ∧ partnered s c = true ∧ (s.port c).own = false ∧ (s.port c).linked = true then
        s.claimHeld c ((s.seen c).own.epoch + 1)
      else s
    | none => s)

/-- MOVE_RECLAIM: 100 µs of RELEASE without a claim (R540). -/
def execMoveReclaim (s : State) : Result :=
  .next (allChans.foldl (fun s c =>
    match (s.port c).releasing with
    | some f => if f + 100000 ≤ s.now then s.claim c ((s.port c).epoch + 1) else s
    | none => s) s)

/-! ## A status frame (R27, R568 to R570) -/

/-- The rise of a counter of the pod joins a counter of the port. -/
def State.addRise (s : State) (o : Obj) (i old new : Nat) : State := if old < new then s.count o i (new - old) else s

/-- Counters that the pod's events raise (R100, R225, R279, R315). -/
def State.countsSeen (s : State) (c : Chan) (a b : PodCounts) : State :=
  let s := if a.cycles < b.cycles then s.count64 OD.CH_GCYCLES c.val (b.cycles - a.cycles) else s
  let s := s.addRise OD.CH_LIMITS c.val a.limits b.limits
  let s := s.addRise OD.CH_SELFTEST_ROUNDS c.val a.rounds b.rounds
  let s := s.addRise OD.CH_STACKTESTS c.val a.stackTests b.stackTests
  let s := s.addRise OD.ADC_URGENTS c.val a.urgents b.urgents
  let s := s.addRise OD.ADC_ABORTS c.val a.aborts b.aborts
  let s := s.addRise OD.ADC_PAIR_WINS c.val a.windows b.windows
  let s := s.addRise OD.ADC_PAIR_MISSED c.val a.missed b.missed
  let s := s.addRise OD.ADC_DISCARDS c.val a.discards b.discards
  match busOf s.active c with
  | some k => s.addRise OD.BUS_OR_BLOCKS k.val a.orBlocks b.orBlocks
  | none => s

/-- Warnings that a status carries (R204, R209, R556). -/
def State.warningsSeen (s : State) (c : Chan) (old v : PodStatus) : State :=
  let s := if old.counts.warns < v.counts.warns then
      s.warn (.chan c) 1 [(2, (v.meas.tempStack % 65536).toNat), (2, s.act OD.CH_TWARN c.val)] else s
  if old.counts.foreign < v.counts.foreign then
    s.warn (.chan c) 2 [(2, (v.meas.vout / 1000000 % 65536).toNat), (2, (v.meas.vin / 1000000 % 65536).toNat)] else s

/-- What a status tells beyond the one before: counts, entries into HOLD, warnings, and the record of an entry into HOLD or SAFE
(R555, R568). -/
def State.tells (s : State) (c : Chan) (old v : PodStatus) : State :=
  let s := (s.countsSeen c old.counts v.counts).addRise OD.CH_HOLDS c.val old.holds v.holds
  let s := s.warningsSeen c old v
  if v.pod.holds && !old.pod.holds then s.ownership c (if v.pod = .hold then 4 else 5) v.own.epoch else s

/-- A module whose debounce is complete is no longer away (R131). -/
def PortSeat.heard (x : PortSeat) (v : SeatStatus) : PortSeat := { x with away := x.away && !v.debounced }

/-- The seat part: a reported loss starts the timing of the removal, unless that removal is confirmed already; a seated pair
cancels it and ends the time without a pod (R126, R569). -/
def State.seatSeen (s : State) (c : Chan) (old v : PodStatus) : State :=
  let s := s.updPort c fun q => { q with seat := q.seat.heard v.seat }
  if v.seat.s1 && v.seat.s2 then
    s.updPort c fun q => { q with noPod := false, seat := { q.seat with lossFrom := none, confirmed := false } }
  else
    match v.seat.tUnseat with
    | some t =>
      if old.seat.tUnseat = some t ∨ (s.port c).seat.confirmed = true then s
      else s.seatTimer c t
    | none => s

/-- `CH_DMG_DETAIL` at the hub: what the pod reports, and what it has reported until the pod takes it back (R225). -/
def detailSeen (held old new : Nat) : Nat :=
  let all := held ||| new
  all - (all &&& (old - (old &&& new)))

/-- What the port keeps of a status: the port-held parts only grow until their clearing (R568, R570). -/
def PodStatus.keep (v old : PodStatus) : PodStatus :=
  { v with startEnergy := v.startEnergy || old.startEnergy,
           prot := { v.prot with cmpCapt := v.prot.cmpCapt ||| old.prot.cmpCapt, ftPeak := max v.prot.ftPeak old.prot.ftPeak,
                                 selftestFail := v.prot.selftestFail ||| old.prot.selftestFail } }

/-- What the hub has sent of a trip, or of a clearing of DAMAGED, is reported (R240, R246). -/
def PortTrip.reported (r : PortTrip) (ch : ChState) : PortTrip :=
  { r with sent := (if ch.faulted then 0 else r.sent), left := (if ch.faulted then 0 else r.left),
           clearing := r.clearing && ch == .damaged }

/-- A port that another hub governs: a trip that its owner has released is over here as well (R530; DEDUCED, log 105). -/
def State.tripOver (s : State) (c : Chan) (v : PodStatus) : State :=
  if !(s.port c).own && v.seat.debounced && !v.faultState.faulted && !v.pod.holds && v.own.link == some false then
    s.updPort c fun q => { q with trip := { q.trip with state := .off, retryDue := none } }
  else s

/-- A valid status frame `v` from the pod of port `c` (R27). Trips kept in HOLD or SAFE are taken up at adoption (R248). -/
def State.statusIn (s : State) (c : Chan) (v : PodStatus) : State :=
  let old := s.seen c
  let s := s.seatSeen c old v
  let s := if v.pod.holds then s else (s.tripSeen c v old.pod.holds).tripOver c v
  let s := s.updPort c fun q => { q with trip := q.trip.reported v.faultState }
  let s := s.tells c old v
  let s := s.updPort c fun q => { q.sees (v.keep old) with detail := detailSeen q.detail old.prot.detail v.prot.detail }
  let s := if old.pod.holds && !v.pod.holds && v.own.link == some true then s.rebuild c else s
  let s := if !v.pod.holds && v.ch == .on && (old.ch != .on || old.pod.holds) then s.feedOn c else s
  (s.ownSeen c old v).evalLines

/-- STATUS_FRAME_RECEIVED. -/
def execStatusFrameReceived (c : Chan) (crcOk : Bool) (s : State) : Result :=
  .next (if (s.port c).linked && s.hubUp then
      if crcOk then s.statusIn c (s.pod c).up
      else s.updPort c fun q => { q with linkErrors := q.linkErrors + 1 }
    else s)

/-! ## A command frame (R27, R31) -/

/-- COMMAND_FRAME_RECEIVED. A frame of this hub carries what the port is to send; its single commands are then sent. -/
def execCommandFrameReceived (c : Chan) (rx : RxFrame) (s : State) : Result :=
  .next (if !rx.crcOk then s
    else if rx.own then
      if (s.port c).linked && s.hubUp then
        let fr := (s.port c).down
        (s.updPod c fun p => p.receive true fr s.now).updPort c fun q =>
          { q with down := frameLevel q.down,
                   trip := { q.trip with left := q.trip.left ||| (fr.trips - (fr.trips &&& q.trip.sent)) } }
      else s
    else s.updPod c fun p => p.receive false rx.frame s.now)

end Sys2Proof.Machine
end

