-- ==== Sys2Proof/Machine/PodPort.lean ====
section
/-! DEFINITION. Seats, starts and power-good of a channel (chapter 4), and the supply and link of its pod (R411, R416, R417). -/

namespace Sys2Proof.Machine

/-- A change at a pod that its link reports at once. -/
def State.podTell (s : State) (c : Chan) (f : Pod → Pod) : State :=
  let p := f (s.pod c)
  let s := s.updPod c fun _ => { p with up := p.up.follow p.st }
  if (s.port c).linked && s.hubUp then s.updPort c fun q => q.sees (q.seen.follow p.st) else s

/-- The pod samples its seats (R106). -/
def Pod.samplesSeat (p : Pod) : Bool := p.st.pod != .unpowered && p.st.pod != .linking

/-! ## Seating (R107 to R109) -/

/-- A seat that returns after `CH_TSEAT` in HOLD or SAFE: the pod has recorded the removal (R129). -/
def Pod.wasRemoved (p : Pod) (t : Nat) : Bool :=
  p.st.seat.removed || (p.st.pod.holds && (match p.st.seat.tUnseat with
    | some f => decide (f + p.prmSince f OD.CH_TSEAT * 100000 ≤ t)
    | none => false))

/-- SEAT_PAIR_SEATED. -/
def execSeatPairSeated (c : Chan) (t : Nat) (s : State) : Result :=
  .next (if (s.pod c).samplesSeat && (s.pod c).st.ch == .absent then
      let s := s.at t
      let s := s.podTell c fun p =>
        { p with seatFrom := some s.now,
                 st := { p.st with ch := .seating, seat := { s1 := true, s2 := true, debounced := false, tUnseat := none,
                                                             removed := p.wasRemoved s.now } } }
      if (s.port c).linked && s.hubUp then
        s.updPort c fun q => { q with noPod := false, seat := { q.seat with lossFrom := none, confirmed := false } }
      else s
    else s)

/-- SEATING_ABORT (R108). -/
def execSeatingAbort (c : Chan) (s1 : Bool) (s2 : Bool) (t : Nat) (s : State) : Result :=
  .next (if (s.pod c).st.ch = .seating ∧ (s1 && s2) = false then
      (s.at t).podTell c fun p =>
        { p with seatFrom := none, st := { p.st with ch := .absent, seat := { p.st.seat with s1 := s1, s2 := s2 } } }
    else s)

/-- The channel leaves SEATING for a state; a fault state carries the trip record that the port keeps (R109, R131). -/
def Pod.seated (p : Pod) (ch : ChState) (r : PodTrip) : Pod :=
  let p := p.toState ch
  { p with seatFrom := none, acked := !ch.faulted, coll := {},
           st := { p.st with kept := .off, seat := { p.st.seat with debounced := true },
                             trip := if ch.faulted then r else p.st.trip } }

/-- SEAT_DEBOUNCE_COMPLETE: the reinsertion state, and ACTIVE (R107, R109, R129, R131, R418). -/
def execSeatDebounceComplete (c : Chan) (t : Nat) (s : State) : Result :=
  .next (match (s.pod c).seatFrom with
    | some f =>
      if (s.pod c).st.ch = .seating ∧ f + (s.pod c).prmSince f OD.CH_TSEAT * 100000 ≤ max s.now t then
        let s := s.at t
        let p := s.pod c
        if (s.port c).linked && s.hubUp && p.st.own.link == some true && !p.st.pod.holds then
          let q := (s.port c).trip
          let r : PodTrip := { set := q.set, primary := q.cause, time := q.time, n := p.st.trip.n }
          let s := s.podTell c fun p => p.seated (reinsertState s c) r
          let s := s.updPort c fun q => { q with trip := { q.trip with seenN := p.st.trip.n }, seat := { q.seat with away := false } }
          s.activatePod c
        else s.podTell c fun p => p.seated (if p.st.kept.faulted then p.st.kept else .off) p.st.trip
      else s
    | none => s)

/-- The end of the seat-loss filter at the pod: PGO_N is released, NORMAL runs on any side that is not off, the fault timer stops; the
channel is ABSENT at the next boundary (R125). -/
def Pod.seatLost (p : Pod) (s1 s2 : Bool) (tFirst t : Nat) : Pod :=
  let p := p.off .normal t
  { p with limited := none, limitCut := none, limitExit := none, limitEnds := false, absentDue := true,
           st := { p.st with prot := { p.st.prot with ftAcc := 0 },
                             seat := { s1 := s1, s2 := s2, debounced := false, tUnseat := some tFirst, removed := p.st.seat.removed } } }

/-- SEAT_LOSS: reported to the hub, which times the removal; a running precharge ends (R110, R125, R126, R158). -/
def execSeatLoss (c : Chan) (s1 : Bool) (s2 : Bool) (tFirst : Nat) (t : Nat) (s : State) : Result :=
  let p := s.pod c
  .next (if p.samplesSeat && p.st.ch != .absent && p.st.ch != .seating && !p.absentDue && !(s1 && s2) &&
      decide (tFirst + p.prmSince tFirst OD.CH_TSEATLOSS * 1000 ≤ max s.now t) then
      let s := (s.at t).podTell c fun p => p.seatLost s1 s2 tFirst (max s.now t)
      if (s.port c).linked && s.hubUp && !p.st.pod.holds then
        let s := s.seatTimer c tFirst
        allQuads.foldl (fun s k => if feedOfPre s.active k == some c then s.preStopOn k [.feedLost] else s) s
      else s
    else s)

/-! ## Start (R111 to R114, R272) -/

/-- A feed of a live ORing bus whose source lies below the band starts by its IN side alone. Without a valid sample of V_in or V_bus
neither condition of R272 can be told: the whole stack starts (DESIGN CHOICE, log 110). -/
def startsByIn (s : State) (c : Chan) : Bool :=
  match busOf s.active c with
  | some b =>
    oringBus s b && isFeed s.active c && busLive s b &&
    (match vinOf s c, busV s b with
     | some vi, some vb => decide (vi * 10000 < vb * (10000 - s.actI OD.BUS_XFER_BAND b.val))
     | _, _ => false)
  | none => false

/-- The pod starts with its IN side only. -/
def Pod.applyStartIn (p : Pod) (t : Nat) : Pod :=
  let q := p.startStackOff t
  if p.startBits ≠ 0 then { p with st := { p.st with refused := p.startBits } } else q.askOn (.side .inS) t

/-- Every condition of R111 holds, no stack test or calibration makes the start wait, and it is not one that closes after
precharge (R114, R215, R307). -/
def startReady (s : State) (c : Chan) : Bool :=
  hubCh s c == .off && startBits8 s c == 0 && !bit9 s c && !byPrecharge s c && !(s.pod c).busyForStart

/-- CHANNEL_START, at a tick boundary: the pod applies the start, or refuses it with the failing bits (R111). -/
def execChannelStart (c : Chan) (t : Nat) (s : State) : Result :=
  .next (if startReady s c && decide (max s.now t % tickNs = 0) then
      let byIn := startsByIn s c
      ((s.at t).down c fun f => { f with off := false }).podNow c fun p =>
        if !p.acked then { p with st := { p.st with ignored := true } }
        else if byIn then p.applyStartIn (max s.now t) else p.applyStart (max s.now t)
    else s)

/-! ## Power-good (R115, R116, R266) -/

/-- Power-good asserts: ON; the OUT side of an engine feed enters regulation (R116, R119, R266, R272). -/
def Pod.pgAssert (p : Pod) (t : Nat) : Pod :=
  let p := p.endStart
  let p := if p.st.ch = .starting then p.toState .on else p
  let p := { p with pgSince := true, st := { p.st with pg := true, counting := false, closeAt := none } }
  if p.orTarget.isSome && p.st.oring == .off then
    ({ p with st := { p.st with oring := .conducting } }.endBlank .outS).setGate .outS ((p.gate .outS).enter .regulated t)
  else p

/-- POWER_GOOD_ASSERT, at a boundary: the hub learns of it with the status; a transfer or a precharge completes (R116, R119, R156, R259). -/
def execPowerGoodAssert (c : Chan) (s : State) : Result :=
  let p := s.pod c
  .next (if p.tickAt == s.now && p.st.counting && !p.st.pg && p.pgHolds && decide (p.prm OD.CH_TPG ≤ p.pgCount) then
      let first := !p.pgSince
      let since := match p.st.startAt with
        | some a => (s.now - a) / usNs
        | none => 0
      let s := s.podTell c fun p => p.pgAssert s.now
      if (s.port c).linked && s.hubUp && !p.st.pod.holds then
        let s := if first then s.set OD.CH_TSTART c.val since else s
        s.feedOn c
      else s
    else s)

/-! ## Supply and link of a pod (R306, R330, R416, R417) -/

/-- The LV die starts: what it held is gone; the HV side keeps its own, and the held bits of `CH_GSTAT` stand until a toggle clears
them (R99, R306, R313, R330, R416). -/
def Pod.powerUp (p : Pod) (kind : PodKind) (rev uid : Nat) (a b : Bool) (t : Nat) : Pod :=
  let q : Pod :=
    { kind := kind, rev := rev, uid := uid, vpos := p.vpos, vneg := p.vneg, turnOff := p.turnOff, midCmp := p.midCmp, tickAt := t,
      tests := { stackAt := if p.st.hvOn then some (t + OD.CH_TDECAY.dflt.toNat * 1000000) else none },
      mtr := { epoch := (p.mtr.epoch + 1) % 65536, sentAt := t },
      st := { pod := .linking, gIn := p.st.gIn, gOut := p.st.gOut, gstat := (if uid = p.uid then p.st.gstat else p.st.gstat % 4),
              hvOn := p.st.hvOn, lvA := a, lvB := b, tStatic := p.st.tStatic } }
  if p.st.hvOn then { q with adc := { q.adc with burstAt := t } }.route .burst t else q

/-- The supply output of a port conducts: its bit is set and current limit has not opened it. VPL is taken as at or above 4.5 V, and
the output as feeding input A of its pod (DESIGN CHOICE, log 116) (R396). -/
def supplyOn (s : State) (c : Chan) : Bool := (s.act OD.HUB_PODSUP_EN).testBit c.val && (s.port c).supply.openSince.isNone

/-- Input A of a powered pod follows the supply output of its port (R396, R421). -/
def State.feedA (s : State) (c : Chan) : State :=
  s.updPod c fun p => if p.st.pod = .unpowered then p else { p with st := { p.st with lvA := supplyOn s c } }

/-- The outputs whose bits have changed since the mask `old` open or conduct (R396). -/
def State.podSwitches (s : State) (old : Nat) : State :=
  (allChans.filter fun c => old.testBit c.val != (s.act OD.HUB_PODSUP_EN).testBit c.val).foldl State.feedA s

/-- POD_POWER_UP: the LV supply of a pod of type `kind` rises on input A, which this hub feeds, on B, or on both (R396, R416). -/
def execPodPowerUp (c : Chan) (kind : PodKind) (rev : Nat) (uid : Nat) (a : Bool) (b : Bool) (s : State) : Result :=
  let a := a && supplyOn s c
  .next (if (s.pod c).st.pod = .unpowered ∧ (a || b) = true ∧ kind ≠ .none then
      s.updPod c fun p => p.powerUp kind rev uid a b s.now
    else s)

/-- The LV supply is lost: SUPPLY_LOSS off, CAL ends, factors and everything of the LV die are lost (R92, R120, R306, R416). -/
def Pod.supplyLost (p : Pod) (t : Nat) : Pod :=
  let p := (p.abortCal t).off .supplyLoss t
  { p with barrierLost := true, seatFrom := none, absentDue := false, cmds := [], adc := {},
           mtr := { p.mtr with trk := {} }, params := [], past := [], held := {},
           st := { p.st with pod := .unpowered, leaving := false, ch := .absent, kept := .off, seat := {}, pg := false,
                             fltq := false, own := {}, lvA := false, lvB := false, adc := {}, holdFrom := none } }

/-- A calibration that a port has seen running was ended by the loss of the pod's supply (R307, R312). -/
def endedCal (state : Nat) : Nat := if state = 1 then 4 else state

/-- A link goes down: recorded; the port keeps the extremes that the pod has tracked up to now (R555, R568). -/
def State.linkLost (s : State) (c : Chan) : State :=
  if (s.port c).linked then
    let trk := if s.hubUp then (s.pod c).mtr.trk else {}
    (s.updPort c fun q => { q with mtr := { q.mtr with trk := q.mtr.trk.join trk } }).journal 0x0E (.chan c) 2 [(8, (s.pod c).uid)]
  else s

/-- POD_SUPPLY_LOSS: the link is down with the supply (R307, R416, R555). -/
def execPodSupplyLoss (c : Chan) (t : Nat) (s : State) : Result :=
  .next (if (s.pod c).st.pod ≠ .unpowered then
      let s := (s.at t).linkLost c
      (s.updPod c fun p => p.supplyLost s.now).updPort c fun q =>
        { q with linked := false, down := frameLevel q.down, cal := endedCal q.cal, recal := endedCal q.recal }
    else s)

/-- Whether this hub claims a port of its own accord: not partnered, or preferred (R527, R535). -/
def claims (s : State) (c : Chan) : Bool := !partnered s c || (s.act OD.HUB_PX_PREF).testBit c.val

/-- Identity of the pod on a port (R466) and its record (R555): 1 up, 3 exchanged. -/
def State.podReport (s : State) (c : Chan) : State :=
  let p := s.pod c
  let last := s.stat OD.DEV_POD_UID 0 c.val
  let code := if last ≠ 0 ∧ last ≠ p.uid then 3 else 1
  let s := ((s.set OD.DEV_POD_TYPE 0 p.kind.code c.val).set OD.DEV_POD_REV 0 p.rev c.val).set OD.DEV_POD_UID 0 p.uid c.val
  s.journal 0x0E (.chan c) code [(8, p.uid)]

/-- A pod of another hub's, of this one, or of none, whose link to this hub has trained while the hub runs. -/
def State.linkUp (s : State) (c : Chan) : State :=
  let p := s.pod c
  if p.st.pod = .linking then
    let s := s.updPort c fun q => { q with trip := { q.trip with seenN := p.st.trip.n } }
    if claims s c then
      let s := s.updPod c fun p => { (p.owned true ((p.st.own.epoch + 1) % 256) s.now) with params := chanSet s.active c }
      (s.claim c (s.pod c).st.own.epoch).updPort c fun q => { q with seen := (s.pod c).st.keep q.seen }
    else s.updPort c fun q => { q with own := false, kept := false, down := { claim := .standby } }
  else if p.st.pod.holds then s.updPort c fun q => { q with own := false, down := { claim := if partnered s c then .standby else .none } }
  else if p.st.own.link == some true then s.updPort c fun q => { q with own := true, kept := true, epoch := p.st.own.epoch }
  else s.updPort c fun q => { q with own := false, kept := false, down := { claim := .standby } }

/-- What a pod that this hub has heard since its BOOT counted, noted and entered while its link was down (R250, R568). -/
def State.missed (s : State) (c : Chan) : State :=
  let v := (s.pod c).st
  if (s.seen c).pod = .unpowered then s
  else
    let s := if v.pod.holds then s else s.noteSeen c v false
    s.tells c (s.seen c) v

/-- What the port takes of a pod whose link has trained. A pod in LINKING has held nothing: the port keeps the results of its
predecessor, a calibration that was running has been ended (R307, R312, R568). -/
def Port.trained (q : Port) (v : PodStatus) : Port :=
  if v.pod = .linking then { q with seen := v.keep q.seen, cal := endedCal q.cal, recal := endedCal q.recal }
  else
    let r := q.sees (v.keep q.seen)
    { r with cal := (if r.cal = 1 then v.adc.cal else r.cal), recal := (if r.recal = 1 then v.adc.recal else r.recal) }

/-- The link of a pod has trained: in BOOT the hub only takes the pod's report; ownership follows at the end of BOOT (R399, R416, R417,
R569). -/
def State.podTrained (s : State) (c : Chan) : State :=
  if (s.pod c).st.pod ≠ .unpowered ∧ (s.port c).linked = false ∧ (s.hubUp || s.hub == .boot && s.stat OD.HUB_BOOT_STATUS == 0) = true then
    let s := ((s.missed c).updPort c fun q => { q.trained (s.pod c).st with linked := true, noPod := false }).updPod c
      fun p => { p with rest := none }
    let s := s.podReport c
    if s.hubUp then s.linkUp c else s
  else s

/-- POD_LINK_DOWN: the pod keeps its state (R417). -/
def execPodLinkDown (c : Chan) (s : State) : Result :=
  .next (if (s.port c).linked then
      (s.linkLost c).updPort c fun q => { q with linked := false, down := frameLevel q.down }
    else s)

end Sys2Proof.Machine
end

