-- ==== Sys2Proof/Machine/Converters.lean ====
section
/-! DEFINITION. The converters of a pod (chapter 9): internal nodes, urgent lists, paired capture, CAL and recalibration,
bursts; and the housekeeping converter of the hub. -/

namespace Sys2Proof.Machine

/-- A Warning record of a channel, written by a hub that hears its pod (R556). -/
def State.podWarn (s : State) (c : Chan) (code : Nat) (data : List (Nat × Nat)) : State :=
  if hears s c then s.warn (.chan c) code data else s

/-- A code as the two bytes of a record. -/
def low16 (x : Int) : Nat := (x % 65536).toNat

/-! ## Internal nodes (R287, R288) -/

/-- Set or clear a bit of `ADC_HEALTH`. -/
def Pod.health (p : Pod) (i : Nat) (b : Bool) : Pod :=
  { p with st := { p.st with adc := { p.st.adc with health := setBit p.st.adc.health i b } } }

/-- The reading of a dwell: mV, °C, or the check of VREF against 1.800 V ± 1 % and of GND against ± 32 LSB, both on the mean of the
valid conversions. A dwell without a valid conversion leaves the reading (DESIGN CHOICE, log 91) (R287, R288). -/
def Pod.reading (p : Pod) (d : Dwell) : Pod :=
  let m := p.st.meas
  if d.n = 0 then p
  else match d.node with
  | 0 => { p with st := { p.st with meas := { m with vposMv := Config.nodeValue 0 d.sum d.n } } }
  | 1 => { p with st := { p.st with meas := { m with vnegMv := Config.nodeValue 1 d.sum d.n } } }
  | 2 => { p with st := { p.st with meas := { m with tempDie := Config.nodeValue 2 d.sum d.n } } }
  | 3 => p.health 0 (decide (288 * d.n < (d.sum - 28800 * d.n).natAbs))
  | _ => p.health 1 (decide (32 * d.n < d.sum.natAbs))

/-- The mean of a dwell in LSB, as a record carries it. -/
def Dwell.mean (d : Dwell) : Int := d.sum / (max d.n 1 : Nat)

/-- The warning of a check that a dwell has newly failed (R288). -/
def State.healthSeen (s : State) (c : Chan) (old new : Nat) (mean : Int) : State :=
  let s := if new.testBit 0 && !old.testBit 0 then s.podWarn c 3 [(2, low16 mean)] else s
  if new.testBit 1 && !old.testBit 1 then s.podWarn c 4 [(2, low16 mean)] else s

/-- INT_DWELL_COMPLETE: the node of the oldest dwell that has ended is read (R287, R288). -/
def execIntDwellComplete (c : Chan) (s : State) : Result :=
  let p := s.pod c
  .next (match p.adc.dwells with
    | d :: l =>
      let q := { p with adc := { p.adc with dwells := l } }.reading d
      (s.updPod c fun _ => q).healthSeen c p.st.adc.health q.st.adc.health d.mean
    | [] => s)

/-! ## Urgent lists (R300 to R302) -/

/-- The oldest list whose results have not been delivered. -/
def PodAdc.openRun (a : PodAdc) : Option UrgRun := a.runs.find? fun r => !r.delivered

/-- The finding at a point of a list: the one that its tick has brought, or, before that tick has ended, the one of the command. -/
def UrgRun.rawAt (r : UrgRun) (codes : List Raw) (i : Nat) (x : Tap) : Raw :=
  match r.codes.find? fun e => e.1 == x with
  | some e => e.2
  | none => codes.getD i { code := 0 }

/-- The list with all its findings, delivered. -/
def UrgRun.deliver (r : UrgRun) (codes : List Raw) : UrgRun :=
  { r with codes := r.pts.zipIdx.map fun e => (e.1.2, r.rawAt codes e.2 e.1.2), delivered := true }

/-- The corrected code of an input of a list. -/
def Pod.runCode (p : Pod) (r : UrgRun) (x : Tap) : Int :=
  match r.pts.find? fun e => e.2 == x, r.codes.find? fun e => e.1 == x with
  | some e, some k =>
    p.codeOf { tap := x, at_ := e.1, vc := p.routingAt e.1 != .vcRecal, slice := sliceOf e.1, raw := k.2 } none
  | _, _ => 0

/-- What the results of a list are for: the source-node check of a stack test, with its tie tests after it; the second conversion
of a confirmation; the voltages of a snapshot (R210, R211, R214, R337). -/
def Pod.urgentFor (p : Pod) (vdi vdo vdn : Int) (t : Nat) : Urgent → Pod
  | .stackTest =>
    if !p.tests.stackRun then p
    else if p.bothClamped then (p.sourceNode vdi vdo).startTies t
    else { p with tests := { p.tests with stackRun := false } }
  | .confirm => if p.tests.confirmAsked then { p with tests := { p.tests with confirmCodes := some (vdi, vdo) } } else p
  | .snapshot =>
    let n := vUv (p.prm OD.CH_KDIV_NEG) vdn
    { p with mtr := { p.mtr with snapV := some (vUv (p.prm OD.CH_KDIV_IN) vdi - n, vUv (p.prm OD.CH_KDIV_OUT) vdo - n) } }

/-- The results of a list are available: every request that it serves has them (R301, R302). -/
def Pod.urgentDone (p : Pod) (r : UrgRun) (codes : List Raw) (t : Nat) : Pod :=
  let d := r.deliver codes
  let l := p.adc.runs.map fun k => if k = r then d else k
  let p : Pod := { p with adc := { p.adc with runs := l } }
  r.causes.foldl (fun p u => p.urgentFor (p.runCode d .vdi) (p.runCode d .vdo) (p.runCode d .vdn) t u) p

/-- URGENT_CONVERSION_DONE: 225 ns after the last listed input is sampled; `codes` are the findings of VDI, VDO and VDN where
their tick has not ended yet (R301). -/
def execUrgentConversionDone (c : Chan) (codes : List Raw) (t : Nat) (s : State) : Result :=
  .next (match (s.pod c).adc.openRun with
    | some r =>
      s.podEvent c t (fun p t => p.st.hvOn && decide (r.lastListed + 225 ≤ t)) fun p t => p.urgentDone r codes t
    | none => s)

/-! ## Paired capture (R290 to R292) -/

/-- A window of ALTERNATE: every second tick from the tick of its COMMIT, from boundary to boundary (R292). -/
def Pod.alternate (p : Pod) (t : Nat) : Pod :=
  if p.st.adc.routing = .normal ∧ p.adc.winFrom = none ∧ t % tickNs = 0 ∧ (t - p.adc.altFrom) / tickNs % 2 = 0 then
    p.openWin t 15 true
  else p

/-- PAIRED_WINDOW_START: a comparator under TRIGGERED, unless it is under test or holds its output; or with none a tick of
ALTERNATE. A capture command starts its window with the frame that brings it (R217, R290, R292, R350). -/
def execPairedWindowStart (c : Chan) (trig : Option PodCmp) (t : Nat) (s : State) : Result :=
  .next (s.podEvent c t
    (fun p _ => p.st.hvOn && (match trig with
      | some k => p.prm OD.ADC_PAIR == 1 && (p.prm OD.ADC_PAIR_TRIG).testBit k.bit && !p.masked k t && (p.hold k).isNone
      | none => p.prm OD.ADC_PAIR == 2))
    fun p t => match trig with
      | some k => p.capture k.bit t
      | none => p.alternate t)

/-- Body of a CAPTURE record: triggering comparators, missed triggers, 60 words (R515). -/
def captureBody (trig missed : Nat) (words : List Nat) : List Byte :=
  leBytes 2 (if trig < 11 then 2 ^ trig else 0) ++ leBytes 2 missed ++
    ((words ++ List.replicate (60 - words.length) 0).take 60).flatMap (leBytes 4)

/-- The capture records of the windows whose last samples had been delivered at the boundary `b`; windows of ALTERNATE leave none
(R280, R291, R292). -/
def Pod.queueWindows (p : Pod) (c : Chan) (missed b : Nat) : Pod :=
  let done (w : Win) : Bool := decide (w.to_ + 225 ≤ b)
  let recs : List StrRec := (p.adc.wins.filter fun w => done w && !w.alt).map fun w =>
    { type := 3, src := c.val, time := w.from_, body := captureBody w.trig missed w.words }
  { p with adc := { p.adc with wins := p.adc.wins.filter fun w => !done w, captures := p.adc.captures ++ recs } }

/-- A window ends: counted, and the VC is back on its sequence (R290, R291). -/
def Pod.windowEnd (p : Pod) : Pod :=
  { p with adc := { p.adc with winFrom := none },
           st := { p.st with counts := { p.st.counts with windows := p.st.counts.windows + 1 },
                             adc := { p.st.adc with routing := if p.st.adc.routing = .paired then .normal else p.st.adc.routing } } }

/-- Queue the records of a pod with the missed triggers of its port (R515). -/
def State.queueWindows (s : State) (c : Chan) : State :=
  let missed := s.stat OD.ADC_PAIR_MISSED c.val % 65536
  s.updPod c fun p => p.queueWindows c missed p.tickAt

/-- A pod sends its captures, up to `STR_CAP_RATE` in a millisecond; none in HOLD (R517, R523). -/
def State.sendCaptures (s : State) (c : Chan) : State :=
  let n := s.act OD.STR_CAP_RATE c.val - (s.port c).mtr.caps
  if hears s c && !(s.pod c).st.pod.holds then
    let l := (s.pod c).adc.captures.take n
    let s := s.updPod c fun p => { p with adc := { p.adc with captures := p.adc.captures.drop n } }
    let s := s.updPort c fun q => { q with mtr := { q.mtr with caps := q.mtr.caps + l.length } }
    if s.str.en then { s with str := { s.str with arriving := s.str.arriving ++ l } } else s
  else s

/-- PAIRED_WINDOW_END: 1 µs after its start. Its record goes into the buffer with the last of its 60 words, at the pod boundary
that has them (R280, R291). -/
def execPairedWindowEnd (c : Chan) (t : Nat) (s : State) : Result :=
  .next (match (s.pod c).adc.winFrom with
    | some f =>
      if f + 1000 ≤ max s.now t then (((s.at t).updPod c Pod.windowEnd).queueWindows c).sendCaptures c else s
    | none => s)

/-- POD_TICK_BOUNDARY: the next boundary of the tick grid, once, for a pod that is linked or has been (R21, R117). A transfer
follows the conversions that the tick brought (R606). -/
def execPodTickBoundary (c : Chan) (smp : TickSamples) (s : State) : Result :=
  let b := ceilTick s.now
  .next (if (s.pod c).st.pod != .unpowered && (s.pod c).st.pod != .linking && decide ((s.pod c).tickAt < b) then
      let s := ((s.at b).updPod c fun p => p.boundary smp b).queueWindows c
      s.xferScan c (s.pod c).adc.fed
    else s)

/-! ## Calibration (R303 to R312) -/

/-- A calibration runs on a port, from its acceptance on. -/
def Port.calBusy (q : Port) : Bool := q.cal == 1 || q.recal == 1

/-- ADC_CAL (R303): STATE, then BUSY. The command goes with the next frame; the pod starts at the boundary at which it applies. -/
def State.adcCal (s : State) (c : Chan) : State × Err :=
  let ch := hubCh s c
  if hubPod s c ≠ .active ∨ (ch ≠ .off ∧ ch.faulted = false) then (s, .state)
  else if (s.port c).calBusy then (s, .busy)
  else ((s.updPort c fun q => { q with cal := 1 }).down c fun f => { f with cal := some 0 }, .ok)

/-- ADC_RECAL (R310): 1 for the IC, 2 for the VC. -/
def State.adcRecal (s : State) (c : Chan) (kind : Nat) : State × Err :=
  if hubPod s c ≠ .active ∨ (s.seen c).adc.calibrated = false then (s, .state)
  else if (s.port c).calBusy then (s, .busy)
  else ((s.updPort c fun q => { q with recal := 1 }).down c fun f => { f with cal := some kind }, .ok)

/-- Limits of the twelve slice factors and the four front-end factors (R315). -/
def sliceLimits : List Nat := [2048, 2048, 2048, 2048, 31457, 31457, 31457, 31457, 2000, 2000, 2000, 2000]
def feLimits : List Nat := [2048, 2048, 31457, 31457]

/-- The measured factors, as many as there are limits. -/
def factorsOf (limits : List Nat) (l : List Int) : List Int := (l ++ List.replicate limits.length 0).take limits.length

/-- The first factor beyond its limit: its place and value. -/
def badFactor (limits : List Nat) (l : List Int) : Option (Nat × Int) :=
  ((List.range limits.length).find? fun i => decide (limits.getD i 0 < ((factorsOf limits l).getD i 0).natAbs)).map
    fun i => (i, (factorsOf limits l).getD i 0)

/-- The same over the groups of a run, with their index offsets in 0x40C2 to 0x40C4. -/
def badOf (groups : List (Nat × List Nat × List Int)) : Option (Nat × Nat × Int) :=
  groups.findSome? fun g => (badFactor g.2.1 g.2.2).map fun e => (g.1, e.1 + 1, e.2)

/-- CAL_FAILED (R556). -/
def State.calFailed (s : State) (c : Chan) (kind : Nat) (bad : Nat × Nat × Int) : State :=
  s.podWarn c 5 [(1, kind), (2, 0x40C2 + 0x200 * c.val + bad.1), (1, bad.2.1), (2, low16 bad.2.2)]

/-- CAL ends: every factor loads at one slot boundary, or none; requests that waited run (R301, R304, R305). -/
def Pod.calDone (p : Pod) (ok : Bool) (icF vcF feF : List Int) (t : Nat) : Pod :=
  let p := (p.calEnd (if ok then 2 else 3)).route p.restRouting t
  let p : Pod :=
    if ok then
      { p with adc := { p.adc with icF := factorsOf sliceLimits icF, vcF := factorsOf sliceLimits vcF, feF := factorsOf feLimits feF,
                                   loadAt := some t, settle := p.adc.settle.merge { ic := 4, vc := 4 } },
               st := { p.st with adc := { p.st.adc with calibrated := true, calTime := t, calTemp := p.st.meas.tempDie,
                                                        health := setBit p.st.adc.health 2 false } } }
    else { p with st := { p.st with adc := { p.st.adc with health := setBit p.st.adc.health 2 true } } }
  p.startWaiting t

/-- CAL_COMPLETE: 3.2 ms after its start, with the measured factors. -/
def execCalComplete (c : Chan) (icF vcF feF : List Int) (t : Nat) (s : State) : Result :=
  .next (match (s.pod c).adc.calFrom with
    | some f =>
      if f + 3200000 ≤ max s.now t then
        let bad := badOf [(0, sliceLimits, icF), (1, sliceLimits, vcF), (2, feLimits, feF)]
        let s := (s.at t).podTell c fun p => p.calDone bad.isNone icF vcF feF (max s.now t)
        match bad with
        | some b => s.calFailed c 0 b
        | none => s
      else s
    | none => s)

/-- The recalibrating converter loads its factors and is back on its own inputs, with 4 settling conversions; the cover goes on
(R296, R311). -/
def Pod.recalLoad (p : Pod) (ok : Bool) (l : List Int) (t : Nat) : Pod :=
  let ic := p.adc.recalKind == 1
  let a : PodAdc := { p.adc with coverFrom := some (slotUp t), recalOk := ok, loadAt := none }
  if ok then
    let f := factorsOf sliceLimits l
    let four : Settle := if ic then { ic := 4 } else { vc := 4 }
    let a : PodAdc := { a with icF := (if ic then f else a.icF), vcF := (if ic then a.vcF else f), settle := a.settle.merge four }
    { p with adc := a, st := { p.st with adc := { p.st.adc with calTime := t, calTemp := p.st.meas.tempDie } } }
  else { p with adc := a }

/-- RECAL_COMPLETE: 3.2 ms after its start, with the measured factors. -/
def execRecalComplete (c : Chan) (factors : List Int) (t : Nat) (s : State) : Result :=
  .next (match (s.pod c).adc.recalFrom with
    | some f =>
      if f + 3200000 ≤ max s.now t ∧ (s.pod c).adc.coverFrom = none then
        let kind := (s.pod c).adc.recalKind
        let bad := badOf [(kind - 1, sliceLimits, factors)]
        let s := (s.at t).podTell c fun p => p.recalLoad bad.isNone factors (max s.now t)
        match bad with
        | some b => s.calFailed c kind b
        | none => s
      else s
    | none => s)

/-- Routing NORMAL again, DONE or FAILED (R311). -/
def Pod.coverEnd (p : Pod) (t : Nat) : Pod :=
  let q := (p.recalEnd (if p.adc.recalOk then 2 else 3)).route p.restRouting t
  { q with st := { q.st with adc := { q.st.adc with health := setBit q.st.adc.health 2 (!p.adc.recalOk) } } }

/-- RECAL_COVER_END: the first tick boundary after the four conversions, 200 ns from the load. -/
def execRecalCoverEnd (c : Chan) (s : State) : Result :=
  .next (match (s.pod c).adc.coverFrom with
    | some f => if ceilTick (f + 200) ≤ s.now then s.podTell c fun p => p.coverEnd s.now else s
    | none => s)

/-! ## Bursts in PARKED (R313) -/

/-- What the converters sample in the one tick of a burst that begins at `b`: the NORMAL pattern, but for the points that an urgent
list takes in it, which the pod's boundary brings (R300, R313, R314). -/
def Pod.burstPlan (p : Pod) (b : Nat) : List Conv :=
  (List.range 40).flatMap fun m =>
    let a := b + 25 * m
    let l := p.baseAt true a
    if p.adc.runs.any fun r => decide (r.first ≤ a) && decide (a ≤ r.last) then l.filter fun c => !c.volt else l

/-- One burst, whose tick ends at `b`; its words are delivered as those of any tick, and its two conversions of INT make a dwell of their
own (R280, R287, R313). -/
def Pod.burst (p : Pod) (smp : TickSamples) (b : Nat) : Pod :=
  let l := spread b (p.fill smp.ic smp.vc (p.burstPlan (b - 1000)))
  let p := Pod.deliver b p.adc.inFlight p
  Pod.deliver b (p.adc.inFlight ++ l)
    { p with adc := { p.adc with settle := {}, settleNext := none, burstAt := b - 5000, intCount := 0, intSum := 0, intN := 0 },
             vpos := smp.vpos, vneg := smp.vneg }

/-- PARKED_BURST, at the boundary that ends the tick of a burst, before the pod's own: `ADC_PARK_PER` after the last one, a start-up
of 4 µs that ends at a boundary, one tick of conversions (R313). A pod in LINKING with its HV side powered converts as in PARKED: no
rule says (DESIGN CHOICE, log 96). -/
def execParkedBurst (c : Chan) (smp : TickSamples) (s : State) : Result :=
  let p := s.pod c
  .next (if (p.st.pod = .parked ∨ p.st.pod = .linking) ∧ p.st.hvOn = true ∧ p.st.adc.routing = .burst ∧
      s.now % tickNs = 0 ∧ p.tickAt < s.now ∧ p.adc.burstAt + p.prm OD.ADC_PARK_PER * msNs + 5000 ≤ s.now then
      s.updPod c fun p => p.burst smp s.now
    else s)

/-! ## Housekeeping (R316 to R319) -/

/-- Put the mean of an input: of a pin as the sum of 16 codes, of a supply in mV through its divider, of the die in °C. A supply's
value is rounded to the nearest mV (DESIGN CHOICE, log 29) (R316, R318). -/
def State.hkPut (s : State) (i sum : Nat) : State :=
  if i < 8 then s.set OD.ADC_HK_PIN 0 (sum : Nat) i
  else if i = 8 then s.set OD.ADC_HK_VDD33 0 (roundDiv sum 16 : Nat)
  else if i = 9 then s.set OD.ADC_HK_VAO 0 (roundDiv sum 16 : Nat)
  else if i = 10 then s.set OD.ADC_HK_VPL 0 (roundDiv sum 8 : Nat)
  else s.set OD.ADC_HK_TDIE 0 (Config.hkTemp sum)

/-- A 12-bit code, clamped at the ends of its range; over-range 2 LSB beyond them, and as found in the band between (R318). -/
def hkCode (r : Raw) : Nat := (clampInt 0 4095 r.code).toNat
def hkOver (r : Raw) : Bool :=
  decide (4098 ≤ r.code) || decide (r.code ≤ -2) || (r.ovr && (decide (4095 < r.code) || decide (r.code < 0)))

/-- The sixteen conversions of a mean. -/
def hkSixteen (codes : List Raw) : List Raw := List.take 16 (codes ++ List.replicate 16 ({ code := 0 } : Raw))

def hkSum (codes : List Raw) : Nat := ((hkSixteen codes).map hkCode).sum

/-- A mean and its over-range bit (R318). -/
def State.hkMean (s : State) (i : Nat) (codes : List Raw) : State :=
  let s := { s with power := { s.power with hkHad := setBit s.power.hkHad i true } }
  (s.set OD.ADC_HK_OR 0 (setBit (s.stat OD.ADC_HK_OR) i ((hkSixteen codes).any hkOver) : Nat)).hkPut i (hkSum codes)

/-- The inputs of a mask in ascending order. -/
def hkInputs (mask : Nat) : List Nat := (List.range 12).filter fun i => mask.testBit i

/-- A new enable mask at a tick: a newly enabled input reads 0, and the round robin begins afresh over the inputs now enabled; the
latter is the model's (DESIGN CHOICE, log 92) (R316, R318). -/
def State.hkNew (s : State) (old : Nat) : State :=
  if s.act OD.ADC_HK_EN = old then s
  else
    let s := (hkInputs (s.act OD.ADC_HK_EN)).foldl (fun s i =>
      if old.testBit i then s
      else
        let s := { s with power := { s.power with hkHad := setBit s.power.hkHad i false } }
        let s := s.set OD.ADC_HK_OR 0 (setBit (s.stat OD.ADC_HK_OR) i false : Nat)
        if i = 11 then s.set OD.ADC_HK_TDIE 0 0 else s.hkPut i 0) s
    { s with hkFrom := s.now, hkPos := 0 }

/-- HK_MEAN_UPDATE: the 16 conversions of the input whose turn it is: sixteen rounds over the enabled inputs, one of them per
microsecond, in ascending order (R316, R318, R319). -/
def execHkMeanUpdate (inp : Nat) (codes : List Raw) (s : State) : Result :=
  let l := hkInputs (s.act OD.ADC_HK_EN)
  .next (if (s.hubUp = true ∨ s.hub = .boot) ∧ l[s.hkPos]? = some inp ∧
      s.hkFrom + (15 * l.length + s.hkPos + 1) * usNs ≤ s.now then
      let s := s.hkMean inp codes
      if s.hkPos + 1 < l.length then { s with hkPos := s.hkPos + 1 }
      else { s with hkPos := 0, hkFrom := s.hkFrom + 16 * l.length * usNs }
    else s)

/-- How long a burst in SLEEP over `n` inputs takes: the start-up, and 16 conversions of each input (R319). -/
def hkBurstNs (n : Nat) : Nat := (10 + 16 * n) * usNs

/-- A mean lies outside the wake limits of its input (R412). -/
def hkOutside (s : State) (i : Nat) (codes : List Raw) : Bool :=
  decide (hkSum codes < 16 * s.act OD.HUB_HKW_LO 0 i) || decide (16 * s.act OD.HUB_HKW_HI 0 i < hkSum codes)

/-- HK_SLEEP_BURST: every input of `ADC_HK_SLEEP_EN` in ascending order, with its 16 conversions (R319); a mean beyond its limits can
wake the hub (R412). -/
def execHkSleepBurst (codes : List (List Raw)) (s : State) : Result :=
  let per := s.act OD.ADC_HK_SLEEP_PER
  let l := hkInputs (s.act OD.ADC_HK_SLEEP_EN)
  .next (if s.hub = .sleep ∧ per ≠ 0 ∧ s.hkAt + per * msNs + hkBurstNs l.length ≤ s.now then
      let begun : State := { s with hkAt := s.now - hkBurstNs l.length, power := { s.power with hkOut := false } }
      l.zipIdx.foldl (fun (s : State) e =>
        let k := codes.getD e.2 []
        let m := s.hkMean e.1 k
        { m with power := { m.power with hkOut := m.power.hkOut || hkOutside s e.1 k } }) begun
    else s)

end Sys2Proof.Machine
end

