-- ==== Sys2Proof/Machine/Metering.lean ====
section
/-! DEFINITION. Metering (chapter 10): averages, accumulators, extremes, snapshot, clear and checkpoint. -/

namespace Sys2Proof.Machine

/-! ## Averages (R321, R323, R517) -/

/-- A record leaves for the buffer of a running port. -/
def State.emit (s : State) (r : StrRec) : State :=
  if s.str.en then { s with str := { s.str with arriving := s.str.arriving ++ [r] } } else s

/-- The code that an average stands for, in parts of 2^8 LSB (R321). -/
def AvgDone.code256 (d : AvgDone) : Int := d.value * 2 ^ d.shift * 256 / 2 ^ d.k

/-- The latest average of a source in parts of 2^8 LSB; 0 before the first. -/
def PortMeter.mean (m : PortMeter) (x : Source) : Int :=
  match m.means.getD x.idx none with
  | some d => d.code256
  | none => 0

/-- Terminal voltage in mV of a tap mean and a divider ratio (R48, R323). -/
def tapMv (k : Nat) (mean256 : Int) : Int := mean256 * k

/-- The engineering values of a port (R323), rounded toward minus infinity. -/
def State.engineering (s : State) (c : Chan) : State :=
  let m := (s.port c).mtr
  let range : Int := if s.act OD.CH_IRANGE c.val = 0 then 32000000 else 160000000
  let neg := tapMv (s.act OD.CH_KDIV_NEG c.val) (m.mean .vdn)
  let mv (x : Int) : Int := x * 625 / (65536 * 256 * 10000)
  let s := s.set OD.MTR_I c.val (m.mean .shunt * range * 1000 / (32768 * 256 * s.act OD.CH_RSHUNT c.val))
  let s := s.set OD.MTR_VIN c.val (mv (tapMv (s.act OD.CH_KDIV_IN c.val) (m.mean .vdi) - neg))
  s.set OD.MTR_VOUT c.val (mv (tapMv (s.act OD.CH_KDIV_OUT c.val) (m.mean .vdo) - neg))

/-- A record of every `STR_DIV`-th average (R517). -/
def State.avgRecord (s : State) (c : Chan) (d : AvgDone) (word : Nat) : State :=
  let div := s.act OD.STR_DIV c.val d.src.idx
  if div = 0 then s
  else
    let n := (s.port c).mtr.divs.getD d.src.idx 0 + 1
    let s := s.updPort c fun q => { q with mtr := { q.mtr with divs := q.mtr.divs.set d.src.idx (if div ≤ n then 0 else n) } }
    if div ≤ n then s.emit { type := 1, src := c.val, time := d.at_, body := leBytes 4 word } else s

/-- A completed average at the hub. -/
def State.averageIn (s : State) (c : Chan) (d : AvgDone) : State :=
  let word := convWord d.value d.src.idx d.flags
  let s := s.updPort c fun q => { q with mtr := { q.mtr with means := q.mtr.means.set d.src.idx (some d) } }
  let s := s.set OD.MTR_AVG_WORD c.val word d.src.idx
  let all := (s.port c).mtr.means.foldl (fun (f : Nat) m => match m with
    | some d => f ||| d.flags
    | none => f) 0
  let s := s.set OD.MTR_STATUS c.val
    ((bitAt (!(s.seen c).adc.calibrated) 0 + bitAt (all.testBit 2) 1 + bitAt (all.testBit 0) 2 : Nat) : Int)
  (s.engineering c).avgRecord c d word

/-- The oldest completed average of a source, and the others. -/
def takeAvg (x : Source) : List AvgDone → Option (AvgDone × List AvgDone)
  | [] => none
  | d :: r => if d.src = x then some (d, r) else (takeAvg x r).map fun e => (e.1, d :: e.2)

/-- AVERAGE_COMPLETE: an average that the pod has completed reaches the hub; in HOLD none does (R523). -/
def execAverageComplete (c : Chan) (src : Source) (s : State) : Result :=
  .next (match takeAvg src (s.pod c).adc.ready with
    | some (d, r) =>
      let s := s.updPod c fun p => { p with adc := { p.adc with ready := r } }
      if hears s c && !(s.pod c).st.pod.holds then s.averageIn c d else s
    | none => s)

/-! ## Accumulators (R330 to R332) -/

/-- A counter with an addition; it stops at 0xFFFFFFFF (R327). -/
def satAdd (a b : Nat) : Nat := min (a + b) 0xFFFFFFFF

/-- An accumulator with the rise from one pod total to another (R331). -/
def Totals.rise (a base tx : Totals) : Totals :=
  let gi := a.gapI + (tx.gapI - base.gapI)
  let gv := a.gapV + (tx.gapV - base.gapV)
  let oi := a.orI + (tx.orI - base.orI)
  let ov := a.orV + (tx.orV - base.orV)
  let stop := decide (0xFFFFFFFF < gi) || decide (0xFFFFFFFF < gv) || decide (0xFFFFFFFF < oi) || decide (0xFFFFFFFF < ov)
  { q := a.q + (tx.q - base.q), e := a.e + (tx.e - base.e), i2t := a.i2t + (tx.i2t - base.i2t),
    gapI := satAdd gi 0, gapV := satAdd gv 0, orI := satAdd oi 0, orV := satAdd ov 0,
    agePeak := max a.agePeak tx.agePeak, flags := a.flags ||| tx.flags ||| (if stop then 2 else 0) }

/-- METERING_TRANSFER: every 100 µs on a tick boundary (R330). -/
def execMeteringTransfer (c : Chan) (s : State) : Result :=
  .next (s.podEvent c s.now
    (fun p t => p.st.pod != .unpowered && p.st.pod != .linking && decide (t % tickNs = 0) && decide (p.mtr.sentAt + 100000 ≤ t))
    fun p t => { p with mtr := { p.mtr with tx := p.mtr.total, txEpoch := p.mtr.epoch, sentAt := t } })

/-- Mean current in µA of a charge `q`, in µC · 2⁻³², over `dt` ns. -/
def meanUa (q : Int) (dt : Nat) : Option Int := if dt = 0 then none else some (q * 10 ^ 9 / (2 ^ 32 * dt))

/-- The totals of a pod at a port: the rise since the last ones, or the base of a new epoch (R331, R332). -/
def PortMeter.transfer (m : PortMeter) (tx : Totals) (epoch : Nat) : PortMeter :=
  if epoch = m.baseEpoch then { m with acc := m.acc.rise m.base tx, base := tx }
  else { m with acc := { m.acc with flags := m.acc.flags ||| 4 }, base := tx, baseEpoch := epoch }

/-- A transfer that left the pod at `t`: its totals, unless a clear has taken in later ones, and the mean current since the one before
of the same epoch (R274, R339). -/
def PortMeter.heard (m : PortMeter) (tx : Totals) (epoch t : Nat) : PortMeter :=
  let mean := if epoch = m.baseEpoch then m.lastQ.bind fun q => meanUa (tx.q - q) (t - m.lastAt) else none
  let k := if epoch = m.baseEpoch ∧ t < m.baseAt then m else { m.transfer tx epoch with baseAt := t }
  { k with meanI := mean, lastQ := some tx.q, lastAt := t }

/-- METERING_TRANSFER_RECEIVED; a pod sends on both links (R530). A transfer that fails its CRC is discarded (R27). -/
def execMeteringTransferReceived (c : Chan) (crcOk : Bool) (s : State) : Result :=
  .next (if hears s c then
      if crcOk then
        s.updPort c fun q => { q with mtr := q.mtr.heard (s.pod c).mtr.tx (s.pod c).mtr.txEpoch (s.pod c).mtr.sentAt }
      else s.updPort c fun q => { q with linkErrors := q.linkErrors + 1 }
    else s)

/-! ## Extremes (R333 to R336) -/

/-- The six in the order of `MTR_MM_*`. -/
def Trackers.list (k : Trackers) : List Extreme := [k.iMin, k.iMax, k.vinMin, k.vinMax, k.voutMin, k.voutMax]

/-- `MTR_MM_FLAGS` (R336). -/
def mmFlags (k : Trackers) (partialWin : Bool) : Nat :=
  (k.flags &&& 12) ||| bitAt partialWin 0 ||| bitAt (k.list.any fun x => !x.ok) 1

/-- Put the results of a window in their objects; a source without a conversion reports 0 (R334, R336). -/
def State.publish (s : State) (c : Chan) (k : Trackers) (flags t : Nat) : State :=
  let s := (k.list.zip (List.range 6)).foldl (fun s e =>
    (s.set OD.MTR_MM_IMIN c.val (e.1.v / 1000) e.2).set OD.MTR_MM_T c.val (e.1.at_ : Nat) e.2) s
  (s.set OD.MTR_MM_FLAGS c.val (flags : Nat)).set OD.MTR_MM_END c.val (t : Nat)

/-- A MINMAX record (R515). -/
def mmRecord (c : Chan) (k : Trackers) (flags t : Nat) : StrRec :=
  { type := 2, src := c.val, time := t,
    body := k.list.flatMap (fun x => leInt 4 (x.v / 1000)) ++ k.list.flatMap (fun x => leBytes 8 x.at_) ++
      leBytes 1 flags ++ leBytes 3 0 }

/-- The trackers of a channel start afresh; `part` says whether the window that begins is PARTIAL. -/
def State.freshTrackers (s : State) (c : Chan) (part : Bool) : State :=
  (s.updPod c fun p => { p with mtr := { p.mtr with trk := {} } }).updPort c fun q =>
    { q with mtr := { q.mtr with trk := {}, partialWin := part } }

/-- The extremes of a port: what it holds of a pod whose link has been lost, and what the pod tracks (R335, R568). -/
def extremesOf (s : State) (c : Chan) : Trackers := (s.port c).mtr.trk.join (if hears s c then (s.pod c).mtr.trk else {})

/-- A window of a channel ends (R334, R517). -/
def State.windowEnds (s : State) (c : Chan) : State :=
  let k := extremesOf s c
  let flags := mmFlags k (s.port c).mtr.partialWin
  let s := (s.publish c k flags s.now).freshTrackers c false
  if s.actB OD.STR_MM c.val && !(s.seen c).pod.holds then s.emit (mmRecord c k flags s.now) else s

/-- The window of a channel ends now. -/
def windowDue (s : State) (c : Chan) : Bool :=
  let w := s.act OD.MTR_MM_WIN c.val
  decide (0 < w) && decide (s.now % (w * msNs) = 0) && s.stat OD.MTR_MM_END c.val != s.now

/-! ## Snapshot (R337, R338) -/

/-- MTR_SNAP. -/
def State.mtrSnap (s : State) : State × Err :=
  if s.snap.isSome then (s, .busy)
  else ({ s with snap := some (ceilTick (s.now + 2500)), snapLatched := false }.set OD.MTR_SNAP 0 1, .ok)

/-- A pod at the snapshot tick. -/
def Pod.snapshot (p : Pod) (t : Nat) : Pod :=
  if p.st.pod = .active then
    let p := { p with mtr := { p.mtr with snap := p.mtr.total, snapTaken := true, snapDue := some t, snapI := none, snapV := none } }
    if p.st.hvOn then p.askUrgent .snapshot t else p
  else if p.st.pod = .parked then
    let p := { p with mtr := { p.mtr with snap := p.mtr.total, snapTaken := true, snapDue := none, snapI := none, snapV := none } }
    if p.st.hvOn then p.askUrgent .snapshot t else p
  else { p with mtr := { p.mtr with snapTaken := false, snapDue := none, snapI := none, snapV := none } }

/-- A port at the snapshot tick: a pod that obeys this hub takes its snapshot, and the accumulators are those of the tick. -/
def State.snapAt (s : State) (T : Nat) (c : Chan) : State :=
  let p := s.pod c
  let s := s.updPod c fun p => if owns s c then p.snapshot T else { p with mtr := { p.mtr with snapTaken := false } }
  s.updPort c fun q =>
    { q with mtr := { q.mtr with
        snapAcc := if p.mtr.epoch = q.mtr.baseEpoch then q.mtr.acc.rise q.mtr.base p.mtr.total else q.mtr.acc } }

/-- The snapshot latch, if it is due. -/
def State.snapNow (s : State) : State :=
  match s.snap with
  | some T =>
    if T ≤ s.now ∧ s.snapLatched = false then
      ({ s with snapLatched := true } : State).forChans allChans fun s c => s.snapAt T c
    else s
  | none => s

/-- SNAPSHOT_TICK. -/
def execSnapshotTick (s : State) : Result := .next s.snapNow

/-- The window ends that are due, after a snapshot of the same boundary (R342). -/
def State.windowsNow (s : State) : State :=
  let s := s.snapNow
  s.forChans (allChans.filter (windowDue s)) State.windowEnds

/-- MINMAX_WINDOW_END. -/
def execMinmaxWindowEnd (s : State) : Result := .next (if s.hubUp then s.windowsNow else s)

/-- The snapshot block of a port (R338). -/
def State.snapBlock (s : State) (c : Chan) : State :=
  let p := (s.pod c).mtr
  let m := (s.port c).mtr
  let ok := hears s c && p.snapTaken && !(s.port c).noPod && !(s.seen c).pod.holds
  let a := m.snapAcc
  let v := p.snapV.getD (0, 0)
  let s := s.set OD.MTR_SNAP_VALID c.val (if ok then (1 + bitAt p.snapV.isSome 1 + bitAt p.snapI.isSome 2 : Nat) else (0 : Nat))
  if ok then
    let s := s.set OD.MTR_SNAP_Q c.val (a.q / 2 ^ 32)
    let s := s.set OD.MTR_SNAP_E c.val (a.e / 2 ^ 32)
    let s := s.set OD.MTR_SNAP_I2T c.val (a.i2t / 2 ^ 32)
    let s := s.set OD.MTR_SNAP_VIN c.val (v.1 / 1000)
    let s := s.set OD.MTR_SNAP_VOUT c.val (v.2 / 1000)
    s.set OD.MTR_SNAP_I c.val (p.snapI.getD 0 / 1000)
  else s

/-- SNAPSHOT_DONE. -/
def execSnapshotDone (s : State) : Result :=
  .next (match s.snap with
    | some T =>
      if s.snapLatched then
        let s := s.forChans allChans State.snapBlock
        ({ s with snap := none, snapLatched := false }.set OD.MTR_SNAP_TIME 0 (T : Nat)).set OD.MTR_SNAP 0 2
      else s
    | none => s)

/-! ## Checkpoint (R340, R341, R566) -/

/-- Keys of the counts that a checkpoint holds. -/
def ckptKeys : List Nat :=
  (allChans.flatMap fun c =>
    [OD.CH_GCYCLES, OD.CH_LIMITS, OD.CH_TRIPS, OD.CH_REMOVALS, OD.CH_SELFTEST_ROUNDS, OD.CH_STACKTESTS,
     OD.MTR_CLEAR_TIME].map fun o => o.key c.val) ++
  (allBuses.flatMap fun b => [OD.BUS_XFERS, OD.BUS_XFER_FAILS, OD.BUS_OR_BLOCKS].map fun o => o.key b.val) ++
  [OD.JNL_WRITES.key 0]

/-- A checkpoint of a port. -/
def ckptPort (s : State) (c : Chan) : CkptPort :=
  let q := s.port c
  let free := s.act OD.MTR_MM_WIN c.val == 0
  { acc := q.mtr.acc, base := q.mtr.base, baseEpoch := q.mtr.baseEpoch,
    trk := if free then extremesOf s c else {},
    damaged := q.damaged, detail := if q.damaged then q.detail else 0, trip := if q.damaged then q.trip else {} }

/-- Sequence number of the last checkpoint in the region. -/
def CkptRegion.last (r : CkptRegion) : Nat :=
  let n (x : Option Ckpt) := match x with
    | some k => k.seq
    | none => 0
  max (n r.slot0) (n r.slot1)

/-- What a checkpoint of this moment holds; its write gives it its number. -/
def ckptOf (s : State) : Ckpt :=
  { seq := 0, at_ := s.now, ports := allChans.map (ckptPort s), counts := s.status.filter fun e => ckptKeys.contains e.1 }

/-- The write of a checkpoint begins, with the next sequence number. -/
def CkptRegion.write (r : CkptRegion) (k : Ckpt) : CkptRegion := { r with writing := some { k with seq := r.last + 1 }, waiting := none }

/-- Latch a checkpoint; while one is being written it waits for its slot (R340). -/
def State.latch (s : State) : State :=
  if s.ckpt.writing.isSome then { s with ckpt := { s.ckpt with waiting := some (ckptOf s) } }
  else { s with ckpt := s.ckpt.write (ckptOf s) }

/-- A checkpoint of this moment has been latched. -/
def CkptRegion.latchedAt (r : CkptRegion) (t : Nat) : Bool :=
  (match r.writing with
   | some k => k.at_ == t
   | none => false) ||
  (match r.waiting with
   | some k => k.at_ == t
   | none => false)

/-- A checkpoint is due: every 100 ms of the time base, or at a power warning (R340, R558). -/
def ckptDue (s : State) : Bool :=
  s.hubUp && decide (s.now % tickNs = 0) && !s.ckpt.latchedAt s.now &&
  ((s.pfw.latch && s.ckpt.writing.isNone) || (decide (s.now % (100 * msNs) = 0) && s.stat OD.MTR_CKPT_TIME != s.now))

/-- The clears whose checkpoint is written are done (R339). -/
def State.clearsDone (s : State) : State :=
  s.forChans (allChans.filter fun c => s.stat OD.MTR_CLEAR c.val == 1 && (s.port c).mtr.clearMask == 0) fun s c =>
    s.set OD.MTR_CLEAR c.val 2

/-- The power record that seals the sequence of R558. -/
def State.sealed (s : State) : State :=
  let seq := s.stat OD.MTR_CKPT_SEQ
  let s := s.set OD.HUB_PFW_TLAST 0 (((s.now - s.pfw.from_) / usNs : Nat) : Int)
  ({ s with pfw := { s.pfw with latch := false, saving := false, doneAt := some s.now } }.journalAt s.now 0x16 .hub 2 [(4, seq)]
    (clean := true)).set OD.HUB_PFW_STATE 0 2

/-- CHECKPOINT_WRITTEN: the write is verified by its read-back CRC, or the slot is lost (R340, R556, R558). -/
def execCheckpointWritten (ok : Bool) (s : State) : Result :=
  .next (match s.ckpt.writing with
    | some k =>
      let slot := if ok then some k else none
      let r : CkptRegion := if k.seq % 2 = 0 then { s.ckpt with slot0 := slot, writing := none }
        else { s.ckpt with slot1 := slot, writing := none }
      let r := match r.waiting with
        | some w => r.write w
        | none => r
      let s := { s with ckpt := r }
      if ok then
        let s := ((s.set OD.MTR_CKPT_SEQ 0 (k.seq : Nat)).set OD.MTR_CKPT_TIME 0 (k.at_ : Nat)).clearsDone
        if s.pfw.saving && decide (s.pfw.from_ ≤ k.at_) then s.sealed else s
      else (s.count OD.MTR_CKPT_FAILS).warn .hub 0x0E [(4, k.seq)]
    | none => s)

/-! ## Clear (R339, R342) -/

/-- MTR_CLEAR. -/
def State.mtrClear (s : State) (c : Chan) (mask : Nat) : State × Err :=
  if mask = 0 ∨ 7 < mask then (s, .range)
  else
    ((s.updPort c fun q => { q with mtr := { q.mtr with clearMask := q.mtr.clearMask ||| mask, clearAt := nextTick s.now } }).set
      OD.MTR_CLEAR c.val 1, .ok)

/-- Clear by the bits of a mask; what the pod has counted up to this boundary is taken in first. -/
def PortMeter.clear (m : PortMeter) (mask : Nat) : PortMeter :=
  let a := m.acc
  let a : Totals := if mask.testBit 0 then { a with q := 0, e := 0, i2t := 0 } else a
  let a : Totals := if mask.testBit 1 then { a with gapI := 0, gapV := 0, orI := 0, orV := 0, agePeak := 0, flags := 0 } else a
  { m with acc := a, clearMask := 0, msE := if mask.testBit 0 then m.msE - m.acc.e else m.msE }

/-- A clear is due on a port. -/
def clearDue (s : State) (c : Chan) : Bool := (s.port c).mtr.clearMask != 0 && decide ((s.port c).mtr.clearAt ≤ s.now)

/-- The clear of a port: what its pod has counted up to this boundary is taken in first. A pod that this hub does not hear has its age
and flags cleared as well: what it reports when it is heard again is since the clear (R339). -/
def State.clearNow (s : State) (c : Chan) : State :=
  let m := (s.port c).mtr
  let mask := m.clearMask
  let s := if hears s c && (s.pod c).mtr.epoch == m.baseEpoch then
      s.updPort c fun q => { q with mtr := { q.mtr.transfer (s.pod c).mtr.total m.baseEpoch with baseAt := s.now } } else s
  let q0 := (s.port c).mtr.acc.q / 2 ^ 32
  let s := s.updPort c fun q => { q with mtr := q.mtr.clear mask }
  let s := if mask.testBit 1 then
      s.updPod c fun p => { p with mtr := { p.mtr with total := { p.mtr.total with agePeak := 0, flags := 0 },
                                                       tx := { p.mtr.tx with agePeak := 0, flags := 0 } } } else s
  let s := if mask.testBit 2 then s.freshTrackers c true else s
  (s.set OD.MTR_CLEAR_TIME c.val (s.now : Nat)).journal 0x0D (.chan c) mask [(8, (q0 % 2 ^ 64).toNat)]

/-- Clears can apply: at a boundary, with no checkpoint being written (R342). -/
def canClear (s : State) : Bool := decide (s.now % tickNs = 0) && s.ckpt.writing.isNone

/-- Every clear that is due applies, after a snapshot and the window ends of the same boundary; one checkpoint holds them all
(R339, R342). -/
def State.clearsNow (s : State) : State :=
  let s := if s.hubUp then s.windowsNow else s
  (s.forChans (allChans.filter (clearDue s)) State.clearNow).latch

/-- METERING_CLEAR_APPLY: at the boundary, once no checkpoint is being written. -/
def execMeteringClearApply (c : Chan) (s : State) : Result :=
  .next (if clearDue s c && canClear s then s.clearsNow else s)

/-- CHECKPOINT: after what else falls on its boundary (R340, R342). -/
def execCheckpoint (s : State) : Result :=
  .next (if ckptDue s then
      if allChans.any (clearDue s) && canClear s then s.clearsNow else s.windowsNow.latch
    else s)

end Sys2Proof.Machine
end

