-- ==== Sys2Proof/Machine/Oring.lean ====
section
/-! DEFINITION. The ORing engine of a bus as the hub runs it (R266, R272 to R275). -/

namespace Sys2Proof.Machine

/-- ORing state of a feed as the hub sees it. -/
def orOf (s : State) (c : Chan) : OringState := if (hubCh s c).running then (s.seen c).oring else .off

/-- `BUS_OR_STATE`. -/
def orState (s : State) (b : BusId) : Nat :=
  match engineFeeds s b with
  | some (x, y) => (orOf s x).code + 4 * (orOf s y).code
  | none =>
    match soloFeed s b with
    | some x => (orOf s x).code
    | none => 0

/-- The sharing loop works: BALANCE, no bus fault, both feeds in the engine (R274, R275). -/
def orLoop (s : State) (b : BusId) : Bool :=
  s.act OD.BUS_OR_SHARE b.val == 1 && !(s.bus b).bf &&
  (match engineFeeds s b with
   | some (x, y) => orOf s x != .off && orOf s y != .off
   | none => false)

/-- A target one step up or down, within `BUS_OR_VFWD` to `BUS_OR_VMAX`. -/
def stepTarget (lo hi t : Nat) (up : Bool) : Nat := max lo (min hi (if up then t + 1 else t - 1))

/-- Whether a feed's target is left unchanged until adoption (R273). -/
def orFrozen (s : State) (c : Chan) : Bool :=
  !(s.port c).noPod && ((s.seen c).pod.holds || !(s.port c).linked)

/-- I_FS of a channel in mA. -/
def ifsAt (s : State) (c : Chan) : Nat := ifsOf (s.act OD.CH_RSHUNT c.val) (s.act OD.CH_IRANGE c.val)

/-- One step of the loop with the currents of both feeds in µA (R274). -/
def State.shareStep (s : State) (b : BusId) (x y : Chan) (ix iy : Int) : State :=
  let lo := s.act OD.BUS_OR_VFWD b.val
  let hi := s.act OD.BUS_OR_VMAX b.val
  let sum := ix + iy
  let ifs : Int := min (ifsAt s x) (ifsAt s y)
  if decide (sum * 100 ≤ ifs * 1000 * 5) then
    s.updBus b fun k => { k with target1 := if orFrozen s x then k.target1 else lo, target2 := if orFrozen s y then k.target2 else lo }
  else
    let r : Int := s.act OD.BUS_OR_RATIO b.val
    let more := decide ((r + 2) * sum < 100 * ix)
    let less := decide (100 * ix < (r - 2) * sum)
    if more || less then
      s.updBus b fun k => { k with target1 := if orFrozen s x then k.target1 else stepTarget lo hi k.target1 more,
                                   target2 := if orFrozen s y then k.target2 else stepTarget lo hi k.target2 less }
    else s

/-- ORING_SHARE_STEP: every 100 µs while both feeds are CONDUCTING, with the averages that their latest metering transfers give
(DEDUCED, log 104). -/
def execOringShareStep (b : BusId) (s : State) : Result :=
  .next (match engineFeeds s b with
    | some (x, y) =>
      if runsBus s b && orLoop s b && orOf s x == .conducting && orOf s y == .conducting &&
          decide ((s.bus b).shareAt + 100000 ≤ s.now) then
        let s := s.updBus b fun k => { k with shareAt := s.now }
        match (s.port x).mtr.meanI, (s.port y).mtr.meanI with
        | some ix, some iy => s.shareStep b x y ix iy
        | _, _ => s
      else s
    | none => s)

/-- Both feeds of the engine are BLOCKING. -/
def orBlocked (s : State) (b : BusId) : Bool :=
  match engineFeeds s b with
  | some (x, y) => orOf s x == .blocking && orOf s y == .blocking
  | none => false

/-- The target of a feed: left as it is until adoption, within `BUS_OR_VFWD` to `BUS_OR_VMAX` while the loop works, else
`BUS_OR_VFWD` (R266, R273, R274). -/
def orTarget (frozen loop : Bool) (lo hi t : Nat) : Nat := if frozen then t else if loop then max lo (min hi t) else lo

/-- The targets of the engine of a bus (R274). -/
def State.orTargets (s : State) (b : BusId) : State :=
  let lo := s.act OD.BUS_OR_VFWD b.val
  let hi := s.act OD.BUS_OR_VMAX b.val
  let loop := orLoop s b
  let frozen1 := match engineFeeds s b with
    | some (x, _) => orFrozen s x
    | none => match soloFeed s b with
      | some x => orFrozen s x
      | none => false
  let frozen2 := match engineFeeds s b with
    | some (_, y) => orFrozen s y
    | none => false
  s.updBus b fun k => { k with target1 := orTarget frozen1 loop lo hi k.target1, target2 := orTarget frozen2 loop lo hi k.target2 }

/-- The engine of a bus at a control tick: targets and the time of both feeds in BLOCKING (R274, R275). -/
def State.orTick (s : State) (b : BusId) : State :=
  let both := orBlocked s b
  (s.orTargets b).updBus b fun k =>
    { k with blockedFrom := if both then some (k.blockedFrom.getD s.now) else none, blockedNoted := k.blockedNoted && both }

/-- The target that the hub sends a feed of an engine (R266). -/
def orTargetOf (s : State) (c : Chan) : Option Nat :=
  match busOf s.active c with
  | some b =>
    match engineFeeds s b with
    | some (x, y) => if c = x then some (s.bus b).target1 else if c = y then some (s.bus b).target2 else none
    | none => if soloFeed s b = some c then some (s.bus b).target1 else none
  | none => none

/-- ORING_BLOCKED: recorded once, after 1 ms (R275, R556). -/
def execOringBlocked (b : BusId) (s : State) : Result :=
  .next (match (s.bus b).blockedFrom with
    | some f =>
      if f + msNs ≤ s.now ∧ runsBus s b = true ∧ orBlocked s b = true ∧ (s.bus b).blockedNoted = false then
        (s.updBus b fun k => { k with blockedNoted := true }).warn (.bus b) 7
          [(1, s.act OD.BUS_ORENG b.val), (1, orState s b)]
      else s
    | none => s)

end Sys2Proof.Machine
end

