-- ==== Sys2Proof/Machine/Tick.lean ====
section
/-! DEFINITION. What the hub evaluates at every tick boundary, and the command frames it composes (R21). -/

namespace Sys2Proof.Machine

/-! ## What the frame of a channel carries -/

/-- Off or faulted with both sides in static clamp for `CH_TDECAY` (R208). -/
def quietFeed (s : State) (c : Chan) : Bool :=
  (hubCh s c == .off || (hubCh s c).faulted) && (s.seen c).bothClamped &&
  (match (s.seen c).tStatic with
   | some t => decide (t + s.act OD.CH_TDECAY c.val * msNs ≤ s.now)
   | none => false)

/-- The converter of a bus is outside its span from SELFTEST to HANDOVER, and left it before this tick (R154). -/
def preAway (s : State) (b : BusId) : Bool :=
  match preOf s.active b with
  | some p => !(s.conv p).state.busy && (match (s.conv p).leftAt with
    | some t => decide (t < s.now)
    | none => true)
  | none => true

/-- The output-present check of a channel is armed (R154, R208). -/
def outpArmed (s : State) (c : Chan) : Bool :=
  (s.act OD.CH_DMG_EN c.val).testBit 0 && quietFeed s c && hubPod s c == .active &&
  (match busOf s.active c with
   | some b => !isFeed s.active c ||
      (preAway s b && (feedsOf s.active b).all fun k => k == c || (s.port k).noPod || quietFeed s k)
   | none => true)

/-- BUSW_UV takes no trip action on a branch of a bus with a KEEP discharge (R170). -/
def uvHeld (s : State) (c : Chan) : Bool :=
  match busOf s.active c with
  | some b => isBranch s.active c && disReq s b && (match disOf s.active b with
    | some d => s.act OD.DIS_BRMODE d.val == 0
    | none => false)
  | none => false

/-- Stack tests of a feed are deferred while its bus has a discharge request (R164). -/
def testsHeld (s : State) (c : Chan) : Bool :=
  match busOf s.active c with
  | some b => isFeed s.active c && disReq s b
  | none => false

/-- A parked pod is to be ACTIVE (R418). -/
def asksActive (s : State) (c : Chan) : Bool :=
  hubPod s c == .parked && s.power.sleep.isNone &&
  (((s.seen c).seat.debounced && (s.port c).enable) || (match busOf s.active c with
    | some b => disReq s b
    | none => false))

/-- The ownership word of a port's frames (R527). -/
def claimOf (s : State) (c : Chan) : Claim :=
  if (s.port c).own then if (s.port c).releasing.isSome then .release else .own
  else if partnered s c then .standby else .none

/-- Hub-decided causes leave with the frames of this tick, or left with the last ones; a pod that takes none of them has answered
5 µs later (R246). -/
def PortTrip.sending (r : PortTrip) (trips now : Nat) : PortTrip :=
  let r := { r with left := 0 }
  if trips ≠ 0 then { r with sent := r.sent ||| trips, sentAt := now }
  else if r.sentAt + 5000 ≤ now then { r with sent := 0 } else r

/-- Compose the frame of a port: its standing content, and the single commands that wait (R21, R211, R266, R418). -/
def State.compose (s : State) (c : Chan) : State :=
  let q := s.port c
  let b := busOf s.active c
  let von := match b with
    | some b => s.act OD.BUS_OR_VON b.val
    | none => 500
  let ton := match b with
    | some b => s.act OD.BUS_OR_TON b.val
    | none => 20
  let arm := outpArmed s c
  let uv := uvHeld s c
  let th := testsHeld s c
  let tgt := orTargetOf s c
  let cf := (s.seen c).prot.confirmDue && hubPod s c == .active
  let act := asksActive s c
  let cl := claimOf s c
  let trips := if cl == .own then q.down.trips ||| q.trip.left else 0
  let news := trips - (trips &&& q.trip.sent)
  let s := s.updPort c fun q => { q with trip := q.trip.sending trips s.now }
  let s := if news = 0 then s else s.pulseTrip c news
  s.down c fun f =>
    { f with claim := cl, epoch := q.epoch, outpArm := arm, uvHold := uv, testHold := th, oring := tgt, orVon := von, orTon := ton,
             retryN := q.trip.retryN, enable := q.enable, confirm := f.confirm || cf, ask := if act then .activate else f.ask }

/-! ## Millisecond work (R323, R517) -/

/-- Mean power of the last millisecond, and a new allowance of captures. -/
def State.milli (s : State) (c : Chan) : State :=
  let m := (s.port c).mtr
  (s.set OD.MTR_P c.val ((m.acc.e - m.msE) / 2 ^ 32)).updPort c fun q =>
    { q with mtr := { q.mtr with msE := m.acc.e, caps := 0 } }

/-! ## Hub state (R335, R398) -/

/-- A channel STARTING, ON, LIMITING or HELD, or a converter or chopper active. -/
def hubBusy (s : State) : Bool :=
  (allChans.any fun c => (hubCh s c).running || hubCh s c == .held) ||
  (allQuads.any fun p => (s.conv p).state.busy) ||
  (allQuads.any fun d => (s.chop d).state == .wait || (s.chop d).state == .run || (s.chop d).state == .done)

/-- The hub enters RUN or ADOPT: windowed trackers start afresh. R336 does not list an entry into RUN from IDLE among the starts of a
PARTIAL window: it is one here, its window being shorter than the others (DESIGN CHOICE, log 114) (R335, R336). -/
def State.trackersAfresh (s : State) : State :=
  s.forChans (allChans.filter fun c => s.act OD.MTR_MM_WIN c.val != 0) fun s c => s.freshTrackers c true

/-- IDLE and RUN. -/
def State.hubTick (s : State) : State :=
  match s.hub with
  | .idle => if hubBusy s then { s with hub := .run }.trackersAfresh else s
  | .run => if hubBusy s then s else { s with hub := .idle }
  | _ => s

/-- The work of a tick in a hub that is up. -/
def State.tick (s : State) : State :=
  let s := s.forChans allChans State.cleanTick
  let faults := allBuses.filter fun b => (s.bus b).bf && !(s.bus b).bfOn
  let s := faults.foldl State.pulseBus (allBuses.foldl State.busSource s)
  let s := allBuses.foldl (fun s b => if runsBus s b then (s.busTick b).orTick b else s) s
  let s := allQuads.foldl (fun s p => match busOfPre s.active p with
    | some b => if runsBus s b then s.preTick p else s
    | none => s) s
  let s := allQuads.foldl (fun s d => if runsDis s d then (s.disHeat d).disTick d else s.disHeat d) s
  let s := if s.now % msNs = 0 then s.forChans allChans State.milli else s
  let s := s.forChans allChans fun s c => (s.compose c).sendCaptures c
  s.hubTick.evalLines

end Sys2Proof.Machine
end

