-- ==== Sys2Proof/Machine/Ring.lean ====
section
/-! DEFINITION. The Kazac ring (chapter 14) but for dictionary access: links, routing, enumeration, time, fault frames, breaks,
wake tone. -/

namespace Sys2Proof.Machine

/-! ## Frames (R429 to R431, R433) -/

/-- A frame that fails its CRC, whose length disagrees with LEN, or with a reserved header bit set (R431). -/
def badFrame (f : Frame) : Bool := f.crc != f.crcOf || f.len != f.payload.length || decide (256 < f.len) || f.reserved != 0

/-- A TYPE, or a KIND of a SYNC or ENUM frame, that is not defined (R430). -/
def unknownFrame (f : Frame) : Bool :=
  f.type == 0 || decide (7 < f.type) || (f.type == 1 && decide (2 < fieldAt f.payload 0 1)) ||
  (f.type == 7 && decide (3 < fieldAt f.payload 0 1))

/-- The hub takes the frame: its own address, or a broadcast away from the head; the head takes a broadcast toward it, too
(R433). -/
def forMe (s : State) (f : Frame) : Bool := if f.dst = 0xFFF then !f.toHead || isHead s else f.dst == s.ring.addr

/-- A frame away from the head that has come back to it: on K0 of a whole closed ring, or one of its own; a LOCAL frame has not
been round (R433, log 42). -/
def roundTrip (s : State) (k : KPort) (f : Frame) : Bool :=
  isHead s && !f.toHead && !f.local_ && ((k.val == 0 && s.ring.topo.testBit 0 && !s.ring.topo.testBit 2) || f.src == 0)

/-- An ENUM DISCOVER. -/
def isDiscover (f : Frame) : Bool := f.type == 7 && fieldAt f.payload 0 1 == 0

/-- A later copy of a DISCOVER whose first copy came on another port (R437). -/
def laterCopy (s : State) (k : KPort) (f : Frame) : Bool :=
  isDiscover f && fieldAt f.payload 2 2 == s.ring.gen && s.ring.upstream.isSome && s.ring.upstream != some k

/-- Port `k` hears its neighbour. -/
def hearsPort (s : State) (k : KPort) : Bool := ringOpen s && s.ringUp.testBit k.val

/-- The code violations that a port has met are counted (R461). -/
def State.codeErrs (s : State) (n : Nat) : State := if n = 0 then s else s.count OD.RING_CODE_ERR 0 n

/-- A hub receives a frame on port `k` and takes it, or discards and counts it (R431); what has been round the ring the head
discards, but for the DISCOVER that tells it so (R433, R437). -/
def State.take_ (s : State) (k : KPort) (f : Frame) (act : State → State) : State :=
  if !hearsPort s k then s
  else
    let s := s.codeErrs f.violations
    if badFrame f || (forMe s f && unknownFrame f) then s.count OD.RING_ERRS 0 1 k.val
    else if roundTrip s k f && !isDiscover f then s
    else act s

/-- The reverse of `k`: the other ring port. -/
def otherPort (k : KPort) : KPort := if k.val = 0 then 1 else 0

/-- The mean link delay of a port in ps (R451). -/
def linkDelay (s : State) (k : KPort) : Nat :=
  let l := (s.ring.ports.get k).delays
  if l.isEmpty then 0 else l.sum / l.length

/-- The ports on which a frame that arrived on `k` leaves; the head sends a frame that came toward it away again, on the port
of its arrival as on any other (R433, R449). -/
def routePorts (s : State) (k : KPort) (f : Frame) : Nat :=
  let ports := if f.toHead && !isHead s then upMask s else if f.dst = 0xFFF then 7 else awayPorts s f.dst
  if f.toHead && isHead s then ports else ports - (ports &&& 2 ^ k.val)

/-- A frame with the CORR of a SYNC TIME raised by residence time and link delay, in 2^−8 ns (R450). -/
def addCorr (f : Frame) (n : Nat) : Frame :=
  if f.type = 1 ∧ fieldAt f.payload 0 1 = 0 then
    { f with payload := f.payload.take 12 ++ leBytes 4 (fieldAt f.payload 12 4 + n) ++ f.payload.drop 16 }
  else f

/-- CUT_THROUGH_FORWARD: `residence` is the time from SOF in to SOF out in 2^−8 ns. A frame found bad leaves with an inverted
CRC; a copy that the hub takes, or a REPORT, is counted by its own command (R431, R433, R441). A forwarded frame carries the
CRC of its new header. -/
def execCutThroughForward (k : KPort) (f : Frame) (t : Nat) (residence : Nat) (s : State) : Result :=
  .next (if hearsPort s k && !f.local_ && (f.dst == 0xFFF || f.dst != s.ring.addr) && !roundTrip s k f && !laterCopy s k f then
      let s := (s.at t).codeErrs (if forMe s f || f.type == 7 then 0 else f.violations)
      let s := if badFrame f && !forMe s f && f.type != 7 then s.count OD.RING_ERRS 0 1 k.val else s
      let g := addCorr { f with hops := min 63 (f.hops + 1), toHead := f.toHead && !isHead s, violations := 0 }
        (residence + linkDelay s k * 256 / 1000)
      s.sendOn { g with crc := if badFrame f then g.crcOf ^^^ 0xFFFFFFFF else g.crcOf } (routePorts s k f)
    else s)

/-! ## Reports (R430, R437) -/

/-- The port byte of a REPORT. -/
def portByte (s : State) : Nat :=
  s.ringUp % 8 + 8 * (match s.ring.upstream with
    | some k => k.val
    | none => 0)

/-- Send a REPORT with its REASON. -/
def State.report (s : State) (reason : Nat) : State :=
  let b := leBytes 1 1 ++ leBytes 1 reason ++ leBytes 2 s.ring.gen ++ leBytes 8 Config.devUid ++ leBytes 1 s.ring.strap ++
    leBytes 1 s.ring.hops ++ leBytes 1 (portByte s) ++ leBytes 1 (bitAt (s.hub == .boot) 0 + bitAt (s.stat OD.HUB_BOOT_STATUS == 1) 1)
  s.nextSeq.sendOwn 7 s.ring.seq 0 b

/-- The head starts an enumeration: a new generation, DISCOVER on every port that is UP. -/
def State.enumerate (s : State) : State :=
  let g := (s.ring.gen + 1) % 65536
  let s := { s with ring := { s.ring with gen := g, enumAt := some s.now, found := [], returned := false } }
  s.nextSeq.sendOwn 7 s.ring.seq 0xFFF (leBytes 2 0 ++ leBytes 2 g)

/-- DISCOVER: the first copy of a generation sets the upstream port; at the head's K0 it tells that the ring is closed. -/
def execDiscover (k : KPort) (f : Frame) (s : State) : Result :=
  .next (s.take_ k f fun s =>
    if f.type = 7 ∧ fieldAt f.payload 0 1 = 0 ∧ f.dst = 0xFFF then
      let g := fieldAt f.payload 2 2
      if isHead s then
        if k.val = 0 ∧ g = s.ring.gen ∧ s.ring.enumAt.isSome = true then { s with ring := { s.ring with returned := true } } else s
      else if g = s.ring.gen ∧ s.ring.upstream.isSome = true then s
      else
        let s := { s with ring := { s.ring with gen := g, upstream := some k, hops := min 63 (f.hops + 1) } }
        s.report 0
    else s)

/-! ## The head's table of hubs (R437, R438) -/

/-- An entry keeps its address against another hub's equal one: fewer hops, or the lower identifier. -/
def keepsAddr (x y : MapEntry) : Bool := decide (x.hops < y.hops) || (x.hops == y.hops && decide (x.uid < y.uid))

/-- The lowest free address from 64 upward: no identifier of the table has it, nor, with the table full, a hub of this
enumeration; `n` bounds the search. -/
def freeAddr (s : State) : Nat → Nat → Nat
  | 0, a => a
  | n + 1, a =>
    if s.ring.addrs.any (fun e => e.2 == a) || (decide (255 ≤ s.ring.addrs.length) && s.ring.found.any fun e => e.addr == a) then
      freeAddr s n (a + 1)
    else a

/-- The address that enumeration gives an identifier: its former one, or a new one that the table keeps. -/
def State.giveAddr (s : State) (uid : Nat) : Nat × State :=
  match s.ring.addrs.find? fun e => e.1 == uid with
  | some e => (e.2, s)
  | none =>
    let a := freeAddr s 512 64
    let l := if s.ring.addrs.length < 255 then s.ring.addrs ++ [(uid, a)] else s.ring.addrs
    (a, { s with ring := { s.ring with addrs := l, addrsNew := true } })

/-- ASSIGN to an identifier. -/
def State.assign (s : State) (uid : Nat) : State :=
  let r := s.giveAddr uid
  r.2.nextSeq.sendOwn 7 r.2.ring.seq 0xFFF (leBytes 2 2 ++ leBytes 2 r.2.ring.gen ++ leBytes 8 uid ++ leBytes 2 r.1)

/-- A hub's entry joins the list of this enumeration, in place of an older one of the same hub. -/
def putEntry (l : List MapEntry) (e : MapEntry) : List MapEntry :=
  if l.any fun x => x.uid == e.uid then l.map fun x => if x.uid == e.uid then { e with dup := x.dup } else x else l ++ [e]

/-- Mark a hub DUP. -/
def markDup (l : List MapEntry) (uid : Nat) : List MapEntry := l.map fun x => if x.uid == uid then { x with dup := true } else x

/-- A hub that needs an address: it has none, it lost its strap address to another, or the table says otherwise of the one
that it was given (R437, R438). -/
def needsAddr (s : State) (e : MapEntry) : Bool :=
  e.addr == 0xFFF || (decide (e.addr < 64) && s.ring.found.any fun x => x.uid == e.uid && x.dup) ||
  (decide (64 ≤ e.addr) && match s.ring.addrs.find? fun x => x.1 == e.uid with
    | some x => x.2 != e.addr
    | none => decide (s.ring.addrs.length < 255))

/-- A REPORT at the head during an enumeration. -/
def State.reported (s : State) (e : MapEntry) : State :=
  let s := { s with ring := { s.ring with found := putEntry s.ring.found e } }
  if needsAddr s e then s.assign e.uid
  else match s.ring.found.find? fun x => x.addr == e.addr && x.uid != e.uid && !x.dup with
    | some x =>
      let loser := if keepsAddr e x then x.uid else e.uid
      { s with ring := { s.ring with found := markDup s.ring.found loser } }.assign loser
    | none => s

/-- REPORT: parents learn the branches behind K2; the head lists the hub, or enumerates on a join or a link change. -/
def execReport (k : KPort) (f : Frame) (s : State) : Result :=
  .next (s.take_ k f fun s =>
    if f.type = 7 ∧ fieldAt f.payload 0 1 = 1 then
      let s := if k.val = 2 ∧ f.src ≠ 0xFFF ∧ s.ring.branch.contains f.src = false then
          { s with ring := { s.ring with branch := s.ring.branch ++ [f.src] } } else s
      if isHead s && (s.hubUp || s.hub == .boot) then
        let reason := fieldAt f.payload 1 1
        if reason = 1 ∨ reason = 3 then if s.hubUp then s.enumerate else s
        else if reason = 0 ∧ s.ring.enumAt.isSome = true then
          s.reported { addr := f.src, hops := fieldAt f.payload 13 1, port := fieldAt f.payload 14 1, rev := k.val == 0,
                       uid := fieldAt f.payload 4 8 }
        else s
      else s
    else s)

/-- ASSIGN: the hub named takes the address and reports again. -/
def execAssign (k : KPort) (f : Frame) (s : State) : Result :=
  .next (s.take_ k f fun s =>
    if f.type = 7 ∧ fieldAt f.payload 0 1 = 2 ∧ forMe s f = true ∧ isHead s = false ∧ fieldAt f.payload 4 8 = Config.devUid % 2 ^ 64 then
      { s with ring := { s.ring with addr := fieldAt f.payload 12 2 % 4096, addrSrc := 2 } }.report 0
    else s)

/-- DONE: the hub takes topology and number of hubs, and announces itself. -/
def execDone (k : KPort) (f : Frame) (s : State) : Result :=
  .next (s.take_ k f fun s =>
    if f.type = 7 ∧ fieldAt f.payload 0 1 = 3 ∧ forMe s f = true ∧ isHead s = false then
      { s with ring := { s.ring with topo := fieldAt f.payload 1 1 % 4, nodes := fieldAt f.payload 4 2 } }.report 2
    else s)

/-- The end of an enumeration at the head: DONE, the map, bit 2 of `RING_IRQ_SRC` and a record if anything has changed, a save
of a changed address table (R437, R492). -/
def State.enumEnd (s : State) : State :=
  let r := s.ring
  let topo := bitAt r.returned 0 + bitAt (s.ringUp.testBit 2 || r.found.any fun e => e.port.testBit 2) 1
  let diff := r.found != r.map || topo != r.topo
  let s := { s with ring := { r with topo := topo, nodes := r.found.length + 1, map := r.found, enumAt := none, found := [],
                                     addrsNew := false },
                    cfg := if r.addrsNew then { s.cfg with due := some (s.cfg.due.getD s.now) } else s.cfg }
  let s := s.nextSeq.sendOwn 7 s.ring.seq 0xFFF (leBytes 1 3 ++ leBytes 1 topo ++ leBytes 2 s.ring.gen ++ leBytes 2 s.ring.nodes)
  if diff then (s.irq 2).journal 0x15 .hub 2 else s

/-- An enumeration ends 5 ms after it began, at a tick. -/
def State.enumTick (s : State) : State :=
  match s.ring.enumAt with
  | some t => if t + 5 * msNs ≤ s.now then s.enumEnd else s
  | none => s

/-- `RING_ENUM` written 1. -/
def State.ringEnum (s : State) : State × Err :=
  if !isHead s then (s, .state) else if s.ring.enumAt.isSome then (s, .busy) else (s.enumerate, .ok)

/-- `RING_MAP_CLEAR` written 1. -/
def State.ringMapClear (s : State) : State × Err :=
  ({ s with ring := { s.ring with addrs := [], addrsNew := s.ring.addrsNew || !s.ring.addrs.isEmpty } }, .ok)

/-! ## Links and breaks (R426, R447 to R449) -/

/-- REHOME, link token kind 0, leaves on a port that is UP (R442). -/
def State.sendRehome (s : State) (k : KPort) (hops : Nat) : State :=
  if s.ringUp.testBit k.val then
    { s.count OD.RING_REHOMES with out := .token (tokenByte true 0 hops) (2 ^ k.val) :: s.out }
  else s

/-- The other ring port becomes upstream, with REHOME on it. -/
def State.rehome (s : State) (k : KPort) (hops : Nat) : State :=
  { s with ring := { s.ring with upstream := some (otherPort k) } }.sendRehome (otherPort k) hops

/-- A link change is counted and recorded; a hub without a link reaches no partner (R534). -/
def State.linkChange (s : State) (k : KPort) (up : Bool) : State :=
  let m := setBit s.ringUp k.val up
  let s := { s with ringUp := m, pxReady := s.pxReady && m % 8 != 0 }
  (s.count OD.RING_BREAKS 0 1 k.val).journal 0x15 .hub 1 [(1, k.val), (1, bitAt up 0)]

/-- RING_LINK_DOWN, with the code violations that the port has met since its last frame. On a closed ring announced by DONE a hub
that loses its upstream port turns to its other ring port, if that is UP; in a chain or a branch it stays cut off (R447,
R448). -/
def execRingLinkDown (k : KPort) (violations : Nat) (s : State) : Result :=
  .next (if hearsPort s k then
      let s := (s.codeErrs violations).linkChange k false
      if s.ring.topo.testBit 0 && !s.ring.onBranch && !isHead s && s.ring.upstream == some k && decide (k.val < 2) &&
          s.ringUp.testBit (otherPort k).val then s.rehome k 0
      else s
    else s)

/-- A ring link comes up: a hub in BOOT joins, a hub that runs reports the change; at the head it enumerates (R437, R449). -/
def State.ringLinkUp (s : State) (k : KPort) : State :=
  if ringOpen s && !s.ringUp.testBit k.val then
    let s := s.linkChange k true
    if isHead s then if s.hubUp then s.enumerate else s
    else s.report (if s.hub = .boot then 1 else 3)
  else s

/-- The head marks the ring BROKEN; only the first REHOME changes the topology that the journal records (R449). -/
def State.broken (s : State) : State :=
  let s := s.irq 2
  if s.ring.topo.testBit 2 then s else { s with ring := { s.ring with topo := s.ring.topo + 4 } }.journal 0x15 .hub 2

/-- REHOME, a link token with its byte `b`, received on port `k`: a hub swaps its upstream port, and forwards; at the head's K0
the ring is BROKEN (R442, R448, R449). Of a reserved kind the hub takes nothing (DESIGN CHOICE, log 119). -/
def execRehome (k : KPort) (b : Byte) (s : State) : Result :=
  .next (if hearsPort s k && tokenLink b && (tokenLine b).val == 0 then
      if isHead s then if k.val = 0 then s.broken else s
      else if s.ring.upstream == some k && decide (k.val < 2) then s.rehome k (min 31 (tokenHops b + 1))
      else s
    else s)

/-- `RING_WAKE` with a port mask: the tone on each named port that is DOWN (R455). -/
def State.ringWake (s : State) (mask : Nat) : State × Err :=
  let ports := mask % 8 - (mask % 8 &&& s.ringUp)
  let s := ([0, 1, 2] : List KPort).foldl (fun s k =>
    if ports.testBit k.val then
      { s with ring := { s.ring with ports := s.ring.ports.upd k fun p => { p with toneUntil := some (s.now + 100000) } } }
    else s) s
  (if ports = 0 then s else { s with out := .tone ports :: s.out }, .ok)

/-! ## Events and fault frames at a hub (R443, R458) -/

/-- EVENT_FRAME: the head queues the record for the host. -/
def execEventFrame (k : KPort) (f : Frame) (s : State) : Result :=
  .next (s.take_ k f fun s =>
    if f.type = 5 ∧ isHead s = true ∧ f.dst = 0 then s.pushOrDrop { kind := 2, tag := 0, src := f.src, bytes := f.payload } else s)

/-- FAULT_FRAME: `RING_FT_LAST`, and an item at the head. -/
def execFaultFrame (k : KPort) (f : Frame) (s : State) : Result :=
  .next (s.take_ k f fun s =>
    if h : f.type = 6 ∧ fieldAt f.payload 0 1 < 4 ∧ forMe s f = true then
      let s := s.updLine ⟨fieldAt f.payload 0 1, h.2.1⟩ fun x => { x with last := f.src }
      if isHead s then s.pushOrDrop { kind := 3, tag := 0, src := f.src, bytes := f.payload } else s
    else s)

/-! ## Time (R450 to R453) -/

/-- The time state changes: record, and bit 4 away from LOCKED. -/
def State.timeState (s : State) (v : Nat) : State :=
  let old := s.stat OD.RING_TIME_STATE
  if old = v then s
  else
    let s := (s.set OD.RING_TIME_STATE 0 v).journal 0x14 .hub 2 [(8, old)]
    if old = 2 then s.irq 4 else s

/-- A moved instant. -/
def moved (d : Int) (t : Nat) : Nat := ((t : Int) + d).toNat

/-- Instants of a gate after a step of the time base. -/
def Gate.moved (g : Gate) (d : Int) : Gate :=
  { g with since := Machine.moved d g.since, limitAt := g.limitAt.map (Machine.moved d), levelAt := g.levelAt.map (Machine.moved d) }

def Sample.moved (x : Sample) (d : Int) : Sample := { x with at_ := Machine.moved d x.at_ }

/-- What a pod reports, after a step of the time base. -/
def PodStatus.moved (v : PodStatus) (d : Int) : PodStatus :=
  let m := Machine.moved d
  { v with gIn := v.gIn.moved d, gOut := v.gOut.moved d, tStatic := v.tStatic.map m, startAt := v.startAt.map m,
           closeAt := v.closeAt.map m, notes := v.notes.map fun e => (e.1, m e.2),
           holdFrom := v.holdFrom.map m, trip := { v.trip with time := m v.trip.time },
           seat := { v.seat with tUnseat := v.seat.tUnseat.map m },
           meas := { v.meas with vdi := v.meas.vdi.moved d, vdo := v.meas.vdo.moved d, vdn := v.meas.vdn.moved d,
                                 i := v.meas.i.moved d } }

/-- The converters after a step of the time base. -/
def PodAdc.moved (a : PodAdc) (d : Int) : PodAdc :=
  let m := Machine.moved d
  { a with calFrom := a.calFrom.map m, recalFrom := a.recalFrom.map m, coverFrom := a.coverFrom.map m,
           loadAt := a.loadAt.map m, routes := a.routes.map fun x => (m x.1, x.2), wakeAt := a.wakeAt.map m,
           ready := a.ready.map fun x => { x with at_ := m x.at_ },
           inFlight := a.inFlight.map fun c => { c with at_ := m c.at_ },
           fed := a.fed.map fun x => { x with at_ := m x.at_ },
           lastShunt := a.lastShunt.map fun x => (x.1, m x.2),
           wins := a.wins.map fun w => { w with from_ := m w.from_, to_ := m w.to_ },
           runs := a.runs.map fun r => { r with pts := r.pts.map fun x => (m x.1, x.2), re := r.re.map fun x => (m x.1, x.2) },
           winFrom := a.winFrom.map m, winEnd := m a.winEnd, altFrom := m a.altFrom, burstAt := m a.burstAt,
           settleNext := a.settleNext.map fun e => (m e.1, e.2),
           avgs := a.avgs.map fun x => { x with from_ := m x.from_ },
           held := { a.held with tVdo := m a.held.tVdo, tVdn := m a.held.tVdn } }

/-- The tests after a step of the time base. -/
def PodTests.moved (t : PodTests) (d : Int) : PodTests :=
  let m := Machine.moved d
  { t with tieFrom := m t.tieFrom, ties := t.ties.map fun x => (x.1, m x.2.1, m x.2.2),
           stackAt := t.stackAt.map m, onlineAt := m t.onlineAt, memberAt := m t.memberAt, uvFrom := t.uvFrom.map m,
           ovFrom := t.ovFrom.map m, thermAt := m t.thermAt, outpFrom := t.outpFrom.map m, vonFrom := t.vonFrom.map m }

/-- A pod after a step of the time base: what it times runs on unchanged. -/
def Pod.moved (p : Pod) (d : Int) : Pod :=
  let m := Machine.moved d
  { p with
    st := p.st.moved d, up := p.up.moved d,
    holdOutp := p.holdOutp.map m, holdUv := p.holdUv.map m, holdOv := p.holdOv.map m, seatFrom := p.seatFrom.map m,
    past := p.past.map fun e => (m e.1, e.2), tOnStart := m p.tOnStart, limitFull := p.limitFull.map m, oclSafe := p.oclSafe.map m,
    limitExit := p.limitExit.map m, limitCut := p.limitCut.map fun x => (x.1, m x.2.1, x.2.2),
    periodFrom := m p.periodFrom, periodAt := m p.periodAt, wakeAt := p.wakeAt.map m,
    blankIn := p.blankIn.map m, blankOut := p.blankOut.map m, tickAt := m p.tickAt,
    tests := p.tests.moved d, adc := p.adc.moved d,
    mtr := { p.mtr with sentAt := m p.mtr.sentAt, snapDue := p.mtr.snapDue.map m },
    lastFrame := m p.lastFrame, tLatch := m p.tLatch, tEnable0 := m p.tEnable0 }

/-- The one step of the time base in BOOT, journalled with the old time (R452). -/
def State.stepTime (s : State) (master : Nat) : State :=
  let old := s.now
  let d : Int := (master : Int) - (old : Int)
  let s := { s with now := master, pods := s.pods.all fun p => p.moved d, ring := { s.ring with stepped := true },
                    ports := s.ports.all fun q => { q with seen := q.seen.moved d },
                    power := { s.power with bootFrom := moved d s.power.bootFrom } }
  (s.count OD.RING_TIME_STEPS).journal 0x14 .hub 1 [(8, old)]

/-- Outside BOOT a tick slews up to 1 ns of the offset away (R452). The model's time is the hub's corrected time, which only
rises; a tick that slews is 1 ns longer or shorter by the hub's own clock (DEDUCED, log 120). -/
def State.slewTick (s : State) : State :=
  if s.hubUp then { s with ring := { s.ring with slew := s.ring.slew - max (-1000) (min 1000 s.ring.slew) } } else s

/-- An offset to the master in ps, which is slewed away from now on: ACQUIRING and LOCKED (R452, R453). The rate correction is open
(log 2). -/
def State.offset (s : State) (ps : Int) : State :=
  let good := if ps.natAbs ≤ 10000 then s.ring.good + 1 else 0
  let st := s.stat OD.RING_TIME_STATE
  let good := if st = 3 then (if ps.natAbs ≤ 10000 then 1 else 0) else good
  let r := s.take
  let rate : Int := (r.1 % 400001 : Nat) - (200000 : Int)
  let s := (r.2.set OD.RING_TIME_OFS 0 ps).set OD.RING_TIME_RATE 0 rate
  let s := { s with ring := { s.ring with good := min good 16, slew := ps } }
  if st = 2 then if 25000 < ps.natAbs then { s with ring := { s.ring with good := 0 } }.timeState 1 else s
  else if 16 ≤ good then s.timeState 2 else s.timeState 1

/-- SYNC_TIME on the upstream port at the hub's own time `t` (R450, R452). -/
def execSyncTime (k : KPort) (f : Frame) (t : Nat) (s : State) : Result :=
  .next (s.take_ k f fun s =>
    if f.type = 1 ∧ fieldAt f.payload 0 1 = 0 ∧ isHead s = false ∧ s.ring.upstream = some k then
      let s := s.at t
      let ps : Int := (fieldAt f.payload 4 8 : Int) * 1000 + (fieldAt f.payload 12 4 * 1000 / 256 : Nat) + (linkDelay s k : Nat)
      let s := if s.hub = .boot ∧ s.ring.stepped = false then (s.stepTime (ps / 1000).toNat).offset 0
        else s.offset ((s.now : Int) * 1000 - ps)
      { s with ring := { s.ring with syncAt := s.now } }
    else s)

/-- SYNC_PERIOD at the head. -/
def execSyncPeriod (s : State) : Result :=
  .next (if isHead s && s.hubUp && decide (s.ring.syncAt + s.act OD.RING_SYNC_PER * usNs ≤ s.now) then
      let n := s.ring.syncSeq
      let s := { s with ring := { s.ring with syncAt := s.now, syncSeq := (n + 1) % 65536 } }
      s.nextSeq.sendOwn 1 s.ring.seq 0xFFF (leBytes 2 0 ++ leBytes 2 n ++ leBytes 8 s.now ++ leBytes 4 0)
    else s)

/-- TIME_HOLDOVER: 8 sync periods without SYNC (R453). -/
def execTimeHoldover (s : State) : Result :=
  .next (if s.hubUp && !isHead s && s.stat OD.RING_TIME_STATE != 3 &&
      decide (max s.ring.syncAt s.power.bootFrom + 8 * s.act OD.RING_SYNC_PER * usNs ≤ s.now) then s.timeState 3
    else s)

/-- A LOCAL frame of the delay exchange leaves on port `k`. -/
def State.sendLocal (s : State) (k : KPort) (payload : List Byte) : State :=
  let f : Frame := { type := 1, local_ := true, seq := s.ring.seq, dst := 0xFFF, src := s.ring.addr, len := payload.length,
                     payload := payload }
  s.nextSeq.sendOn f.signed (2 ^ k.val)

/-- DELAY_REQ received at port `k`; `turn` is this hub's turnaround in 2^−8 ns (R451). A hub without an address does not answer
(R432). -/
def execDelayReq (k : KPort) (f : Frame) (turn : Nat) (s : State) : Result :=
  .next (s.take_ k f fun s =>
    if f.type = 1 ∧ fieldAt f.payload 0 1 = 1 ∧ f.local_ = true ∧ s.ring.addr ≠ 0xFFF then
      s.sendLocal k (leBytes 2 2 ++ leBytes 2 (fieldAt f.payload 2 2) ++ leBytes 8 (fieldAt f.payload 4 8) ++ leBytes 4 turn)
    else s)

/-- DELAY_RESP received at port `k` at `t` (R451). -/
def execDelayResp (k : KPort) (f : Frame) (t : Nat) (s : State) : Result :=
  .next (s.take_ k f fun s =>
    if f.type = 1 ∧ fieldAt f.payload 0 1 = 2 ∧ f.local_ = true ∧ fieldAt f.payload 4 8 = (s.ring.ports.get k).t1 then
      let s := s.at t
      let d := ((s.now - (s.ring.ports.get k).t1) * 1000 - fieldAt f.payload 12 4 * 1000 / 256) / 2
      let s := { s with ring := { s.ring with ports := s.ring.ports.upd k fun p => { p with delays := (d :: p.delays).take 64 } } }
      s.set OD.RING_LINK_DELAY 0 (linkDelay s k : Nat) k.val
    else s)

/-- DELAY_EXCHANGE_PERIOD: every 1 ms each port sends DELAY_REQ (R451). -/
def execDelayExchangePeriod (s : State) : Result :=
  .next (([0, 1, 2] : List KPort).foldl (fun s k =>
    if hearsPort s k && decide ((s.ring.ports.get k).t1 + msNs ≤ s.now) then
      let s := { s with ring := { s.ring with ports := s.ring.ports.upd k fun p => { p with t1 := s.now } } }
      s.sendLocal k (leBytes 2 1 ++ leBytes 2 0 ++ leBytes 8 s.now)
    else s) s)

end Sys2Proof.Machine
end

