-- ==== Sys2Proof/Machine/Rack.lean ====
section
/-! DEFINITION. The rows of the dictionary (R462 to R473, R504 to R508, R565, R566), as the object tables of the
chapters give them: place, type, access, Default, range, role, unit, persistence, unit code, name. A row whose Meaning names its
bits has their mask (R506). -/

namespace Sys2Proof

/-- Rows of the table: DEV_VENDOR to RACK_NAMES. -/
def rackDev0 : List ObjRow := [
  { index := 0x0000, stride := 0x0, count := 1, first := 1, last := 1, type := .str, access := .ro, dflt := 7, lo := 0, hi := 7, name := "DEV_VENDOR" },
  { index := 0x0000, stride := 0x0, count := 1, first := 2, last := 2, type := .u16, access := .ro, dflt := 25616, lo := 0, hi := 65535, name := "DEV_PART" },
  { index := 0x0000, stride := 0x0, count := 1, first := 3, last := 3, type := .u8, access := .ro, dflt := 2, lo := 0, hi := 255, name := "DEV_SILREV" },
  { index := 0x0000, stride := 0x0, count := 1, first := 4, last := 4, type := .u32, access := .ro, dflt := 0, lo := 0, hi := 4294967295, mask := some 0xFFFFFFFF, name := "DEV_FWVER" },
  { index := 0x0000, stride := 0x0, count := 1, first := 5, last := 5, type := .u64, access := .ro, dflt := 0, lo := 0, hi := 18446744073709551615, name := "DEV_UID" },
  { index := 0x0000, stride := 0x0, count := 1, first := 6, last := 6, type := .str, access := .ro, dflt := 0, lo := 0, hi := 24, name := "DEV_SERIAL" },
  { index := 0x0001, stride := 0x0, count := 1, first := 1, last := 16, type := .u16, access := .ro, dflt := 0, lo := 0, hi := 65535, name := "DEV_POD_TYPE" },
  { index := 0x0002, stride := 0x0, count := 1, first := 1, last := 16, type := .u8, access := .ro, dflt := 0, lo := 0, hi := 255, name := "DEV_POD_REV" },
  { index := 0x0003, stride := 0x0, count := 1, first := 1, last := 16, type := .u64, access := .ro, dflt := 0, lo := 0, hi := 18446744073709551615, name := "DEV_POD_UID" },
  { index := 0x0010, stride := 0x0, count := 1, first := 1, last := 1, type := .u8, access := .ro, dflt := 1, lo := 0, hi := 255, name := "RACK_FORMAT" },
  { index := 0x0010, stride := 0x0, count := 1, first := 2, last := 2, type := .u16, access := .ro, dflt := 0, lo := 0, hi := 65535, name := "RACK_COUNT" },
  { index := 0x0010, stride := 0x0, count := 1, first := 3, last := 3, type := .u32, access := .ro, dflt := 0, lo := 0, hi := 4294967295, name := "RACK_CRC" },
  { index := 0x0010, stride := 0x0, count := 1, first := 4, last := 4, type := .u32, access := .ro, dflt := 0, lo := 0, hi := 4294967295, name := "RACK_NAMES_LEN" },
  { index := 0x0010, stride := 0x0, count := 1, first := 5, last := 5, type := .u32, access := .ro, dflt := 0, lo := 0, hi := 4294967295, name := "RACK_FWVER" },
  { index := 0x0011, stride := 0x0, count := 1, first := 1, last := 1, type := .blob, access := .ro, dflt := 0, lo := 0, hi := 65535, name := "RACK_NAMES" }
]

/-- Rows of the Rack records themselves (R504): K records, 256 to an index. -/
def rackRecs : List ObjRow := [
  { index := 0x0100, stride := 0x0, count := 1, first := 0, last := 255, type := .blob, access := .ro, dflt := 0, lo := 0, hi := 32, name := "RACK_RECORD" },
  { index := 0x0101, stride := 0x0, count := 1, first := 0, last := 255, type := .blob, access := .ro, dflt := 0, lo := 0, hi := 32, name := "RACK_RECORD" },
  { index := 0x0102, stride := 0x0, count := 1, first := 0, last := 33, type := .blob, access := .ro, dflt := 0, lo := 0, hi := 32, name := "RACK_RECORD" }
]

/-- Rows of the table: HUB_STATE to HUB_FLTO_MODE. -/
def rackHub0 : List ObjRow := [
  { index := 0x1000, stride := 0x0, count := 1, first := 1, last := 1, type := .u8, access := .ro, dflt := 1, lo := 0, hi := 255, name := "HUB_STATE" },
  { index := 0x1000, stride := 0x0, count := 1, first := 2, last := 2, type := .u16, access := .ro, dflt := 0, lo := 0, hi := 65535, mask := some 0x3FF, name := "HUB_RST_CAUSE" },
  { index := 0x1000, stride := 0x0, count := 1, first := 3, last := 3, type := .u32, access := .ro, dflt := 0, lo := 0, hi := 4294967295, name := "HUB_RST_COUNT" },
  { index := 0x1000, stride := 0x0, count := 1, first := 4, last := 4, type := .bool, access := .cmd, dflt := 0, lo := 0, hi := 1, role := .service, name := "HUB_RESET" },
  { index := 0x1000, stride := 0x0, count := 1, first := 5, last := 5, type := .u32, access := .ro, dflt := 0, lo := 0, hi := 4294967295, ucode := 4, scale := -6, name := "HUB_BOOT_TIME" },
  { index := 0x1000, stride := 0x0, count := 1, first := 6, last := 6, type := .u8, access := .ro, dflt := 0, lo := 0, hi := 255, name := "HUB_BOOT_STATUS" },
  { index := 0x1010, stride := 0x0, count := 1, first := 1, last := 1, type := .bool, access := .cmd, dflt := 0, lo := 0, hi := 1, role := .operate, name := "HUB_SLEEP" },
  { index := 0x1010, stride := 0x0, count := 1, first := 2, last := 2, type := .u16, access := .rw, dflt := 127, lo := 0, hi := 1023, role := .configure, persist := true, mask := some 0x3FF, name := "HUB_WAKE_EN" },
  { index := 0x1010, stride := 0x0, count := 1, first := 3, last := 3, type := .u32, access := .rw, dflt := 0, lo := 0, hi := 4000000000, role := .configure, persist := true, ucode := 4, scale := -3, name := "HUB_WAKE_TIMER" },
  { index := 0x1010, stride := 0x0, count := 1, first := 4, last := 4, type := .u16, access := .ro, dflt := 0, lo := 0, hi := 65535, name := "HUB_WAKE_CAUSE" },
  { index := 0x1010, stride := 0x0, count := 1, first := 5, last := 5, type := .u16, access := .rw, dflt := 65535, lo := 0, hi := 65535, role := .configure, persist := true, name := "HUB_PODPORT_WAKE" },
  { index := 0x1010, stride := 0x0, count := 1, first := 6, last := 6, type := .u32, access := .ro, dflt := 0, lo := 0, hi := 4294967295, name := "HUB_SLEEPS" },
  { index := 0x1010, stride := 0x0, count := 1, first := 7, last := 7, type := .u16, access := .ro, dflt := 1, lo := 0, hi := 65535, name := "HUB_SLEEP_BLOCK" },
  { index := 0x1011, stride := 0x0, count := 1, first := 1, last := 12, type := .u16, access := .rw, dflt := 0, lo := 0, hi := 4095, role := .configure, persist := true, name := "HUB_HKW_LO" },
  { index := 0x1012, stride := 0x0, count := 1, first := 1, last := 12, type := .u16, access := .rw, dflt := 4095, lo := 0, hi := 4095, role := .configure, persist := true, name := "HUB_HKW_HI" },
  { index := 0x1020, stride := 0x0, count := 1, first := 1, last := 1, type := .u8, access := .rw, dflt := 0, lo := 0, hi := 1, role := .configure, persist := true, name := "HUB_CLKSRC" },
  { index := 0x1020, stride := 0x0, count := 1, first := 2, last := 2, type := .u8, access := .rw, dflt := 0, lo := 0, hi := 2, role := .configure, persist := true, name := "HUB_CLK_PORT" },
  { index := 0x1020, stride := 0x0, count := 1, first := 3, last := 3, type := .u8, access := .ro, dflt := 0, lo := 0, hi := 255, name := "HUB_CLK_STATE" },
  { index := 0x1020, stride := 0x0, count := 1, first := 4, last := 4, type := .u32, access := .ro, dflt := 0, lo := 0, hi := 4294967295, name := "HUB_CLK_SWITCHES" },
  { index := 0x1020, stride := 0x0, count := 1, first := 5, last := 5, type := .s16, access := .ro, dflt := 0, lo := -32768, hi := 32767, ucode := 12, scale := -1, name := "HUB_XTAL_PPM" },
  { index := 0x1030, stride := 0x0, count := 1, first := 1, last := 1, type := .u16, access := .rw, dflt := 65535, lo := 0, hi := 65535, role := .configure, persist := true, name := "HUB_PODSUP_EN" },
  { index := 0x1030, stride := 0x0, count := 1, first := 2, last := 2, type := .u16, access := .ro, dflt := 0, lo := 0, hi := 65535, name := "HUB_PODSUP_FLT" },
  { index := 0x1040, stride := 0x1, count := 2, first := 1, last := 1, type := .u16, access := .rw, dflt := 0, lo := 0, hi := 65535, role := .configure, persist := true, name := "HUB_FLTO_CH" },
  { index := 0x1040, stride := 0x1, count := 2, first := 2, last := 2, type := .u32, access := .rw, dflt := 0, lo := 0, hi := 262142, role := .configure, persist := true, mask := some 0x3FFFE, name := "HUB_FLTO_CAUSE" },
  { index := 0x1040, stride := 0x1, count := 2, first := 3, last := 3, type := .u8, access := .rw, dflt := 0, lo := 0, hi := 7, role := .configure, persist := true, mask := some 0x7, name := "HUB_FLTO_MODE" }
]

/-- Rows of the table: HUB_FLTO_BUS to ADC_HK_VAO. -/
def rackHub1 : List ObjRow := [
  { index := 0x1040, stride := 0x1, count := 2, first := 4, last := 4, type := .u8, access := .rw, dflt := 0, lo := 0, hi := 255, role := .configure, persist := true, name := "HUB_FLTO_BUS" },
  { index := 0x1040, stride := 0x1, count := 2, first := 5, last := 5, type := .u16, access := .rw, dflt := 10, lo := 1, hi := 1000, role := .configure, persist := true, ucode := 4, scale := -6, name := "HUB_FLTO_MINW" },
  { index := 0x1040, stride := 0x1, count := 2, first := 6, last := 6, type := .bool, access := .cmd, dflt := 0, lo := 0, hi := 1, role := .operate, name := "HUB_FLTO_ACK" },
  { index := 0x1040, stride := 0x1, count := 2, first := 7, last := 7, type := .u8, access := .ro, dflt := 0, lo := 0, hi := 255, mask := some 0x3, name := "HUB_FLTO_STATE" },
  { index := 0x1042, stride := 0x1, count := 2, first := 1, last := 1, type := .u16, access := .rw, dflt := 0, lo := 0, hi := 65535, role := .configure, persist := true, name := "HUB_FLTI_CH" },
  { index := 0x1042, stride := 0x1, count := 2, first := 2, last := 2, type := .u8, access := .rw, dflt := 20, lo := 0, hi := 255, role := .configure, persist := true, ucode := 4, scale := -9, mult := 5, name := "HUB_FLTI_FILT" },
  { index := 0x1042, stride := 0x1, count := 2, first := 3, last := 3, type := .u8, access := .ro, dflt := 0, lo := 0, hi := 255, mask := some 0x1, name := "HUB_FLTI_STATE" },
  { index := 0x1042, stride := 0x1, count := 2, first := 4, last := 4, type := .u32, access := .ro, dflt := 0, lo := 0, hi := 4294967295, name := "HUB_FLTI_EVENTS" },
  { index := 0x1050, stride := 0x0, count := 1, first := 1, last := 1, type := .bool, access := .cmd, dflt := 0, lo := 1, hi := 1, role := .configure, name := "HUB_CFG_SAVE" },
  { index := 0x1050, stride := 0x0, count := 1, first := 2, last := 2, type := .u8, access := .ro, dflt := 0, lo := 0, hi := 255, name := "HUB_CFG_STATE" },
  { index := 0x1050, stride := 0x0, count := 1, first := 3, last := 3, type := .u8, access := .ro, dflt := 2, lo := 0, hi := 255, name := "HUB_CFG_LOAD" },
  { index := 0x1050, stride := 0x0, count := 1, first := 4, last := 4, type := .u32, access := .ro, dflt := 0, lo := 0, hi := 4294967295, name := "HUB_CFG_SEQ" },
  { index := 0x1050, stride := 0x0, count := 1, first := 5, last := 5, type := .u64, access := .ro, dflt := 0, lo := 0, hi := 18446744073709551615, ucode := 4, scale := -9, name := "HUB_CFG_TIME" },
  { index := 0x1050, stride := 0x0, count := 1, first := 6, last := 6, type := .bool, access := .cmd, dflt := 0, lo := 1, hi := 1, role := .configure, name := "HUB_CFG_DEFAULTS" },
  { index := 0x1050, stride := 0x0, count := 1, first := 7, last := 7, type := .u32, access := .ro, dflt := 0, lo := 0, hi := 4294967295, name := "HUB_CFG_SIZE" },
  { index := 0x1060, stride := 0x0, count := 1, first := 1, last := 1, type := .u8, access := .ro, dflt := 0, lo := 0, hi := 255, name := "HUB_PFW_STATE" },
  { index := 0x1060, stride := 0x0, count := 1, first := 2, last := 2, type := .u32, access := .ro, dflt := 0, lo := 0, hi := 4294967295, name := "HUB_PFW_COUNT" },
  { index := 0x1060, stride := 0x0, count := 1, first := 3, last := 3, type := .u32, access := .ro, dflt := 0, lo := 0, hi := 4294967295, ucode := 4, scale := -6, name := "HUB_PFW_TLAST" },
  { index := 0x1060, stride := 0x0, count := 1, first := 4, last := 4, type := .u8, access := .ro, dflt := 2, lo := 0, hi := 255, name := "HUB_SHUTDOWN" },
  { index := 0x1080, stride := 0x0, count := 1, first := 1, last := 1, type := .u16, access := .rw, dflt := 3840, lo := 0, hi := 4095, role := .configure, persist := true, mask := some 0xFFF, name := "ADC_HK_EN" },
  { index := 0x1080, stride := 0x0, count := 1, first := 2, last := 2, type := .u16, access := .rw, dflt := 0, lo := 0, hi := 60000, role := .configure, persist := true, ucode := 4, scale := -3, name := "ADC_HK_SLEEP_PER" },
  { index := 0x1080, stride := 0x0, count := 1, first := 3, last := 3, type := .u16, access := .rw, dflt := 0, lo := 0, hi := 4095, role := .configure, persist := true, name := "ADC_HK_SLEEP_EN" },
  { index := 0x1081, stride := 0x0, count := 1, first := 1, last := 8, type := .u16, access := .ro, dflt := 0, lo := 0, hi := 65535, ucode := 255, name := "ADC_HK_PIN" },
  { index := 0x1081, stride := 0x0, count := 1, first := 9, last := 9, type := .u16, access := .ro, dflt := 0, lo := 0, hi := 65535, ucode := 2, scale := -3, name := "ADC_HK_VDD33" },
  { index := 0x1081, stride := 0x0, count := 1, first := 10, last := 10, type := .u16, access := .ro, dflt := 0, lo := 0, hi := 65535, ucode := 2, scale := -3, name := "ADC_HK_VAO" }
]

/-- Rows of the table: ADC_HK_VPL to MTR_CKPT_FAILS. -/
def rackHub2 : List ObjRow := [
  { index := 0x1081, stride := 0x0, count := 1, first := 11, last := 11, type := .u16, access := .ro, dflt := 0, lo := 0, hi := 65535, ucode := 2, scale := -3, name := "ADC_HK_VPL" },
  { index := 0x1081, stride := 0x0, count := 1, first := 12, last := 12, type := .s16, access := .ro, dflt := 32767, lo := -32768, hi := 32767, ucode := 5, name := "ADC_HK_TDIE" },
  { index := 0x1081, stride := 0x0, count := 1, first := 13, last := 13, type := .u16, access := .ro, dflt := 0, lo := 0, hi := 65535, name := "ADC_HK_OR" },
  { index := 0x1090, stride := 0x0, count := 1, first := 1, last := 1, type := .u8, access := .cmd, dflt := 0, lo := 1, hi := 1, name := "MTR_SNAP" },
  { index := 0x1090, stride := 0x0, count := 1, first := 2, last := 2, type := .u64, access := .ro, dflt := 0, lo := 0, hi := 18446744073709551615, ucode := 4, scale := -9, name := "MTR_SNAP_TIME" },
  { index := 0x1090, stride := 0x0, count := 1, first := 3, last := 3, type := .u32, access := .ro, dflt := 0, lo := 0, hi := 4294967295, name := "MTR_CKPT_SEQ" },
  { index := 0x1090, stride := 0x0, count := 1, first := 4, last := 4, type := .u64, access := .ro, dflt := 0, lo := 0, hi := 18446744073709551615, ucode := 4, scale := -9, name := "MTR_CKPT_TIME" },
  { index := 0x1090, stride := 0x0, count := 1, first := 5, last := 5, type := .u8, access := .ro, dflt := 0, lo := 0, hi := 255, name := "MTR_CKPT_STATE" },
  { index := 0x1090, stride := 0x0, count := 1, first := 6, last := 6, type := .u32, access := .ro, dflt := 0, lo := 0, hi := 4294967295, name := "MTR_CKPT_FAILS" }
]

/-- Rows of the table: RING_ADDR to RING_TIME_STEPS. -/
def rackRing0 : List ObjRow := [
  { index := 0x2000, stride := 0x0, count := 1, first := 1, last := 1, type := .u16, access := .ro, dflt := 4095, lo := 0, hi := 65535, name := "RING_ADDR" },
  { index := 0x2000, stride := 0x0, count := 1, first := 2, last := 2, type := .u8, access := .ro, dflt := 3, lo := 0, hi := 255, name := "RING_ADDR_SRC" },
  { index := 0x2000, stride := 0x0, count := 1, first := 3, last := 3, type := .u8, access := .ro, dflt := 0, lo := 0, hi := 255, mask := some 0x7F, name := "RING_STRAP" },
  { index := 0x2000, stride := 0x0, count := 1, first := 4, last := 4, type := .u8, access := .ro, dflt := 255, lo := 0, hi := 255, name := "RING_UPSTREAM" },
  { index := 0x2000, stride := 0x0, count := 1, first := 5, last := 5, type := .u8, access := .ro, dflt := 255, lo := 0, hi := 255, name := "RING_HOPS" },
  { index := 0x2000, stride := 0x0, count := 1, first := 6, last := 6, type := .u8, access := .ro, dflt := 0, lo := 0, hi := 255, mask := some 0x7, name := "RING_TOPO" },
  { index := 0x2000, stride := 0x0, count := 1, first := 7, last := 7, type := .u16, access := .ro, dflt := 0, lo := 0, hi := 65535, name := "RING_NODES" },
  { index := 0x2001, stride := 0x0, count := 1, first := 1, last := 3, type := .u8, access := .ro, dflt := 0, lo := 0, hi := 255, name := "RING_PORT_STATE" },
  { index := 0x2001, stride := 0x0, count := 1, first := 4, last := 6, type := .u32, access := .ro, dflt := 0, lo := 0, hi := 4294967295, ucode := 4, scale := -12, name := "RING_LINK_DELAY" },
  { index := 0x2002, stride := 0x0, count := 1, first := 1, last := 3, type := .u32, access := .ro, dflt := 0, lo := 0, hi := 4294967295, name := "RING_BREAKS" },
  { index := 0x2002, stride := 0x0, count := 1, first := 4, last := 6, type := .u32, access := .ro, dflt := 0, lo := 0, hi := 4294967295, name := "RING_ERRS" },
  { index := 0x2002, stride := 0x0, count := 1, first := 7, last := 7, type := .u32, access := .ro, dflt := 0, lo := 0, hi := 4294967295, name := "RING_CODE_ERR" },
  { index := 0x2002, stride := 0x0, count := 1, first := 8, last := 8, type := .u32, access := .ro, dflt := 0, lo := 0, hi := 4294967295, name := "RING_REHOMES" },
  { index := 0x2002, stride := 0x0, count := 1, first := 9, last := 9, type := .u32, access := .ro, dflt := 0, lo := 0, hi := 4294967295, name := "RING_RETRIES" },
  { index := 0x2010, stride := 0x0, count := 1, first := 1, last := 1, type := .u16, access := .rw, dflt := 1000, lo := 100, hi := 65535, role := .configure, persist := true, ucode := 4, scale := -6, name := "RING_RESP_TMO" },
  { index := 0x2010, stride := 0x0, count := 1, first := 2, last := 2, type := .u16, access := .rw, dflt := 1000, lo := 100, hi := 10000, role := .configure, persist := true, ucode := 4, scale := -6, name := "RING_SYNC_PER" },
  { index := 0x2010, stride := 0x0, count := 1, first := 3, last := 3, type := .bool, access := .cmd, dflt := 0, lo := 0, hi := 1, role := .operate, name := "RING_ENUM" },
  { index := 0x2010, stride := 0x0, count := 1, first := 4, last := 4, type := .u8, access := .cmd, dflt := 0, lo := 1, hi := 7, role := .operate, name := "RING_WAKE" },
  { index := 0x2010, stride := 0x0, count := 1, first := 5, last := 5, type := .bool, access := .cmd, dflt := 0, lo := 0, hi := 1, role := .service, name := "RING_MAP_CLEAR" },
  { index := 0x2020, stride := 0x0, count := 1, first := 1, last := 255, type := .u64, access := .ro, dflt := 0, lo := 0, hi := 18446744073709551615, mask := some 0xFFFFFFFF007FFFFF, name := "RING_MAP" },
  { index := 0x2030, stride := 0x0, count := 1, first := 1, last := 1, type := .u64, access := .ro, dflt := 0, lo := 0, hi := 18446744073709551615, ucode := 4, scale := -9, name := "RING_TIME" },
  { index := 0x2030, stride := 0x0, count := 1, first := 2, last := 2, type := .u8, access := .ro, dflt := 1, lo := 0, hi := 255, name := "RING_TIME_STATE" },
  { index := 0x2030, stride := 0x0, count := 1, first := 3, last := 3, type := .s32, access := .ro, dflt := 0, lo := -2147483648, hi := 2147483647, ucode := 4, scale := -12, name := "RING_TIME_OFS" },
  { index := 0x2030, stride := 0x0, count := 1, first := 4, last := 4, type := .s32, access := .ro, dflt := 0, lo := -2147483648, hi := 2147483647, ucode := 12, scale := -3, name := "RING_TIME_RATE" },
  { index := 0x2030, stride := 0x0, count := 1, first := 5, last := 5, type := .u32, access := .ro, dflt := 0, lo := 0, hi := 4294967295, name := "RING_TIME_STEPS" }
]

/-- Rows of the table: RING_IRQ_EN to HUB_PX_CONFLICTS. -/
def rackRing1 : List ObjRow := [
  { index := 0x2040, stride := 0x0, count := 1, first := 1, last := 1, type := .u16, access := .rw, dflt := 63, lo := 0, hi := 63, role := .configure, persist := true, name := "RING_IRQ_EN" },
  { index := 0x2040, stride := 0x0, count := 1, first := 2, last := 2, type := .u16, access := .ro, dflt := 0, lo := 0, hi := 65535, mask := some 0x3F, name := "RING_IRQ_SRC" },
  { index := 0x2040, stride := 0x0, count := 1, first := 3, last := 3, type := .u32, access := .ro, dflt := 0, lo := 0, hi := 4294967295, name := "RING_SPI_CRCERR" },
  { index := 0x2040, stride := 0x0, count := 1, first := 4, last := 4, type := .u32, access := .ro, dflt := 0, lo := 0, hi := 4294967295, name := "RING_OUTQ_DROPS" },
  { index := 0x2050, stride := 0x1, count := 4, first := 1, last := 1, type := .u16, access := .rw, dflt := 0, lo := 0, hi := 65535, role := .configure, persist := true, name := "RING_FT_CH" },
  { index := 0x2050, stride := 0x1, count := 4, first := 2, last := 2, type := .u32, access := .rw, dflt := 0, lo := 0, hi := 245758, role := .configure, persist := true, mask := some 0x3BFFE, name := "RING_FT_CAUSE" },
  { index := 0x2050, stride := 0x1, count := 4, first := 3, last := 3, type := .u8, access := .rw, dflt := 0, lo := 0, hi := 255, role := .configure, persist := true, name := "RING_FT_BUS" },
  { index := 0x2050, stride := 0x1, count := 4, first := 4, last := 4, type := .u8, access := .rw, dflt := 0, lo := 0, hi := 1, role := .configure, persist := true, name := "RING_FT_MODE" },
  { index := 0x2050, stride := 0x1, count := 4, first := 5, last := 5, type := .u16, access := .rw, dflt := 100, lo := 10, hi := 60000, role := .configure, persist := true, ucode := 4, scale := -6, name := "RING_FT_PULSE" },
  { index := 0x2050, stride := 0x1, count := 4, first := 6, last := 6, type := .u16, access := .rw, dflt := 0, lo := 0, hi := 65535, role := .configure, persist := true, name := "RING_FT_RXCH" },
  { index := 0x2050, stride := 0x1, count := 4, first := 7, last := 7, type := .u8, access := .ro, dflt := 0, lo := 0, hi := 255, mask := some 0x3, name := "RING_FT_STATE" },
  { index := 0x2050, stride := 0x1, count := 4, first := 8, last := 8, type := .u16, access := .ro, dflt := 4095, lo := 0, hi := 65535, name := "RING_FT_LAST" },
  { index := 0x2050, stride := 0x1, count := 4, first := 9, last := 9, type := .u32, access := .ro, dflt := 0, lo := 0, hi := 4294967295, name := "RING_FT_COUNT" },
  { index := 0x2060, stride := 0x0, count := 1, first := 1, last := 1, type := .u16, access := .rw, dflt := 4095, lo := 1, hi := 4095, role := .configure, persist := true, name := "HUB_PX_ADDR" },
  { index := 0x2060, stride := 0x0, count := 1, first := 2, last := 2, type := .u16, access := .rw, dflt := 0, lo := 0, hi := 65535, role := .configure, persist := true, name := "HUB_PX_PORTS" },
  { index := 0x2060, stride := 0x0, count := 1, first := 3, last := 3, type := .u16, access := .rw, dflt := 0, lo := 0, hi := 65535, role := .configure, persist := true, name := "HUB_PX_PREF" },
  { index := 0x2060, stride := 0x0, count := 1, first := 4, last := 4, type := .u8, access := .ro, dflt := 0, lo := 0, hi := 255, name := "HUB_PX_STATE" },
  { index := 0x2060, stride := 0x0, count := 1, first := 5, last := 5, type := .u16, access := .cmd, dflt := 0, lo := 0, hi := 65535, role := .operate, name := "HUB_PX_MOVE" },
  { index := 0x2060, stride := 0x0, count := 1, first := 6, last := 6, type := .u16, access := .ro, dflt := 0, lo := 0, hi := 65535, name := "HUB_PX_OWNED" },
  { index := 0x2060, stride := 0x0, count := 1, first := 7, last := 7, type := .u32, access := .ro, dflt := 0, lo := 0, hi := 4294967295, name := "HUB_PX_DIGEST" },
  { index := 0x2060, stride := 0x0, count := 1, first := 8, last := 8, type := .u32, access := .ro, dflt := 0, lo := 0, hi := 4294967295, name := "HUB_PX_MOVES" },
  { index := 0x2060, stride := 0x0, count := 1, first := 9, last := 9, type := .u32, access := .ro, dflt := 0, lo := 0, hi := 4294967295, name := "HUB_PX_TAKEOVERS" },
  { index := 0x2060, stride := 0x0, count := 1, first := 10, last := 10, type := .u32, access := .ro, dflt := 0, lo := 0, hi := 4294967295, name := "HUB_PX_CONFLICTS" }
]

/-- Rows of the table: BUS_MEMBERS to BUS_XFER_ONFAULT. -/
def rackBus0 : List ObjRow := [
  { index := 0x3000, stride := 0x100, count := 8, first := 1, last := 1, type := .u16, access := .ro, dflt := 0, lo := 0, hi := 65535, unit := .bus, name := "BUS_MEMBERS" },
  { index := 0x3000, stride := 0x100, count := 8, first := 2, last := 2, type := .u16, access := .ro, dflt := 0, lo := 0, hi := 65535, unit := .bus, name := "BUS_FEEDS" },
  { index := 0x3000, stride := 0x100, count := 8, first := 3, last := 3, type := .u8, access := .ro, dflt := 255, lo := 0, hi := 255, unit := .bus, name := "BUS_PRE" },
  { index := 0x3000, stride := 0x100, count := 8, first := 4, last := 4, type := .u8, access := .ro, dflt := 255, lo := 0, hi := 255, unit := .bus, name := "BUS_DIS" },
  { index := 0x3000, stride := 0x100, count := 8, first := 5, last := 5, type := .u8, access := .ro, dflt := 255, lo := 0, hi := 255, unit := .bus, name := "BUS_VSRC" },
  { index := 0x3010, stride := 0x100, count := 8, first := 1, last := 1, type := .bool, access := .rws, dflt := 1, lo := 0, hi := 1, role := .configure, unit := .bus, persist := true, name := "BUS_BF_EN" },
  { index := 0x3010, stride := 0x100, count := 8, first := 2, last := 2, type := .u16, access := .rws, dflt := 400, lo := 20, hi := 400, role := .configure, unit := .bus, persist := true, ucode := 4, scale := -9, mult := 5, name := "BUS_BF_WIN" },
  { index := 0x3010, stride := 0x100, count := 8, first := 3, last := 3, type := .u8, access := .ro, dflt := 0, lo := 0, hi := 255, unit := .bus, name := "BUS_BF_STATE" },
  { index := 0x3010, stride := 0x100, count := 8, first := 4, last := 4, type := .u16, access := .ro, dflt := 0, lo := 0, hi := 65535, unit := .bus, name := "BUS_BF_FEEDS" },
  { index := 0x3010, stride := 0x100, count := 8, first := 5, last := 5, type := .u64, access := .ro, dflt := 0, lo := 0, hi := 18446744073709551615, unit := .bus, ucode := 4, scale := -9, name := "BUS_BF_TIME" },
  { index := 0x3010, stride := 0x100, count := 8, first := 6, last := 6, type := .u32, access := .ro, dflt := 0, lo := 0, hi := 4294967295, unit := .bus, name := "BUS_BF_COUNT" },
  { index := 0x3010, stride := 0x100, count := 8, first := 7, last := 7, type := .bool, access := .cmd, dflt := 0, lo := 0, hi := 1, role := .operate, unit := .bus, name := "BUS_BF_CLEAR" },
  { index := 0x3020, stride := 0x100, count := 8, first := 1, last := 1, type := .u8, access := .rws, dflt := 1, lo := 0, hi := 2, role := .configure, unit := .bus, persist := true, name := "BUS_FMODE" },
  { index := 0x3020, stride := 0x100, count := 8, first := 2, last := 2, type := .u32, access := .rws, dflt := 4294967295, lo := 0, hi := 4294967295, role := .configure, unit := .bus, persist := true, mask := some 0xFFFFFFFF, name := "BUS_RANK" },
  { index := 0x3020, stride := 0x100, count := 8, first := 3, last := 3, type := .u16, access := .rws, dflt := 20, lo := 2, hi := 10000, role := .configure, unit := .bus, persist := true, ucode := 4, scale := -6, name := "BUS_TBBM" },
  { index := 0x3020, stride := 0x100, count := 8, first := 4, last := 4, type := .u16, access := .rws, dflt := 500, lo := 100, hi := 2000, role := .configure, unit := .bus, persist := true, ucode := 11, scale := -2, name := "BUS_XFER_BAND" },
  { index := 0x3020, stride := 0x100, count := 8, first := 5, last := 5, type := .u16, access := .rws, dflt := 2500, lo := 10, hi := 15000, role := .configure, unit := .bus, persist := true, ucode := 2, scale := -1, name := "BUS_VFEED_MIN" },
  { index := 0x3020, stride := 0x100, count := 8, first := 6, last := 6, type := .u16, access := .rws, dflt := 4800, lo := 10, hi := 15000, role := .configure, unit := .bus, persist := true, ucode := 2, scale := -1, name := "BUS_VFEED_MAX" },
  { index := 0x3020, stride := 0x100, count := 8, first := 7, last := 7, type := .u16, access := .rws, dflt := 100, lo := 1, hi := 65535, role := .configure, unit := .bus, persist := true, ucode := 4, scale := -3, name := "BUS_THEALTH" },
  { index := 0x3020, stride := 0x100, count := 8, first := 8, last := 8, type := .u16, access := .rws, dflt := 10, lo := 1, hi := 10000, role := .configure, unit := .bus, persist := true, ucode := 4, scale := -6, name := "BUS_TLOSS" },
  { index := 0x3020, stride := 0x100, count := 8, first := 9, last := 9, type := .bool, access := .rws, dflt := 0, lo := 0, hi := 1, role := .configure, unit := .bus, persist := true, name := "BUS_REVERT" },
  { index := 0x3020, stride := 0x100, count := 8, first := 10, last := 10, type := .u32, access := .rws, dflt := 10000, lo := 1, hi := 3600000, role := .configure, unit := .bus, persist := true, ucode := 4, scale := -3, name := "BUS_TREVERT" },
  { index := 0x3020, stride := 0x100, count := 8, first := 11, last := 11, type := .u16, access := .rws, dflt := 10, lo := 1, hi := 1000, role := .configure, unit := .bus, persist := true, ucode := 4, scale := -3, name := "BUS_TXFER_MAX" },
  { index := 0x3020, stride := 0x100, count := 8, first := 12, last := 12, type := .bool, access := .rws, dflt := 0, lo := 0, hi := 1, role := .configure, unit := .bus, persist := true, name := "BUS_XFER_PRE" },
  { index := 0x3020, stride := 0x100, count := 8, first := 13, last := 13, type := .bool, access := .rws, dflt := 0, lo := 0, hi := 1, role := .configure, unit := .bus, persist := true, name := "BUS_XFER_ONFAULT" }
]

/-- Rows of the table: BUS_ORENG to BUS_COMMIT_FAILOBJ. -/
def rackBus1 : List ObjRow := [
  { index := 0x3020, stride := 0x100, count := 8, first := 14, last := 14, type := .u8, access := .rws, dflt := 255, lo := 0, hi := 3, extra := some 0xFF, role := .configure, unit := .bus, persist := true, name := "BUS_ORENG" },
  { index := 0x3020, stride := 0x100, count := 8, first := 15, last := 15, type := .u16, access := .rws, dflt := 50, lo := 20, hi := 200, role := .configure, unit := .bus, persist := true, ucode := 2, scale := -3, name := "BUS_OR_VFWD" },
  { index := 0x3020, stride := 0x100, count := 8, first := 16, last := 16, type := .u8, access := .rws, dflt := 0, lo := 0, hi := 1, role := .configure, unit := .bus, persist := true, name := "BUS_OR_SHARE" },
  { index := 0x3020, stride := 0x100, count := 8, first := 17, last := 17, type := .u16, access := .rws, dflt := 500, lo := 100, hi := 5000, role := .configure, unit := .bus, persist := true, ucode := 2, scale := -3, name := "BUS_OR_VON" },
  { index := 0x3020, stride := 0x100, count := 8, first := 18, last := 18, type := .u16, access := .rws, dflt := 20, lo := 1, hi := 10000, role := .configure, unit := .bus, persist := true, ucode := 4, scale := -6, name := "BUS_OR_TON" },
  { index := 0x3020, stride := 0x100, count := 8, first := 19, last := 19, type := .u16, access := .rws, dflt := 200, lo := 20, hi := 200, role := .configure, unit := .bus, persist := true, ucode := 2, scale := -3, name := "BUS_OR_VMAX" },
  { index := 0x3020, stride := 0x100, count := 8, first := 20, last := 20, type := .u8, access := .rws, dflt := 50, lo := 10, hi := 90, role := .configure, unit := .bus, persist := true, ucode := 11, name := "BUS_OR_RATIO" },
  { index := 0x3021, stride := 0x100, count := 8, first := 1, last := 1, type := .u8, access := .ro, dflt := 255, lo := 0, hi := 255, unit := .bus, name := "BUS_SEL" },
  { index := 0x3021, stride := 0x100, count := 8, first := 2, last := 2, type := .u8, access := .ro, dflt := 0, lo := 0, hi := 255, unit := .bus, name := "BUS_XFER_STATE" },
  { index := 0x3021, stride := 0x100, count := 8, first := 3, last := 3, type := .u16, access := .ro, dflt := 0, lo := 0, hi := 65535, unit := .bus, name := "BUS_ELIGIBLE" },
  { index := 0x3021, stride := 0x100, count := 8, first := 4, last := 4, type := .u32, access := .ro, dflt := 0, lo := 0, hi := 4294967295, unit := .bus, checkpointed := true, name := "BUS_XFERS" },
  { index := 0x3021, stride := 0x100, count := 8, first := 5, last := 5, type := .u32, access := .ro, dflt := 0, lo := 0, hi := 4294967295, unit := .bus, ucode := 4, scale := -9, name := "BUS_XFER_GAP" },
  { index := 0x3021, stride := 0x100, count := 8, first := 6, last := 6, type := .u16, access := .ro, dflt := 0, lo := 0, hi := 65535, unit := .bus, ucode := 2, scale := -1, name := "BUS_XFER_DROOP" },
  { index := 0x3021, stride := 0x100, count := 8, first := 7, last := 7, type := .u32, access := .ro, dflt := 0, lo := 0, hi := 4294967295, unit := .bus, checkpointed := true, name := "BUS_XFER_FAILS" },
  { index := 0x3021, stride := 0x100, count := 8, first := 8, last := 8, type := .u8, access := .ro, dflt := 0, lo := 0, hi := 255, unit := .bus, mask := some 0xF, name := "BUS_OR_STATE" },
  { index := 0x3021, stride := 0x100, count := 8, first := 9, last := 9, type := .u32, access := .ro, dflt := 0, lo := 0, hi := 4294967295, unit := .bus, mask := some 0xFFFFFFFF, name := "BUS_OR_VTGT" },
  { index := 0x3021, stride := 0x100, count := 8, first := 10, last := 10, type := .u32, access := .ro, dflt := 0, lo := 0, hi := 4294967295, unit := .bus, checkpointed := true, name := "BUS_OR_BLOCKS" },
  { index := 0x3021, stride := 0x100, count := 8, first := 11, last := 11, type := .bool, access := .cmd, dflt := 0, lo := 0, hi := 1, role := .operate, unit := .bus, name := "BUS_XFER_RESUME" },
  { index := 0x30F0, stride := 0x100, count := 8, first := 1, last := 1, type := .u8, access := .cmd, dflt := 0, lo := 1, hi := 2, role := .configure, unit := .bus, name := "BUS_COMMIT" },
  { index := 0x30F0, stride := 0x100, count := 8, first := 2, last := 2, type := .u8, access := .ro, dflt := 0, lo := 0, hi := 255, unit := .bus, name := "BUS_COMMIT_RES" },
  { index := 0x30F0, stride := 0x100, count := 8, first := 3, last := 3, type := .bool, access := .ro, dflt := 0, lo := 0, hi := 1, unit := .bus, name := "BUS_COMMIT_DIRTY" },
  { index := 0x30F0, stride := 0x100, count := 8, first := 4, last := 4, type := .u32, access := .ro, dflt := 0, lo := 0, hi := 4294967295, unit := .bus, name := "BUS_COMMIT_COUNT" },
  { index := 0x30F0, stride := 0x100, count := 8, first := 5, last := 5, type := .u64, access := .ro, dflt := 0, lo := 0, hi := 18446744073709551615, unit := .bus, ucode := 4, scale := -9, name := "BUS_COMMIT_TIME" },
  { index := 0x30F0, stride := 0x100, count := 8, first := 6, last := 6, type := .u32, access := .ro, dflt := 0, lo := 0, hi := 4294967295, unit := .bus, mask := some 0xFFFFFF, name := "BUS_COMMIT_FAILOBJ" }
]

/-- Rows of the table: CH_STATE to CH_GPRE_OFF. -/
def rackChan0 : List ObjRow := [
  { index := 0x4000, stride := 0x200, count := 16, first := 1, last := 1, type := .u8, access := .ro, dflt := 0, lo := 0, hi := 255, unit := .chan, name := "CH_STATE" },
  { index := 0x4000, stride := 0x200, count := 16, first := 2, last := 2, type := .bool, access := .cmd, dflt := 0, lo := 0, hi := 1, role := .operate, unit := .chan, name := "CH_ENABLE" },
  { index := 0x4000, stride := 0x200, count := 16, first := 3, last := 3, type := .bool, access := .cmd, dflt := 0, lo := 0, hi := 1, role := .service, unit := .chan, name := "CH_DMG_CLEAR" },
  { index := 0x4000, stride := 0x200, count := 16, first := 4, last := 4, type := .u8, access := .ro, dflt := 0, lo := 0, hi := 255, unit := .chan, name := "CH_POD_STATE" },
  { index := 0x4000, stride := 0x200, count := 16, first := 5, last := 5, type := .u8, access := .ro, dflt := 0, lo := 0, hi := 255, unit := .chan, mask := some 0x7, name := "CH_POD_SUPPLY" },
  { index := 0x4002, stride := 0x200, count := 16, first := 1, last := 1, type := .u16, access := .rws, dflt := 50, lo := 0, hi := 2000, role := .configure, unit := .chan, persist := true, ucode := 4, scale := -3, name := "CH_THOLD" },
  { index := 0x4002, stride := 0x200, count := 16, first := 2, last := 2, type := .u8, access := .ro, dflt := 255, lo := 0, hi := 255, unit := .chan, name := "CH_OWNER" },
  { index := 0x4002, stride := 0x200, count := 16, first := 3, last := 3, type := .u8, access := .ro, dflt := 0, lo := 0, hi := 255, unit := .chan, name := "CH_OEPOCH" },
  { index := 0x4002, stride := 0x200, count := 16, first := 4, last := 4, type := .u16, access := .ro, dflt := 0, lo := 0, hi := 65535, unit := .chan, ucode := 4, scale := -3, name := "CH_HOLD_LEFT" },
  { index := 0x4002, stride := 0x200, count := 16, first := 5, last := 5, type := .u32, access := .ro, dflt := 0, lo := 0, hi := 4294967295, unit := .chan, name := "CH_HOLDS" },
  { index := 0x4002, stride := 0x200, count := 16, first := 6, last := 6, type := .u8, access := .ro, dflt := 0, lo := 0, hi := 255, unit := .chan, name := "CH_CFG_SRC" },
  { index := 0x4010, stride := 0x200, count := 16, first := 1, last := 1, type := .u8, access := .rws, dflt := 0, lo := 0, hi := 2, role := .configure, unit := .chan, persist := true, name := "CH_ROLE" },
  { index := 0x4010, stride := 0x200, count := 16, first := 2, last := 2, type := .u8, access := .rws, dflt := 255, lo := 0, hi := 7, extra := some 0xFF, role := .configure, unit := .chan, persist := true, name := "CH_BUS" },
  { index := 0x4011, stride := 0x200, count := 16, first := 1, last := 1, type := .u32, access := .rws, dflt := 100000, lo := 1000, hi := 10000000, role := .configure, unit := .chan, persist := true, ucode := 6, scale := -9, name := "CH_RSHUNT" },
  { index := 0x4011, stride := 0x200, count := 16, first := 2, last := 2, type := .u8, access := .rws, dflt := 1, lo := 0, hi := 1, role := .configure, unit := .chan, persist := true, name := "CH_IRANGE" },
  { index := 0x4011, stride := 0x200, count := 16, first := 3, last := 3, type := .q1616, access := .rws, dflt := 26279936, lo := 6553600, hi := 131072000, role := .configure, unit := .chan, persist := true, name := "CH_KDIV_IN" },
  { index := 0x4011, stride := 0x200, count := 16, first := 4, last := 4, type := .q1616, access := .rws, dflt := 26279936, lo := 6553600, hi := 131072000, role := .configure, unit := .chan, persist := true, name := "CH_KDIV_OUT" },
  { index := 0x4011, stride := 0x200, count := 16, first := 5, last := 5, type := .q1616, access := .rws, dflt := 26279936, lo := 6553600, hi := 131072000, role := .configure, unit := .chan, persist := true, name := "CH_KDIV_NEG" },
  { index := 0x4011, stride := 0x200, count := 16, first := 6, last := 6, type := .u32, access := .rws, dflt := 10000, lo := 1000, hi := 100000, role := .configure, unit := .chan, persist := true, ucode := 6, name := "CH_NTC_R25" },
  { index := 0x4011, stride := 0x200, count := 16, first := 7, last := 7, type := .u16, access := .rws, dflt := 3435, lo := 2000, hi := 5000, role := .configure, unit := .chan, persist := true, ucode := 14, name := "CH_NTC_BETA" },
  { index := 0x4011, stride := 0x200, count := 16, first := 8, last := 8, type := .u32, access := .ro, dflt := 1600000, lo := 0, hi := 4294967295, unit := .chan, ucode := 1, scale := -3, name := "CH_IFS" },
  { index := 0x4020, stride := 0x200, count := 16, first := 1, last := 1, type := .s16, access := .rws, dflt := 2000, lo := -8000, hi := 15000, role := .configure, unit := .chan, persist := true, ucode := 2, scale := -3, name := "CH_GPRE_ON" },
  { index := 0x4020, stride := 0x200, count := 16, first := 2, last := 2, type := .s16, access := .rws, dflt := 10000, lo := 0, hi := 20000, role := .configure, unit := .chan, persist := true, ucode := 2, scale := -3, name := "CH_GEXIT_ON" },
  { index := 0x4020, stride := 0x200, count := 16, first := 3, last := 3, type := .u8, access := .rws, dflt := 10, lo := 1, hi := 255, role := .configure, unit := .chan, persist := true, ucode := 1, scale := -3, name := "CH_ISLEW_ON" },
  { index := 0x4020, stride := 0x200, count := 16, first := 4, last := 4, type := .s16, access := .rws, dflt := 9000, lo := 0, hi := 20000, role := .configure, unit := .chan, persist := true, ucode := 2, scale := -3, name := "CH_GPRE_OFF" }
]

/-- Rows of the table: CH_GEXIT_OFF to CH_VDESAT. -/
def rackChan1 : List ObjRow := [
  { index := 0x4020, stride := 0x200, count := 16, first := 5, last := 5, type := .s16, access := .rws, dflt := 1000, lo := -8000, hi := 15000, role := .configure, unit := .chan, persist := true, ucode := 2, scale := -3, name := "CH_GEXIT_OFF" },
  { index := 0x4020, stride := 0x200, count := 16, first := 6, last := 6, type := .u8, access := .rws, dflt := 20, lo := 1, hi := 255, role := .configure, unit := .chan, persist := true, ucode := 1, scale := -3, name := "CH_ISLEW_OFF" },
  { index := 0x4020, stride := 0x200, count := 16, first := 7, last := 7, type := .u8, access := .rws, dflt := 100, lo := 1, hi := 255, role := .configure, unit := .chan, persist := true, ucode := 1, scale := -3, name := "CH_ISOFT" },
  { index := 0x4020, stride := 0x200, count := 16, first := 8, last := 8, type := .u16, access := .rws, dflt := 1000, lo := 1, hi := 65535, role := .configure, unit := .chan, persist := true, ucode := 4, scale := -5, name := "CH_TSLEW_ON" },
  { index := 0x4020, stride := 0x200, count := 16, first := 9, last := 9, type := .u16, access := .rws, dflt := 100, lo := 1, hi := 65535, role := .configure, unit := .chan, persist := true, ucode := 4, scale := -5, name := "CH_TOFF_MAX" },
  { index := 0x4020, stride := 0x200, count := 16, first := 10, last := 10, type := .u8, access := .rws, dflt := 0, lo := 0, hi := 3, role := .configure, unit := .chan, persist := true, name := "CH_GORDER" },
  { index := 0x4020, stride := 0x200, count := 16, first := 11, last := 11, type := .bool, access := .rws, dflt := 1, lo := 0, hi := 1, role := .configure, unit := .chan, persist := true, name := "CH_VNEG_USE" },
  { index := 0x4021, stride := 0x200, count := 16, first := 1, last := 1, type := .u8, access := .ro, dflt := 9, lo := 0, hi := 255, unit := .chan, name := "CH_GPHASE_IN" },
  { index := 0x4021, stride := 0x200, count := 16, first := 2, last := 2, type := .u8, access := .ro, dflt := 9, lo := 0, hi := 255, unit := .chan, name := "CH_GPHASE_OUT" },
  { index := 0x4021, stride := 0x200, count := 16, first := 3, last := 3, type := .u8, access := .ro, dflt := 0, lo := 0, hi := 255, unit := .chan, name := "CH_GPROFILE" },
  { index := 0x4021, stride := 0x200, count := 16, first := 4, last := 4, type := .u16, access := .ro, dflt := 3, lo := 0, hi := 65535, unit := .chan, mask := some 0xFF, name := "CH_GSTAT" },
  { index := 0x4021, stride := 0x200, count := 16, first := 5, last := 5, type := .u16, access := .ro, dflt := 0, lo := 0, hi := 65535, unit := .chan, ucode := 2, scale := -3, name := "CH_VPOS_MV" },
  { index := 0x4021, stride := 0x200, count := 16, first := 6, last := 6, type := .s16, access := .ro, dflt := 0, lo := -32768, hi := 32767, unit := .chan, ucode := 2, scale := -3, name := "CH_VNEG_MV" },
  { index := 0x4021, stride := 0x200, count := 16, first := 7, last := 7, type := .u32, access := .ro, dflt := 0, lo := 0, hi := 4294967295, unit := .chan, ucode := 4, scale := -6, name := "CH_TLAST_ON" },
  { index := 0x4021, stride := 0x200, count := 16, first := 8, last := 8, type := .u64, access := .ro, dflt := 0, lo := 0, hi := 18446744073709551615, unit := .chan, checkpointed := true, name := "CH_GCYCLES" },
  { index := 0x4040, stride := 0x200, count := 16, first := 1, last := 1, type := .u32, access := .rws, dflt := 1400000, lo := 1, hi := 10000000, role := .configure, unit := .chan, persist := true, ucode := 1, scale := -3, name := "CH_ISC2" },
  { index := 0x4040, stride := 0x200, count := 16, first := 2, last := 2, type := .u32, access := .rws, dflt := 1200000, lo := 1, hi := 10000000, role := .configure, unit := .chan, persist := true, ucode := 1, scale := -3, name := "CH_ISC1" },
  { index := 0x4040, stride := 0x200, count := 16, first := 3, last := 3, type := .u8, access := .rws, dflt := 20, lo := 0, hi := 255, role := .configure, unit := .chan, persist := true, ucode := 4, scale := -9, mult := 5, name := "CH_TSC1" },
  { index := 0x4040, stride := 0x200, count := 16, first := 4, last := 4, type := .u32, access := .rws, dflt := 1000000, lo := 1, hi := 10000000, role := .configure, unit := .chan, persist := true, ucode := 1, scale := -3, name := "CH_IOCL" },
  { index := 0x4040, stride := 0x200, count := 16, first := 5, last := 5, type := .u16, access := .rws, dflt := 10, lo := 1, hi := 1000, role := .configure, unit := .chan, persist := true, ucode := 4, scale := -6, name := "CH_TLIM_EXIT" },
  { index := 0x4040, stride := 0x200, count := 16, first := 6, last := 6, type := .u32, access := .rws, dflt := 100000, lo := 1, hi := 10000000, role := .configure, unit := .chan, persist := true, ucode := 1, scale := -3, name := "CH_IREV" },
  { index := 0x4040, stride := 0x200, count := 16, first := 7, last := 7, type := .bool, access := .rws, dflt := 0, lo := 0, hi := 1, role := .configure, unit := .chan, persist := true, name := "CH_REV_EN" },
  { index := 0x4040, stride := 0x200, count := 16, first := 8, last := 8, type := .u8, access := .rws, dflt := 0, lo := 0, hi := 255, role := .configure, unit := .chan, persist := true, ucode := 4, scale := -9, mult := 5, name := "CH_TREV" },
  { index := 0x4040, stride := 0x200, count := 16, first := 9, last := 9, type := .u8, access := .rws, dflt := 30, lo := 0, hi := 255, role := .configure, unit := .chan, persist := true, ucode := 4, scale := -8, mult := 5, name := "CH_TBLANK" },
  { index := 0x4040, stride := 0x200, count := 16, first := 10, last := 10, type := .u16, access := .rws, dflt := 7000, lo := 2000, hi := 10000, role := .configure, unit := .chan, persist := true, ucode := 2, scale := -3, name := "CH_VDESAT" }
]

/-- Rows of the table: CH_VOV to CH_FTB3. -/
def rackChan2 : List ObjRow := [
  { index := 0x4041, stride := 0x200, count := 16, first := 1, last := 1, type := .u16, access := .rws, dflt := 4800, lo := 10, hi := 15000, role := .configure, unit := .chan, persist := true, ucode := 2, scale := -1, name := "CH_VOV" },
  { index := 0x4041, stride := 0x200, count := 16, first := 2, last := 2, type := .u16, access := .rws, dflt := 2500, lo := 10, hi := 15000, role := .configure, unit := .chan, persist := true, ucode := 2, scale := -1, name := "CH_VUV" },
  { index := 0x4041, stride := 0x200, count := 16, first := 3, last := 3, type := .u16, access := .rws, dflt := 10, lo := 1, hi := 10000, role := .configure, unit := .chan, persist := true, ucode := 4, scale := -6, name := "CH_TBUSW" },
  { index := 0x4041, stride := 0x200, count := 16, first := 4, last := 4, type := .s16, access := .rws, dflt := 110, lo := -40, hi := 200, role := .configure, unit := .chan, persist := true, ucode := 5, name := "CH_TWARN" },
  { index := 0x4041, stride := 0x200, count := 16, first := 5, last := 5, type := .s16, access := .rws, dflt := 130, lo := -40, hi := 200, role := .configure, unit := .chan, persist := true, ucode := 5, name := "CH_TTRIP" },
  { index := 0x4041, stride := 0x200, count := 16, first := 6, last := 6, type := .u8, access := .rws, dflt := 10, lo := 1, hi := 50, role := .configure, unit := .chan, persist := true, ucode := 5, name := "CH_THYST" },
  { index := 0x4042, stride := 0x200, count := 16, first := 1, last := 1, type := .u8, access := .rws, dflt := 3, lo := 0, hi := 3, role := .configure, unit := .chan, persist := true, mask := some 0x3, name := "CH_DMG_EN" },
  { index := 0x4042, stride := 0x200, count := 16, first := 2, last := 2, type := .u16, access := .rws, dflt := 600, lo := 100, hi := 2000, role := .configure, unit := .chan, persist := true, ucode := 2, scale := -1, name := "CH_VOUTP" },
  { index := 0x4042, stride := 0x200, count := 16, first := 3, last := 3, type := .u32, access := .rws, dflt := 50, lo := 1, hi := 600000, role := .configure, unit := .chan, persist := true, ucode := 4, scale := -3, name := "CH_TDECAY" },
  { index := 0x4042, stride := 0x200, count := 16, first := 4, last := 4, type := .u16, access := .rws, dflt := 1000, lo := 100, hi := 60000, role := .configure, unit := .chan, persist := true, ucode := 4, scale := -3, name := "CH_STEST_PER" },
  { index := 0x4042, stride := 0x200, count := 16, first := 5, last := 5, type := .u16, access := .rws, dflt := 100, lo := 10, hi := 1000, role := .configure, unit := .chan, persist := true, ucode := 4, scale := -3, name := "CH_STEST_ONL" },
  { index := 0x4043, stride := 0x200, count := 16, first := 1, last := 1, type := .u32, access := .ro, dflt := 1400000, lo := 0, hi := 4294967295, unit := .chan, ucode := 1, scale := -3, name := "CH_ISC2_EFF" },
  { index := 0x4043, stride := 0x200, count := 16, first := 2, last := 2, type := .u32, access := .ro, dflt := 1200000, lo := 0, hi := 4294967295, unit := .chan, ucode := 1, scale := -3, name := "CH_ISC1_EFF" },
  { index := 0x4043, stride := 0x200, count := 16, first := 3, last := 3, type := .u32, access := .ro, dflt := 1000000, lo := 0, hi := 4294967295, unit := .chan, ucode := 1, scale := -3, name := "CH_IOCL_EFF" },
  { index := 0x4043, stride := 0x200, count := 16, first := 4, last := 4, type := .u32, access := .ro, dflt := 100000, lo := 0, hi := 4294967295, unit := .chan, ucode := 1, scale := -3, name := "CH_IREV_EFF" },
  { index := 0x4043, stride := 0x200, count := 16, first := 5, last := 5, type := .u16, access := .ro, dflt := 0, lo := 0, hi := 65535, unit := .chan, ucode := 2, scale := -1, name := "CH_VUV_EFF" },
  { index := 0x4043, stride := 0x200, count := 16, first := 6, last := 6, type := .u16, access := .ro, dflt := 0, lo := 0, hi := 65535, unit := .chan, ucode := 2, scale := -1, name := "CH_VOV_EFF" },
  { index := 0x4043, stride := 0x200, count := 16, first := 7, last := 7, type := .s16, access := .ro, dflt := 32767, lo := -32768, hi := 32767, unit := .chan, ucode := 5, name := "CH_TEMP_STACK" },
  { index := 0x4043, stride := 0x200, count := 16, first := 8, last := 8, type := .s16, access := .ro, dflt := 32767, lo := -32768, hi := 32767, unit := .chan, ucode := 5, name := "CH_TEMP_DIE" },
  { index := 0x4043, stride := 0x200, count := 16, first := 9, last := 9, type := .u8, access := .ro, dflt := 0, lo := 0, hi := 255, unit := .chan, checkpointed := true, mask := some 0x3F, name := "CH_DMG_DETAIL" },
  { index := 0x4060, stride := 0x200, count := 16, first := 1, last := 1, type := .u16, access := .rws, dflt := 1000, lo := 0, hi := 65535, role := .configure, unit := .chan, persist := true, name := "CH_FT_COUNT" },
  { index := 0x4060, stride := 0x200, count := 16, first := 2, last := 2, type := .u8, access := .rws, dflt := 0, lo := 0, hi := 1, role := .configure, unit := .chan, persist := true, name := "CH_FT_PRESC" },
  { index := 0x4060, stride := 0x200, count := 16, first := 3, last := 3, type := .u16, access := .rws, dflt := 25, lo := 1, hi := 1500, role := .configure, unit := .chan, persist := true, ucode := 2, name := "CH_FTB1" },
  { index := 0x4060, stride := 0x200, count := 16, first := 4, last := 4, type := .u16, access := .rws, dflt := 100, lo := 1, hi := 1500, role := .configure, unit := .chan, persist := true, ucode := 2, name := "CH_FTB2" },
  { index := 0x4060, stride := 0x200, count := 16, first := 5, last := 5, type := .u16, access := .rws, dflt := 400, lo := 1, hi := 1500, role := .configure, unit := .chan, persist := true, ucode := 2, name := "CH_FTB3" }
]

/-- Rows of the table: CH_FT_ACC to CH_PGSTAT. -/
def rackChan3 : List ObjRow := [
  { index := 0x4061, stride := 0x200, count := 16, first := 1, last := 1, type := .u32, access := .ro, dflt := 0, lo := 0, hi := 4294967295, unit := .chan, name := "CH_FT_ACC" },
  { index := 0x4061, stride := 0x200, count := 16, first := 2, last := 2, type := .u8, access := .ro, dflt := 0, lo := 0, hi := 255, unit := .chan, name := "CH_FT_BAND" },
  { index := 0x4061, stride := 0x200, count := 16, first := 3, last := 3, type := .u32, access := .ro, dflt := 0, lo := 0, hi := 4294967295, unit := .chan, name := "CH_FT_PEAK" },
  { index := 0x4061, stride := 0x200, count := 16, first := 4, last := 4, type := .u32, access := .ro, dflt := 0, lo := 0, hi := 4294967295, unit := .chan, checkpointed := true, name := "CH_LIMITS" },
  { index := 0x4080, stride := 0x200, count := 16, first := 1, last := 17, type := .u32, access := .rws, dflt := 256000, lo := 0, hi := 4294967295, role := .configure, unit := .chan, persist := true, mask := some 0xFFFF3F, name := "CH_RULE" },
  { index := 0x4080, stride := 0x200, count := 16, first := 18, last := 18, type := .u32, access := .rws, dflt := 10000, lo := 1, hi := 3600000, role := .configure, unit := .chan, persist := true, ucode := 4, scale := -3, name := "CH_RETRY_RESET" },
  { index := 0x4081, stride := 0x200, count := 16, first := 1, last := 1, type := .u8, access := .ro, dflt := 0, lo := 0, hi := 255, unit := .chan, name := "CH_TRIP_CAUSE" },
  { index := 0x4081, stride := 0x200, count := 16, first := 2, last := 2, type := .u32, access := .ro, dflt := 0, lo := 0, hi := 4294967295, unit := .chan, name := "CH_TRIP_SET" },
  { index := 0x4081, stride := 0x200, count := 16, first := 3, last := 3, type := .u64, access := .ro, dflt := 0, lo := 0, hi := 18446744073709551615, unit := .chan, ucode := 4, scale := -9, name := "CH_TRIP_TIME" },
  { index := 0x4081, stride := 0x200, count := 16, first := 4, last := 4, type := .u8, access := .ro, dflt := 0, lo := 0, hi := 255, unit := .chan, name := "CH_RETRY_N" },
  { index := 0x4081, stride := 0x200, count := 16, first := 5, last := 5, type := .u32, access := .ro, dflt := 4294967295, lo := 0, hi := 4294967295, unit := .chan, ucode := 4, scale := -3, name := "CH_RETRY_LEFT" },
  { index := 0x4081, stride := 0x200, count := 16, first := 6, last := 6, type := .u8, access := .ro, dflt := 0, lo := 0, hi := 255, unit := .chan, name := "CH_TRIP_CLASS" },
  { index := 0x4081, stride := 0x200, count := 16, first := 7, last := 7, type := .u32, access := .ro, dflt := 0, lo := 0, hi := 4294967295, unit := .chan, checkpointed := true, name := "CH_TRIPS" },
  { index := 0x40A0, stride := 0x200, count := 16, first := 1, last := 1, type := .u16, access := .rws, dflt := 20, lo := 1, hi := 10000, role := .configure, unit := .chan, persist := true, ucode := 4, scale := -4, name := "CH_TSEAT" },
  { index := 0x40A0, stride := 0x200, count := 16, first := 2, last := 2, type := .u16, access := .rws, dflt := 20, lo := 1, hi := 1000, role := .configure, unit := .chan, persist := true, ucode := 4, scale := -6, name := "CH_TSEATLOSS" },
  { index := 0x40A0, stride := 0x200, count := 16, first := 3, last := 3, type := .u16, access := .rws, dflt := 200, lo := 0, hi := 65535, role := .configure, unit := .chan, persist := true, ucode := 4, scale := -6, name := "CH_TPG" },
  { index := 0x40A0, stride := 0x200, count := 16, first := 4, last := 4, type := .u32, access := .rws, dflt := 1000, lo := 0, hi := 3600000, role := .configure, unit := .chan, persist := true, ucode := 4, scale := -3, name := "CH_TCOOL" },
  { index := 0x40A0, stride := 0x200, count := 16, first := 5, last := 5, type := .u32, access := .rws, dflt := 10000, lo := 0, hi := 3600000, role := .configure, unit := .chan, persist := true, ucode := 4, scale := -3, name := "CH_TRESEAT" },
  { index := 0x40A0, stride := 0x200, count := 16, first := 6, last := 6, type := .bool, access := .rws, dflt := 1, lo := 0, hi := 1, role := .configure, unit := .chan, persist := true, name := "CH_REINS_EN" },
  { index := 0x40A0, stride := 0x200, count := 16, first := 7, last := 7, type := .bool, access := .rws, dflt := 0, lo := 0, hi := 1, role := .configure, unit := .chan, persist := true, name := "CH_FLTQ_LIM" },
  { index := 0x40A0, stride := 0x200, count := 16, first := 8, last := 8, type := .u32, access := .rws, dflt := 0, lo := 0, hi := 50000, role := .configure, unit := .chan, persist := true, name := "CH_CLOAD" },
  { index := 0x40A0, stride := 0x200, count := 16, first := 9, last := 9, type := .u32, access := .rws, dflt := 20000, lo := 1, hi := 1000000, role := .configure, unit := .chan, persist := true, ucode := 8, scale := -3, name := "CH_ESLEW_MAX" },
  { index := 0x40A1, stride := 0x200, count := 16, first := 1, last := 1, type := .u8, access := .ro, dflt := 0, lo := 0, hi := 255, unit := .chan, mask := some 0xF, name := "CH_SEAT" },
  { index := 0x40A1, stride := 0x200, count := 16, first := 2, last := 2, type := .u16, access := .ro, dflt := 1, lo := 0, hi := 65535, unit := .chan, name := "CH_START_BLOCK" },
  { index := 0x40A1, stride := 0x200, count := 16, first := 3, last := 3, type := .u8, access := .ro, dflt := 0, lo := 0, hi := 255, unit := .chan, mask := some 0x7F, name := "CH_PGSTAT" }
]

/-- Rows of the table: CH_ESTART to ADC_VC_GAIN. -/
def rackChan4 : List ObjRow := [
  { index := 0x40A1, stride := 0x200, count := 16, first := 4, last := 4, type := .u32, access := .ro, dflt := 0, lo := 0, hi := 4294967295, unit := .chan, ucode := 8, scale := -3, name := "CH_ESTART" },
  { index := 0x40A1, stride := 0x200, count := 16, first := 5, last := 5, type := .u32, access := .ro, dflt := 0, lo := 0, hi := 4294967295, unit := .chan, ucode := 4, scale := -3, name := "CH_COOL_LEFT" },
  { index := 0x40A1, stride := 0x200, count := 16, first := 6, last := 6, type := .u32, access := .ro, dflt := 0, lo := 0, hi := 4294967295, unit := .chan, ucode := 4, scale := -3, name := "CH_RESEAT_LEFT" },
  { index := 0x40A1, stride := 0x200, count := 16, first := 7, last := 7, type := .u32, access := .ro, dflt := 0, lo := 0, hi := 4294967295, unit := .chan, checkpointed := true, name := "CH_REMOVALS" },
  { index := 0x40A1, stride := 0x200, count := 16, first := 8, last := 8, type := .u32, access := .ro, dflt := 0, lo := 0, hi := 4294967295, unit := .chan, ucode := 4, scale := -6, name := "CH_TSTART" },
  { index := 0x40C0, stride := 0x200, count := 16, first := 1, last := 1, type := .u8, access := .rws, dflt := 0, lo := 0, hi := 2, role := .configure, unit := .chan, persist := true, name := "ADC_PAIR" },
  { index := 0x40C0, stride := 0x200, count := 16, first := 2, last := 2, type := .u16, access := .rws, dflt := 7, lo := 0, hi := 65535, role := .configure, unit := .chan, persist := true, mask := some 0x7FF, name := "ADC_PAIR_TRIG" },
  { index := 0x40C0, stride := 0x200, count := 16, first := 3, last := 3, type := .u16, access := .rws, dflt := 1, lo := 1, hi := 1000, role := .configure, unit := .chan, persist := true, ucode := 4, scale := -3, name := "ADC_PARK_PER" },
  { index := 0x40C1, stride := 0x200, count := 16, first := 1, last := 1, type := .u8, access := .cmd, dflt := 0, lo := 1, hi := 1, role := .operate, unit := .chan, name := "ADC_CAL" },
  { index := 0x40C1, stride := 0x200, count := 16, first := 2, last := 2, type := .u8, access := .cmd, dflt := 0, lo := 1, hi := 2, role := .operate, unit := .chan, name := "ADC_RECAL" },
  { index := 0x40C1, stride := 0x200, count := 16, first := 3, last := 3, type := .u8, access := .ro, dflt := 0, lo := 0, hi := 255, unit := .chan, name := "ADC_CALSTATE" },
  { index := 0x40C1, stride := 0x200, count := 16, first := 4, last := 4, type := .u64, access := .ro, dflt := 0, lo := 0, hi := 18446744073709551615, unit := .chan, ucode := 4, scale := -9, name := "ADC_CAL_TIME" },
  { index := 0x40C1, stride := 0x200, count := 16, first := 5, last := 5, type := .s16, access := .ro, dflt := 32767, lo := -32768, hi := 32767, unit := .chan, ucode := 5, name := "ADC_CAL_TEMP" },
  { index := 0x40C1, stride := 0x200, count := 16, first := 6, last := 6, type := .u8, access := .ro, dflt := 0, lo := 0, hi := 255, unit := .chan, name := "ADC_MODE" },
  { index := 0x40C1, stride := 0x200, count := 16, first := 7, last := 7, type := .u8, access := .ro, dflt := 0, lo := 0, hi := 255, unit := .chan, mask := some 0x7, name := "ADC_HEALTH" },
  { index := 0x40C1, stride := 0x200, count := 16, first := 8, last := 8, type := .u32, access := .ro, dflt := 0, lo := 0, hi := 4294967295, unit := .chan, name := "ADC_URGENTS" },
  { index := 0x40C1, stride := 0x200, count := 16, first := 9, last := 9, type := .u32, access := .ro, dflt := 0, lo := 0, hi := 4294967295, unit := .chan, name := "ADC_ABORTS" },
  { index := 0x40C1, stride := 0x200, count := 16, first := 10, last := 10, type := .u32, access := .ro, dflt := 0, lo := 0, hi := 4294967295, unit := .chan, name := "ADC_PAIR_WINS" },
  { index := 0x40C1, stride := 0x200, count := 16, first := 11, last := 11, type := .u32, access := .ro, dflt := 0, lo := 0, hi := 4294967295, unit := .chan, name := "ADC_PAIR_MISSED" },
  { index := 0x40C1, stride := 0x200, count := 16, first := 12, last := 12, type := .u32, access := .ro, dflt := 0, lo := 0, hi := 4294967295, unit := .chan, name := "ADC_DISCARDS" },
  { index := 0x40C2, stride := 0x200, count := 16, first := 1, last := 4, type := .s16, access := .ro, dflt := 0, lo := -32768, hi := 32767, unit := .chan, name := "ADC_IC_OFS" },
  { index := 0x40C2, stride := 0x200, count := 16, first := 5, last := 8, type := .s16, access := .ro, dflt := 0, lo := -32768, hi := 32767, unit := .chan, ucode := 255, name := "ADC_IC_GAIN" },
  { index := 0x40C2, stride := 0x200, count := 16, first := 9, last := 12, type := .s16, access := .ro, dflt := 0, lo := -32768, hi := 32767, unit := .chan, ucode := 4, scale := -12, name := "ADC_IC_SKEW" },
  { index := 0x40C3, stride := 0x200, count := 16, first := 1, last := 4, type := .s16, access := .ro, dflt := 0, lo := -32768, hi := 32767, unit := .chan, name := "ADC_VC_OFS" },
  { index := 0x40C3, stride := 0x200, count := 16, first := 5, last := 8, type := .s16, access := .ro, dflt := 0, lo := -32768, hi := 32767, unit := .chan, ucode := 255, name := "ADC_VC_GAIN" }
]

/-- Rows of the table: ADC_VC_SKEW to MTR_CLEAR_TIME. -/
def rackChan5 : List ObjRow := [
  { index := 0x40C3, stride := 0x200, count := 16, first := 9, last := 12, type := .s16, access := .ro, dflt := 0, lo := -32768, hi := 32767, unit := .chan, ucode := 4, scale := -12, name := "ADC_VC_SKEW" },
  { index := 0x40C4, stride := 0x200, count := 16, first := 1, last := 1, type := .s16, access := .ro, dflt := 0, lo := -32768, hi := 32767, unit := .chan, name := "ADC_FE_OFS_LOW" },
  { index := 0x40C4, stride := 0x200, count := 16, first := 2, last := 2, type := .s16, access := .ro, dflt := 0, lo := -32768, hi := 32767, unit := .chan, name := "ADC_FE_OFS_HIGH" },
  { index := 0x40C4, stride := 0x200, count := 16, first := 3, last := 3, type := .s16, access := .ro, dflt := 0, lo := -32768, hi := 32767, unit := .chan, ucode := 255, name := "ADC_FE_GAIN_LOW" },
  { index := 0x40C4, stride := 0x200, count := 16, first := 4, last := 4, type := .s16, access := .ro, dflt := 0, lo := -32768, hi := 32767, unit := .chan, ucode := 255, name := "ADC_FE_GAIN_HIGH" },
  { index := 0x4100, stride := 0x200, count := 16, first := 1, last := 1, type := .u8, access := .rws, dflt := 72, lo := 0, hi := 255, role := .configure, unit := .chan, persist := true, mask := some 0xFF, name := "MTR_AVG" },
  { index := 0x4100, stride := 0x200, count := 16, first := 2, last := 4, type := .u8, access := .rws, dflt := 38, lo := 0, hi := 255, role := .configure, unit := .chan, persist := true, mask := some 0xFF, name := "MTR_AVG" },
  { index := 0x4100, stride := 0x200, count := 16, first := 5, last := 5, type := .u8, access := .rws, dflt := 68, lo := 0, hi := 255, role := .configure, unit := .chan, persist := true, mask := some 0xFF, name := "MTR_AVG" },
  { index := 0x4100, stride := 0x200, count := 16, first := 6, last := 6, type := .u16, access := .rws, dflt := 2000, lo := 300, hi := 10000, role := .configure, unit := .chan, persist := true, ucode := 4, scale := -9, name := "MTR_VAGE_MAX" },
  { index := 0x4101, stride := 0x200, count := 16, first := 1, last := 1, type := .s32, access := .ro, dflt := 0, lo := -2147483648, hi := 2147483647, unit := .chan, ucode := 1, scale := -3, name := "MTR_I" },
  { index := 0x4101, stride := 0x200, count := 16, first := 2, last := 2, type := .s32, access := .ro, dflt := 0, lo := -2147483648, hi := 2147483647, unit := .chan, ucode := 2, scale := -3, name := "MTR_VIN" },
  { index := 0x4101, stride := 0x200, count := 16, first := 3, last := 3, type := .s32, access := .ro, dflt := 0, lo := -2147483648, hi := 2147483647, unit := .chan, ucode := 2, scale := -3, name := "MTR_VOUT" },
  { index := 0x4101, stride := 0x200, count := 16, first := 4, last := 4, type := .s32, access := .ro, dflt := 0, lo := -2147483648, hi := 2147483647, unit := .chan, ucode := 3, name := "MTR_P" },
  { index := 0x4101, stride := 0x200, count := 16, first := 5, last := 9, type := .u32, access := .ro, dflt := 0, lo := 0, hi := 4294967295, unit := .chan, name := "MTR_AVG_WORD" },
  { index := 0x4101, stride := 0x200, count := 16, first := 10, last := 10, type := .u8, access := .ro, dflt := 1, lo := 0, hi := 255, unit := .chan, mask := some 0x7, name := "MTR_STATUS" },
  { index := 0x4102, stride := 0x200, count := 16, first := 1, last := 1, type := .s64, access := .ro, dflt := 0, lo := -9223372036854775808, hi := 9223372036854775807, unit := .chan, checkpointed := true, ucode := 7, scale := -6, name := "MTR_Q" },
  { index := 0x4102, stride := 0x200, count := 16, first := 2, last := 2, type := .s64, access := .ro, dflt := 0, lo := -9223372036854775808, hi := 9223372036854775807, unit := .chan, checkpointed := true, ucode := 8, scale := -3, name := "MTR_E" },
  { index := 0x4102, stride := 0x200, count := 16, first := 3, last := 3, type := .u64, access := .ro, dflt := 0, lo := 0, hi := 18446744073709551615, unit := .chan, checkpointed := true, ucode := 13, scale := -3, name := "MTR_I2T" },
  { index := 0x4102, stride := 0x200, count := 16, first := 4, last := 4, type := .u32, access := .ro, dflt := 0, lo := 0, hi := 4294967295, unit := .chan, checkpointed := true, name := "MTR_GAP_I" },
  { index := 0x4102, stride := 0x200, count := 16, first := 5, last := 5, type := .u32, access := .ro, dflt := 0, lo := 0, hi := 4294967295, unit := .chan, checkpointed := true, name := "MTR_GAP_V" },
  { index := 0x4102, stride := 0x200, count := 16, first := 6, last := 6, type := .u32, access := .ro, dflt := 0, lo := 0, hi := 4294967295, unit := .chan, checkpointed := true, name := "MTR_OR_I" },
  { index := 0x4102, stride := 0x200, count := 16, first := 7, last := 7, type := .u32, access := .ro, dflt := 0, lo := 0, hi := 4294967295, unit := .chan, checkpointed := true, name := "MTR_OR_V" },
  { index := 0x4102, stride := 0x200, count := 16, first := 8, last := 8, type := .u32, access := .ro, dflt := 0, lo := 0, hi := 4294967295, unit := .chan, checkpointed := true, ucode := 4, scale := -9, name := "MTR_VAGE_PEAK" },
  { index := 0x4102, stride := 0x200, count := 16, first := 9, last := 9, type := .u8, access := .ro, dflt := 0, lo := 0, hi := 255, unit := .chan, checkpointed := true, mask := some 0x7, name := "MTR_ACC_FLAGS" },
  { index := 0x4102, stride := 0x200, count := 16, first := 10, last := 10, type := .u64, access := .ro, dflt := 0, lo := 0, hi := 18446744073709551615, unit := .chan, checkpointed := true, ucode := 4, scale := -9, name := "MTR_CLEAR_TIME" }
]

/-- Rows of the table: MTR_SNAP_Q to CH_STACKTESTS. -/
def rackChan6 : List ObjRow := [
  { index := 0x4103, stride := 0x200, count := 16, first := 1, last := 1, type := .s64, access := .ro, dflt := 0, lo := -9223372036854775808, hi := 9223372036854775807, unit := .chan, ucode := 7, scale := -6, name := "MTR_SNAP_Q" },
  { index := 0x4103, stride := 0x200, count := 16, first := 2, last := 2, type := .s64, access := .ro, dflt := 0, lo := -9223372036854775808, hi := 9223372036854775807, unit := .chan, ucode := 8, scale := -3, name := "MTR_SNAP_E" },
  { index := 0x4103, stride := 0x200, count := 16, first := 3, last := 3, type := .u64, access := .ro, dflt := 0, lo := 0, hi := 18446744073709551615, unit := .chan, ucode := 13, scale := -3, name := "MTR_SNAP_I2T" },
  { index := 0x4103, stride := 0x200, count := 16, first := 4, last := 4, type := .s32, access := .ro, dflt := 0, lo := -2147483648, hi := 2147483647, unit := .chan, ucode := 2, scale := -3, name := "MTR_SNAP_VIN" },
  { index := 0x4103, stride := 0x200, count := 16, first := 5, last := 5, type := .s32, access := .ro, dflt := 0, lo := -2147483648, hi := 2147483647, unit := .chan, ucode := 2, scale := -3, name := "MTR_SNAP_VOUT" },
  { index := 0x4103, stride := 0x200, count := 16, first := 6, last := 6, type := .s32, access := .ro, dflt := 0, lo := -2147483648, hi := 2147483647, unit := .chan, ucode := 1, scale := -3, name := "MTR_SNAP_I" },
  { index := 0x4103, stride := 0x200, count := 16, first := 7, last := 7, type := .u8, access := .ro, dflt := 0, lo := 0, hi := 255, unit := .chan, mask := some 0x7, name := "MTR_SNAP_VALID" },
  { index := 0x4104, stride := 0x200, count := 16, first := 1, last := 1, type := .u8, access := .cmd, dflt := 0, lo := 1, hi := 7, role := .configure, unit := .chan, name := "MTR_CLEAR" },
  { index := 0x4140, stride := 0x200, count := 16, first := 1, last := 1, type := .u16, access := .rws, dflt := 1000, lo := 0, hi := 60000, role := .configure, unit := .chan, persist := true, ucode := 4, scale := -3, name := "MTR_MM_WIN" },
  { index := 0x4141, stride := 0x200, count := 16, first := 1, last := 1, type := .s32, access := .ro, dflt := 0, lo := -2147483648, hi := 2147483647, unit := .chan, checkpointed := true, ucode := 1, scale := -3, name := "MTR_MM_IMIN" },
  { index := 0x4141, stride := 0x200, count := 16, first := 2, last := 2, type := .s32, access := .ro, dflt := 0, lo := -2147483648, hi := 2147483647, unit := .chan, checkpointed := true, ucode := 1, scale := -3, name := "MTR_MM_IMAX" },
  { index := 0x4141, stride := 0x200, count := 16, first := 3, last := 3, type := .s32, access := .ro, dflt := 0, lo := -2147483648, hi := 2147483647, unit := .chan, checkpointed := true, ucode := 2, scale := -3, name := "MTR_MM_VINMIN" },
  { index := 0x4141, stride := 0x200, count := 16, first := 4, last := 4, type := .s32, access := .ro, dflt := 0, lo := -2147483648, hi := 2147483647, unit := .chan, checkpointed := true, ucode := 2, scale := -3, name := "MTR_MM_VINMAX" },
  { index := 0x4141, stride := 0x200, count := 16, first := 5, last := 5, type := .s32, access := .ro, dflt := 0, lo := -2147483648, hi := 2147483647, unit := .chan, checkpointed := true, ucode := 2, scale := -3, name := "MTR_MM_VOUTMIN" },
  { index := 0x4141, stride := 0x200, count := 16, first := 6, last := 6, type := .s32, access := .ro, dflt := 0, lo := -2147483648, hi := 2147483647, unit := .chan, checkpointed := true, ucode := 2, scale := -3, name := "MTR_MM_VOUTMAX" },
  { index := 0x4141, stride := 0x200, count := 16, first := 7, last := 7, type := .u8, access := .ro, dflt := 0, lo := 0, hi := 255, unit := .chan, checkpointed := true, mask := some 0xF, name := "MTR_MM_FLAGS" },
  { index := 0x4141, stride := 0x200, count := 16, first := 8, last := 8, type := .u64, access := .ro, dflt := 0, lo := 0, hi := 18446744073709551615, unit := .chan, ucode := 4, scale := -9, name := "MTR_MM_END" },
  { index := 0x4142, stride := 0x200, count := 16, first := 1, last := 6, type := .u64, access := .ro, dflt := 0, lo := 0, hi := 18446744073709551615, unit := .chan, checkpointed := true, ucode := 4, scale := -9, name := "MTR_MM_T" },
  { index := 0x4180, stride := 0x200, count := 16, first := 1, last := 8, type := .u8, access := .rws, dflt := 1, lo := 0, hi := 255, role := .configure, unit := .chan, persist := true, mask := some 0x3F, name := "CH_CMPCFG" },
  { index := 0x4180, stride := 0x200, count := 16, first := 9, last := 11, type := .u8, access := .rws, dflt := 11, lo := 0, hi := 255, role := .configure, unit := .chan, persist := true, mask := some 0x3F, name := "CH_CMPCFG" },
  { index := 0x4181, stride := 0x200, count := 16, first := 1, last := 1, type := .u16, access := .ro, dflt := 0, lo := 0, hi := 65535, unit := .chan, mask := some 0x7FF, name := "CH_CMP_OUT" },
  { index := 0x4181, stride := 0x200, count := 16, first := 2, last := 2, type := .u16, access := .ro, dflt := 0, lo := 0, hi := 65535, unit := .chan, name := "CH_CMP_CAPT" },
  { index := 0x4181, stride := 0x200, count := 16, first := 3, last := 3, type := .u16, access := .ro, dflt := 0, lo := 0, hi := 65535, unit := .chan, name := "CH_SELFTEST_FAIL" },
  { index := 0x4181, stride := 0x200, count := 16, first := 4, last := 4, type := .u32, access := .ro, dflt := 0, lo := 0, hi := 4294967295, unit := .chan, checkpointed := true, name := "CH_SELFTEST_ROUNDS" },
  { index := 0x4181, stride := 0x200, count := 16, first := 5, last := 5, type := .u32, access := .ro, dflt := 0, lo := 0, hi := 4294967295, unit := .chan, checkpointed := true, name := "CH_STACKTESTS" }
]

/-- Rows of the table: CH_COMMIT to CH_COMMIT_FAILOBJ. -/
def rackChan7 : List ObjRow := [
  { index := 0x41F0, stride := 0x200, count := 16, first := 1, last := 1, type := .u8, access := .cmd, dflt := 0, lo := 1, hi := 2, role := .configure, unit := .chan, name := "CH_COMMIT" },
  { index := 0x41F0, stride := 0x200, count := 16, first := 2, last := 2, type := .u8, access := .ro, dflt := 0, lo := 0, hi := 255, unit := .chan, name := "CH_COMMIT_RES" },
  { index := 0x41F0, stride := 0x200, count := 16, first := 3, last := 3, type := .bool, access := .ro, dflt := 0, lo := 0, hi := 1, unit := .chan, name := "CH_COMMIT_DIRTY" },
  { index := 0x41F0, stride := 0x200, count := 16, first := 4, last := 4, type := .u32, access := .ro, dflt := 0, lo := 0, hi := 4294967295, unit := .chan, name := "CH_COMMIT_COUNT" },
  { index := 0x41F0, stride := 0x200, count := 16, first := 5, last := 5, type := .u64, access := .ro, dflt := 0, lo := 0, hi := 18446744073709551615, unit := .chan, ucode := 4, scale := -9, name := "CH_COMMIT_TIME" },
  { index := 0x41F0, stride := 0x200, count := 16, first := 6, last := 6, type := .u32, access := .ro, dflt := 0, lo := 0, hi := 4294967295, unit := .chan, mask := some 0xFFFFFF, name := "CH_COMMIT_FAILOBJ" }
]

/-- Rows of the table: PRE_BUS to PRE_TELAPSED. -/
def rackPre0 : List ObjRow := [
  { index := 0x6000, stride := 0x80, count := 4, first := 1, last := 1, type := .u8, access := .rws, dflt := 255, lo := 0, hi := 7, extra := some 0xFF, role := .configure, unit := .pre, persist := true, name := "PRE_BUS" },
  { index := 0x6000, stride := 0x80, count := 4, first := 2, last := 2, type := .u8, access := .rws, dflt := 255, lo := 0, hi := 15, extra := some 0xFF, role := .configure, unit := .pre, persist := true, name := "PRE_FEED" },
  { index := 0x6000, stride := 0x80, count := 4, first := 3, last := 3, type := .u8, access := .rws, dflt := 0, lo := 0, hi := 1, role := .configure, unit := .pre, persist := true, name := "PRE_MODE" },
  { index := 0x6000, stride := 0x80, count := 4, first := 4, last := 4, type := .u32, access := .rws, dflt := 10000, lo := 100, hi := 200000, role := .configure, unit := .pre, persist := true, ucode := 1, scale := -3, name := "PRE_IPK" },
  { index := 0x6000, stride := 0x80, count := 4, first := 5, last := 5, type := .q1616, access := .rws, dflt := 3276800, lo := 65536, hi := 65536000, role := .configure, unit := .pre, persist := true, ucode := 255, name := "PRE_KSENS" },
  { index := 0x6000, stride := 0x80, count := 4, first := 6, last := 6, type := .u32, access := .rws, dflt := 470000, lo := 1000, hi := 10000000, role := .configure, unit := .pre, persist := true, ucode := 10, scale := -9, name := "PRE_L" },
  { index := 0x6000, stride := 0x80, count := 4, first := 7, last := 7, type := .u32, access := .rws, dflt := 100, lo := 10, hi := 5000, role := .configure, unit := .pre, persist := true, ucode := 9, scale := -6, name := "PRE_CMIN" },
  { index := 0x6000, stride := 0x80, count := 4, first := 8, last := 8, type := .u32, access := .rws, dflt := 1000, lo := 10, hi := 5000, role := .configure, unit := .pre, persist := true, ucode := 9, scale := -6, name := "PRE_CMAX" },
  { index := 0x6000, stride := 0x80, count := 4, first := 9, last := 9, type := .u16, access := .rws, dflt := 4000, lo := 400, hi := 65535, role := .configure, unit := .pre, persist := true, ucode := 4, scale := -9, mult := 5, name := "PRE_TPERIOD" },
  { index := 0x6000, stride := 0x80, count := 4, first := 10, last := 10, type := .u16, access := .rws, dflt := 9500, lo := 5000, hi := 9900, role := .configure, unit := .pre, persist := true, ucode := 11, scale := -2, name := "PRE_DMAX" },
  { index := 0x6000, stride := 0x80, count := 4, first := 11, last := 11, type := .u8, access := .rws, dflt := 30, lo := 10, hi := 255, role := .configure, unit := .pre, persist := true, ucode := 4, scale := -9, mult := 5, name := "PRE_TOFF_MIN" },
  { index := 0x6000, stride := 0x80, count := 4, first := 12, last := 12, type := .u8, access := .rws, dflt := 25, lo := 5, hi := 100, role := .configure, unit := .pre, persist := true, ucode := 11, name := "PRE_FF_MARGIN" },
  { index := 0x6000, stride := 0x80, count := 4, first := 13, last := 13, type := .u16, access := .rws, dflt := 500, lo := 100, hi := 500, role := .configure, unit := .pre, persist := true, ucode := 11, scale := -2, name := "PRE_CLOSE" },
  { index := 0x6000, stride := 0x80, count := 4, first := 14, last := 14, type := .u16, access := .rws, dflt := 50, lo := 1, hi := 10000, role := .configure, unit := .pre, persist := true, ucode := 4, scale := -6, name := "PRE_TCLOSEQ" },
  { index := 0x6000, stride := 0x80, count := 4, first := 15, last := 15, type := .u16, access := .rws, dflt := 20, lo := 1, hi := 1000, role := .configure, unit := .pre, persist := true, ucode := 4, scale := -3, name := "PRE_TCLOSE_MAX" },
  { index := 0x6000, stride := 0x80, count := 4, first := 16, last := 16, type := .u32, access := .rws, dflt := 2000, lo := 10, hi := 600000, role := .configure, unit := .pre, persist := true, ucode := 4, scale := -3, name := "PRE_TMAX" },
  { index := 0x6000, stride := 0x80, count := 4, first := 17, last := 17, type := .u16, access := .rws, dflt := 50, lo := 1, hi := 10000, role := .configure, unit := .pre, persist := true, ucode := 4, scale := -3, name := "PRE_TPROG" },
  { index := 0x6000, stride := 0x80, count := 4, first := 18, last := 18, type := .u16, access := .rws, dflt := 100, lo := 10, hi := 1000, role := .configure, unit := .pre, persist := true, ucode := 11, scale := -2, name := "PRE_VPROG" },
  { index := 0x6000, stride := 0x80, count := 4, first := 19, last := 19, type := .u16, access := .rws, dflt := 5000, lo := 100, hi := 65535, role := .configure, unit := .pre, persist := true, ucode := 4, scale := -6, name := "PRE_TPAUSE_MAX" },
  { index := 0x6000, stride := 0x80, count := 4, first := 20, last := 20, type := .u8, access := .rws, dflt := 60, lo := 0, hi := 255, role := .configure, unit := .pre, persist := true, ucode := 4, scale := -9, mult := 5, name := "PRE_TREFRESH" },
  { index := 0x6001, stride := 0x80, count := 4, first := 1, last := 1, type := .u8, access := .ro, dflt := 0, lo := 0, hi := 255, unit := .pre, name := "PRE_STATE" },
  { index := 0x6001, stride := 0x80, count := 4, first := 2, last := 2, type := .u8, access := .ro, dflt := 0, lo := 0, hi := 255, unit := .pre, name := "PRE_STATUS" },
  { index := 0x6001, stride := 0x80, count := 4, first := 3, last := 3, type := .u32, access := .ro, dflt := 0, lo := 0, hi := 4294967295, unit := .pre, ucode := 1, scale := -3, name := "PRE_IPK_EFF" },
  { index := 0x6001, stride := 0x80, count := 4, first := 4, last := 4, type := .u32, access := .ro, dflt := 0, lo := 0, hi := 4294967295, unit := .pre, ucode := 4, scale := -9, name := "PRE_TFF" },
  { index := 0x6001, stride := 0x80, count := 4, first := 5, last := 5, type := .u32, access := .ro, dflt := 0, lo := 0, hi := 4294967295, unit := .pre, ucode := 4, scale := -6, name := "PRE_TELAPSED" }
]

/-- Rows of the table: PRE_PULSES to PRE_COMMIT_FAILOBJ. -/
def rackPre1 : List ObjRow := [
  { index := 0x6001, stride := 0x80, count := 4, first := 6, last := 6, type := .u32, access := .ro, dflt := 0, lo := 0, hi := 4294967295, unit := .pre, name := "PRE_PULSES" },
  { index := 0x6001, stride := 0x80, count := 4, first := 7, last := 7, type := .u32, access := .ro, dflt := 0, lo := 0, hi := 4294967295, unit := .pre, name := "PRE_SKIPS" },
  { index := 0x6001, stride := 0x80, count := 4, first := 8, last := 8, type := .u16, access := .ro, dflt := 0, lo := 0, hi := 65535, unit := .pre, name := "PRE_PAUSES" },
  { index := 0x6001, stride := 0x80, count := 4, first := 9, last := 9, type := .s32, access := .ro, dflt := 0, lo := -2147483648, hi := 2147483647, unit := .pre, ucode := 2, scale := -3, name := "PRE_VRESID" },
  { index := 0x6070, stride := 0x80, count := 4, first := 1, last := 1, type := .u8, access := .cmd, dflt := 0, lo := 1, hi := 2, role := .configure, unit := .pre, name := "PRE_COMMIT" },
  { index := 0x6070, stride := 0x80, count := 4, first := 2, last := 2, type := .u8, access := .ro, dflt := 0, lo := 0, hi := 255, unit := .pre, name := "PRE_COMMIT_RES" },
  { index := 0x6070, stride := 0x80, count := 4, first := 3, last := 3, type := .bool, access := .ro, dflt := 0, lo := 0, hi := 1, unit := .pre, name := "PRE_COMMIT_DIRTY" },
  { index := 0x6070, stride := 0x80, count := 4, first := 4, last := 4, type := .u32, access := .ro, dflt := 0, lo := 0, hi := 4294967295, unit := .pre, name := "PRE_COMMIT_COUNT" },
  { index := 0x6070, stride := 0x80, count := 4, first := 5, last := 5, type := .u64, access := .ro, dflt := 0, lo := 0, hi := 18446744073709551615, unit := .pre, ucode := 4, scale := -9, name := "PRE_COMMIT_TIME" },
  { index := 0x6070, stride := 0x80, count := 4, first := 6, last := 6, type := .u32, access := .ro, dflt := 0, lo := 0, hi := 4294967295, unit := .pre, mask := some 0xFFFFFF, name := "PRE_COMMIT_FAILOBJ" }
]

/-- Rows of the table: DIS_BUS to DIS_COMMIT_FAILOBJ. -/
def rackDis0 : List ObjRow := [
  { index := 0x6200, stride := 0x80, count := 4, first := 1, last := 1, type := .u8, access := .rws, dflt := 255, lo := 0, hi := 7, extra := some 0xFF, role := .configure, unit := .dis, persist := true, name := "DIS_BUS" },
  { index := 0x6200, stride := 0x80, count := 4, first := 2, last := 2, type := .u32, access := .rws, dflt := 10000, lo := 100, hi := 10000000, role := .configure, unit := .dis, persist := true, ucode := 6, scale := -3, name := "DIS_R" },
  { index := 0x6200, stride := 0x80, count := 4, first := 3, last := 3, type := .u32, access := .rws, dflt := 0, lo := 0, hi := 1000000, role := .configure, unit := .dis, persist := true, ucode := 3, name := "DIS_PTARGET" },
  { index := 0x6200, stride := 0x80, count := 4, first := 4, last := 4, type := .u16, access := .rws, dflt := 10000, lo := 100, hi := 10000, role := .configure, unit := .dis, persist := true, ucode := 11, scale := -2, name := "DIS_DMAX" },
  { index := 0x6200, stride := 0x80, count := 4, first := 5, last := 5, type := .u16, access := .rws, dflt := 4000, lo := 400, hi := 65535, role := .configure, unit := .dis, persist := true, ucode := 4, scale := -9, mult := 5, name := "DIS_TPERIOD" },
  { index := 0x6200, stride := 0x80, count := 4, first := 6, last := 6, type := .u16, access := .rws, dflt := 600, lo := 10, hi := 6000, role := .configure, unit := .dis, persist := true, ucode := 2, scale := -1, name := "DIS_VDONE" },
  { index := 0x6200, stride := 0x80, count := 4, first := 7, last := 7, type := .u16, access := .rws, dflt := 1000, lo := 1, hi := 65535, role := .configure, unit := .dis, persist := true, ucode := 4, scale := -6, name := "DIS_TDONEQ" },
  { index := 0x6200, stride := 0x80, count := 4, first := 8, last := 8, type := .u32, access := .rws, dflt := 5000, lo := 10, hi := 600000, role := .configure, unit := .dis, persist := true, ucode := 4, scale := -3, name := "DIS_TMAX" },
  { index := 0x6200, stride := 0x80, count := 4, first := 9, last := 9, type := .u32, access := .rws, dflt := 1000, lo := 1, hi := 1000000, role := .configure, unit := .dis, persist := true, ucode := 8, name := "DIS_EMAX" },
  { index := 0x6200, stride := 0x80, count := 4, first := 10, last := 10, type := .u32, access := .rws, dflt := 50, lo := 0, hi := 100000, role := .configure, unit := .dis, persist := true, ucode := 3, name := "DIS_PCONT" },
  { index := 0x6200, stride := 0x80, count := 4, first := 11, last := 11, type := .u8, access := .rws, dflt := 0, lo := 0, hi := 1, role := .configure, unit := .dis, persist := true, name := "DIS_BRMODE" },
  { index := 0x6201, stride := 0x80, count := 4, first := 1, last := 1, type := .bool, access := .cmd, dflt := 0, lo := 0, hi := 1, role := .operate, unit := .dis, name := "DIS_REQ" },
  { index := 0x6201, stride := 0x80, count := 4, first := 2, last := 2, type := .u8, access := .ro, dflt := 0, lo := 0, hi := 255, unit := .dis, name := "DIS_STATE" },
  { index := 0x6201, stride := 0x80, count := 4, first := 3, last := 3, type := .u8, access := .ro, dflt := 0, lo := 0, hi := 255, unit := .dis, name := "DIS_STATUS" },
  { index := 0x6201, stride := 0x80, count := 4, first := 4, last := 4, type := .u16, access := .ro, dflt := 0, lo := 0, hi := 65535, unit := .dis, ucode := 11, scale := -2, name := "DIS_DUTY" },
  { index := 0x6201, stride := 0x80, count := 4, first := 5, last := 5, type := .u32, access := .ro, dflt := 0, lo := 0, hi := 4294967295, unit := .dis, ucode := 8, name := "DIS_EACC" },
  { index := 0x6201, stride := 0x80, count := 4, first := 6, last := 6, type := .u32, access := .ro, dflt := 0, lo := 0, hi := 4294967295, unit := .dis, ucode := 4, scale := -3, name := "DIS_TELAPSED" },
  { index := 0x6270, stride := 0x80, count := 4, first := 1, last := 1, type := .u8, access := .cmd, dflt := 0, lo := 1, hi := 2, role := .configure, unit := .dis, name := "DIS_COMMIT" },
  { index := 0x6270, stride := 0x80, count := 4, first := 2, last := 2, type := .u8, access := .ro, dflt := 0, lo := 0, hi := 255, unit := .dis, name := "DIS_COMMIT_RES" },
  { index := 0x6270, stride := 0x80, count := 4, first := 3, last := 3, type := .bool, access := .ro, dflt := 0, lo := 0, hi := 1, unit := .dis, name := "DIS_COMMIT_DIRTY" },
  { index := 0x6270, stride := 0x80, count := 4, first := 4, last := 4, type := .u32, access := .ro, dflt := 0, lo := 0, hi := 4294967295, unit := .dis, name := "DIS_COMMIT_COUNT" },
  { index := 0x6270, stride := 0x80, count := 4, first := 5, last := 5, type := .u64, access := .ro, dflt := 0, lo := 0, hi := 18446744073709551615, unit := .dis, ucode := 4, scale := -9, name := "DIS_COMMIT_TIME" },
  { index := 0x6270, stride := 0x80, count := 4, first := 6, last := 6, type := .u32, access := .ro, dflt := 0, lo := 0, hi := 4294967295, unit := .dis, mask := some 0xFFFFFF, name := "DIS_COMMIT_FAILOBJ" }
]

/-- Rows of the table: PWM_EN to PWM_COMMIT_DIRTY. -/
def rackPwm0 : List ObjRow := [
  { index := 0x6400, stride := 0x40, count := 8, first := 1, last := 1, type := .bool, access := .rws, dflt := 0, lo := 0, hi := 1, role := .configure, unit := .pwm, persist := true, name := "PWM_EN" },
  { index := 0x6400, stride := 0x40, count := 8, first := 2, last := 2, type := .u8, access := .rws, dflt := 0, lo := 0, hi := 1, role := .configure, unit := .pwm, persist := true, name := "PWM_MODE" },
  { index := 0x6400, stride := 0x40, count := 8, first := 3, last := 3, type := .u8, access := .rws, dflt := 20, lo := 0, hi := 255, role := .configure, unit := .pwm, persist := true, ucode := 4, scale := -9, mult := 5, name := "PWM_DT" },
  { index := 0x6400, stride := 0x40, count := 8, first := 4, last := 4, type := .u8, access := .rws, dflt := 40, lo := 0, hi := 255, role := .configure, unit := .pwm, persist := true, ucode := 4, scale := -9, mult := 5, name := "PWM_TMIN" },
  { index := 0x6400, stride := 0x40, count := 8, first := 5, last := 5, type := .u16, access := .rws, dflt := 10000, lo := 100, hi := 10000, role := .configure, unit := .pwm, persist := true, ucode := 11, scale := -2, name := "PWM_DMAX" },
  { index := 0x6400, stride := 0x40, count := 8, first := 6, last := 6, type := .u8, access := .rws, dflt := 0, lo := 0, hi := 255, role := .configure, unit := .pwm, persist := true, ucode := 4, scale := -9, mult := 5, name := "PWM_TOFF_MIN" },
  { index := 0x6400, stride := 0x40, count := 8, first := 7, last := 7, type := .u8, access := .rws, dflt := 0, lo := 0, hi := 1, role := .configure, unit := .pwm, persist := true, name := "PWM_UPD" },
  { index := 0x6400, stride := 0x40, count := 8, first := 8, last := 8, type := .u8, access := .rws, dflt := 0, lo := 0, hi := 3, role := .configure, unit := .pwm, persist := true, mask := some 0x3, name := "PWM_FLTSRC" },
  { index := 0x6400, stride := 0x40, count := 8, first := 9, last := 9, type := .u8, access := .rws, dflt := 0, lo := 0, hi := 1, role := .configure, unit := .pwm, persist := true, name := "PWM_FLTMODE" },
  { index := 0x6400, stride := 0x40, count := 8, first := 10, last := 10, type := .u64, access := .rw, dflt := 4000, lo := 0, hi := 18446744073709551615, role := .configure, unit := .pwm, mask := some 0xFFFFFFFFF, name := "PWM_WORD" },
  { index := 0x6401, stride := 0x40, count := 8, first := 1, last := 1, type := .u8, access := .ro, dflt := 0, lo := 0, hi := 255, unit := .pwm, name := "PWM_STATE" },
  { index := 0x6401, stride := 0x40, count := 8, first := 2, last := 2, type := .u8, access := .ro, dflt := 255, lo := 0, hi := 255, unit := .pwm, name := "PWM_OWNER" },
  { index := 0x6401, stride := 0x40, count := 8, first := 3, last := 3, type := .u32, access := .ro, dflt := 0, lo := 0, hi := 4294967295, unit := .pwm, name := "PWM_PCOUNT" },
  { index := 0x6401, stride := 0x40, count := 8, first := 4, last := 4, type := .u32, access := .ro, dflt := 0, lo := 0, hi := 4294967295, unit := .pwm, mask := some 0xFFFFFFFF, name := "PWM_TAKEN" },
  { index := 0x6401, stride := 0x40, count := 8, first := 5, last := 5, type := .u32, access := .ro, dflt := 0, lo := 0, hi := 4294967295, unit := .pwm, name := "PWM_DROPPED" },
  { index := 0x6401, stride := 0x40, count := 8, first := 6, last := 6, type := .u32, access := .ro, dflt := 0, lo := 0, hi := 4294967295, unit := .pwm, name := "PWM_CLIPPED" },
  { index := 0x6401, stride := 0x40, count := 8, first := 7, last := 7, type := .u32, access := .ro, dflt := 0, lo := 0, hi := 4294967295, unit := .pwm, name := "PWM_TSKIPS" },
  { index := 0x6401, stride := 0x40, count := 8, first := 8, last := 8, type := .u32, access := .ro, dflt := 0, lo := 0, hi := 4294967295, unit := .pwm, name := "PWM_TERMS" },
  { index := 0x6401, stride := 0x40, count := 8, first := 9, last := 9, type := .u32, access := .ro, dflt := 0, lo := 0, hi := 4294967295, unit := .pwm, name := "PWM_FAULTS" },
  { index := 0x6401, stride := 0x40, count := 8, first := 10, last := 10, type := .u64, access := .ro, dflt := 4000, lo := 0, hi := 18446744073709551615, unit := .pwm, mask := some 0xFFFFFFFFF, name := "PWM_WORD_ACT" },
  { index := 0x6402, stride := 0x40, count := 8, first := 1, last := 1, type := .bool, access := .cmd, dflt := 0, lo := 0, hi := 1, role := .operate, unit := .pwm, name := "PWM_RUN" },
  { index := 0x6402, stride := 0x40, count := 8, first := 2, last := 2, type := .bool, access := .cmd, dflt := 0, lo := 0, hi := 1, role := .operate, unit := .pwm, name := "PWM_FREL" },
  { index := 0x6430, stride := 0x40, count := 8, first := 1, last := 1, type := .u8, access := .cmd, dflt := 0, lo := 1, hi := 2, role := .configure, unit := .pwm, name := "PWM_COMMIT" },
  { index := 0x6430, stride := 0x40, count := 8, first := 2, last := 2, type := .u8, access := .ro, dflt := 0, lo := 0, hi := 255, unit := .pwm, name := "PWM_COMMIT_RES" },
  { index := 0x6430, stride := 0x40, count := 8, first := 3, last := 3, type := .bool, access := .ro, dflt := 0, lo := 0, hi := 1, unit := .pwm, name := "PWM_COMMIT_DIRTY" }
]

/-- Rows of the table: PWM_COMMIT_COUNT to PWM_COMMIT_FAILOBJ. -/
def rackPwm1 : List ObjRow := [
  { index := 0x6430, stride := 0x40, count := 8, first := 4, last := 4, type := .u32, access := .ro, dflt := 0, lo := 0, hi := 4294967295, unit := .pwm, name := "PWM_COMMIT_COUNT" },
  { index := 0x6430, stride := 0x40, count := 8, first := 5, last := 5, type := .u64, access := .ro, dflt := 0, lo := 0, hi := 18446744073709551615, unit := .pwm, ucode := 4, scale := -9, name := "PWM_COMMIT_TIME" },
  { index := 0x6430, stride := 0x40, count := 8, first := 6, last := 6, type := .u32, access := .ro, dflt := 0, lo := 0, hi := 4294967295, unit := .pwm, mask := some 0xFFFFFF, name := "PWM_COMMIT_FAILOBJ" }
]

/-- Rows of the table: CMP_EN to CMP_COMMIT_COUNT. -/
def rackCmp0 : List ObjRow := [
  { index := 0x6600, stride := 0x20, count := 8, first := 1, last := 1, type := .bool, access := .rws, dflt := 0, lo := 0, hi := 1, role := .configure, unit := .cmp, persist := true, name := "CMP_EN" },
  { index := 0x6600, stride := 0x20, count := 8, first := 2, last := 2, type := .u16, access := .rws, dflt := 512, lo := 1, hi := 1023, role := .configure, unit := .cmp, persist := true, ucode := 2, scale := -3, mult := 2, name := "CMP_REF" },
  { index := 0x6600, stride := 0x20, count := 8, first := 3, last := 3, type := .u8, access := .rws, dflt := 1, lo := 0, hi := 4, role := .configure, unit := .cmp, persist := true, name := "CMP_HYST" },
  { index := 0x6600, stride := 0x20, count := 8, first := 4, last := 4, type := .u8, access := .rws, dflt := 1, lo := 0, hi := 3, role := .configure, unit := .cmp, persist := true, name := "CMP_SPEED" },
  { index := 0x6600, stride := 0x20, count := 8, first := 5, last := 5, type := .u8, access := .rws, dflt := 0, lo := 0, hi := 1, role := .configure, unit := .cmp, persist := true, name := "CMP_POL" },
  { index := 0x6600, stride := 0x20, count := 8, first := 6, last := 6, type := .u8, access := .rws, dflt := 0, lo := 0, hi := 1, role := .configure, unit := .cmp, persist := true, name := "CMP_INIT" },
  { index := 0x6600, stride := 0x20, count := 8, first := 7, last := 7, type := .bool, access := .rws, dflt := 0, lo := 0, hi := 1, role := .configure, unit := .cmp, persist := true, name := "CMP_PAIR" },
  { index := 0x6600, stride := 0x20, count := 8, first := 8, last := 8, type := .u8, access := .rws, dflt := 0, lo := 0, hi := 255, role := .configure, unit := .cmp, persist := true, ucode := 4, scale := -9, mult := 5, name := "CMP_FILT" },
  { index := 0x6600, stride := 0x20, count := 8, first := 9, last := 9, type := .u8, access := .rws, dflt := 0, lo := 0, hi := 31, role := .configure, unit := .cmp, persist := true, mask := some 0x1F, name := "CMP_ROUTE" },
  { index := 0x6600, stride := 0x20, count := 8, first := 10, last := 10, type := .u8, access := .rws, dflt := 0, lo := 0, hi := 7, role := .configure, unit := .cmp, persist := true, name := "CMP_PWM_TERM" },
  { index := 0x6600, stride := 0x20, count := 8, first := 11, last := 11, type := .u8, access := .rws, dflt := 0, lo := 0, hi := 255, role := .configure, unit := .cmp, persist := true, name := "CMP_PWM_FLT" },
  { index := 0x6600, stride := 0x20, count := 8, first := 12, last := 12, type := .u8, access := .rws, dflt := 0, lo := 0, hi := 2, role := .configure, unit := .cmp, persist := true, name := "CMP_EDGE" },
  { index := 0x6601, stride := 0x20, count := 8, first := 1, last := 1, type := .u8, access := .ro, dflt := 0, lo := 0, hi := 255, unit := .cmp, mask := some 0xF, name := "CMP_OUT" },
  { index := 0x6601, stride := 0x20, count := 8, first := 2, last := 2, type := .u64, access := .ro, dflt := 0, lo := 0, hi := 18446744073709551615, unit := .cmp, ucode := 4, scale := -9, name := "CMP_CAPT_TIME" },
  { index := 0x6601, stride := 0x20, count := 8, first := 3, last := 3, type := .u8, access := .ro, dflt := 0, lo := 0, hi := 255, unit := .cmp, name := "CMP_CAPT_EDGE" },
  { index := 0x6601, stride := 0x20, count := 8, first := 4, last := 4, type := .u32, access := .ro, dflt := 0, lo := 0, hi := 4294967295, unit := .cmp, name := "CMP_CAPTS" },
  { index := 0x6601, stride := 0x20, count := 8, first := 5, last := 5, type := .u32, access := .ro, dflt := 0, lo := 0, hi := 4294967295, unit := .cmp, name := "CMP_EVENTS_SUPPR" },
  { index := 0x6601, stride := 0x20, count := 8, first := 6, last := 6, type := .u8, access := .ro, dflt := 255, lo := 0, hi := 255, unit := .cmp, name := "CMP_OWNER" },
  { index := 0x6601, stride := 0x20, count := 8, first := 7, last := 7, type := .u16, access := .ro, dflt := 1024, lo := 0, hi := 65535, unit := .cmp, ucode := 2, scale := -3, name := "CMP_THR_MV" },
  { index := 0x6601, stride := 0x20, count := 8, first := 8, last := 8, type := .u32, access := .ro, dflt := 0, lo := 0, hi := 4294967295, unit := .cmp, name := "CMP_TEST_FAILS" },
  { index := 0x6602, stride := 0x20, count := 8, first := 1, last := 1, type := .u8, access := .cmd, dflt := 0, lo := 1, hi := 2, role := .operate, unit := .cmp, name := "CMP_TEST" },
  { index := 0x6610, stride := 0x20, count := 8, first := 1, last := 1, type := .u8, access := .cmd, dflt := 0, lo := 1, hi := 2, role := .configure, unit := .cmp, name := "CMP_COMMIT" },
  { index := 0x6610, stride := 0x20, count := 8, first := 2, last := 2, type := .u8, access := .ro, dflt := 0, lo := 0, hi := 255, unit := .cmp, name := "CMP_COMMIT_RES" },
  { index := 0x6610, stride := 0x20, count := 8, first := 3, last := 3, type := .bool, access := .ro, dflt := 0, lo := 0, hi := 1, unit := .cmp, name := "CMP_COMMIT_DIRTY" },
  { index := 0x6610, stride := 0x20, count := 8, first := 4, last := 4, type := .u32, access := .ro, dflt := 0, lo := 0, hi := 4294967295, unit := .cmp, name := "CMP_COMMIT_COUNT" }
]

/-- Rows of the table: CMP_COMMIT_TIME to CMP_COMMIT_FAILOBJ. -/
def rackCmp1 : List ObjRow := [
  { index := 0x6610, stride := 0x20, count := 8, first := 5, last := 5, type := .u64, access := .ro, dflt := 0, lo := 0, hi := 18446744073709551615, unit := .cmp, ucode := 4, scale := -9, name := "CMP_COMMIT_TIME" },
  { index := 0x6610, stride := 0x20, count := 8, first := 6, last := 6, type := .u32, access := .ro, dflt := 0, lo := 0, hi := 4294967295, unit := .cmp, mask := some 0xFFFFFF, name := "CMP_COMMIT_FAILOBJ" }
]

/-- Rows of the table: STR_CREDIT_MAX to STR_COMMIT_FAILOBJ. -/
def rackStr0 : List ObjRow := [
  { index := 0x6800, stride := 0x0, count := 1, first := 1, last := 1, type := .u8, access := .rws, dflt := 8, lo := 1, hi := 64, role := .configure, unit := .str, persist := true, name := "STR_CREDIT_MAX" },
  { index := 0x6800, stride := 0x0, count := 1, first := 2, last := 2, type := .u16, access := .rws, dflt := 100, lo := 1, hi := 10000, role := .configure, unit := .str, persist := true, ucode := 4, scale := -6, name := "STR_FLUSH" },
  { index := 0x6800, stride := 0x0, count := 1, first := 3, last := 3, type := .u32, access := .rws, dflt := 10000, lo := 1, hi := 100000, role := .configure, unit := .str, persist := true, ucode := 255, name := "STR_JNL_RATE" },
  { index := 0x6801, stride := 0x0, count := 1, first := 1, last := 1, type := .u8, access := .ro, dflt := 0, lo := 0, hi := 255, unit := .str, name := "STR_CREDITS" },
  { index := 0x6801, stride := 0x0, count := 1, first := 2, last := 2, type := .u32, access := .ro, dflt := 0, lo := 0, hi := 4294967295, unit := .str, name := "STR_BUF_USED" },
  { index := 0x6801, stride := 0x0, count := 1, first := 3, last := 3, type := .u32, access := .ro, dflt := 0, lo := 0, hi := 4294967295, unit := .str, name := "STR_BLOCKS" },
  { index := 0x6801, stride := 0x0, count := 1, first := 4, last := 7, type := .u32, access := .ro, dflt := 0, lo := 0, hi := 4294967295, unit := .str, name := "STR_DROPS" },
  { index := 0x6801, stride := 0x0, count := 1, first := 8, last := 8, type := .u32, access := .ro, dflt := 0, lo := 0, hi := 4294967295, unit := .str, name := "STR_RDY_ERR" },
  { index := 0x6801, stride := 0x0, count := 1, first := 9, last := 9, type := .u32, access := .ro, dflt := 0, lo := 0, hi := 4294967295, unit := .str, ucode := 255, name := "STR_RATE_PORT" },
  { index := 0x6802, stride := 0x0, count := 1, first := 1, last := 1, type := .bool, access := .cmd, dflt := 0, lo := 0, hi := 1, role := .operate, unit := .str, name := "STR_EN" },
  { index := 0x6802, stride := 0x0, count := 1, first := 2, last := 2, type := .u16, access := .cmd, dflt := 0, lo := 0, hi := 65535, role := .operate, unit := .str, name := "STR_CAPTURE" },
  { index := 0x6802, stride := 0x0, count := 1, first := 3, last := 3, type := .u16, access := .cmd, dflt := 0, lo := 0, hi := 8192, role := .operate, unit := .str, name := "STR_JNL_EXPORT" },
  { index := 0x6802, stride := 0x0, count := 1, first := 4, last := 4, type := .u32, access := .rw, dflt := 0, lo := 0, hi := 4294967295, role := .configure, unit := .str, name := "STR_JNL_FROM" },
  { index := 0x6810, stride := 0x1, count := 16, first := 1, last := 5, type := .u16, access := .rws, dflt := 0, lo := 0, hi := 65535, role := .configure, unit := .str, persist := true, name := "STR_DIV" },
  { index := 0x6810, stride := 0x1, count := 16, first := 6, last := 6, type := .bool, access := .rws, dflt := 0, lo := 0, hi := 1, role := .configure, unit := .str, persist := true, name := "STR_MM" },
  { index := 0x6810, stride := 0x1, count := 16, first := 7, last := 7, type := .u16, access := .rws, dflt := 0, lo := 0, hi := 100, role := .configure, unit := .str, persist := true, ucode := 255, name := "STR_CAP_RATE" },
  { index := 0x6810, stride := 0x1, count := 16, first := 8, last := 8, type := .u32, access := .ro, dflt := 2560, lo := 0, hi := 4294967295, unit := .str, ucode := 255, name := "STR_RATE_POD" },
  { index := 0x68F0, stride := 0x0, count := 1, first := 1, last := 1, type := .u8, access := .cmd, dflt := 0, lo := 1, hi := 2, role := .configure, unit := .str, name := "STR_COMMIT" },
  { index := 0x68F0, stride := 0x0, count := 1, first := 2, last := 2, type := .u8, access := .ro, dflt := 0, lo := 0, hi := 255, unit := .str, name := "STR_COMMIT_RES" },
  { index := 0x68F0, stride := 0x0, count := 1, first := 3, last := 3, type := .bool, access := .ro, dflt := 0, lo := 0, hi := 1, unit := .str, name := "STR_COMMIT_DIRTY" },
  { index := 0x68F0, stride := 0x0, count := 1, first := 4, last := 4, type := .u32, access := .ro, dflt := 0, lo := 0, hi := 4294967295, unit := .str, name := "STR_COMMIT_COUNT" },
  { index := 0x68F0, stride := 0x0, count := 1, first := 5, last := 5, type := .u64, access := .ro, dflt := 0, lo := 0, hi := 18446744073709551615, unit := .str, ucode := 4, scale := -9, name := "STR_COMMIT_TIME" },
  { index := 0x68F0, stride := 0x0, count := 1, first := 6, last := 6, type := .u32, access := .ro, dflt := 0, lo := 0, hi := 4294967295, unit := .str, mask := some 0xFFFFFF, name := "STR_COMMIT_FAILOBJ" }
]

/-- Rows of the table: JNL_NEWEST to FW_IMAGE. -/
def rackLog0 : List ObjRow := [
  { index := 0x7000, stride := 0x0, count := 1, first := 1, last := 1, type := .u32, access := .ro, dflt := 0, lo := 0, hi := 4294967295, name := "JNL_NEWEST" },
  { index := 0x7000, stride := 0x0, count := 1, first := 2, last := 2, type := .u32, access := .ro, dflt := 0, lo := 0, hi := 4294967295, name := "JNL_OLDEST" },
  { index := 0x7000, stride := 0x0, count := 1, first := 3, last := 3, type := .u16, access := .ro, dflt := 0, lo := 0, hi := 65535, name := "JNL_HELD" },
  { index := 0x7000, stride := 0x0, count := 1, first := 4, last := 4, type := .blob, access := .ro, dflt := 0, lo := 0, hi := 262144, name := "JNL_DATA" },
  { index := 0x7000, stride := 0x0, count := 1, first := 5, last := 5, type := .u32, access := .ro, dflt := 0, lo := 0, hi := 4294967295, name := "JNL_DISCARDED" },
  { index := 0x7000, stride := 0x0, count := 1, first := 6, last := 6, type := .u16, access := .ro, dflt := 0, lo := 0, hi := 65535, name := "JNL_BOOTN" },
  { index := 0x7000, stride := 0x0, count := 1, first := 7, last := 7, type := .u64, access := .ro, dflt := 0, lo := 0, hi := 18446744073709551615, checkpointed := true, name := "JNL_WRITES" },
  { index := 0x7100, stride := 0x0, count := 1, first := 1, last := 1, type := .u8, access := .cmd, dflt := 0, lo := 1, hi := 3, name := "SES_OPEN" },
  { index := 0x7100, stride := 0x0, count := 1, first := 2, last := 2, type := .blob, access := .ro, dflt := 0, lo := 0, hi := 34, name := "SES_CHALLENGE" },
  { index := 0x7100, stride := 0x0, count := 1, first := 3, last := 3, type := .blob, access := .wo, dflt := 0, lo := 0, hi := 32, name := "SES_RESPONSE" },
  { index := 0x7100, stride := 0x0, count := 1, first := 4, last := 4, type := .u16, access := .cmd, dflt := 0, lo := 1, hi := 65534, role := .operate, name := "SES_CLOSE" },
  { index := 0x7100, stride := 0x0, count := 1, first := 5, last := 5, type := .u8, access := .ro, dflt := 0, lo := 0, hi := 255, name := "SES_ROLE" },
  { index := 0x7100, stride := 0x0, count := 1, first := 6, last := 6, type := .u8, access := .cmd, dflt := 0, lo := 0, hi := 1, role := .operate, name := "SES_VIEW" },
  { index := 0x7100, stride := 0x0, count := 1, first := 7, last := 7, type := .u16, access := .rw, dflt := 300, lo := 10, hi := 3600, role := .configure, persist := true, ucode := 4, name := "SES_TIMEOUT" },
  { index := 0x7100, stride := 0x0, count := 1, first := 8, last := 8, type := .u8, access := .ro, dflt := 0, lo := 0, hi := 255, name := "SES_COUNT" },
  { index := 0x7100, stride := 0x0, count := 1, first := 9, last := 9, type := .u32, access := .ro, dflt := 0, lo := 0, hi := 4294967295, name := "SES_AUTH_FAILS" },
  { index := 0x7100, stride := 0x0, count := 1, first := 10, last := 10, type := .u8, access := .ro, dflt := 0, lo := 0, hi := 255, mask := some 0x7, name := "SES_LOCK" },
  { index := 0x7101, stride := 0x0, count := 1, first := 1, last := 8, type := .u64, access := .ro, dflt := 0, lo := 0, hi := 18446744073709551615, mask := some 0xFFFFFFFF7FFFFFFF, name := "SES_TABLE" },
  { index := 0x7200, stride := 0x0, count := 1, first := 1, last := 1, type := .u8, access := .ro, dflt := 0, lo := 0, hi := 255, name := "FW_RUNNING" },
  { index := 0x7200, stride := 0x0, count := 1, first := 2, last := 2, type := .u32, access := .ro, dflt := 0, lo := 0, hi := 4294967295, name := "FW_VER_A" },
  { index := 0x7200, stride := 0x0, count := 1, first := 3, last := 3, type := .u32, access := .ro, dflt := 0, lo := 0, hi := 4294967295, name := "FW_VER_B" },
  { index := 0x7200, stride := 0x0, count := 1, first := 4, last := 4, type := .u8, access := .ro, dflt := 0, lo := 0, hi := 255, name := "FW_STATE_A" },
  { index := 0x7200, stride := 0x0, count := 1, first := 5, last := 5, type := .u8, access := .ro, dflt := 0, lo := 0, hi := 255, name := "FW_STATE_B" },
  { index := 0x7200, stride := 0x0, count := 1, first := 6, last := 6, type := .u8, access := .cmd, dflt := 0, lo := 1, hi := 3, role := .configure, name := "FW_LOAD" },
  { index := 0x7200, stride := 0x0, count := 1, first := 7, last := 7, type := .blob, access := .wo, dflt := 0, lo := 0, hi := 262144, role := .configure, ucode := 16, name := "FW_IMAGE" }
]

/-- Rows of the table: FW_ACTIVATE to FW_FALLBACKS. -/
def rackLog1 : List ObjRow := [
  { index := 0x7200, stride := 0x0, count := 1, first := 8, last := 8, type := .bool, access := .cmd, dflt := 0, lo := 1, hi := 1, role := .service, name := "FW_ACTIVATE" },
  { index := 0x7200, stride := 0x0, count := 1, first := 9, last := 9, type := .bool, access := .cmd, dflt := 0, lo := 1, hi := 1, role := .service, name := "FW_CONFIRM" },
  { index := 0x7200, stride := 0x0, count := 1, first := 10, last := 10, type := .u8, access := .ro, dflt := 0, lo := 0, hi := 255, name := "FW_TRIAL" },
  { index := 0x7200, stride := 0x0, count := 1, first := 11, last := 11, type := .u16, access := .rw, dflt := 600, lo := 60, hi := 65535, role := .configure, persist := true, ucode := 4, name := "FW_TTRIAL" },
  { index := 0x7200, stride := 0x0, count := 1, first := 12, last := 12, type := .u16, access := .ro, dflt := 1, lo := 0, hi := 65535, name := "FW_BLOCK" },
  { index := 0x7200, stride := 0x0, count := 1, first := 13, last := 13, type := .u32, access := .ro, dflt := 0, lo := 0, hi := 4294967295, name := "FW_FALLBACKS" }
]

/-- Every row but those of the sealed objects (R502). -/
def rackRows : List ObjRow :=
  rackDev0 ++
  rackRecs ++
  rackHub0 ++
  rackHub1 ++
  rackHub2 ++
  rackRing0 ++
  rackRing1 ++
  rackBus0 ++
  rackBus1 ++
  rackChan0 ++
  rackChan1 ++
  rackChan2 ++
  rackChan3 ++
  rackChan4 ++
  rackChan5 ++
  rackChan6 ++
  rackChan7 ++
  rackPre0 ++
  rackPre1 ++
  rackDis0 ++
  rackPwm0 ++
  rackPwm1 ++
  rackCmp0 ++
  rackCmp1 ++
  rackStr0 ++
  rackLog0 ++
  rackLog1

/-- The number of the instance that holds an index, where the row has one. -/
def ObjRow.instanceOf (r : ObjRow) (index : Nat) : Option Nat :=
  if index < r.index then none
  else if r.stride = 0 then if index = r.index then some 0 else none
  else if (index - r.index) % r.stride = 0 && decide ((index - r.index) / r.stride < r.count) then
    some ((index - r.index) / r.stride)
  else none

/-- The row of an index and a subindex. -/
def rackFind (index sub : Nat) : List ObjRow → Option ObjRow
  | [] => none
  | r :: rest =>
    if (r.instanceOf index).isSome && decide (r.first ≤ sub) && decide (sub ≤ r.last) then some r
    else rackFind index sub rest

/-- Whether an index exists at all (R13). -/
def rackHasIndex (index : Nat) : Bool := rackRows.any fun r => (r.instanceOf index).isSome

end Sys2Proof
end

