-- ==== Sys2Proof/Machine/Model.lean ====
section
/-! DEFINITION. What a COMMIT checks (R482): ranges and field rules, states, consistency of the model, stream budgets. A check
answers the key of the first object found failing (R489). Of two objects of a unit that disagree, the later is named, as in
the worked case of R490 (log 8). -/

namespace Sys2Proof.Machine

/-! ## Units (R481) -/

/-- First index of a unit's objects. -/
def unitIndex : CUnit → Nat
  | .chan c => 0x4000 + 0x200 * c.val
  | .bus b => 0x3000 + 0x100 * b.val
  | .pre p => 0x6000 + 0x80 * p.val
  | .dis d => 0x6200 + 0x80 * d.val
  | .pwm n => 0x6400 + 0x40 * n.val
  | .cmp n => 0x6600 + 0x20 * n.val
  | .str => 0x6800

/-- Indices that a unit takes. -/
def unitSpan : CUnit → Nat
  | .chan _ => 0x200
  | .bus _ => 0x100
  | .pre _ => 0x80
  | .dis _ => 0x80
  | .pwm _ => 0x40
  | .cmp _ => 0x20
  | .str => 0x100

/-- Index of a unit's COMMIT object. -/
def commitIndex : CUnit → Nat
  | .chan c => 0x41F0 + 0x200 * c.val
  | .bus b => 0x30F0 + 0x100 * b.val
  | .pre p => 0x6070 + 0x80 * p.val
  | .dis d => 0x6270 + 0x80 * d.val
  | .pwm n => 0x6430 + 0x40 * n.val
  | .cmp n => 0x6610 + 0x20 * n.val
  | .str => 0x68F0

/-- SRC of a unit in the journal (R554). -/
def unitSrc : CUnit → JSrc
  | .chan c => .chan c
  | .bus b => .bus b
  | .pre p => .pre p
  | .dis d => .dis d
  | .pwm n => .pwm n
  | .cmp n => .cmp n
  | .str => .stream

def unitLo (u : CUnit) : Nat := keyOf (unitIndex u) 0
def unitHi (u : CUnit) : Nat := keyOf (unitIndex u + unitSpan u) 0

/-- The units in the order in which BOOT checks them (R493). -/
def allUnits : List CUnit :=
  allChans.map .chan ++ allBuses.map .bus ++ allQuads.map .pre ++ allQuads.map .dis ++ allOct.map .pwm ++ allOct.map .cmp ++ [.str]

/-- The part of a store that belongs to a unit. -/
def unitSet (m : Store) (u : CUnit) : Store := m.filter fun e => decide (unitLo u ≤ e.1) && decide (e.1 < unitHi u)

/-- A store with a unit's part replaced. -/
def putUnit (m : Store) (u : CUnit) (set : Store) : Store :=
  (m.filter fun e => decide (e.1 < unitLo u)) ++ set ++ (m.filter fun e => decide (unitHi u ≤ e.1))

/-- The least key of a list. -/
def leastKey : List Nat → Option Nat
  | [] => none
  | k :: r => match leastKey r with
    | some j => some (min k j)
    | none => some k

/-- The first object in which two stores differ. -/
def diffKey (a b : Store) : Option Nat :=
  leastKey (((a ++ b).map fun e => e.1).filter fun k => a.find k != b.find k)

/-- The first of some keys in which two stores differ. -/
def diffOf (a b : Store) (keys : List Nat) : Option Nat := keys.find? fun k => a.find k != b.find k

def changed (a b : Store) (o : Obj) (i : Nat) (k : Nat := 0) : Bool := a.find (o.key i k) != b.find (o.key i k)

/-- The first failing check of a list. -/
def firstFail (l : List (Bool × Nat)) : Option Nat := (l.find? fun e => e.1).map fun e => e.2

/-- `CH_COMMIT_FAILOBJ` of a key: index, subindex above it (R490). -/
def failObj (k : Nat) : Nat := k / 256 + k % 256 * 65536

/-- The model that results when every COMMIT accepted earlier has applied (R64). -/
def State.ahead (s : State) : Store := s.pend.foldl (fun m p => putUnit m p.unit p.set) s.active

/-! ## Ranges (R12, R506) -/

/-- A value fits a row: its range, a value accepted besides, its defined bits. -/
def rowAccepts (r : ObjRow) (v : Int) : Bool :=
  (decide (r.lo ≤ v) && decide (v ≤ r.hi) || r.extra == some v) &&
  (match r.mask with
   | some m => decide (0 ≤ v) && (v.toNat &&& m) == v.toNat
   | none => true)

/-- The first listed value outside its range. -/
def outOfRange (set : Store) : Option Nat :=
  (set.find? fun e => match rackFind (e.1 / 256) (e.1 % 256) rackRows with
    | some r => !rowAccepts r e.2
    | none => false).map fun e => e.1

/-! ## Codes (R180, R199, R346) -/

/-- V_range of a channel: 32 mV or 160 mV, in units in which I_FS in mA is V_range over `CH_RSHUNT`. -/
def vRange (m : Store) (c : Nat) : Nat := if m.getN OD.CH_IRANGE c = 0 then 32000000000 else 160000000000

/-- The DAC code of a current threshold; `scale` is 1024, or 4096 for REV. -/
def curCode (m : Store) (c scale : Nat) (o : Obj) : Nat := roundDiv (m.getN o c * scale * m.getN OD.CH_RSHUNT c) (vRange m c)

/-- The sum of the two divider ratios in use, twice k_m (R199). -/
def kSum (m : Store) (c : Nat) : Nat :=
  (if m.getN OD.CH_ROLE c = 2 then m.getN OD.CH_KDIV_IN c else m.getN OD.CH_KDIV_OUT c) + m.getN OD.CH_KDIV_NEG c

/-- The difference of the two ratios. -/
def kDiff (m : Store) (c : Nat) : Nat :=
  ((if m.getN OD.CH_ROLE c = 2 then m.get OD.CH_KDIV_IN c else m.get OD.CH_KDIV_OUT c) - m.get OD.CH_KDIV_NEG c).natAbs

/-- The code of a bus window threshold. -/
def winCode (m : Store) (c : Nat) (o : Obj) : Nat := roundDiv (m.getN o c * 6553600) (max 1 (kSum m c))

/-- V_OV of R123 and R152: the threshold that the code of `CH_VOV` produces, in mV/65536 (R201). -/
def vovEff (m : Store) (c : Nat) : Nat := winCode m c OD.CH_VOV * kSum m c

def codeBad (n : Nat) : Bool := n == 0 || decide (1023 < n)

/-- An effective current threshold in mA, to the nearest: the spec gives no rounding for it (DESIGN CHOICE, log 29) (R180). -/
def curEff (m : Store) (c scale : Nat) (o : Obj) : Nat :=
  roundDiv (curCode m c scale o * vRange m c) (scale * max 1 (m.getN OD.CH_RSHUNT c))

/-- An effective bus window threshold in 100 mV, to the nearest: the spec gives no rounding for it (DESIGN CHOICE, log 29) (R201). -/
def winEff (m : Store) (c : Nat) (o : Obj) : Nat := roundDiv (winCode m c o * kSum m c) 6553600

/-! ## Order 1: RANGE -/

/-- `MTR_AVG` of a source, which has three Defaults (R344). -/
def avgSetting (m : Store) (c i : Nat) : Nat :=
  match m.find (OD.MTR_AVG.key c i) with
  | some v => v.toNat
  | none => if i = 0 then 72 else if i = 4 then 68 else 38

def chanRange (m : Store) (c : Nat) : Option Nat :=
  let r := m.getN OD.CH_RSHUNT c
  let ovr (o : Obj) : Bool × Nat := (decide (vRange m c < m.getN o c * r), o.key c)
  let code (scale : Nat) (o : Obj) : Bool × Nat := (codeBad (curCode m c scale o), o.key c)
  let step (o : Obj) (n : Int) : Bool × Nat := (m.get o c % n != 0, o.key c)
  firstFail (
    [(decide (7000000 * r < vRange m c), OD.CH_RSHUNT.key c)] ++
    ([OD.CH_GPRE_ON, OD.CH_GEXIT_ON, OD.CH_GPRE_OFF, OD.CH_GEXIT_OFF].map fun o => step o 50) ++
    ([OD.CH_ISC2, OD.CH_ISC1, OD.CH_IOCL, OD.CH_IREV].map ovr) ++
    ([OD.CH_ISC2, OD.CH_ISC1, OD.CH_IOCL].map (code 1024)) ++ [code 4096 OD.CH_IREV] ++
    [step OD.CH_VDESAT 10] ++
    ([OD.CH_VOV, OD.CH_VUV].map fun o => (codeBad (winCode m c o), o.key c)) ++
    (Cause.all.map fun k =>
      let v := m.getN OD.CH_RULE c (k.code - 1)
      let latchOnly := k == .sc2 || k == .damagedIn || k == .damagedOut || k == .selftestFail
      (v / 256 % 65536 == 0 || v / 16 % 4 == 3 || v / 64 % 4 != 0 || decide (2 ^ 24 ≤ v) || (latchOnly && v % 16 != 0),
        OD.CH_RULE.key c (k.code - 1))) ++
    ((List.range 5).map fun i =>
      let v := avgSetting m c i
      (v % 16 == 0 || decide (8 < v % 16) || decide (v % 16 < v / 16), OD.MTR_AVG.key c i)) ++
    ((List.range 8).map fun i =>
      let v := m.getN OD.CH_CMPCFG c i
      (decide (4 < v % 8) || v / 8 % 4 != 0, OD.CH_CMPCFG.key c i)) ++
    ((List.range 3).map fun i => (decide (4 < m.getN OD.CH_CMPCFG_BUS c i % 8), OD.CH_CMPCFG_BUS.key c i)))

/-- The four entries of `BUS_RANK`. -/
def rankEntries (v : Nat) : List Nat := [v % 256, v / 256 % 256, v / 65536 % 256, v / 16777216 % 256]

/-- An entry is in use twice. -/
def twice : List Nat → Bool
  | [] => false
  | x :: r => (x != 255 && r.contains x) || twice r

def busRange (m : Store) (b : Nat) : Option Nat :=
  let e := rankEntries (m.getN OD.BUS_RANK b)
  firstFail [(twice e || e.any fun x => decide (15 < x) && x != 255, OD.BUS_RANK.key b)]

/-- Field rules of a unit (R53, R98, R180, R195, R199, R224, R233, R252, R320, R329, R346, R356, R380). -/
def fieldRules (m : Store) : CUnit → Option Nat
  | .chan c => chanRange m c.val
  | .bus b => busRange m b.val
  | .pre p => firstFail [(codeBad (preRef m p), OD.PRE_IPK.key p.val)]
  | .dis _ => none
  | .pwm n => firstFail [(decide (4 ≤ n.val) && m.getN OD.PWM_MODE n.val != 0, OD.PWM_MODE.key n.val)]
  | .cmp n => firstFail [(n.val % 2 == 1 && m.getB OD.CMP_PAIR n.val, OD.CMP_PAIR.key n.val)]
  | .str => none

/-- Check 1: ranges and reserved bits, then field rules. -/
def rangeFail (m : Store) (u : CUnit) : Option Nat := (outOfRange (unitSet m u)).orElse fun _ => fieldRules m u

/-! ## Order 2: STATE -/

/-- The channel may change its role or bus (R66). -/
def mayMove (s : State) (c : Chan) : Bool :=
  match hubCh s c with
  | .absent | .seating | .off | .latched | .damaged => true
  | _ => false

/-- Check 2 (R66, R67, R140, R175, R277, R358, R380, R392). -/
def stateFail (s : State) (m : Store) : CUnit → Option Nat
  | .chan c =>
    if mayMove s c then none
    else firstFail ([OD.CH_ROLE, OD.CH_BUS].map fun o => (changed s.active m o c.val, o.key c.val))
  | .bus b =>
    let fm := changed s.active m OD.BUS_FMODE b.val
    firstFail [(fm && ((s.bus b).xfer.moving || preBusy s b), OD.BUS_FMODE.key b.val),
      (changed s.active m OD.BUS_ORENG b.val && oringBus s b && (feedsOf s.active b).any fun c => (hubCh s c).running,
        OD.BUS_ORENG.key b.val)]
  | .pre p => if (s.conv p).state.busy then diffKey (unitSet s.active (.pre p)) (unitSet m (.pre p)) else none
  | .dis d =>
    match (s.chop d).state with
    | .wait | .run | .done => diffKey (unitSet s.active (.dis d)) (unitSet m (.dis d))
    | _ => none
  | .pwm n =>
    if pwmOwned s n then diffKey (unitSet s.active (.pwm n)) (unitSet m (.pwm n)) else none
  | .cmp n =>
    let owned := (cmpOwner s n).isSome
    firstFail (([OD.CMP_SPEED, OD.CMP_REF, OD.CMP_ROUTE, OD.CMP_PWM_TERM].map fun o =>
        (owned && changed s.active m o n.val, o.key n.val)) ++
      [(changed s.active m OD.CMP_PAIR n.val && m.getB OD.CMP_PAIR n.val &&
        ((cmpOwner s (upperOf n)).isSome || (cmpOwner s (lowerOf n)).isSome), OD.CMP_PAIR.key n.val)])
  | .str => none

/-! ## Order 3: CONSISTENCY -/

/-- The grant of an ORing engine: bit e of `SEAL_ORING_GRANT` in force (R264, R498). -/
def sealValue (s : State) (i : Nat) : Option (List Byte) :=
  if h : i < 64 then (((s.seals.get ⟨i, h⟩).slots.reverse.find? fun x => x.ok).map fun x => x.value) else none

def grant (s : State) : Nat := ofLe ((sealValue s 8).getD [])

def oring (m : Store) (b : Nat) : Bool := m.getN OD.BUS_FMODE b == 2

/-- A pod that the port reports is a TM6421 (R6). -/
def plainPod (s : State) (c : Chan) : Bool := !(s.port c).noPod && s.stat OD.DEV_POD_TYPE 0 c.val == PodKind.tm6421.code

/-- The effective REV threshold of a feed is not below its OCL threshold (R253). -/
def revHigh (m : Store) (c : Nat) : Bool :=
  decide (4 * curCode m c 1024 OD.CH_IOCL ≤ curCode m c 4096 OD.CH_IREV)

/-- A converter or chopper is assigned to a bus without a member. -/
def emptyBus (m : Store) : Bool :=
  allBuses.any fun b => ((preOf m b).isSome || (disOf m b).isSome) && (membersOf m b).isEmpty

/-- A precharge converter in complementary mode, assigned or not, while the chopper of the same number is assigned (R65). -/
def sharedPwm (m : Store) (p : Nat) : Bool :=
  m.getN OD.PRE_MODE p == 1 && decide (m.getN OD.DIS_BUS p < 8)

/-- A group is partly partnered (R532). -/
def partlyPartnered (m : Store) (ports : Nat) : Bool :=
  allBuses.any fun b => (membersOf m b).any (fun c => ports.testBit c.val) && (membersOf m b).any fun c => !ports.testBit c.val

def chanConsist (s : State) (m : Store) (c : Chan) : Option Nat :=
  let i := c.val
  let named := allQuads.any fun p => decide (m.getN OD.PRE_BUS p.val < 8) && m.getN OD.PRE_FEED p.val == i
  let moved (o : Obj) : Bool × Nat := (named && changed s.active m o i, o.key i)
  let inOring := isFeed m c && allBuses.any fun b => onBus m b c && oring m b.val
  let eleven := vRange m i * 2048 * (m.getN OD.CH_KDIV_OUT i + m.getN OD.CH_KDIV_NEG i)
  firstFail [
    (m.getN OD.CH_ROLE i == 0 && decide (m.getN OD.CH_BUS i < 8), OD.CH_ROLE.key i),
    (allBuses.any fun b => decide (4 < (feedsOf m b).length), OD.CH_ROLE.key i),
    moved OD.CH_ROLE, moved OD.CH_BUS,
    (emptyBus m, OD.CH_BUS.key i),
    (partlyPartnered m (s.act OD.HUB_PX_PORTS), OD.CH_BUS.key i),
    (inOring && plainPod s c, OD.CH_ROLE.key i),
    (allBuses.any fun b => oring m b.val && decide (2 < (feedsOf m b).length), OD.CH_ROLE.key i),
    (decide (28000000 * 1000000 * 65536 * m.getN OD.CH_RSHUNT i < eleven), OD.CH_KDIV_NEG.key i),
    (decide (m.get OD.CH_GEXIT_ON i ≤ m.get OD.CH_GPRE_ON i), OD.CH_GEXIT_ON.key i),
    (decide (m.get OD.CH_GPRE_OFF i ≤ m.get OD.CH_GEXIT_OFF i), OD.CH_GEXIT_OFF.key i),
    (decide (curCode m i 1024 OD.CH_ISC2 < curCode m i 1024 OD.CH_ISC1), OD.CH_ISC1.key i),
    (decide (curCode m i 1024 OD.CH_ISC1 ≤ curCode m i 1024 OD.CH_IOCL), OD.CH_IOCL.key i),
    (inOring && revHigh m i, OD.CH_IREV.key i),
    (decide (winCode m i OD.CH_VOV ≤ winCode m i OD.CH_VUV), OD.CH_VUV.key i),
    (decide (kSum m i < 100 * kDiff m i), OD.CH_KDIV_NEG.key i),
    (decide (m.get OD.CH_TTRIP i ≤ m.get OD.CH_TWARN i), OD.CH_TTRIP.key i),
    (decide (m.getN OD.CH_FTB2 i ≤ m.getN OD.CH_FTB1 i), OD.CH_FTB2.key i),
    (decide (m.getN OD.CH_FTB3 i ≤ m.getN OD.CH_FTB2 i), OD.CH_FTB3.key i),
    (decide (2 * m.getN OD.CH_ESLEW_MAX i * 10 ^ 12 * 65536 ^ 2 < m.getN OD.CH_CLOAD i * vovEff m i ^ 2), OD.CH_ESLEW_MAX.key i),
    (m.getN OD.STR_CAP_RATE i != 0 && m.getN OD.ADC_PAIR i != 1, OD.ADC_PAIR.key i)]

def busConsist (s : State) (m : Store) (b : BusId) : Option Nat :=
  let i := b.val
  let e := m.getN OD.BUS_ORENG i
  let feeds := feedsOf m b
  firstFail [
    (decide (m.getN OD.BUS_VFEED_MAX i ≤ m.getN OD.BUS_VFEED_MIN i), OD.BUS_VFEED_MAX.key i),
    (oring m i && e == 255, OD.BUS_ORENG.key i),
    (e != 255 && allBuses.any fun k => k != b && m.getN OD.BUS_ORENG k.val == e, OD.BUS_ORENG.key i),
    (oring m i && !(grant s).testBit e, OD.BUS_ORENG.key i),
    (oring m i && decide (2 < feeds.length), OD.BUS_FMODE.key i),
    (decide (m.getN OD.BUS_OR_VMAX i < m.getN OD.BUS_OR_VFWD i), OD.BUS_OR_VMAX.key i),
    (oring m i && feeds.any fun c => revHigh m c.val, OD.BUS_FMODE.key i),
    (oring m i && feeds.any fun c => plainPod s c, OD.BUS_FMODE.key i),
    (partlyPartnered m (s.act OD.HUB_PX_PORTS), OD.BUS_FMODE.key i)]

/-- The termination route of a comparator other than `own` names generator `n` (R363). -/
def termNames (m : Store) (own n : Nat) : Bool :=
  allOct.any fun k => k.val != own && (m.getN OD.CMP_ROUTE k.val).testBit 3 && m.getN OD.CMP_PWM_TERM k.val == n

/-- The V_OV of R152 is that of the feed's set in the model that results, its active one or a pending one, as R64 has it for other
units (DESIGN CHOICE beside R201, log 93). -/
def preConsist (m : Store) (p : Quad) : Option Nat :=
  let i := p.val
  let b := m.getN OD.PRE_BUS i
  let f := m.getN OD.PRE_FEED i
  let feedOk := match busOfPre m p, feedOfPre m p with
    | some k, some c => isFeed m c && onBus m k c
    | _, _ => false
  firstFail [
    (decide (b < 8) && !feedOk, OD.PRE_FEED.key i),
    (decide (b < 8) && allQuads.any fun q => q != p && m.getN OD.PRE_BUS q.val == b, OD.PRE_BUS.key i),
    (emptyBus m, OD.PRE_BUS.key i),
    (decide (b < 8) && (termNames m i i || m.getN OD.PRE_MODE i == 1 && termNames m i (i + 4)), OD.PRE_BUS.key i),
    (sharedPwm m i, OD.PRE_MODE.key i),
    (m.getN OD.PRE_MODE i == 1 && decide (m.getN OD.PRE_DMAX i + m.getN OD.PRE_CLOSE i < 10100), OD.PRE_DMAX.key i),
    (decide (m.getN OD.PRE_CMAX i < m.getN OD.PRE_CMIN i), OD.PRE_CMAX.key i),
    (decide (f < 16) && decide (2 * m.getN OD.CH_ESLEW_MAX f * 10 ^ 17 * 65536 ^ 2 <
        m.getN OD.PRE_CMAX i * (m.getN OD.PRE_CLOSE i * vovEff m f) ^ 2), OD.PRE_CMAX.key i)]

def disConsist (m : Store) (d : Quad) : Option Nat :=
  let b := m.getN OD.DIS_BUS d.val
  firstFail [
    (decide (b < 8) && allQuads.any fun q => q != d && m.getN OD.DIS_BUS q.val == b, OD.DIS_BUS.key d.val),
    (emptyBus m, OD.DIS_BUS.key d.val),
    (decide (b < 8) && termNames m 8 (d.val + 4), OD.DIS_BUS.key d.val),
    (sharedPwm m d.val, OD.DIS_BUS.key d.val)]

/-- 100 times the hysteresis H in codes, of FS 1024 codes (R347). -/
def hyst100 (code : Nat) : Nat :=
  match code with
  | 0 => 0
  | 1 => 256
  | 2 => 512
  | 3 => 1024
  | _ => 2048

def cmpConsist (s : State) (m : Store) (n : Oct) : Option Nat :=
  let s : State := { s with active := m }
  let u := (upperOf n).val
  let l := (lowerOf n).val
  let set := m.getB OD.CMP_PAIR u
  let at_ (o : Obj) := o.key n.val
  let term := m.getN OD.CMP_PWM_TERM n.val
  let route := m.getN OD.CMP_ROUTE n.val
  let target : Oct := ⟨term % 8, by omega⟩
  let conv := (preOwner s target).orElse fun _ => if isPartner s target then preOwner s (mainOf target) else none
  let taken := conv.isSome && conv != cmpOwner s n || (disOwner s target).isSome
  firstFail [
    (set && m.getN OD.CMP_POL u != 0, at_ OD.CMP_POL),
    (set && m.getN OD.CMP_POL l != 1, at_ OD.CMP_POL),
    (set && decide (100 * m.getN OD.CMP_REF u ≤ 100 * m.getN OD.CMP_REF l + hyst100 (m.getN OD.CMP_HYST l) +
        hyst100 (m.getN OD.CMP_HYST u)), at_ OD.CMP_REF),
    (route.testBit 3 && taken, at_ OD.CMP_PWM_TERM),
    (route.testBit 2 && decide (m.getN OD.CMP_SPEED n.val < 2), at_ OD.CMP_ROUTE)]

def pwmConsist (s : State) (m : Store) (n : Oct) : Option Nat :=
  let s : State := { s with active := m }
  let k := partnerOf n
  firstFail [(decide (n.val < 4) && m.getN OD.PWM_MODE n.val == 1 &&
    (m.getB OD.PWM_EN k.val || (disOwner s k).isSome), OD.PWM_MODE.key n.val)]

def strConsist (m : Store) : Option Nat :=
  firstFail (allChans.map fun c =>
    (m.getN OD.STR_CAP_RATE c.val != 0 && m.getN OD.ADC_PAIR c.val != 1, OD.STR_CAP_RATE.key c.val))

/-- Check 3 (R6, R65, R98, R123, R151, R152, R181, R189, R200, R204, R253, R329, R357, R363, R380, R525, R532). -/
def consistFail (s : State) (m : Store) : CUnit → Option Nat
  | .chan c => chanConsist s m c
  | .bus b => busConsist s m b
  | .pre p => preConsist m p
  | .dis d => disConsist m d
  | .pwm n => pwmConsist s m n
  | .cmp n => cmpConsist s m n
  | .str => strConsist m

/-! ## Order 4: BUDGET (R39, R524, R525) -/

/-- A sum of fractions. -/
def fracAdd (a b : Nat × Nat) : Nat × Nat := (a.1 * b.2 + b.1 * a.2, a.2 * b.2)
def fracSum (l : List (Nat × Nat)) : Nat × Nat := l.foldl fracAdd (0, 1)

/-- r_x in conversions per second. -/
def convRate (pair : Nat) (i : Nat) : Nat :=
  match i with
  | 0 => if pair = 0 then 20000000 else 30000000
  | 1 | 2 => 6000000
  | 3 => 4000000
  | _ => 2000000

/-- R_pod(c) less the metering transfer, in bit/s. -/
def podData (m : Store) (c : Nat) : Nat × Nat :=
  fracSum (((List.range 5).map fun i =>
    let div := m.getN OD.STR_DIV c i
    if div = 0 then (0, 1) else (128 * convRate (m.getN OD.ADC_PAIR c) i, 2 ^ (avgSetting m c i % 16) * div)) ++
    [(2048 * 1000 * m.getN OD.STR_CAP_RATE c, 1)])

/-- R_pod(c) in bit/s. -/
def podRate (m : Store) (c : Nat) : Nat × Nat := fracAdd (podData m c) (2560000, 1)

/-- R_port in bit/s. -/
def portRate (m : Store) : Nat × Nat :=
  fracSum ((allChans.map fun c => podData m c.val) ++
    (allChans.map fun c =>
      if m.getB OD.STR_MM c.val && decide (0 < m.getN OD.MTR_MM_WIN c.val) then (704000, m.getN OD.MTR_MM_WIN c.val) else (0, 1)) ++
    [(352 * m.getN OD.STR_JNL_RATE 0, 1)])

def overRate (x : Nat × Nat) (limit : Nat) : Bool := decide (limit * x.2 < x.1)

/-- A rate in kbit/s, rounded down (log 9). -/
def kbit (x : Nat × Nat) : Nat := x.1 / (1000 * max 1 x.2)

/-- Check 4: the first changed object of the unit that bears on a rate is named. -/
def budgetFail (s : State) (m : Store) : CUnit → Option Nat
  | .chan c =>
    let keys := [OD.ADC_PAIR.key c.val] ++ ((List.range 5).map fun i => OD.MTR_AVG.key c.val i) ++ [OD.MTR_MM_WIN.key c.val]
    if overRate (podRate m c.val) 200000000 || overRate (portRate m) 720000000 then
      some ((diffOf s.active m keys).getD (OD.ADC_PAIR.key c.val))
    else none
  | .str =>
    if (allChans.any fun c => overRate (podRate m c.val) 200000000) || overRate (portRate m) 720000000 then
      some ((diffKey (unitSet s.active .str) (unitSet m .str)).getD (unitLo .str))
    else none
  | _ => none

/-! ## The checks in their order (R482) -/

/-- The checks of a candidate set: error code and failing object. Other units stand as they will when it applies (R64). -/
def commitCheck (s : State) (u : CUnit) (set : Store) : Option (Err × Nat) :=
  let s : State := { s with active := s.ahead }
  let m := putUnit s.active u set
  match rangeFail m u with
  | some k => some (.range, k)
  | none => match stateFail s m u with
    | some k => some (.state, k)
    | none => match consistFail s m u with
      | some k => some (.consistency, k)
      | none => (budgetFail s m u).map fun k => (.budget, k)

end Sys2Proof.Machine
end

