-- ==== Sys2Proof/Machine/Commit.lean ====
section
/-! DEFINITION. Answers to accesses (R430, R434), and COMMIT: acceptance, application, effects (R480 to R490). -/

namespace Sys2Proof.Machine

/-! ## Answers -/

/-- Payload of an OD_RESP (R430). -/
def respPayload (q : Req) (a : Answer) : List Byte :=
  leBytes 1 a.err.code ++ leBytes 2 q.index ++ leBytes 1 q.sub ++ leBytes 2 q.off ++ leBytes 2 a.data.length ++ a.data

/-- The response that is kept for a request of a source (R434). -/
def keepResp (l : List Kept) (src seq : Nat) (b : List Byte) : List Kept :=
  l.map fun k => if k.src == src && k.seq == seq then { k with answered := some b } else k

/-- Answer an access: to the node that asked, with the SEQ of its request, or to the SPI host. -/
def State.answer (s : State) (q : Req) (a : Answer) : State :=
  let s := { s with resp := some (q.via, a) }
  let b := respPayload q a
  match q.via with
  | .direct => s
  | .ring src seq => { s with ring := { s.ring with kept := keepResp s.ring.kept src seq b } }.sendOwn 4 seq src b
  | .spi tag => s.push { kind := 1, tag := tag, src := 0, bytes := b }

/-! ## Ownership of units (R471, R532, R533) -/

/-- Channels of the group that a unit belongs to. -/
def unitChans (s : State) : CUnit → List Chan
  | .chan c => [c]
  | .bus b => membersOf s.active b
  | .pre p => (busOfPre s.active p).elim [] (membersOf s.active)
  | .dis d => (busOfDis s.active d).elim [] (membersOf s.active)
  | .pwm n =>
    match (preOwner s n).bind (busOfPre s.active), (disOwner s n).bind (busOfDis s.active) with
    | some b, _ => membersOf s.active b
    | none, some b => membersOf s.active b
    | none, none => []
  | .cmp n => ((cmpOwner s n).bind (busOfPre s.active)).elim [] (membersOf s.active)
  | .str => []

def ownsUnit (s : State) (u : CUnit) : Bool := (unitChans s u).all (holdsPort s)

/-! ## COMMIT objects (R490) -/

/-- Subindex `k` of a unit's COMMIT object. -/
def commitObj (u : CUnit) (k : Nat) : Obj := { index := commitIndex u, stride := 0, sub := k, dflt := 0 }

/-- A unit's COMMIT object and its journal record after a COMMIT that applied or failed (R487, R489). -/
def State.commitDone (s : State) (u : CUnit) (e : Err) (key : Nat) : State :=
  let s := (s.set (commitObj u 1) 0 (if e = .ok then 2 else 3)).set (commitObj u 2) 0 (e.code : Nat)
  let s := s.set (commitObj u 6) 0 (failObj key : Nat)
  let s := if e = .ok then (s.count (commitObj u 4)).set (commitObj u 5) 0 (s.now : Nat) else s
  s.journal 0x09 (unitSrc u) e.code [(4, failObj key)]

/-! ## Effects of an application -/

/-- The speed field of a byte of `CH_CMPCFG` (R224). -/
def speedOf (v : Nat) : Nat := v / 8 % 4

/-- The INIT field of a byte of `CH_CMPCFG` (R224). -/
def initOf (v : Nat) : Nat := v / 32 % 2

/-- A change of the INIT field starts the cell afresh: PESSIMISTIC in its active sense, MIDPOINT on the side of the middle of its band
on which its input lies, bit of `mid` (R352 to R355). -/
def initAgain (mid a b bit m : Nat) : Nat :=
  if initOf a = initOf b then m else setBit m bit (initOf b == 0 || mid.testBit bit)

/-- The hold that a change of speed mode starts (R350). -/
def newHold (a b t : Nat) (old : Option Nat) : Option Nat :=
  if speedOf a = speedOf b then old else some (t + holdNs (speedOf a) (speedOf b))

/-- A pod takes its channel set: what runs keeps the values it started with; the range that has changed settles, averages start
afresh, ALTERNATE counts from here, comparators of a new speed hold and those of a new INIT field start (R223, R292, R296, R320,
R350, R352). -/
def Pod.newParams (p : Pod) (set : Store) (t : Nat) : Pod :=
  let o := p
  let p : Pod := { p with params := set, past := (t, o.params) :: p.past.filter fun e => decide (t < e.1 + 2 * secNs) }
  let avg (i : Nat) : Bool := avgSetting o.params 0 i != avgSetting set 0 i
  let flying (i : Nat) : Bool := o.adc.inFlight.any fun c => c.used && (sourceOf c.tap).any fun x => x.idx == i
  let drops := ((List.range 5).filter fun i => avg i && (decide (0 < (o.adc.avgs.getD i {}).n) || flying i)).length
  let p : Pod := { p with
    adc := { p.adc with settleNext := if changed o.params set OD.CH_IRANGE 0 then some (t, { shunt := 16 }) else p.adc.settleNext,
                        avgs := p.adc.avgs.mapIdx fun i a => if avg i then { from_ := t } else a,
                        altFrom := if changed o.params set OD.ADC_PAIR 0 then t else p.adc.altFrom },
    st := { p.st with counts := { p.st.counts with discards := p.st.counts.discards + drops } } }
  let cfg (k : Nat) := newHold (o.prm OD.CH_CMPCFG_BUS k) (p.prm OD.CH_CMPCFG_BUS k) t
  let out := (List.range 11).foldl (fun m i => initAgain p.midCmp (o.cmpCfg i) (p.cmpCfg i) i m) p.st.prot.cmpOut
  let p : Pod := { p with holdOutp := cfg 0 o.holdOutp, holdUv := cfg 1 o.holdUv, holdOv := cfg 2 o.holdOv }
  let p : Pod := if p.st.hvOn then { p with st := { p.st with prot := { p.st.prot with cmpOut := out } } }.cmpRules t else p
  p.fltqRule

/-- The effective window thresholds of a channel are reported from the application of a set on; before, they read their
Default of 0 (R201, R223). -/
def State.chanEff (s : State) (c : Chan) : State :=
  (s.set OD.CH_VUV_EFF c.val (winEff s.active c.val OD.CH_VUV : Nat)).set OD.CH_VOV_EFF c.val (winEff s.active c.val OD.CH_VOV : Nat)

/-- A channel's set applies; at a tick boundary a trip of the ended tick is settled first (R24, R201, R336, R488). -/
def State.chanApplied (s : State) (c : Chan) (old : Store) : State :=
  let set := chanSet s.active c
  let s := if (s.port c).linked && holdsPort s c then
      s.updPod c fun p =>
        let p := (if s.now % tickNs = 0 then p.settleTrip s.now else p).newParams set s.now
        { p with up := { p.up with fltq := p.st.fltq } }
    else s
  let s := (s.chanEff c).updPort c fun q => { q with cfgFromPod := false }
  if changed old s.active OD.MTR_MM_WIN c.val then s.freshTrackers c true else s

/-- The next frames of the members carry what the bus's set gives the engine, or that there is none, from now (R24, R276). -/
def State.orFrames (s : State) (b : BusId) : State :=
  let von := s.act OD.BUS_OR_VON b.val
  let ton := s.act OD.BUS_OR_TON b.val
  (membersOf s.active b).foldl
    (fun s c => let g := orTargetOf s c; s.down c fun f => { f with oring := g, orVon := von, orTon := ton }) s

/-- A bus's set applies: a change of feed mode takes its effects, the stay-on and the off commands in one frame, and every value
that pods hold goes out in the frames of one tick (R24, R274, R276). -/
def State.busApplied (s : State) (b : BusId) (old : Store) : State :=
  let from_ := old.getN OD.BUS_FMODE b.val
  let dest := s.act OD.BUS_FMODE b.val
  let feeds := feedsOf s.active b
  if from_ = dest then (s.orTargets b).orFrames b
  else if dest = 2 then
    let v := s.act OD.BUS_OR_VFWD b.val
    let s := s.updBus b fun x =>
      { x with sel := none, selRan := false, xfer := .steady, blockedFrom := none, blockedNoted := false,
               target1 := v, target2 := v, shareAt := s.now }
    s.orFrames b
  else if dest = 1 then
    let good (c : Chan) : Bool := if from_ = 2 then orOf s c == .conducting else hubCh s c == .on
    let stay := (rankList s b).find? good
    let s := feeds.foldl (fun s c => if some c != stay && (hubCh s c).running then s.offBy c else s) s
    let s := s.updBus b fun x => { x with sel := stay, selRan := stay.isSome, xfer := .steady, steadyFrom := s.now }
    s.orFrames b
  else
    let s := if from_ = 2 then feeds.foldl (fun s c => if orOf s c == .blocking then s.offBy c else s) s else s
    (s.updBus b fun x => { x with xfer := .steady }).orFrames b

/-- Set an active value that a unit imposes on another (R365, R392). -/
def State.impose (s : State) (o : Obj) (i : Nat) (v : Int) : State := { s with active := s.active.set o i v }

/-- Set an object in both sets. -/
def State.both (s : State) (o : Obj) (i : Nat) (v : Int) : State :=
  { s with active := s.active.set o i v, shadow := s.shadow.set o i v }

/-- What an assigned converter imposes on its comparator (R140, R365). -/
def State.preSenses (s : State) (p : Quad) : State :=
  let i := p.val
  let s := ((s.impose OD.CMP_EN i 1).impose OD.CMP_POL i 0).impose OD.CMP_SPEED i 0
  ((s.impose OD.CMP_REF i (preRef s.active p : Nat)).impose OD.CMP_ROUTE i 8).impose OD.CMP_PWM_TERM i i

/-- The second generator of a converter, PWM(p+4), is released when it is no longer the converter's (R62, R392). -/
def State.preLetsSecond (s : State) (p : Quad) (old : Store) : State :=
  if old.getN OD.PWM_MODE p.val = 1 then s.pwmRelease (pwmLow p) else s

/-- What an assigned converter imposes on its comparator and generators, the second one in complementary mode (R62, R140, R141, R365,
R392). -/
def State.preOwns (s : State) (p : Quad) (old : Store) : State :=
  let i := p.val
  let s := s.preSenses p
  let s := ((s.impose OD.PWM_EN i 1).impose OD.PWM_MODE i (s.actI OD.PRE_MODE i)).impose OD.PWM_DMAX i (s.actI OD.PRE_DMAX i)
  let s := if s.act OD.PRE_MODE i = 1 then s.impose OD.PWM_EN (i + 4) 1 else s.preLetsSecond p old
  (s.impose OD.PWM_TOFF_MIN i (s.actI OD.PRE_TOFF_MIN i)).set OD.PRE_IPK_EFF i (ipkEff s.active p : Nat)

/-- The end of an assignment: both generators are released, and PWMp is SINGLE, so that PWM(p+4) reads as free (R365, R392). -/
def State.preLets (s : State) (p : Quad) (old : Store) : State :=
  let s := ((s.updPre p fun x => { x with state := .idle }).preLetsSecond p old).pwmRelease (pwmOf p)
  ((s.both OD.PWM_MODE p.val 0).both OD.CMP_EN p.val 0).both OD.CMP_ROUTE p.val 0

/-- A comparator's set applies: supply, initialisation, hold; the routes act on an initialised sense as on a crossing (R350, R352,
R355, R360, R362). -/
def State.cmpApplied (s : State) (n : Oct) (old : Store) : State :=
  let before := s
  let a := old.getN OD.CMP_SPEED n.val
  let b := s.act OD.CMP_SPEED n.val
  let was := (s.cell n).powered
  let s := s.cellsPower
  let s :=
    if was && (s.cell n).powered then
      let s := if changed old s.active OD.CMP_INIT n.val then s.cellInit n else s
      if a = b then s else s.updCell n fun c => { c with holdUntil := some (s.now + holdNs a b) }
    else s
  s.routesAct before s.now

/-- A converter's set applies. -/
def State.preApplied (s : State) (p : Quad) (old : Store) : State :=
  let n : Oct := ⟨p.val, by omega⟩
  let before := s.active
  let s := if s.act OD.PRE_BUS p.val < 8 then s.preOwns p old
    else if old.getN OD.PRE_BUS p.val < 8 then s.preLets p old else s
  s.cmpApplied n before

/-- A chopper's set applies: its generator runs at BOUNDARY (R162, R392). The spec does not say what becomes of a request on a chopper
that a COMMIT unassigns: it is cleared and the chopper is IDLE (DESIGN CHOICE, log 85). -/
def State.disApplied (s : State) (d : Quad) (old : Store) : State :=
  if s.act OD.DIS_BUS d.val < 8 then (s.impose OD.PWM_EN (d.val + 4) 1).impose OD.PWM_UPD (d.val + 4) 0
  else if old.getN OD.DIS_BUS d.val < 8 then
    (s.updDis d fun x => { x with req := false, state := .idle, runAt := none, duty := 0 }).pwmRelease (pwmLow d)
  else s

/-- A set applies: the active set becomes it, with its effects. The word of a generator is not staged, and what a converter imposes on
its comparator stands (R365, R387, R480). -/
def State.applySet (s : State) (u : CUnit) (set : Store) : State :=
  let old := s.active
  let s := { s with active := putUnit s.active u set }
  match u with
  | .chan c => s.chanApplied c old
  | .bus b => s.busApplied b old
  | .pre p => s.preApplied p old
  | .dis d => s.disApplied d old
  | .pwm n => { s with active := s.active.set OD.PWM_WORD n.val (old.get OD.PWM_WORD n.val) }.pwmFaults
  | .cmp n =>
    let s := match cmpOwner s n with
      | some p => s.preSenses p
      | none => s
    s.cmpApplied n old
  | .str => s

/-! ## Acceptance and application (R482 to R485) -/

/-- The unit is idle, so that its COMMIT applies at once (R483, R526). -/
def unitIdle (s : State) : CUnit → Bool
  | .chan c => !(s.port c).linked || hubPod s c == .linking || hubPod s c == .parked
  | .bus b => (membersOf s.active b).all (fun c => !(hubCh s c).running && hubCh s c != .held) && !preBusy s b
  | .pre p => !(s.conv p).state.busy
  | .dis d => (s.chop d).state == .idle || (s.chop d).state == .stopped
  | .pwm n => pwmState s n != 2
  | .cmp n => !s.actB OD.CMP_EN n.val && !s.shadow.getB OD.CMP_EN n.val
  | .str => !s.str.en

/-- A COMMIT of the unit waits, or a comparator that it takes is under test (R369, R482). -/
def commitBusy (s : State) (u : CUnit) : Bool :=
  (s.pend.any fun x => x.unit == u) ||
  (match u with
   | .cmp n => testRunning s n
   | .pre p =>
     decide (8 ≤ s.act OD.PRE_BUS p.val) && decide (s.shadow.getN OD.PRE_BUS p.val < 8) && testRunning s ⟨p.val, by omega⟩
   | _ => false)

/-- A COMMIT at its application: owner, state checks again, then the set (R485, R488). -/
def State.commitNow (s : State) (u : CUnit) (set : Store) : State × Err :=
  if !ownsUnit s u then (s.commitDone u .owner 0, .owner)
  else match stateFail s (putUnit s.active u set) u with
    | some k => (s.commitDone u .state k, .state)
    | none => ((s.applySet u set).commitDone u .ok 0, .ok)

/-- A write of 1 to a COMMIT object: the error to answer, or none while it waits for its boundary. An idle unit's COMMIT waits
as well while an earlier one has not applied (R64, log 10). -/
def State.commit (s : State) (u : CUnit) (q : Req) : State × Option Err :=
  let set := unitSet s.shadow u
  if commitBusy s u then (s, some .busy)
  else if set = unitSet s.active u then
    (((s.set (commitObj u 1) 0 2).set (commitObj u 2) 0 0).set (commitObj u 6) 0 0, some .ok)
  else match commitCheck s u set with
    | some (e, k) => (s.commitDone u e k, some e)
    | none =>
      if unitIdle s u && s.pend.isEmpty then
        let r := s.commitNow u set
        (r.1, some r.2)
      else
        let late := match u with
          | .pwm n => pwmState s n == 2 && decide (s.now + 500000 < (s.gen n).boundaryAt)
          | _ => false
        let x : Pend := { unit := u, set := set, req := q, at_ := s.now, told := late }
        ({ s with pend := s.pend ++ [x] }.set (commitObj u 1) 0 1, if late then some .ok else none)

/-- The boundary at which a COMMIT applies: of the generator, or of the tick (R483). -/
def applyDue (s : State) (x : Pend) : Option Nat :=
  match x.unit with
  | .pwm n => if pwmState s n = 2 then some ((s.gen n).boundaryAt) else some s.now
  | u => if unitIdle s u || decide (nextTick x.at_ ≤ s.now) then some s.now else none

/-- COMMIT_APPLY: the oldest accepted COMMIT reaches its boundary (R64, R483 to R485). -/
def execCommitApply (u : CUnit) (s : State) : Result :=
  .next (match s.pend with
    | x :: rest =>
      if x.unit = u then
        match applyDue s x with
        | some t =>
          let r := ({ s with pend := rest }.at t).commitNow u x.set
          if x.told then r.1 else r.1.answer x.req { err := r.2 }
        | none => s
      else s
    | [] => s)

/-- A write of 2 to a COMMIT object (R486). -/
def State.revert (s : State) (u : CUnit) : State × Err :=
  if s.pend.any fun x => x.unit == u then (s, .busy)
  else ({ s with shadow := putUnit s.shadow u (unitSet s.active u) }.set (commitObj u 1) 0 4, .ok)

end Sys2Proof.Machine
end

