-- ==== Sys2Proof/Machine/Stream.lean ====
section
/-! DEFINITION. The Fotar stream port (chapter 16): buffer and drop policy, blocks, credits, journal export, capture. -/

namespace Sys2Proof.Machine

/-! ## The buffer (R515, R520 to R522) -/

/-- LEN of a record. -/
def recLen (r : StrRec) : Nat := 12 + r.body.length

/-- The bytes of a record: header and body. -/
def recBytes (r : StrRec) : List Byte :=
  leBytes 1 r.type ++ leBytes 1 r.src ++ leBytes 2 (recLen r) ++ leBytes 8 r.time ++ r.body

/-- `STR_BUF_USED`. -/
def bufUsed (s : State) : Nat := (s.str.queue.map recLen).sum - s.str.sent

def bufFree (s : State) : Nat := 65536 - bufUsed s

/-- LOSS counts are pending. -/
def lossDue (s : State) : Bool := s.str.loss.any fun n => n != 0

/-- The LOSS record of the pending counts. -/
def lossRecord (s : State) : StrRec :=
  { type := 5, src := 0x10, time := s.str.lossAt.getD s.now, body := s.str.loss.flatMap (leBytes 4), since := s.now }

/-- A record joins the queue, behind a LOSS record while counts are pending (R522). -/
def State.enqueue (s : State) (r : StrRec) : State :=
  let l := if lossDue s then [lossRecord s] else []
  { s with str := { s.str with queue := s.str.queue ++ l ++ [{ r with since := s.now }], loss := [0, 0, 0, 0], lossAt := none } }

/-- A record is dropped whole and counted (R520). -/
def State.dropRecord (s : State) (r : StrRec) : State :=
  let i := r.type - 1
  let s := s.count OD.STR_DROPS 0 1 i
  { s with str := { s.str with loss := s.str.loss.set i (s.str.loss.getD i 0 + 1),
                               lossAt := some (s.str.lossAt.getD s.now) } }

/-- Room that a record needs. -/
def roomFor (s : State) (r : StrRec) : Nat := recLen r + if lossDue s then 28 else 0

/-- STREAM_RECORD: the oldest record on its way reaches the buffer. -/
def execStreamRecord (s : State) : Result :=
  .next (match s.str.arriving with
    | r :: rest =>
      let s := { s with str := { s.str with arriving := rest } }
      if s.str.en then if roomFor s r ≤ bufFree s then s.enqueue r else s.dropRecord r else s
    | [] => s)

/-! ## The wire (R508 to R511) -/

/-- What the ten output pins do. -/
inductive FotarPins where
  | highZ
  /-- FCK runs, the lanes send 0x00 -/
  | idle
  /-- a byte of a block goes out -/
  | byte (b : Byte)
  deriving DecidableEq, Repr

/-- Lanes 0 to 3 in the half period with FCK high, and in the one with FCK low (R509). -/
def lanes (b : Byte) : BitVec 4 × BitVec 4 := (b.extractLsb' 0 4, b.extractLsb' 4 4)

/-- The pins now: each byte of the block takes 10 ns from its start, and idle bytes follow; a block that runs when the port stops is
sent to its end (R509 to R511, R523). -/
def fotarPins (s : State) : FotarPins :=
  let rest := if s.str.en then FotarPins.idle else .highZ
  match s.str.blockAt with
  | some t => ((s.str.block[(s.now - t) / 10]?).map FotarPins.byte).getD rest
  | none => rest

/-! ## Blocks (R510 to R513) -/

/-- The first `n` bytes of the queue leave. -/
def leave (queue : List StrRec) (sent n : Nat) : List StrRec × Nat :=
  match queue with
  | [] => ([], 0)
  | r :: rest => if recLen r ≤ sent + n then leave rest 0 (sent + n - recLen r) else (r :: rest, sent + n)

/-- FIRST: where the first record header of the block starts. -/
def firstHeader (s : State) : Nat :=
  match s.str.queue with
  | [] => 0xFFFF
  | r :: rest =>
    if s.str.sent = 0 then 0
    else if recLen r - s.str.sent < 256 ∧ rest ≠ [] then recLen r - s.str.sent else 0xFFFF

/-- The next block from BSEQ on. -/
def blockBody (s : State) : List Byte :=
  let body := ((s.str.queue.flatMap recBytes).drop s.str.sent).take 256
  leBytes 2 s.str.bseq ++ leBytes 2 (firstHeader s) ++ body ++ List.replicate (256 - body.length) 0

/-- The whole block. -/
def blockOf (s : State) : List Byte :=
  [0xE7, 0x3C, 0xA5, 0x5A] ++ blockBody s ++ leBytes 4 (crc32 (blockBody s))

/-- A block may start: FCK has run 1 µs, the wire is free, a credit is held, a body is full or flushed. -/
def blockReady (s : State) : Bool :=
  s.str.en && decide (s.str.enAt + 1000 ≤ s.now) && decide (1 ≤ s.str.credits) &&
  (match s.str.blockAt with
   | some t => decide (t + 2840 ≤ s.now)
   | none => true) &&
  (decide (256 ≤ bufUsed s) || (s.str.flush && decide (0 < bufUsed s)))

/-- BLOCK_SEND. -/
def execBlockSend (s : State) : Result :=
  .next (if blockReady s then
      let q := leave s.str.queue s.str.sent (min 256 (bufUsed s))
      { s with str := { s.str with block := blockOf s, blockAt := some s.now, bseq := (s.str.bseq + 1) % 65536,
                                   credits := s.str.credits - 1, flush := false, queue := q.1, sent := q.2 } }.count OD.STR_BLOCKS
    else s)

/-- STREAM_FLUSH: the oldest byte of a partly filled block has waited `STR_FLUSH` (R512). -/
def execStreamFlush (s : State) : Result :=
  .next (match s.str.queue with
    | r :: _ =>
      if s.str.en = true ∧ bufUsed s < 256 ∧ r.since + s.act OD.STR_FLUSH * usNs ≤ s.now then
        { s with str := { s.str with flush := true } }
      else s
    | [] => s)

/-- READY_HIGH_END: the length of a high level of READY. At 200 ns, where two rows of R514 meet, it is a credit, at 1 µs malformed
(DESIGN CHOICE, log 103) (R513, R514). -/
def execReadyHighEnd (ns : Nat) (s : State) : Result :=
  .next (if s.str.en = false ∨ ns < 20 then s
    else if ns ≤ 200 then
      if s.str.credits < s.act OD.STR_CREDIT_MAX then { s with str := { s.str with credits := s.str.credits + 1 } }
      else s.count OD.STR_RDY_ERR
    else if ns ≤ 1000 then s.count OD.STR_RDY_ERR
    else { s with str := { s.str with credits := 0, bseq := 0 } })

/-! ## Commands (R510, R518, R519, R523) -/

/-- `STR_EN` written 1. -/
def State.strStart (s : State) : State × Err :=
  if s.str.en then (s, .ok)
  else ({ s with str := { s.str with en := true, enAt := s.now, credits := 0, blockAt := none, flush := false } }, .ok)

/-- The port stops: queued records are counted by type and discarded, an export ends (R523). -/
def State.strHalt (s : State) : State :=
  let s := s.str.queue.foldl (fun s r => if r.type = 5 then s else s.count OD.STR_DROPS 0 1 (r.type - 1)) s
  { s with str := { s.str with en := false, queue := [], sent := 0, arriving := [], flush := false, left := 0, credits := 0 } }

/-- `STR_EN` written 0. -/
def State.strStop (s : State) : State × Err := (if s.str.en then s.strHalt else s, .ok)

/-- `STR_CAPTURE`: the command goes in the next downstream frame. -/
def State.strCapture (s : State) (mask : Nat) : State × Err :=
  ((allChans.filter fun c => mask.testBit c.val).foldl (fun s c => s.down c fun f => { f with capture := true }) s, .ok)

/-- Oldest record of the journal. -/
def oldestSeq (s : State) : Nat :=
  match s.jnl.recs.getLast? with
  | some r => r.seq
  | none => s.jnl.next

def jnlFind (s : State) (seq : Nat) : Option JRec := s.jnl.recs.find? fun r => r.seq == seq

/-- `STR_JNL_EXPORT`. -/
def State.strExport (s : State) (n : Nat) : State × Err :=
  if s.str.en = false then (s, .state)
  else if s.str.left ≠ 0 then (s, .busy)
  else if n = 0 ∨ s.jnl.recs = [] then (s, .ok)
  else
    let from_ := s.act OD.STR_JNL_FROM
    let first := if (jnlFind s from_).isSome then from_ else oldestSeq s
    ({ s with str := { s.str with left := n, next := first, exportAt := s.now } }, .ok)

/-- The least time between two exported records, in whole ns, so that no more than `STR_JNL_RATE` go in a second (R519). -/
def exportGap (s : State) : Nat :=
  let r := max 1 (s.act OD.STR_JNL_RATE)
  (1000000000 + r - 1) / r

/-- JOURNAL_EXPORT_RECORD: at the export rate, once there is room for the record and a LOSS record (R519, R521). -/
def execJournalExportRecord (s : State) : Result :=
  .next (if s.str.en = true ∧ s.str.left ≠ 0 ∧ s.str.exportAt ≤ s.now ∧ 72 ≤ bufFree s then
      match jnlFind s s.str.next with
      | some r =>
        let newest := s.jnl.recs.head? == some r
        let s := s.enqueue { type := 4, src := 0x10, time := s.now, body := r.bytes }
        { s with str := { s.str with left := if newest then 0 else s.str.left - 1, next := (s.str.next + 1) % 2 ^ 32,
                                     exportAt := s.now + exportGap s } }
      | none => { s with str := { s.str with next := oldestSeq s } }
    else s)

end Sys2Proof.Machine
end

