-- ==== Sys2Proof/Machine/Power.lean ====
section
/-! DEFINITION. Reset sources and what a core reset keeps (R401, R402), BOOT and its loads (R399, R400, R341, R493, R553),
adoption (R543 to R546), clocks, pod supplies, SLEEP and wake (chapter 13). -/

namespace Sys2Proof.Machine

/-! ## What is kept (R402, R414, R567) -/

/-- Status values of the always-on domain, the MRAM and the supply switches. -/
def keptKeys : List Nat :=
  [OD.HUB_RST_COUNT.key 0, OD.HUB_WAKE_CAUSE.key 0, OD.HUB_SLEEPS.key 0, OD.HUB_PODSUP_FLT.key 0, OD.FW_FALLBACKS.key 0]

/-- A slot whose image was arriving or being checked is INVALID at the next boot (R561). -/
def FwSlot.cut (x : FwSlot) : FwSlot := if x.state = 1 ∨ x.state = 2 then { x with state := 4, sound := false } else x

/-- The image of the stored configuration that a save writes to: the one with the lower sequence number (R492). -/
def CfgRegion.seqA (r : CfgRegion) : Nat := match r.a with
  | some i => i.seq
  | none => 0
def CfgRegion.seqB (r : CfgRegion) : Nat := match r.b with
  | some i => i.seq
  | none => 0

/-- Image A or B, the one a save would replace, is set; a save asked for meanwhile is still due (R492). -/
def CfgRegion.putOlder (r : CfgRegion) (x : Option CfgImage) : CfgRegion :=
  if r.seqA ≤ r.seqB then { r with a := x, writing := none } else { r with b := x, writing := none }

/-- An interrupted save leaves an image that fails its CRC (R495). -/
def CfgRegion.cut (r : CfgRegion) : CfgRegion :=
  let r := { r with due := none }
  if r.writing.isSome then r.putOlder none else r

/-- An interrupted checkpoint write leaves its slot without a valid CRC (R341). -/
def CkptRegion.cut (r : CkptRegion) : CkptRegion :=
  match r.writing with
  | some k =>
    if k.seq % 2 = 0 then { r with slot0 := none, writing := none, waiting := none }
    else { r with slot1 := none, writing := none, waiting := none }
  | none => r

/-- A slot of a sealed object is written, verified or not (R498). -/
def SealBank.add (b : SealBank) (value : List Byte) (ok : Bool) : SealBank :=
  { b with slots := b.slots ++ [{ value := value, ok := ok }], prog := if ok then 2 else 3 }

/-- Add a slot to the sealed object `i` of the bank. -/
def State.sealSlot (s : State) (i : Nat) (value : List Byte) (ok : Bool) : State :=
  if h : i < 64 then { s with seals := s.seals.upd ⟨i, h⟩ fun b => b.add value ok } else s

/-- A reset cuts the slot that is being programmed (R498). -/
def State.sealCut (s : State) : State :=
  match s.sealing with
  | some x => if h : x.index - 0x7800 < 64 then
      { s with seals := s.seals.upd ⟨x.index - 0x7800, h⟩ fun b => { b.add x.value false with cut := true } } else s
  | none => s

/-- At BOOT the hub records the slots that a reset has cut (R498, R555). -/
def State.sealCuts (s : State) : State :=
  (List.finRange 64).foldl (fun s i =>
    if (s.seals.get i).cut then
      { s with seals := s.seals.upd i fun b => { b with cut := false } }.journal 0x13 .hub Err.hw.code
        [(2, 0x7800 + i.val), (1, (s.seals.get i).slots.length - 1)]
    else s) s

/-- The core domain loses its state; MRAM, OTP, the always-on domain and the pods keep theirs. -/
def State.coreLost (s : State) : State :=
  let z := State.reset
  let s := s.sealCut
  let u : State := { s with
    active := z.active, shadow := z.shadow, status := s.status.filter fun e => keptKeys.contains e.1,
    ports := s.ports.all fun q =>
      { ({} : Port) with supply := q.supply, seat := { guardRan := q.seat.guardUntil.isSome || q.seat.guardRan } },
    buses := z.buses, pre := z.pre, dis := z.dis, jnl := { s.jnl with discarded := 0 }, pwm := z.pwm, cells := z.cells,
    flto := z.flto, flti := z.flti, lines := z.lines, ringUp := 0, str := z.str, snap := none, snapLatched := false,
    ckpt := s.ckpt.cut, pfw := z.pfw, pend := [], resp := none, sessions := [], locks := z.locks, pxReady := false,
    sealing := none, seals := s.seals.all fun b => { b with prog := if b.cut then 3 else 0 }, cfg := s.cfg.cut,
    ring := { z.ring with strap := s.ring.strap, onBranch := s.ring.onBranch }, spi := z.spi,
    power := { s.power with sleep := none, hkHad := 0, loaded := false },
    fw := { s.fw with a := s.fw.a.cut, b := s.fw.b.cut }, rwNext := [] }
  u.podSwitches (s.act OD.HUB_PODSUP_EN)

/-! ## Reset sources (R401) -/

/-- A core reset by the source with this bit. -/
def State.coreReset (s : State) (bit : Nat) : State :=
  let s := s.coreLost
  { s with hub := .reset, power := { s.power with latch := setBit s.power.latch bit true, woke := false } }

/-- The core runs: it is neither in RESET nor in SLEEP. -/
def coreRuns (s : State) : Bool := s.hub != .reset && s.hub != .sleep

/-- VDD33_POWER_ON_RESET. -/
def execVdd33PowerOnReset (s : State) : Result := .next (s.coreReset 0)

/-- CORE_SUPPLY_RESET; in SLEEP the core regulator is off. -/
def execCoreSupplyReset (s : State) : Result := .next (if s.hub = .sleep then s else s.coreReset 1)

/-- ALWAYS_ON_POWER_ON_RESET: the always-on domain as well, with its time counter (R14, R402). -/
def execAlwaysOnPowerOnReset (s : State) : Result :=
  let s := s.coreReset 2
  let s : State := { s with power := { s.power with latch := 4, sleptAt := s.now, xtalLost := none } }
  .next (((s.set OD.HUB_RST_COUNT 0 0).set OD.HUB_SLEEPS 0 0).set OD.HUB_WAKE_CAUSE 0 0)

/-- RESET_N. -/
def execResetN (s : State) : Result := .next (s.coreReset 3)

/-- LOCKSTEP_MISMATCH. -/
def execLockstepMismatch (s : State) : Result := .next (if coreRuns s then s.coreReset 4 else s)

/-- WATCHDOG. -/
def execWatchdog (s : State) : Result := .next (if coreRuns s then s.coreReset 5 else s)

/-- The crystal is lost from now on (R407). -/
def State.xtalGone (s : State) : State := { s with power := { s.power with xtalLost := some s.now } }

/-- CRYSTAL_LOST: recorded with the reference on the ring, else a clock reset (R407). -/
def execCrystalLost (s : State) : Result :=
  .next (if coreRuns s then
      if s.stat OD.HUB_CLK_STATE = 1 then s.xtalGone.warn .hub 0x0F [(2, (s.status.get OD.HUB_XTAL_PPM % 65536).toNat)]
      else (s.coreReset 6).xtalGone
    else s)

/-- THERMAL_RESET. -/
def execThermalReset (s : State) : Result := .next (if coreRuns s then s.coreReset 9 else s)

/-- `HUB_RESET` written 1. -/
def State.hubReset (s : State) : State × Err := (s.coreReset 7, .ok)

/-- The address that the straps give (R432). -/
def State.strapped (s : State) (strap : Nat) : State :=
  let adr := strap % 64
  let r := { s.ring with strap := strap % 128 }
  let r : Ring := if strap.testBit 6 then { r with addr := 0, addrSrc := 0, hops := 0 }
    else if adr ≠ 0 then { r with addr := adr, addrSrc := 1 } else { r with addr := 0xFFF, addrSrc := 3 }
  let s := { s with ring := r }
  if strap.testBit 6 then s.set OD.RING_TIME_STATE 0 0 else s

/-- A lost crystal has not passed its check for 1 ms yet (R407). -/
def xtalBad (s : State) : Bool :=
  match s.power.xtalLost with
  | some t => decide (s.now < t + msNs)
  | none => false

/-- RESET_RELEASE: the straps, [5:0] ADDR5 to ADDR0 and [6] HEAD, are sampled, and BOOT starts (R398, R407, R419). -/
def execResetRelease (strap : Nat) (s : State) : Result :=
  .next (if s.hub = .reset ∧ xtalBad s = false then
      { s.strapped strap with hub := .boot, hkFrom := s.now, hkPos := 0,
                              power := { s.power with bootFrom := s.now, xtalLost := none } }
    else s)

/-! ## BOOT (R399) -/

/-- The slot A or B. -/
def Fw.slot (f : Fw) (b : Bool) : FwSlot := if b then f.b else f.a

/-- The slot that the boot takes, and whether a trial falls back: at a reset other than by causes 7 and 8, or where its image
fails its check (R552, R561). -/
def bootSlot (s : State) : Option (Bool × Bool) :=
  let f := s.fw
  let valid (b : Bool) : Bool := (f.slot b).sound
  let other := s.power.latch - (s.power.latch &&& 384)
  let back := f.trial && (other != 0 || !valid f.selB)
  let sel := if back then !f.selB else f.selB
  if valid sel then some (sel, back) else if valid (!sel) then some (!sel, back) else none

/-- Step 3: the image that runs; a slot that passes its check is VALID. -/
def State.bootFw (s : State) (runsB back : Bool) : State :=
  let found (x : FwSlot) : FwSlot := if x.sound then { x with state := 3 } else x
  let s := { s with fw := { s.fw with a := found s.fw.a, b := found s.fw.b, runsB := runsB, selB := runsB, trial := s.fw.trial && !back,
                                      trialAt := if s.fw.trial && !back then s.now else 0 } }
  if back then s.count OD.FW_FALLBACKS else s

/-- The stored image in force: the higher sequence number (R493). -/
def CfgRegion.image (r : CfgRegion) : Option CfgImage :=
  match r.a, r.b with
  | some x, some y => some (if x.seq < y.seq then y else x)
  | some x, none => some x
  | none, y => y

/-- The unit of an index. -/
def unitOfIndex (i : Nat) : Option CUnit := allUnits.find? fun u => decide (unitIndex u ≤ i) && decide (i < unitIndex u + unitSpan u)

/-- SRC of an index in the journal: its unit, or the hub. -/
def srcOfIndex (i : Nat) : JSrc := match unitOfIndex i with
  | some u => unitSrc u
  | none => .hub

/-- One stored value: dropped where the Rack does not list it, replaced by its Default where it is outside its range (R494). -/
def State.loadValue (s : State) (k : Nat) (v : Int) : State × Bool :=
  match rackFind (k / 256) (k % 256) rackRows with
  | some r =>
    if !r.persist then (s, false)
    else if rowAccepts r v then ({ s with active := s.active.put k r.dflt v }, false)
    else (s.warn (srcOfIndex (k / 256)) 0x0B [(2, k / 256), (1, k % 256)], true)
  | none => (s, false)

/-- A stored ORING mode on an engine without grant becomes PRIORITY (R265, R493). -/
def State.grantCheck (s : State) (b : BusId) : State × Bool :=
  let e := s.act OD.BUS_ORENG b.val
  if s.act OD.BUS_FMODE b.val = 2 ∧ (grant s).testBit e = false then
    (({ s with active := s.active.set OD.BUS_FMODE b.val 1 }).warn (.bus b) 8 [(1, e)], true)
  else (s, false)

/-- One pass over the units (R493): whether one has taken its defaults. -/
def State.loadPass (s : State) : State × Bool :=
  allUnits.foldl (fun r u =>
    match commitCheck r.1 u (unitSet r.1.active u) with
    | some (e, k) => ({ r.1 with active := putUnit r.1.active u [] }.warn (unitSrc u) 0x0A [(1, e.code), (4, failObj k)], true)
    | none => r) (s, false)

/-- The pass is repeated until every unit passes. -/
def State.loadPasses : Nat → State → State × Bool
  | 0, s => (s, false)
  | n + 1, s =>
    let r := s.loadPass
    if r.2 then ((State.loadPasses n r.1).1, true) else r

/-- Step 4: the stored configuration (R491 to R494, R438). -/
def State.loadCfg (s : State) : State :=
  match s.cfg.image with
  | none => s.set OD.HUB_CFG_LOAD 0 2
  | some img =>
    let r := img.set.foldl (fun r e => let x := State.loadValue r.1 e.1 e.2; (x.1, r.2 || x.2)) (s, false)
    let g := allBuses.foldl (fun r b => let x := State.grantCheck r.1 b; (x.1, r.2 || x.2)) (r.1, false)
    let p := State.loadPasses 64 g.1
    let s := { p.1 with ring := { p.1.ring with addrs := img.addrs } }.forChans allChans State.chanEff
    let s := (s.set OD.HUB_CFG_SEQ 0 (img.seq : Nat)).set OD.HUB_CFG_TIME 0 (img.at_ : Nat)
    s.set OD.HUB_CFG_LOAD 0 (if g.2 || p.2 then 1 else 0)

/-- What assigned converters and choppers impose, and the shadow sets (R141, R365, R392, R399). -/
def State.cfgInForce (s : State) : State :=
  let s := allQuads.foldl (fun s p => if s.act OD.PRE_BUS p.val < 8 then s.preOwns p s.active else s) s
  let s := allQuads.foldl (fun s d => if s.act OD.DIS_BUS d.val < 8 then
      (s.impose OD.PWM_EN (d.val + 4) 1).impose OD.PWM_UPD (d.val + 4) 0 else s) s
  { s with shadow := s.active }

/-- The checkpoint with the higher sequence number (R341). -/
def CkptRegion.newest (r : CkptRegion) : Option Ckpt :=
  match r.slot0, r.slot1 with
  | some x, some y => some (if x.seq < y.seq then y else x)
  | some x, none => some x
  | none, y => y

/-- A port from a checkpoint (R129, R332, R335, R341). -/
def State.portFrom (s : State) (c : Chan) (k : CkptPort) : State :=
  let free := s.act OD.MTR_MM_WIN c.val == 0
  s.updPort c fun q =>
    { q with damaged := k.damaged, detail := k.detail,
             trip := if k.damaged then { k.trip with seenN := 0, retryDue := none } else q.trip,
             mtr := { q.mtr with acc := k.acc, base := k.base, baseEpoch := k.baseEpoch, msE := k.acc.e,
                                 trk := if free then k.trk else {} } }

/-- Step 4: the checkpoint (R341). -/
def State.loadCkpt (s : State) : State :=
  match s.ckpt.newest with
  | none => (s.set OD.MTR_CKPT_STATE 0 2).warn .hub 0x0D
  | some k =>
    let s := { s with status := k.counts.foldl (fun m (e : Nat × Int) => Store.insert m e.1 e.2) s.status }
    let s := (allChans.zip k.ports).foldl (fun s e => s.portFrom e.1 e.2) s
    ((s.set OD.MTR_CKPT_STATE 0 1).set OD.MTR_CKPT_SEQ 0 (k.seq : Nat)).set OD.MTR_CKPT_TIME 0 (k.at_ : Nat)

/-- `HUB_SHUTDOWN`: the last seal, warning end or boot record tells (R558, R561, R557). -/
def shutdownOf (l : List JRec) : Nat :=
  match l.find? fun r => r.clean || r.kind == 0x10 || (r.kind == 0x16 && r.code == 3) with
  | some r => if r.clean then 0 else 1
  | none => if l.isEmpty then 2 else 1

/-- The boot record, and the reset causes (R402, R555, R557). -/
def State.bootRecord (s : State) : State :=
  let sd := shutdownOf s.jnl.recs
  let latch := s.power.latch
  let s := { s with jnl := { s.jnl with boot := (s.jnl.boot + 1) % 65536 }, power := { s.power with latch := 0 } }
  let s := (s.set OD.HUB_SHUTDOWN 0 sd).set OD.HUB_RST_CAUSE 0 latch
  let s := (if latch = 0 then s else s.count OD.HUB_RST_COUNT).sealCuts
  s.journal 0x10 .hub (s.stat OD.HUB_BOOT_STATUS)
    [(2, latch), (1, s.stat OD.HUB_CFG_LOAD), (1, s.stat OD.MTR_CKPT_STATE), (1, sd)]

/-! ## Adoption (R543 to R546) -/

/-- The hub claims the pod of a port: the port is not partnered, or preferred, and its pod obeys no other hub (R535, R543). -/
def mayAdopt (s : State) (c : Chan) : Bool :=
  (s.port c).linked && claims s c && (s.pod c).st.pod != .linking && (s.pod c).st.pod != .unpowered &&
  ((s.pod c).st.pod.holds || (s.pod c).st.own.link != some false)

/-- A pod that takes the hub from BOOT to ADOPT (R398, R544). -/
def livePod (s : State) (c : Chan) : Bool := mayAdopt s c && ((s.pod c).st.ch.running || (s.pod c).st.pod.holds)

/-- Step 2: the pod's set becomes the active and the shadow set where it differs (R545). -/
def State.reconcile (s : State) (c : Chan) : State :=
  let set := (s.pod c).params
  let loaded := chanSet s.active c
  if set = loaded then s
  else
    let s := { s with active := putChanSet s.active c set, shadow := putChanSet s.shadow c set }
    ((s.chanEff c).updPort c fun q => { q with cfgFromPod := true }).warn (.chan c) 0x0C
      [(4, Config.setDigest set), (4, Config.setDigest loaded)]

/-- The trip that the pod keeps, at its adoption after a BOOT (R237, R248, R250, R543): one later than the last frame of the former
owner is new to the hubs, journalled as held where the pod kept it in HOLD or SAFE; an earlier one is only taken over. Of a PARKED pod,
which counts no orphaning, the notes after that frame are new. -/
def State.adoptKeptTrip (s : State) (c : Chan) (held : Bool) (last : Nat) : State :=
  let v := s.seen c
  let ch := v.faultState
  let n := (s.pod c).held.retryN
  let s := s.updPort c fun q => { q with trip := { q.trip with retryN := n } }
  let s := if ch.faulted then
      if last < v.trip.time then s.tripNew c v.trip ch held
      else
        let s := s.updPort c fun q =>
          { q with damaged := q.damaged || ch == .damaged,
                   trip := { q.trip with cause := v.trip.primary, set := v.trip.set, time := v.trip.time, seenN := v.trip.n, state := ch } }
        s.armRetry c
    else s.updPort c fun q => { q with trip := { q.trip with seenN := v.trip.n } }
  if held then s.noteSeen c v true
  else (v.notes.takeWhile fun e => decide (last < e.2)).reverse.foldl (fun s e => s.journalAt e.2 0x05 (.chan c) e.1 []) s

/-- The trip of an adopted pod. A hub that had the pod before, in the same run, knows what it kept then: only what is new is taken
up (R28). -/
def State.adoptTrip (s : State) (c : Chan) (kept held : Bool) (last : Nat) : State :=
  if kept then s.tripSeen c (s.seen c) held else s.adoptKeptTrip c held last

/-- Milliseconds that remain of a pod's hold window. -/
def holdLeft (s : State) (c : Chan) : Nat :=
  match (s.pod c).st.holdFrom with
  | some f => (f + (s.pod c).prm OD.CH_THOLD * msNs - s.now) / msNs
  | none => 0

/-- The enable, the cool-down and the reseat guard of an adopted channel. After a BOOT the enable of a running channel reads 1, and a
1 that the host has written since stands; a hub that had the pod before keeps what the host has set, and turns off a channel whose
enable it has cleared meanwhile (R28, R40, R41, R134, R546). -/
def State.adoptTimes (s : State) (c : Chan) (kept : Bool) (tEnable0 : Nat) : State :=
  let run := (hubCh s c).running
  let tLatch := (s.pod c).tLatch
  let guard := s.now + s.act OD.CH_TRESEAT c.val * msNs
  let s := s.updPort c fun q =>
    { q with enable := q.enable || (run && !kept), tEnable0 := (if kept then q.tEnable0 else tEnable0), tLatch := max q.tLatch tLatch,
             seat := { q.seat with guardUntil := if q.seat.guardRan then some guard else q.seat.guardUntil, guardRan := false } }
  if run && !(s.port c).enable then s.offBy c else s

/-- A removal that the pod has recorded in HOLD acts at its adoption as a confirmed one; a pod seated again then takes the state
of the reinsertion rules (R127, R129, R131). -/
def State.adoptRemoval (s : State) (c : Chan) : State :=
  if (s.pod c).st.seat.removed then
    let s := s.removed c
    let q := (s.port c).trip
    let r : PodTrip := { set := q.set, primary := q.cause, time := q.time, n := (s.pod c).st.trip.n }
    let s := s.updPod c fun p =>
      let p := { p with st := { p.st with seat := { p.st.seat with removed := false } } }
      let p := if p.st.seat.debounced then p.seated (reinsertState s c) r else p
      { p with up := p.st }
    let seat := (s.pod c).st.seat
    s.updPort c fun q =>
      { q with noPod := false, seen := (s.pod c).st.keep q.seen, seat := { q.seat with confirmed := !(seat.s1 && seat.s2) } }
  else s

/-- Adopt the pod of a port (R543): its set, its trip, its times; it obeys this hub with epoch + 1 where it was live. -/
def State.adoptPod (s : State) (c : Chan) : State :=
  let p := s.pod c
  let live := p.st.ch.running || p.st.pod.holds
  let epoch := if live then (p.st.own.epoch + 1) % 256 else p.st.own.epoch
  let t0 := if p.enable then p.lastFrame else p.tEnable0
  let kept := (s.port c).kept
  let left := holdLeft s c
  let s := s.reconcile c
  let s := (s.set OD.CH_HOLD_LEFT c.val (left : Nat)).seatSeen c {} p.st
  let s := (s.updPod c fun p => let p := p.owned true epoch s.now; { p with up := p.st }).claim c epoch
  let s := s.updPort c fun q => { q with noPod := false, seen := (s.pod c).st.keep q.seen }
  ((s.adoptTrip c kept p.st.pod.holds p.lastFrame).adoptTimes c kept t0).adoptRemoval c

/-- Adoption of some pods, and what follows for their buses; a transfer of such a bus that a reset broke off goes on. -/
def State.adoptPods (s : State) (l : List Chan) : State :=
  let kept (b : BusId) : Option (Chan × Option Chan) := (keptXfer s b).filter fun k => l.contains (k.2.getD k.1)
  let s := l.foldl State.adoptPod s
  let s := allBuses.foldl (fun s b => if runsBus s b then (s.rebuildBus b).resumeXfer b (kept b) else s) s
  (l.foldl State.rebuildPre s).evalLines

/-- The hub has come up: `HUB_BOOT_TIME`. -/
def State.cameUp (s : State) (h : HubState) : State :=
  { s with hub := h }.set OD.HUB_BOOT_TIME 0 (((s.now - s.power.bootFrom) / usNs : Nat) : Int)

/-- The end of BOOT: links that trained in it, IDLE or ADOPT, IRQ_N, enumeration (R398, R399, R413, R437). -/
def State.bootEnd (s : State) : State :=
  let live := allChans.any (livePod s)
  let parked := allChans.filter fun c => mayAdopt s c && !livePod s c
  let others := allChans.filter fun c => (s.port c).linked && !mayAdopt s c
  let s := if live then { s with hub := .adopt }.trackersAfresh else s.cameUp .idle
  let s := s.cellsPower.routesAct s s.now
  let s := others.foldl State.linkUp s
  let s := if live then s else s.adoptPods parked
  let s := s.irq 1
  let s := if s.power.woke then s.journal 0x11 .hub 2 [(2, s.stat OD.HUB_WAKE_CAUSE)] else s
  let s := { s with power := { s.power with woke := false } }
  if isHead s then s.enumerate else s

/-- Steps 3 and 4 of BOOT, once: the image, the stored configuration, the checkpoint, the boot record. They have run before a pod trains
or the ring is joined. With no valid image the hub stays in BOOT, NO_IMAGE (R399, R400). -/
def State.bootLoad (s : State) : State :=
  if s.hub = .boot ∧ s.power.loaded = false ∧ s.stat OD.HUB_BOOT_STATUS = 0 then
    match bootSlot s with
    | some (runsB, back) =>
      let u := ((s.bootFw runsB back).loadCfg.podSwitches (s.act OD.HUB_PODSUP_EN)).hkNew (s.act OD.ADC_HK_EN)
      let u := ((u.cfgInForce).loadCkpt).bootRecord
      let u := if back then u.journal 0x12 .hub 4 [(4, (u.fw.slot runsB).ver)] else u
      { u with power := { u.power with loaded := true } }
    | none => s.set OD.HUB_BOOT_STATUS 0 1
  else s

/-- BOOT_COMPLETE (R398, R399). -/
def execBootComplete (s : State) : Result :=
  let u := s.bootLoad
  .next (if u.hub = .boot ∧ u.power.loaded = true then u.bootEnd else u)

/-- POD_LINK_TRAINED (R399, R416, R417, R569). -/
def execPodLinkTrained (c : Chan) (s : State) : Result :=
  .next ((if (s.pod c).st.pod ≠ .unpowered ∧ (s.port c).linked = false then s.bootLoad else s).podTrained c)

/-- RING_LINK_UP (R399, R437, R449). -/
def execRingLinkUp (k : KPort) (s : State) : Result := .next (s.bootLoad.ringLinkUp k)

/-- ADOPT: every pod that the hub claims is adopted, and the hub runs (R398, R543). -/
def execAdopt (s : State) : Result :=
  .next (if s.hub = .adopt then ((s.adoptPods (allChans.filter (mayAdopt s))).cameUp .run).trackersAfresh else s)

/-- POD_ADOPTION: a pod in HOLD or SAFE whose link trained after BOOT is adopted alone (R544). -/
def execPodAdoption (c : Chan) (s : State) : Result :=
  .next (if (s.hub = .idle ∨ s.hub = .run) ∧ (s.port c).own = false ∧ mayAdopt s c = true ∧ (s.pod c).st.pod.holds = true then
      s.adoptPods [c]
    else s)

/-! ## Pod supply outputs (R396, R397) -/

/-- POD_SUPPLY_CURRENT_LIMIT: 10 ms in current limit without a break open the switch. -/
def execPodSupplyCurrentLimit (c : Chan) (s : State) : Result :=
  .next (if (s.act OD.HUB_PODSUP_EN).testBit c.val && (s.port c).supply.openSince.isNone then
      (((s.updPort c fun q => { q with supply := { openSince := some s.now } }).set OD.HUB_PODSUP_FLT 0
        (setBit (s.stat OD.HUB_PODSUP_FLT) c.val true : Nat))).feedA c
    else s)

/-- POD_SUPPLY_RETRY: every 100 ms; a retry that holds for 10 ms ends the fault. -/
def execPodSupplyRetry (c : Chan) (holds : Bool) (s : State) : Result :=
  .next (match (s.port c).supply.openSince with
    | some f =>
      if f + 100 * msNs ≤ s.now then
        if holds then
          ((s.updPort c fun q => { q with supply := {} }).set OD.HUB_PODSUP_FLT 0
            (setBit (s.stat OD.HUB_PODSUP_FLT) c.val false : Nat)).feedA c
        else s.updPort c fun q => { q with supply := { openSince := some s.now } }
      else s
    | none => s)

/-- A port whose supply may not be switched off: its channel is live and the pod's other input, B, carries no supply
(R397). -/
def soleSupply (s : State) (c : Chan) : Bool :=
  ((hubCh s c).running || hubCh s c == .held) && !(s.seen c).lvB

/-- `HUB_PODSUP_EN` written: refused bits keep their value, the others apply (R397). -/
def State.podsupEn (s : State) (mask : Nat) : State × Err :=
  let old := s.act OD.HUB_PODSUP_EN
  let bad : Nat := (allChans.filter fun c => old.testBit c.val && !mask.testBit c.val && soleSupply s c).foldl
    (fun (m : Nat) c => m + 2 ^ c.val) 0
  let v : Nat := mask % 65536 ||| bad
  ({ s with rwNext := s.rwNext ++ [(OD.HUB_PODSUP_EN.key 0, (v : Int))] }, if bad = 0 then .ok else .state)

/-! ## Clocks (R404 to R406) -/

/-- The reference moves: counted and recorded. -/
def State.clockMove (s : State) (st : Nat) : State :=
  let s := { s with power := { s.power with xtalAt := s.now } }
  ((s.count OD.HUB_CLK_SWITCHES).set OD.HUB_CLK_STATE 0 (st : Nat)).journal 0x14 .hub 3 [(8, s.stat OD.HUB_CLK_STATE)]

/-- RING_CLOCK_MOVE: to the clock of the port that is named, from the crystal or from that of another port (R404). -/
def execRingClockMove (s : State) : Result :=
  let k := s.act OD.HUB_CLK_PORT
  let st := s.stat OD.HUB_CLK_STATE
  .next (if s.hubUp && s.act OD.HUB_CLKSRC == 1 && s.ringUp.testBit k && (st == 0 || st == 1 && k != s.power.clkPort) then
      let s := s.clockMove 1
      { s with power := { s.power with clkPort := k } }
    else s)

/-- RING_CLOCK_LOSS: HOLDOVER, then the crystal at the next tick; with the crystal lost as well there is no clock to move to (R401,
R405, R407). -/
def execRingClockLoss (s : State) : Result :=
  .next (if s.hubUp && s.stat OD.HUB_CLK_STATE == 1 then
      if s.power.xtalLost.isSome then (s.coreReset 6).xtalGone else s.clockMove 2
    else s)

/-- The return to the crystal: after a loss, or where RING_PREF is no longer set; not to a crystal that is lost (R405, R407). -/
def State.clockTick (s : State) : State :=
  let st := s.stat OD.HUB_CLK_STATE
  if st = 2 then s.set OD.HUB_CLK_STATE 0 0
  else if st = 1 ∧ s.act OD.HUB_CLKSRC = 0 ∧ s.power.xtalLost = none then s.clockMove 0 else s

/-- XTAL_MEASURE: once per second on the ring reference, in 0.1 ppm; the seconds run from the move to it. A crystal that can be measured
within the 0.5 % of R407 is no longer lost (DEDUCED, log 117) (R406). -/
def execXtalMeasure (ppm : Int) (s : State) : Result :=
  .next (if s.hubUp && s.stat OD.HUB_CLK_STATE == 1 && decide (s.power.xtalAt + 1000 * msNs ≤ s.now) then
      let lost := if ppm.natAbs ≤ 50000 then none else s.power.xtalLost
      { s with power := { s.power with xtalAt := s.now, xtalLost := lost } }.set OD.HUB_XTAL_PPM 0 (clampInt (-32768) 32767 ppm)
    else s)

/-! ## SLEEP (R408 to R415) -/

/-- A cool-down runs on a channel (R132, R409). -/
def cooling (s : State) (c : Chan) : Bool :=
  decide (s.now < coolEnd s c) && ((hubCh s c == .latched && !(s.port c).enable) || (s.port c).cleared)

/-- A reseat guard runs on a port. -/
def guarding (s : State) (c : Chan) : Bool :=
  match (s.port c).seat.guardUntil with
  | some u => decide (s.now < u)
  | none => false

/-- `HUB_SLEEP_BLOCK` (R409). VAO counts as low only once it has a mean (R14, R318). -/
def sleepBlock (s : State) : Nat :=
  bitAt (s.hub != .idle) 0 + bitAt (allChans.any fun c => (s.port c).trip.retryDue.isSome) 1 + bitAt (allChans.any (cooling s)) 2 +
  bitAt (allChans.any (guarding s)) 3 + bitAt (allBuses.any fun b => (s.bus b).bf) 4 +
  bitAt (allQuads.any fun d => (s.chop d).req) 5 +
  bitAt (s.power.hkHad.testBit 9 && decide (s.stat OD.ADC_HK_VAO < 3000)) 6 +
  bitAt (allOct.any fun n => (s.gen n).run && !pwmOwned s n) 7 +
  bitAt (s.fw.a.state == 1 || s.fw.a.state == 2 || s.fw.b.state == 1 || s.fw.b.state == 2) 8

/-- `HUB_SLEEP` written 1: every linked pod is to be parked with the rest flag at the next tick (R408, R410). -/
def State.hubSleep (s : State) : State × Err :=
  if sleepBlock s ≠ 0 then (s, .state)
  else if s.power.sleep.isSome then (s, .busy)
  else
    let s := { s with power := { s.power with sleep := some s.now } }
    ((allChans.filter fun c => (s.port c).linked && (s.port c).own).foldl
      (fun s c => s.down c fun f => { f with ask := .parkRest }) s, .ok)

/-- Step 2 has ended: every pod has reported PARKED, or 100 µs have passed. -/
def parkedAll (s : State) (t : Nat) : Bool :=
  (allChans.all fun c => !(s.port c).linked || !(s.port c).own || hubPod s c != .active) || decide (t + 100000 ≤ s.now)

/-- The wake route of a cell acts: on the window of a pair for its upper member (R358, R364). -/
def wakeRoute (s : State) (n : Oct) : Bool := (s.act OD.CMP_ROUTE n.val).testBit 2

/-- Cells that stay powered in SLEEP: those of a wake route, both members of a window with one (R358, R364, R410). -/
def wakeCell (s : State) (n : Oct) : Bool :=
  s.actB OD.CMP_EN n.val && (wakeRoute s n || n.val % 2 == 1 && paired s n && wakeRoute s (upperOf n))

/-- SLEEP_ENTERED: checkpoint and sealed record, outputs at rest, comparators without the wake route off, bypass closed, core
stopped (R410). -/
def execSleepEntered (s : State) : Result :=
  .next (match s.power.sleep with
    | some t =>
      if s.hub = .idle ∧ parkedAll s t = true ∧ s.ckpt.writing = none ∧ s.pfw.on = false then
        let s := match (s.latch).ckpt.writing with
          | some k =>
            let r : CkptRegion := if k.seq % 2 = 0 then { s.ckpt with slot0 := some k } else { s.ckpt with slot1 := some k }
            { s with ckpt := r }.set OD.MTR_CKPT_SEQ 0 (k.seq : Nat)
          | none => s
        let s := s.journalAt s.now 0x11 .hub 1 [(2, s.stat OD.HUB_WAKE_CAUSE)] (clean := true)
        let s := allOct.foldl State.testAbort s
        let s := allOct.foldl (fun s n => if wakeCell s n then s else s.cellOff n) s
        let s := if s.str.en then s.strHalt else s
        let s := s.count OD.HUB_SLEEPS
        { s with hub := .sleep, ringUp := 0, flto := Bank.fill 2 {}, lines := Bank.fill 4 {}, sessions := [], hkAt := s.now,
                 ports := s.ports.all fun q => { q with linked := false },
                 pwm := s.pwm.all (Pwm.stop false),
                 power := { s.power with sleep := none, sleptAt := s.now, hkOut := false, wakeEn := s.act OD.HUB_WAKE_EN,
                                         wakePods := s.act OD.HUB_PODPORT_WAKE, wakeTimer := s.act OD.HUB_WAKE_TIMER } }
      else s
    | none => s)

/-- POD_WAKE_SIGNAL: a parked pod on a resting link whose seat pins have changed, which has raised a trip, or whose stack test has
found a suspect (R411). -/
def execPodWakeSignal (c : Chan) (s : State) : Result :=
  let p := s.pod c
  .next (match p.rest with
    | some k =>
      if p.st.pod = .parked ∧ (k ≠ p.restKey ∨ p.st.prot.suspect.isSome = true) then
        s.updPod c fun p => { p with rest := some p.restKey, wakeAt := some s.now }
      else s
    | none => s)

/-- The wake level of a pod's port lasts 200 µs (R411). -/
def wakeLevel (s : State) (c : Chan) : Bool :=
  match (s.pod c).wakeAt with
  | some t => decide (s.now ≤ t + 200000)
  | none => false

/-- A cell has been in an active sense that a crossing has set at two consecutive samples of the 32.768 kHz clock (R355, R364). -/
def wakeSense (s : State) (n : Oct) : Bool :=
  (s.cell n).sense && !(s.cell n).init && decide ((s.cell n).outAt + 30518 ≤ s.now)

/-- A cell with the wake route wakes the hub: it, or with a window either member (R356, R358, R364). -/
def wakes (s : State) (n : Oct) : Bool :=
  s.actB OD.CMP_EN n.val && wakeRoute s n && (wakeSense s n || n.val % 2 == 0 && paired s n && wakeSense s (lowerOf n))

/-- The sources of a mask that are enabled and whose condition the state tells; from the entry into SLEEP to the end of BOOT by the
settings that the hub slept with (R412, R413). -/
def wakeSources (s : State) (src : Nat) : Nat :=
  let asleep := s.hub == .sleep || s.hub == .boot
  let en := if asleep then s.power.wakeEn else s.act OD.HUB_WAKE_EN
  let ports := if asleep then s.power.wakePods else s.act OD.HUB_PODPORT_WAKE
  let pods := allChans.any fun c => wakeLevel s c && ports.testBit c.val
  let cmp := allOct.any (wakes s)
  let timer := s.power.wakeTimer
  let late := asleep && timer != 0 && decide ((s.power.sleptAt * 100 + timer * 97 * msNs) ≤ s.now * 100)
  let holds (i : Nat) : Bool :=
    if i = 0 then cmp else if i = 4 then pods else if i = 5 then late else if i = 6 then isHead s else if i = 9 then s.power.hkOut else true
  ((List.range 10).filter fun i => src.testBit i && en.testBit i && holds i).foldl (fun (m : Nat) i => m + 2 ^ i) 0

/-- WAKE with the sources active at one RC sample: from SLEEP into BOOT; during the entry back to IDLE; later in the BOOT of a
wake its sources are added (R413 to R415). -/
def execWake (src : Nat) (s : State) : Result :=
  .next (let m := wakeSources s src
    if m = 0 then s
    else if s.hub = .sleep then
      let s := { s.coreLost with now := ceilTick s.now }
      let s := (s.strapped s.ring.strap).set OD.HUB_WAKE_CAUSE 0 (m : Nat)
      { s with hub := .boot, hkFrom := s.now, hkPos := 0, power := { s.power with bootFrom := s.now, woke := true } }
    else if s.power.sleep.isSome then { s with power := { s.power with sleep := none } }.set OD.HUB_WAKE_CAUSE 0 (m : Nat)
    else if s.hub = .boot ∧ s.power.woke = true then s.set OD.HUB_WAKE_CAUSE 0 (s.stat OD.HUB_WAKE_CAUSE ||| m : Nat)
    else s)

end Sys2Proof.Machine
end

