-- ==== Sys2Proof/Machine/Persist.lean ====
section
/-! DEFINITION. Stored configuration (R491 to R496), sealed objects (R497 to R502), firmware (R549 to R552), power loss (R558 to
R560). -/

namespace Sys2Proof.Machine

/-! ## Stored configuration -/

/-- An object that the stored configuration holds (R491, R565). -/
def persists (k : Nat) : Bool :=
  match rackFind (k / 256) (k % 256) rackRows with
  | some r => r.persist
  | none => false

/-- Version of the image that runs, `DEV_FWVER`. -/
def fwVer (s : State) : Nat := (s.fw.slot s.fw.runsB).ver

/-- `HUB_CFG_SAVE` written 1 (R492). -/
def State.cfgSave (s : State) : State × Err :=
  if s.cfg.due.isSome || s.cfg.writing.isSome then (s, .busy)
  else ({ s with cfg := { s.cfg with due := some s.now } }.set OD.HUB_CFG_STATE 0 1, .ok)

/-- The tick after: the active sets are taken. -/
def State.cfgTick (s : State) : State :=
  match s.cfg.due with
  | some t =>
    if t < s.now ∧ s.cfg.writing = none then
      let img : CfgImage :=
        { seq := (max s.cfg.seqA s.cfg.seqB + 1) % 2 ^ 32, at_ := s.now, fw := fwVer s, set := s.active.filter fun e => persists e.1,
          addrs := s.ring.addrs }
      { s with cfg := { s.cfg with due := none, writing := some img } }.set OD.HUB_CFG_STATE 0 1
    else s
  | none => s

/-- A save fails: the image it was writing holds no longer (R495). -/
def State.cfgFail (s : State) : State :=
  if s.cfg.writing.isSome || s.cfg.due.isSome then { s with cfg := s.cfg.cut }.set OD.HUB_CFG_STATE 0 3 else s

/-- CFG_SAVE_COMPLETE: the image is written, and holds where its CRC does; an automatic save that fell due meanwhile follows (R492). -/
def execCfgSaveComplete (ok : Bool) (s : State) : Result :=
  .next (match s.cfg.writing with
    | some img =>
      if ok then
        let s := { s with cfg := s.cfg.putOlder (some img) }.set OD.HUB_CFG_STATE 0 2
        (s.set OD.HUB_CFG_SEQ 0 (img.seq : Nat)).set OD.HUB_CFG_TIME 0 (img.at_ : Nat)
      else { s with cfg := s.cfg.putOlder none }.set OD.HUB_CFG_STATE 0 3
    | none => s)

/-- A staged object. -/
def staged (k : Nat) : Bool :=
  match rackFind (k / 256) (k % 256) rackRows with
  | some r => r.access == .rws
  | none => false

/-- `HUB_CFG_DEFAULTS` written 1 (R496). -/
def State.cfgDefaults (s : State) : State × Err := ({ s with shadow := s.shadow.filter fun e => !staged e.1 }, .ok)

/-! ## Sealed objects -/

/-- The sealed object of an index (R500). -/
def sealedIndex (i : Nat) : Bool :=
  (decide (0x7800 ≤ i) && decide (i ≤ 0x7804)) || i == 0x7808 || (decide (0x7820 ≤ i) && decide (i ≤ 0x783F))

/-- A key object. -/
def keyIndex (i : Nat) : Bool := decide (0x7800 ≤ i) && decide (i ≤ 0x7802)

/-- Bytes of a sealed value: its least and its greatest length. -/
def sealedLen (i : Nat) : Nat × Nat :=
  if i = 0x7803 then (4, 4) else if i = 0x7804 then (1, 32) else if i = 0x7808 then (1, 1) else (32, 32)

/-- The bank of an index. -/
def sealBank (s : State) (i : Nat) : SealBank := if h : i - 0x7800 < 64 then s.seals.get ⟨i - 0x7800, h⟩ else {}

/-- The checks of step 8: lengths that R500 fixes, no zero SERVICE key (R501). -/
def sealRange (i : Nat) (v : List Byte) : Bool :=
  decide ((sealedLen i).1 ≤ v.length) && decide (v.length ≤ (sealedLen i).2) && !(i == 0x7802 && v.all fun b => b == 0) &&
  (i != 0x7808 || decide (ofLe v ≤ 0x0F))

/-- The value in force as it reads: of the highest slot that holds, else the Default (R498). -/
def sealRead (s : State) (i : Nat) : List Byte :=
  (sealValue s (i - 0x7800)).getD (if i = 0x7803 then leBytes 4 0 else if i = 0x7808 then [0] else [])

/-- A SEAL write: the value in force uses no slot, else the next slot is claimed (R497, R499). -/
def State.seal (s : State) (i : Nat) (v : List Byte) : State × Err :=
  if s.sealing.isSome then (s, .busy)
  else if sealValue s (i - 0x7800) = some v then (s, .ok)
  else if 16 ≤ (sealBank s i).slots.length then (s, .sealExhausted)
  else
    let s := { s with sealing := some { index := i, value := v } }
    (if h : i - 0x7800 < 64 then { s with seals := s.seals.upd ⟨i - 0x7800, h⟩ fun b => { b with prog := 1 } } else s, .ok)

/-- SEAL_PROGRAM_DONE: the slot verifies or stays used without a value (R497, R498, R555). -/
def execSealProgramDone (ok : Bool) (s : State) : Result :=
  .next (match s.sealing with
    | some x =>
      let n := (sealBank s x.index).slots.length
      ({ s with sealing := none }.sealSlot (x.index - 0x7800) x.value ok).journal 0x13 .hub (if ok then 0 else Err.hw.code)
        [(2, x.index), (1, n)]
    | none => s)

/-! ## Firmware -/

/-- The slot that does not run. -/
def Fw.idle (f : Fw) : FwSlot := f.slot (!f.runsB)

/-- Replace the slot that does not run. -/
def Fw.putIdle (f : Fw) (x : FwSlot) : Fw := if f.runsB then { f with a := x } else { f with b := x }

/-- `FW_LOAD` 1, BEGIN (R550). -/
def State.fwBegin (s : State) : State × Err :=
  if s.fw.trial then (s, .state)
  else if s.fw.idle.state = 2 then (s, .busy)
  else ({ s with fw := s.fw.putIdle { state := 1 } }, .ok)

/-- `FW_IMAGE`: the next bytes (R550). -/
def State.fwImage (s : State) (off : Nat) (data : List Byte) : State × Err :=
  let x := s.fw.idle
  if off ≠ x.image.length ∨ 262144 < x.image.length + data.length then (s, .range)
  else if x.state ≠ 1 then (s, .state)
  else ({ s with fw := s.fw.putIdle { x with image := x.image ++ data } }, .ok)

/-- `FW_LOAD` 2, FINISH: the check starts. -/
def State.fwFinish (s : State) : State × Err :=
  let x := s.fw.idle
  if x.state = 2 then (s, .busy)
  else if x.state ≠ 1 then (s, .state)
  else ({ s with fw := s.fw.putIdle { x with state := 2 } }, .ok)

/-- `FW_LOAD` 3, CANCEL; in a trial the slot holds the fallback. -/
def State.fwCancel (s : State) : State × Err :=
  if s.fw.trial then (s, .state)
  else if s.fw.idle.state = 2 then (s, .busy)
  else ({ s with fw := s.fw.putIdle {} }, .ok)

/-- Magic, part and length of an image (R549). -/
def imageForm (l : List Byte) : Bool :=
  decide (128 ≤ l.length) && l.take 4 == [0x54, 0x4D, 0x46, 0x57] && fieldAt l 12 4 == 0x6410 && fieldAt l 8 4 + 128 == l.length

/-- The state that the check gives: VALID, INVALID or BELOW_FLOOR. -/
def imageState (s : State) (l : List Byte) : Nat :=
  if !(imageForm l && Config.sigOk l) then 4
  else if fieldAt l 4 4 < ofLe (sealRead s 0x7803) then 5 else 3

/-- FW_CHECK_DONE. -/
def execFwCheckDone (s : State) : Result :=
  let x := s.fw.idle
  .next (if x.state = 2 then
      let st := imageState s x.image
      let v := if st = 4 then 0 else fieldAt x.image 4 4
      let s := { s with fw := s.fw.putIdle { x with state := st, sound := st == 3, ver := v } }
      if st = 3 then s.journal 0x12 .hub 1 [(4, v)] else s
    else s)

/-- `FW_BLOCK` (R551). -/
def fwBlock (s : State) : Nat :=
  bitAt (s.fw.idle.state != 3) 0 +
  bitAt (allChans.any fun c => (s.port c).own && (hubCh s c).running && decide (s.act OD.CH_THOLD c.val < 50)) 1 +
  bitAt (allQuads.any fun p => (s.conv p).state.busy) 2 +
  bitAt (allQuads.any fun d => (s.chop d).state == .wait || (s.chop d).state == .run || (s.chop d).state == .done) 3 +
  bitAt (allBuses.any fun b => (s.bus b).xfer.moving) 4 +
  bitAt (s.cfg.due.isSome || s.cfg.writing.isSome || s.sealing.isSome || s.ckpt.writing.isSome) 5 +
  bitAt s.fw.trial 6

/-- `FW_ACTIVATE` written 1 (R551): the boot selection names the other slot in trial, and the core resets. -/
def State.fwActivate (s : State) : State × Err :=
  if fwBlock s ≠ 0 then (s, .state)
  else
    let v := s.fw.idle.ver
    let s := { s with fw := { s.fw with selB := !s.fw.runsB, trial := true } }
    ((s.journal 0x12 .hub 2 [(4, v)]).coreReset 8, .ok)

/-- `FW_CONFIRM` written 1 (R552). -/
def State.fwConfirm (s : State) : State × Err :=
  if s.fw.trial then ({ s with fw := { s.fw with trial := false } }.journal 0x12 .hub 3 [(4, fwVer s)], .ok) else (s, .ok)

/-- FW_TRIAL_EXPIRY: the previous image is selected, and the core resets (R552). -/
def execFwTrialExpiry (s : State) : Result :=
  .next (if s.hubUp && s.fw.trial && decide (s.fw.trialAt + s.act OD.FW_TTRIAL * secNs ≤ s.now) then
      let v := s.fw.idle.ver
      let s := { s with fw := { s.fw with selB := !s.fw.runsB, trial := false } }.count OD.FW_FALLBACKS
      (s.journal 0x12 .hub 4 [(4, v)]).coreReset 8
    else s)

/-! ## Power loss -/

/-- PFW_N: writes are refused, requests in flight and a configuration save are given up, entry into SLEEP ends, a checkpoint is
to be latched (R415, R495, R558). In BOOT, RESET and SLEEP the input is not acted on. -/
def execPfwN (s : State) : Result :=
  .next (if s.hubUp && !s.pfw.on then
      let seq := s.stat OD.MTR_CKPT_SEQ
      let s := { s with pfw := { on := true, from_ := s.now, latch := true, saving := true },
                        ring := { s.ring with sent := [] }, power := { s.power with sleep := none } }
      ((s.cfgFail.count OD.HUB_PFW_COUNT).set OD.HUB_PFW_STATE 0 1).journal 0x16 .hub 1 [(4, seq)]
    else s)

/-- POWER_WARNING_END: 1 ms high after the sequence (R560). -/
def execPowerWarningEnd (s : State) : Result :=
  .next (match s.pfw.doneAt with
    | some d =>
      if s.pfw.on = true ∧ d + msNs ≤ s.now then
        ({ s with pfw := {} }.set OD.HUB_PFW_STATE 0 0).journal 0x16 .hub 3 [(4, s.stat OD.MTR_CKPT_SEQ)]
      else s
    | none => s)

end Sys2Proof.Machine
end

