-- ==== Sys2Proof/Machine/Sha.lean ====
section
/-! DEFINITION. HMAC-SHA-256, which R475 names (FIPS 180-4 and FIPS 198-1; PRESUMED, log 34). -/

namespace Sys2Proof

/-- The working variables of a hash. -/
structure Sha where
  a : Nat
  b : Nat
  c : Nat
  d : Nat
  e : Nat
  f : Nat
  g : Nat
  h : Nat
  deriving DecidableEq, Repr

def Sha.start : Sha :=
  ⟨0x6a09e667, 0xbb67ae85, 0x3c6ef372, 0xa54ff53a,
   0x510e527f, 0x9b05688c, 0x1f83d9ab, 0x5be0cd19⟩

/-- Constants of the rounds. -/
def shaK : List Nat :=
  [0x428a2f98, 0x71374491, 0xb5c0fbcf, 0xe9b5dba5, 0x3956c25b, 0x59f111f1, 0x923f82a4, 0xab1c5ed5,
   0xd807aa98, 0x12835b01, 0x243185be, 0x550c7dc3, 0x72be5d74, 0x80deb1fe, 0x9bdc06a7, 0xc19bf174,
   0xe49b69c1, 0xefbe4786, 0x0fc19dc6, 0x240ca1cc, 0x2de92c6f, 0x4a7484aa, 0x5cb0a9dc, 0x76f988da,
   0x983e5152, 0xa831c66d, 0xb00327c8, 0xbf597fc7, 0xc6e00bf3, 0xd5a79147, 0x06ca6351, 0x14292967] ++
  [0x27b70a85, 0x2e1b2138, 0x4d2c6dfc, 0x53380d13, 0x650a7354, 0x766a0abb, 0x81c2c92e, 0x92722c85,
   0xa2bfe8a1, 0xa81a664b, 0xc24b8b70, 0xc76c51a3, 0xd192e819, 0xd6990624, 0xf40e3585, 0x106aa070,
   0x19a4c116, 0x1e376c08, 0x2748774c, 0x34b0bcb5, 0x391c0cb3, 0x4ed8aa4a, 0x5b9cca4f, 0x682e6ff3,
   0x748f82ee, 0x78a5636f, 0x84c87814, 0x8cc70208, 0x90befffa, 0xa4506ceb, 0xbef9a3f7, 0xc67178f2]

def word32 (n : Nat) : Nat := n % 4294967296

/-- A 32-bit word rotated right. -/
def rotr (x n : Nat) : Nat := word32 (x >>> n ||| x <<< (32 - n))

/-- One round. -/
def Sha.round (s : Sha) (kw : Nat × Nat) : Sha :=
  let s1 := rotr s.e 6 ^^^ rotr s.e 11 ^^^ rotr s.e 25
  let ch := (s.e &&& s.f) ^^^ ((s.e ^^^ 0xffffffff) &&& s.g)
  let t1 := s.h + s1 + ch + kw.1 + kw.2
  let s0 := rotr s.a 2 ^^^ rotr s.a 13 ^^^ rotr s.a 22
  let maj := (s.a &&& s.b) ^^^ (s.a &&& s.c) ^^^ (s.b &&& s.c)
  ⟨word32 (t1 + s0 + maj), s.a, s.b, s.c, word32 (s.d + t1), s.e, s.f, s.g⟩

/-- `n` more words of the schedule; the list stands newest first. -/
def shaExpand : Nat → List Nat → List Nat
  | 0, l => l
  | n + 1, l =>
    let x := l.getD 1 0
    let y := l.getD 14 0
    let s1 := rotr x 17 ^^^ rotr x 19 ^^^ x >>> 10
    let s0 := rotr y 7 ^^^ rotr y 18 ^^^ y >>> 3
    shaExpand n (word32 (s1 + l.getD 6 0 + s0 + l.getD 15 0) :: l)

/-- A word of four bytes, most significant first. -/
def beWord (w : Nat) : List Byte :=
  [BitVec.ofNat 8 (w / 16777216), BitVec.ofNat 8 (w / 65536), BitVec.ofNat 8 (w / 256), BitVec.ofNat 8 w]

/-- The 16 words of a block. -/
def shaWords : Nat → List Byte → List Nat
  | n + 1, a :: b :: c :: d :: l => (a.toNat * 16777216 + b.toNat * 65536 + c.toNat * 256 + d.toNat) :: shaWords n l
  | _, _ => []

/-- One block of 64 bytes. -/
def Sha.block (s : Sha) (l : List Byte) : Sha :=
  let w := (shaExpand 48 (shaWords 16 l).reverse).reverse
  let t := (shaK.zip w).foldl Sha.round s
  ⟨word32 (s.a + t.a), word32 (s.b + t.b), word32 (s.c + t.c), word32 (s.d + t.d),
   word32 (s.e + t.e), word32 (s.f + t.f), word32 (s.g + t.g), word32 (s.h + t.h)⟩

/-- `n` blocks. -/
def Sha.blocks : Nat → Sha → List Byte → Sha
  | 0, s, _ => s
  | n + 1, s, l => Sha.blocks n (s.block l) (l.drop 64)

/-- A message with its padding and its length in bits. -/
def shaPad (l : List Byte) : List Byte :=
  l ++ [0x80] ++ List.replicate ((119 - l.length % 64) % 64) 0 ++ beWord (l.length * 8 / 4294967296) ++ beWord (l.length * 8)

def Sha.bytes (s : Sha) : List Byte :=
  beWord s.a ++ beWord s.b ++ beWord s.c ++ beWord s.d ++ beWord s.e ++ beWord s.f ++ beWord s.g ++ beWord s.h

/-- SHA-256, 32 bytes. -/
def sha256 (l : List Byte) : List Byte := (Sha.blocks ((shaPad l).length / 64) Sha.start (shaPad l)).bytes

/-- HMAC-SHA-256 of a key and a message. -/
def hmac (key msg : List Byte) : List Byte :=
  let k := (if 64 < key.length then sha256 key else key) ++ List.replicate 64 0
  let k := k.take 64
  sha256 ((k.map fun b => b ^^^ 0x5c) ++ sha256 ((k.map fun b => b ^^^ 0x36) ++ msg))

theorem hmac_length (key msg : List Byte) : (hmac key msg).length = 32 := rfl

end Sys2Proof
end

