-- ==== Sys2Proof/Machine/Session.lean ====
section
/-! DEFINITION. Sessions and roles (R474 to R479), and the partner: mirroring and planned moves (R533 to R536). -/

namespace Sys2Proof.Machine

/-! ## Sessions -/

def allRoles : List Role := [.observe, .operate, .configure, .service]

/-- The role of a code. -/
def roleOf (n : Nat) : Role := if n = 0 then .observe else if n = 1 then .operate else if n = 2 then .configure else .service

/-- A role as an index of the locks. -/
def roleIx (r : Role) : Quad := match r with
  | .observe => 0 | .operate => 1 | .configure => 2 | .service => 3

def lockOf (s : State) (r : Role) : RoleLock := s.locks.get (roleIx r)

/-- The session of a handle. -/
def sessionOf (s : State) (h : Nat) : Option Session := s.sessions.find? fun x => x.handle == h

/-- The key of a role, where its object lets the role open (R500, R501). -/
def roleKey (s : State) (r : Role) : Option (List Byte) :=
  match sealValue s (r.code - 1) with
  | some k => if k.all fun b => b == 0 then none else some k
  | none => none

/-- A handle from `h` on that no session has; `n` bounds the search. -/
def unusedHandle (s : State) : Nat → Nat → Nat
  | 0, h => h
  | n + 1, h => if (sessionOf s h).isSome then unusedHandle s n (h % 0xFFFE + 1) else h

/-- `SES_OPEN` written a role code (R474). The handle is of the hub's choosing and the challenge random: free values. -/
def State.sesOpen (s : State) (rq : Requester) (code : Nat) : State × Err :=
  let r := roleOf code
  if (lockOf s r).lockedAt.isSome || (roleKey s r).isNone then (s, .auth)
  else if 8 ≤ s.sessions.length then (s, .busy)
  else
    let a := s.take
    let b := a.2.take
    let x : Session := { handle := unusedHandle s 9 (a.1 % 0xFFFE + 1), role := r, src := rq.src, challenge := leBytes 32 b.1,
                         idleFrom := s.now }
    ({ b.2 with sessions := s.sessions ++ [x] }, .ok)

/-- The pending session that a source reads: the last one it opened. -/
def pendingOf (s : State) (src : Nat) : Option Session := (s.sessions.filter fun x => !x.isOpen && x.src == src).getLast?

/-- `SES_CHALLENGE` as a source reads it. -/
def challengeOf (s : State) (src : Nat) : List Byte :=
  match pendingOf s src with
  | some x => leBytes 2 x.handle ++ x.challenge
  | none => []

/-- Change the session of a handle. -/
def State.updSession (s : State) (h : Nat) (f : Session → Session) : State :=
  { s with sessions := s.sessions.map fun x => if x.handle == h then f x else x }

/-- A handle is freed. -/
def State.endSession (s : State) (h : Nat) : State := { s with sessions := s.sessions.filter fun x => x.handle != h }

/-- The first read of a challenge starts its lapse. -/
def State.readChallenge (s : State) (src : Nat) : State :=
  match pendingOf s src with
  | some x => s.updSession x.handle fun x => { x with readAt := some (x.readAt.getD s.now) }
  | none => s

/-- The challenge has lapsed, 10 s after its read. -/
def lapsed (s : State) (x : Session) : Bool :=
  x.late || (match x.readAt with
    | some t => decide (t + 10 * secNs < s.now)
    | none => false)

/-- The message of a response (R475). -/
def sesMessage (x : Session) : List Byte := x.challenge ++ leBytes 8 Config.devUid ++ leBytes 2 x.handle ++ leBytes 1 x.role.code

/-- A failed response: counted, recorded; the third in a row locks the role (R475, R476). -/
def State.sesFail (s : State) (x : Session) : State :=
  let n := (lockOf s x.role).fails + 1
  let s := ((s.endSession x.handle).count OD.SES_AUTH_FAILS).journal 0x0C .hub 2 [(1, x.role.code), (2, x.handle)]
  if n < 3 then { s with locks := s.locks.upd (roleIx x.role) fun l => { l with fails := n } }
  else
    { s with locks := s.locks.upd (roleIx x.role) fun _ => { fails := 0, lockedAt := some s.now } }.journal 0x0C .hub 3
      [(1, x.role.code), (2, x.handle)]

/-- `SES_RESPONSE` written with a pending handle (R475). -/
def State.sesRespond (s : State) (x : Session) (data : List Byte) : State × Err :=
  if lapsed s x then (s.endSession x.handle, .auth)
  else
    match roleKey s x.role with
    | none => (s.endSession x.handle, .auth)
    | some key =>
      if data = hmac key (sesMessage x) then
        let s := s.updSession x.handle fun x => { x with isOpen := true, challenge := [], idleFrom := s.now }
        let s := { s with locks := s.locks.upd (roleIx x.role) fun l => { l with fails := 0 } }
        (s.journal 0x0C .hub 1 [(1, x.role.code), (2, x.handle)], .ok)
      else (s.sesFail x, .auth)

/-- CHALLENGE_LAPSE: challenges read 10 s ago can no longer be answered (R475). -/
def execChallengeLapse (s : State) : Result :=
  .next { s with sessions := s.sessions.map fun x =>
    match x.readAt with
    | some t => if !x.isOpen && decide (t + 10 * secNs ≤ s.now) then { x with late := true } else x
    | none => x }

/-- ROLE_LOCK_END: after 10 s (R476). -/
def execRoleLockEnd (s : State) : Result :=
  .next { s with locks := s.locks.all fun l =>
    match l.lockedAt with
    | some t => if t + 10 * secNs ≤ s.now then {} else l
    | none => l }

/-- `SES_CLOSE` written a handle, from session `by_` of role `r` (R478). -/
def State.sesClose (s : State) (by_ : Nat) (r : Role) (h : Nat) : State × Err :=
  match sessionOf s h with
  | none => (s, .state)
  | some _ => if by_ = h ∨ r = .service then (s.endSession h, .ok) else (s, .role)

/-- SES_TIMEOUT: the idle time of a session has reached `SES_TIMEOUT` (R478). -/
def execSesTimeout (h : Nat) (s : State) : Result :=
  .next (match sessionOf s h with
    | some x => if x.idleFrom + s.act OD.SES_TIMEOUT * secNs ≤ s.now then s.endSession h else s
    | none => s)

/-- `SES_VIEW` written (R470). -/
def State.sesView (s : State) (h v : Nat) : State × Err := (s.updSession h fun x => { x with shadowView := v == 1 }, .ok)

/-! ## The partner (R533, R534) -/

/-- `HUB_PX_STATE`: NONE without a partner or a way to it, LINKED without a mask, MIRRORING until the partner holds the sets. -/
def pxState (s : State) : Nat :=
  if s.act OD.HUB_PX_ADDR = 0xFFF ∨ s.ringUp % 8 = 0 then 0
  else if s.act OD.HUB_PX_PORTS = 0 then 1
  else if s.pxReady then 3 else 2

/-- `HUB_PX_OWNED`. -/
def pxOwned (s : State) : Nat := (allChans.filter fun c => (s.port c).own).foldl (fun (m : Nat) c => m + 2 ^ c.val) 0

/-- A unit of a partnered group that this hub owns, or does not own. -/
def pxUnit (s : State) (u : CUnit) (own : Bool) : Bool :=
  !(unitChans s u).isEmpty && (unitChans s u).all fun c => partnered s c && (s.port c).own == own

/-- A write goes to the partner with its handle (R533). -/
def State.mirror (s : State) (index sub off : Nat) (data : List Byte) : State :=
  s.nextSeq.sendOwn 3 s.ring.seq (partnerAddr s)
    (leBytes 2 0xFFFF ++ leBytes 2 index ++ leBytes 1 sub ++ leBytes 2 off ++ leBytes 2 data.length ++ data)

/-- Keys of the staged objects of a unit. -/
def stagedKeys (u : CUnit) : List Nat :=
  rackRows.flatMap fun r =>
    if r.access == .rws then
      (List.range r.count).flatMap fun i =>
        let x := r.index + r.stride * i
        if unitIndex u ≤ x ∧ x < unitIndex u + unitSpan u then (List.range (r.last + 1 - r.first)).map fun j => keyOf x (r.first + j)
        else []
    else []

/-- A value in the encoding of its object. -/
def valueBytes (k : Nat) (m : Store) : List Byte :=
  match rackFind (k / 256) (k % 256) rackRows with
  | some r => leInt r.type.size ((m.find k).getD r.dflt)
  | none => []

/-- The complete sets of a unit: its active set, committed, then its shadow set (R534). -/
def State.mirrorUnit (s : State) (u : CUnit) : State :=
  let keys := stagedKeys u
  let s := keys.foldl (fun s k => s.mirror (k / 256) (k % 256) 0 (valueBytes k s.active)) s
  let s := s.mirror (commitIndex u) 1 0 [1]
  (keys.filter fun k => s.active.find k != s.shadow.find k).foldl
    (fun s k => s.mirror (k / 256) (k % 256) 0 (valueBytes k s.shadow)) s

/-- MIRRORING_COMPLETE: the owner has sent the sets of its partnered groups; HUB_PX_STATE leaves MIRRORING for READY. -/
def execMirroringComplete (s : State) : Result :=
  .next (if s.hubUp && pxState s == 2 then
      let s := (allUnits.filter fun u => pxUnit s u true).foldl State.mirrorUnit s
      { s with pxReady := true }
    else s)

/-! ## A planned move (R536) -/

/-- The channels that a mask names. -/
def maskChans (mask : Nat) : List Chan := allChans.filter fun c => mask.testBit c.val

/-- A named group cannot move now: a transfer runs, or a converter is in HANDOVER. -/
def moveHeld (s : State) (c : Chan) : Bool :=
  match busOf s.active c with
  | some b => (s.bus b).xfer.moving || (match preOf s.active b with
    | some p => (s.conv p).state == .handover
    | none => false)
  | none => false

/-- The owner gives a group up: the converter stops, every pod gets RELEASE. -/
def State.releaseGroup (s : State) (c : Chan) : State :=
  let s := match busOf s.active c with
    | some b => (match preOf s.active b with
      | some p => s.preStop p .feedLost
      | none => s)
    | none => s
  s.updPort c fun q => { q with releasing := some s.now }

/-- `HUB_PX_MOVE` written a mask. -/
def State.pxMove (s : State) (mask : Nat) : State × Err :=
  let l := maskChans mask
  if l.any fun c => !(s.port c).own || (s.port c).releasing.isSome || !partnered s c ||
      (groupOf s c).any fun k => !mask.testBit k.val then (s, .range)
  else if pxState s ≠ 3 || l.any (moveHeld s) then (s, .state)
  else (l.foldl State.releaseGroup s, .ok)

end Sys2Proof.Machine
end

