-- ==== Sys2Proof/Machine/Readers.lean ====
section
/-! DEFINITION. The rows of sealed objects, the Rack records (R503 to R506), and what every object reads as (R470, R568 to R570
and the object tables of the chapters). -/

namespace Sys2Proof.Machine

/-! ## Rows -/

/-- The rows of one sealed object, or of a group of like ones: value, slots used, programming (R497, R500). -/
def sealRow (index count : Nat) (type : OType) (max : Nat) (secret : Bool) (name : String) : List ObjRow :=
  let stride := if count = 1 then 0 else 1
  [{ index := index, stride := stride, count := count, first := 1, last := 1, type := type, access := .seal, dflt := 0, lo := 0,
     hi := max, role := .service, secret := secret, name := name },
   { index := index, stride := stride, count := count, first := 2, last := 2, type := .u8, access := .ro, dflt := 0, lo := 0, hi := 255,
     name := "SEAL_SLOTS" },
   { index := index, stride := stride, count := count, first := 3, last := 3, type := .u8, access := .ro, dflt := 0, lo := 0, hi := 255,
     name := "SEAL_PROG" }]

/-- Rows of the sealed objects (R500); a record has at most 16 instances (R505). -/
def sealRows : List ObjRow :=
  sealRow 0x7800 1 .blob 32 true "SEAL_KEY_OPERATOR" ++ sealRow 0x7801 1 .blob 32 true "SEAL_KEY_ENGINEER" ++
  sealRow 0x7802 1 .blob 32 true "SEAL_KEY_SERVICE" ++ sealRow 0x7803 1 .u32 0xFFFFFFFF false "SEAL_FW_FLOOR" ++
  sealRow 0x7804 1 .str 32 false "SEAL_SYS_ID" ++ sealRow 0x7808 1 .u8 0x0F false "SEAL_ORING_GRANT" ++
  sealRow 0x7820 16 .blob 32 false "SEAL_USER" ++ sealRow 0x7830 16 .blob 32 false "SEAL_USER"

/-- Every row of the Rack, in ascending order of INDEX and SUB_FIRST (R504). -/
def allRows : List ObjRow := rackRows ++ sealRows

/-- Indices of the Rack records (R504). -/
def isRecord (index : Nat) : Bool := decide (0x0100 ≤ index) && decide (index ≤ 0x0102)

/-- The bytes of a name. -/
def ascii (n : String) : List Byte := n.toList.map fun c => BitVec.ofNat 8 c.toNat

/-- Names of the name table that stand last: the spec gives no order of the names, but puts "CH_VOV" at offset 2620 (R505), where it
stands with these after the rest in the order of the records (DESIGN CHOICE, log 121). -/
def nameLast (r : ObjRow) : Bool := r.index == 0x0010 || isRecord r.index || r.index == 0x3000

/-- The names, each once. -/
def rackNameList : List String :=
  ((allRows.filter fun r => !nameLast r).map (·.name) ++ (allRows.filter nameLast).map (·.name)).eraseDups

/-- `RACK_NAMES` (R503). -/
def rackNames : List Byte := rackNameList.flatMap fun n => ascii n ++ [0]

/-- NAME of a record: the offset of its name (R505). -/
def nameAt (n : String) : Nat := ((rackNameList.takeWhile fun x => x != n).map fun x => x.length + 1).sum

/-- A row whose every encoding is accepted (R506). -/
def anyValue (r : ObjRow) : Bool :=
  let n := 8 * r.type.size
  n != 0 && r.type != .bool &&
  (if r.type.isSigned then r.lo == -(2 ^ (n - 1) : Int) && r.hi == (2 ^ (n - 1) : Int) - 1 else r.lo == 0 && r.hi == (2 ^ n : Int) - 1)

/-- MIN and MAX of a record: with FIELDS the mask in MAX, its upper half in MIN for a 64-bit type; 1 and 0 where every encoding is
accepted (R505, R506). -/
def minMax (r : ObjRow) : Int × Int :=
  match r.mask with
  | some m => (if r.type.size = 8 then (m / 2 ^ 32 : Nat) else r.lo, (m : Nat))
  | none => if anyValue r then (1, 0) else (r.lo, r.hi)

/-- The 32 bytes of a record (R505). -/
def recordBytes (r : ObjRow) : List Byte :=
  let m := minMax r
  leBytes 2 r.index ++ leBytes 1 r.first ++ leBytes 1 r.last ++ leBytes 1 r.type.code ++
  leBytes 1 (r.access.code + bitAt r.secret 4 + bitAt r.persist 5 + bitAt r.checkpointed 6 + bitAt r.extra.isSome 7) ++
  leBytes 1 (r.role.code + r.unit.code * 16) ++ leBytes 1 (if r.mask.isSome then 0x80 else r.ucode) ++
  leInt 1 r.scale ++ leBytes 1 r.mult ++ leBytes 1 r.count ++ leBytes 1 0 ++
  leBytes 2 (if r.count = 1 then 0 else r.stride) ++ leBytes 2 (nameAt r.name) ++ leInt 8 r.dflt ++
  leInt 4 m.1 ++ leInt 4 m.2

/-- `RACK_CRC`, over the records in order (R503). -/
def rackCrc : Nat := crc32 (allRows.flatMap recordBytes)

/-- The record at a place of the Rack (R504). -/
def recordAt (index sub : Nat) : List Byte :=
  match allRows[(index - 0x100) * 256 + sub]? with
  | some r => recordBytes r
  | none => []

/-! ## Reading -/

/-- What an object's instance `i`, subindex `k` after the first, reads as. -/
abbrev Reader := Nat → Nat → Int

def nat (n : Nat) : Int := (n : Int)
def flag (b : Bool) : Int := if b then 1 else 0
def chanAt (i : Nat) : Chan := ⟨i % 16, by omega⟩
def octAt (i : Nat) : Oct := ⟨i % 8, by omega⟩
def busAt (i : Nat) : BusId := ⟨i % 8, by omega⟩
def quadAt (i : Nat) : Quad := ⟨i % 4, by omega⟩
def abAt (i : Nat) : AB := ⟨i % 2, by omega⟩

/-- A channel number, or 0xFF. -/
def chanOr (o : Option Chan) : Int := match o with
  | some c => nat c.val
  | none => 255

/-- A converter, chopper or engine number, or 0xFF. -/
def quadOr (o : Option Quad) : Int := match o with
  | some p => nat p.val
  | none => 255

def chanMask (l : List Chan) : Nat := l.foldl (fun (m : Nat) c => m + 2 ^ c.val) 0

/-- `RING_IRQ_SRC`: bit 0 follows the queue (R460). -/
def irqSrc (s : State) : Nat := setBit s.ring.irq 0 (!s.spi.items.isEmpty)

/-- An entry of `RING_MAP`. -/
def mapWord (e : MapEntry) : Nat :=
  e.addr % 4096 + e.hops % 64 * 2 ^ 12 + e.port / 8 % 4 * 2 ^ 18 + bitAt e.rev 20 + 2 ^ 21 + bitAt e.dup 22 + e.uid % 2 ^ 32 * 2 ^ 32

/-- Identity, Rack header, hub state, power, fault lines, configuration (chapters 7, 13, 15, 17). -/
def hubReaders (s : State) : List (Obj × Reader) :=
  [(OD.DEV_FWVER, fun _ _ => nat (fwVer s)), (OD.DEV_UID, fun _ _ => nat Config.devUid),
   (OD.RACK_COUNT, fun _ _ => nat allRows.length), (OD.RACK_CRC, fun _ _ => nat rackCrc),
   (OD.RACK_NAMES_LEN, fun _ _ => nat rackNames.length), (OD.RACK_FWVER, fun _ _ => nat (fwVer s)),
   (OD.HUB_STATE, fun _ _ => nat s.hub.code), (OD.HUB_SLEEP_BLOCK, fun _ _ => nat (sleepBlock s)),
   (OD.HUB_FLTO_STATE, fun i _ => nat (fltoState s (abAt i))), (OD.HUB_FLTI_STATE, fun i _ => flag (s.flti.testBit i)),
   (OD.HUB_CFG_SIZE, fun _ _ => match s.cfg.image with
     | some x => nat (Config.cfgSize x.set)
     | none => 0),
   (OD.JNL_NEWEST, fun _ _ => match s.jnl.recs with
     | r :: _ => nat r.seq
     | [] => 0),
   (OD.JNL_OLDEST, fun _ _ => if s.jnl.recs.isEmpty then 0 else nat (oldestSeq s)), (OD.JNL_HELD, fun _ _ => nat s.jnl.recs.length),
   (OD.JNL_DISCARDED, fun _ _ => nat s.jnl.discarded), (OD.JNL_BOOTN, fun _ _ => nat s.jnl.boot),
   (OD.FW_RUNNING, fun _ _ => flag s.fw.runsB), (OD.FW_VER_A, fun _ _ => nat s.fw.a.ver), (OD.FW_VER_B, fun _ _ => nat s.fw.b.ver),
   (OD.FW_STATE_A, fun _ _ => nat s.fw.a.state), (OD.FW_STATE_B, fun _ _ => nat s.fw.b.state),
   (OD.FW_LOAD, fun _ _ => nat s.fw.idle.state), (OD.FW_TRIAL, fun _ _ => flag s.fw.trial), (OD.FW_BLOCK, fun _ _ => nat (fwBlock s))]

/-- The ring and the partner (chapters 14 and 17). -/
def ringReaders (s : State) : List (Obj × Reader) :=
  [(OD.RING_ADDR, fun _ _ => nat s.ring.addr), (OD.RING_ADDR_SRC, fun _ _ => nat s.ring.addrSrc),
   (OD.RING_STRAP, fun _ _ => nat s.ring.strap),
   (OD.RING_UPSTREAM, fun _ _ => match s.ring.upstream with
     | some k => nat k.val
     | none => 255),
   (OD.RING_HOPS, fun _ _ => nat s.ring.hops), (OD.RING_TOPO, fun _ _ => nat s.ring.topo), (OD.RING_NODES, fun _ _ => nat s.ring.nodes),
   (OD.RING_PORT_STATE, fun _ k =>
     if !ringOpen s && decide (k < 2) then 3 else if s.ringUp.testBit k then 1
     else match ((s.ring.ports.toList).getD k {}).toneUntil with
       | some u => if s.now < u then 2 else 0
       | none => 0),
   (OD.RING_MAP, fun _ k => match s.ring.map[k]? with
     | some e => nat (mapWord e)
     | none => 0),
   (OD.RING_TIME, fun _ _ => nat s.now), (OD.RING_IRQ_SRC, fun _ _ => nat (irqSrc s)),
   (OD.RING_FT_STATE, fun i _ => nat (bitAt (s.line (quadAt i)).view 0 + bitAt (s.line (quadAt i)).asserting 1)),
   (OD.RING_FT_LAST, fun i _ => nat (s.line (quadAt i)).last), (OD.RING_FT_COUNT, fun i _ => nat (s.line (quadAt i)).count),
   (OD.HUB_PX_STATE, fun _ _ => nat (pxState s)), (OD.HUB_PX_OWNED, fun _ _ => nat (pxOwned s)),
   (OD.HUB_PX_DIGEST, fun _ _ =>
     let units := allUnits.filter fun u => pxUnit s u true || pxUnit s u false
     if units.isEmpty then 0 else nat (Config.setDigest (units.flatMap (unitSet s.active))))]

/-- Buses (chapters 2, 7, 8). -/
def busReaders (s : State) : List (Obj × Reader) :=
  [(OD.BUS_MEMBERS, fun i _ => nat (chanMask (membersOf s.active (busAt i)))),
   (OD.BUS_FEEDS, fun i _ => nat (chanMask (feedsOf s.active (busAt i)))),
   (OD.BUS_PRE, fun i _ => quadOr (preOf s.active (busAt i))), (OD.BUS_DIS, fun i _ => quadOr (disOf s.active (busAt i))),
   (OD.BUS_VSRC, fun i _ => chanOr (s.bus (busAt i)).vsrc), (OD.BUS_BF_STATE, fun i _ => flag (s.bus (busAt i)).bf),
   (OD.BUS_SEL, fun i _ => chanOr (s.bus (busAt i)).sel), (OD.BUS_XFER_STATE, fun i _ => nat (s.bus (busAt i)).xfer.code),
   (OD.BUS_ELIGIBLE, fun i _ => nat (s.bus (busAt i)).eligible), (OD.BUS_OR_STATE, fun i _ => nat (orState s (busAt i))),
   (OD.BUS_OR_VTGT, fun i _ =>
     if (engineFeeds s (busAt i)).isSome then nat ((s.bus (busAt i)).target1 + (s.bus (busAt i)).target2 * 65536)
     else if (soloFeed s (busAt i)).isSome then nat (s.bus (busAt i)).target1 else 0)]

/-- `CH_OWNER`. -/
def chOwner (s : State) (c : Chan) : Nat :=
  if (s.port c).noPod then 0xFF
  else if (s.seen c).own.link.isNone || (s.seen c).pod.holds then 2
  else if (s.port c).own then 0 else 1

/-- `CH_GSTAT` (R71, R98, R99). -/
def gstatOf (s : State) (c : Chan) : Nat :=
  let g := (s.seen c).gstat
  let on := (s.port c).linked
  let u := uvloBits (s.seen c) (s.actB OD.CH_VNEG_USE c.val)
  g - (g &&& 15) + u + bitAt (on && (s.pod c).fullOn .inS) 2 + bitAt (on && (s.pod c).fullOn .outS) 3

/-- `CH_PGSTAT` (R137, R570). -/
def pgstatOf (s : State) (c : Chan) : Nat :=
  let v := s.seen c
  let on := (s.port c).linked
  if (s.port c).noPod then bitAt v.startEnergy 6 else
  bitAt v.pg 0 + bitAt v.fltq 1 + bitAt v.counting 2 + bitAt (on && (s.pod c).fullOn .inS && (s.pod c).fullOn .outS) 3 +
  bitAt (on && v.meas.vdi.ok && v.meas.vdo.ok && decide (v.meas.vds .inS ≤ 2000000) && decide (v.meas.vds .outS ≤ 2000000)) 4 +
  bitAt (on && v.prot.ftAcc == 0 && v.ch != .limiting) 5 + bitAt v.startEnergy 6

/-- `CH_POD_STATE`: while a link trains again, the state that its powered pod holds (R416, R417). -/
def podStateOf (s : State) (c : Chan) : PodState :=
  if (s.port c).linked then (s.seen c).pod
  else if (s.port c).noPod || (s.pod c).st.pod == .unpowered then .unpowered
  else (s.seen c).pod

/-- State, ownership, gates, power-good, seat and trip of a channel (chapters 1, 3, 4, 7, 17). -/
def chanReaders (s : State) : List (Obj × Reader) :=
  [(OD.CH_STATE, fun i _ => nat (hubCh s (chanAt i)).code), (OD.CH_ENABLE, fun i _ => flag (s.port (chanAt i)).enable),
   (OD.CH_POD_STATE, fun i _ => nat (podStateOf s (chanAt i)).code),
   (OD.CH_POD_SUPPLY, fun i _ =>
     let v := s.seen (chanAt i)
     if (s.port (chanAt i)).linked then nat (bitAt v.lvA 0 + bitAt v.lvB 1 + bitAt v.hvOn 2) else 0),
   (OD.CH_OWNER, fun i _ => nat (chOwner s (chanAt i))), (OD.CH_OEPOCH, fun i _ => nat (s.seen (chanAt i)).own.epoch),
   (OD.CH_CFG_SRC, fun i _ => flag (s.port (chanAt i)).cfgFromPod),
   (OD.CH_IFS, fun i _ => nat (ifsAt s (chanAt i))), (OD.CH_GPHASE_IN, fun i _ => nat (s.seen (chanAt i)).gIn.phase.code),
   (OD.CH_GPHASE_OUT, fun i _ => nat (s.seen (chanAt i)).gOut.phase.code),
   (OD.CH_GPROFILE, fun i _ => match (s.seen (chanAt i)).profile with
     | some p => nat p.code
     | none => 0),
   (OD.CH_GSTAT, fun i _ => nat (gstatOf s (chanAt i))), (OD.CH_VPOS_MV, fun i _ => (s.seen (chanAt i)).meas.vposMv),
   (OD.CH_VNEG_MV, fun i _ => (s.seen (chanAt i)).meas.vnegMv), (OD.CH_TLAST_ON, fun i _ => nat (s.seen (chanAt i)).lastOnUs),
   (OD.CH_SEAT, fun i _ =>
     let v := (s.seen (chanAt i)).seat
     nat (bitAt (s.port (chanAt i)).seat.confirmed 3 +
       (if (s.port (chanAt i)).noPod then 0 else bitAt v.s1 0 + bitAt v.s2 1 + bitAt v.debounced 2))),
   (OD.CH_START_BLOCK, fun i _ => nat (startBlock s (chanAt i))), (OD.CH_PGSTAT, fun i _ => nat (pgstatOf s (chanAt i))),
   (OD.CH_ESTART, fun i _ => nat (s.port (chanAt i)).eStart), (OD.CH_COOL_LEFT, fun i _ => nat (coolLeft s (chanAt i))),
   (OD.CH_RESEAT_LEFT, fun i _ => nat (reseatLeft s (chanAt i))), (OD.CH_TRIP_CAUSE, fun i _ => nat (s.port (chanAt i)).trip.cause),
   (OD.CH_TRIP_SET, fun i _ => nat (s.port (chanAt i)).trip.set), (OD.CH_TRIP_TIME, fun i _ => nat (s.port (chanAt i)).trip.time),
   (OD.CH_RETRY_N, fun i _ => nat (s.port (chanAt i)).trip.retryN), (OD.CH_RETRY_LEFT, fun i _ => nat (retryLeft s (chanAt i))),
   (OD.CH_TRIP_CLASS, fun i _ => flag (s.port (chanAt i)).trip.bus)]

/-- Protection of a channel (chapter 6). -/
def protReaders (s : State) : List (Obj × Reader) :=
  let cur (o : Obj) (scale : Nat) : Reader := fun i _ => nat (curEff s.active (i % 16) scale o)
  [(OD.CH_ISC2_EFF, cur OD.CH_ISC2 1024), (OD.CH_ISC1_EFF, cur OD.CH_ISC1 1024), (OD.CH_IOCL_EFF, cur OD.CH_IOCL 1024),
   (OD.CH_IREV_EFF, cur OD.CH_IREV 4096),
   (OD.CH_TEMP_STACK, fun i _ => (s.seen (chanAt i)).meas.tempStack), (OD.CH_TEMP_DIE, fun i _ => (s.seen (chanAt i)).meas.tempDie),
   (OD.CH_DMG_DETAIL, fun i _ => nat ((s.port (chanAt i)).detail % 64)), (OD.CH_FT_ACC, fun i _ => nat (s.seen (chanAt i)).prot.ftAcc),
   (OD.CH_FT_BAND, fun i _ => nat (s.seen (chanAt i)).prot.ftBand), (OD.CH_FT_PEAK, fun i _ => nat (s.seen (chanAt i)).prot.ftPeak),
   (OD.CH_CMP_OUT, fun i _ => nat (s.seen (chanAt i)).prot.cmpOut), (OD.CH_CMP_CAPT, fun i _ => nat (s.seen (chanAt i)).prot.cmpCapt),
   (OD.CH_SELFTEST_FAIL, fun i _ => nat (s.seen (chanAt i)).prot.selftestFail)]

/-- A factor of the pod on a port (R306). -/
def factorAt (s : State) (c : Chan) (l : PodAdc → List Int) (j : Nat) : Int := (l (s.pod c).adc).getD j 0

/-- An extreme that `MTR_MM_*` shows: live while the trackers run freely, else the last window's (R334, R335). -/
def extremeAt (s : State) (c : Chan) (o : Obj) (j : Nat) (time : Bool) : Int :=
  if s.act OD.MTR_MM_WIN c.val = 0 then
    let k := extremesOf s c
    let x := k.list.getD j {}
    if time then nat x.at_ else x.v / 1000
  else s.status.get o c.val (if time then j else 0)

/-- `MTR_MM_FLAGS` and `MTR_MM_END` (R335, R336). -/
def mmFlagsAt (s : State) (c : Chan) : Int :=
  if s.act OD.MTR_MM_WIN c.val = 0 then
    nat (mmFlags (extremesOf s c) (s.port c).mtr.partialWin)
  else s.status.get OD.MTR_MM_FLAGS c.val 0

def mmEndAt (s : State) (c : Chan) : Int :=
  if s.act OD.MTR_MM_WIN c.val = 0 then 0 else s.status.get OD.MTR_MM_END c.val 0

/-- Converters and metering of a channel (chapters 9 and 10). The model counts an age beyond the 32 bits of `MTR_VAGE_PEAK`, which then
reads its lower 32 (DESIGN CHOICE, log 115). -/
def meterReaders (s : State) : List (Obj × Reader) :=
  let acc (f : Totals → Int) : Nat → Nat → Int := fun (i _ : Nat) => f (s.port (chanAt i)).mtr.acc
  let mm (o : Obj) (j : Nat) : Obj × Reader := (o, fun i _ => extremeAt s (chanAt i) o j false)
  [(OD.ADC_CAL, fun i _ => nat (s.port (chanAt i)).cal), (OD.ADC_RECAL, fun i _ => nat (s.port (chanAt i)).recal),
   (OD.ADC_CALSTATE, fun i _ => flag (s.seen (chanAt i)).adc.calibrated), (OD.ADC_CAL_TIME, fun i _ => nat (s.seen (chanAt i)).adc.calTime),
   (OD.ADC_CAL_TEMP, fun i _ => (s.seen (chanAt i)).adc.calTemp), (OD.ADC_MODE, fun i _ => nat (s.seen (chanAt i)).adc.routing.code),
   (OD.ADC_HEALTH, fun i _ => nat (s.seen (chanAt i)).adc.health),
   (OD.ADC_IC_OFS, fun i k => factorAt s (chanAt i) (·.icF) k), (OD.ADC_IC_GAIN, fun i k => factorAt s (chanAt i) (·.icF) (k + 4)),
   (OD.ADC_IC_SKEW, fun i k => factorAt s (chanAt i) (·.icF) (k + 8)), (OD.ADC_VC_OFS, fun i k => factorAt s (chanAt i) (·.vcF) k),
   (OD.ADC_VC_GAIN, fun i k => factorAt s (chanAt i) (·.vcF) (k + 4)), (OD.ADC_VC_SKEW, fun i k => factorAt s (chanAt i) (·.vcF) (k + 8)),
   (OD.ADC_FE_OFS_LOW, fun i _ => factorAt s (chanAt i) (·.feF) 0), (OD.ADC_FE_OFS_HIGH, fun i _ => factorAt s (chanAt i) (·.feF) 1),
   (OD.ADC_FE_GAIN_LOW, fun i _ => factorAt s (chanAt i) (·.feF) 2), (OD.ADC_FE_GAIN_HIGH, fun i _ => factorAt s (chanAt i) (·.feF) 3),
   (OD.MTR_Q, acc (·.q / 2 ^ 32)), (OD.MTR_E, acc (·.e / 2 ^ 32)), (OD.MTR_I2T, acc (·.i2t / 2 ^ 32)),
   (OD.MTR_GAP_I, acc fun a => nat a.gapI),
   (OD.MTR_GAP_V, acc fun a => nat a.gapV), (OD.MTR_OR_I, acc fun a => nat a.orI), (OD.MTR_OR_V, acc fun a => nat a.orV),
   (OD.MTR_VAGE_PEAK, acc fun a => nat a.agePeak), (OD.MTR_ACC_FLAGS, acc fun a => nat a.flags),
   mm OD.MTR_MM_IMIN 0, mm OD.MTR_MM_IMAX 1, mm OD.MTR_MM_VINMIN 2, mm OD.MTR_MM_VINMAX 3, mm OD.MTR_MM_VOUTMIN 4, mm OD.MTR_MM_VOUTMAX 5,
   (OD.MTR_MM_FLAGS, fun i _ => mmFlagsAt s (chanAt i)), (OD.MTR_MM_END, fun i _ => mmEndAt s (chanAt i)),
   (OD.MTR_STATUS, fun i _ => nat (setBit (s.stat OD.MTR_STATUS (chanAt i).val) 0 (!(s.seen (chanAt i)).adc.calibrated))),
   (OD.MTR_MM_T, fun i k => extremeAt s (chanAt i) OD.MTR_MM_T k true)]

/-- Converters, choppers, PWM, comparators, stream (chapters 5, 11, 12, 16). -/
def unitReaders (s : State) : List (Obj × Reader) :=
  [(OD.PRE_STATE, fun i _ => nat (s.conv (quadAt i)).state.code), (OD.PRE_STATUS, fun i _ => nat (s.conv (quadAt i)).status.code),
   (OD.PRE_TFF, fun i _ => match (s.conv (quadAt i)).tff with
     | some t => nat (min t 0xFFFFFFFF)
     | none => 0xFFFFFFFF),
   (OD.PRE_TELAPSED, fun i _ => nat (preElapsed s (quadAt i))), (OD.PRE_PULSES, fun i _ => nat (s.conv (quadAt i)).pulses),
   (OD.PRE_SKIPS, fun i _ => nat (s.conv (quadAt i)).skips), (OD.PRE_PAUSES, fun i _ => nat (s.conv (quadAt i)).pauses),
   (OD.PRE_VRESID, fun i _ => (s.conv (quadAt i)).vresid), (OD.DIS_REQ, fun i _ => flag (s.chop (quadAt i)).req),
   (OD.DIS_STATE, fun i _ => nat (s.chop (quadAt i)).state.code), (OD.DIS_STATUS, fun i _ => nat (s.chop (quadAt i)).status.code),
   (OD.DIS_DUTY, fun i _ => nat ((s.chop (quadAt i)).duty * 10000 / max 1 (16 * s.act OD.DIS_TPERIOD (i % 4)))),
   (OD.DIS_EACC, fun i _ => (s.chop (quadAt i)).eacc / 1000000000), (OD.DIS_TELAPSED, fun i _ => nat (s.chop (quadAt i)).elapsedMs),
   (OD.PWM_STATE, fun i _ => nat (pwmState s (octAt i))), (OD.PWM_OWNER, fun i _ => nat (pwmOwner s (octAt i))),
   (OD.PWM_PCOUNT, fun i _ => nat (s.gen (octAt i)).pcount), (OD.PWM_TAKEN, fun i _ => nat (s.gen (octAt i)).taken),
   (OD.PWM_WORD_ACT, fun i _ => nat (s.gen (octAt i)).word.pack), (OD.PWM_WORD, fun i _ => nat (s.gen (octAt i)).reload.pack),
   (OD.PWM_RUN, fun i _ => flag (s.gen (octAt i)).run), (OD.CMP_OUT, fun i _ => nat (cmpOut s (octAt i))),
   (OD.CMP_CAPT_TIME, fun i _ => nat (s.cell (octAt i)).captTime), (OD.CMP_CAPT_EDGE, fun i _ => nat (s.cell (octAt i)).captEdge),
   (OD.CMP_OWNER, fun i _ => quadOr (cmpOwner s (octAt i))),
   (OD.CMP_THR_MV, fun i _ => nat (2 * s.act OD.CMP_REF (i % 8))), (OD.CMP_TEST, fun i _ => nat (s.cell (octAt i)).test),
   (OD.STR_EN, fun _ _ => flag s.str.en), (OD.STR_CREDITS, fun _ _ => nat s.str.credits), (OD.STR_BUF_USED, fun _ _ => nat (bufUsed s)),
   (OD.STR_RATE_PORT, fun _ _ => nat (kbit (portRate s.active))), (OD.STR_RATE_POD, fun _ k => nat (kbit (podRate s.active (k % 16)))),
   (OD.STR_JNL_EXPORT, fun _ _ => nat s.str.left)]

/-- `SES_TABLE` of a session. -/
def sesWord (s : State) (x : Session) : Nat :=
  x.handle + x.role.code * 2 ^ 16 + x.src % 4096 * 2 ^ 18 + bitAt (!x.isOpen) 30 + (s.now - x.idleFrom) / secNs % 2 ^ 32 * 2 ^ 32

/-- Sessions, as the session `h` reads them (R479). -/
def sesReaders (s : State) (h : Nat) : List (Obj × Reader) :=
  [(OD.SES_ROLE, fun _ _ => match sessionOf s h with
      | some x => nat x.role.code
      | none => if h = 0xFFFF then 2 else 0), (OD.SES_VIEW, fun _ _ => match sessionOf s h with
      | some x => flag x.shadowView
      | none => 0),
   (OD.SES_COUNT, fun _ _ => nat s.sessions.length),
   (OD.SES_LOCK, fun _ _ => nat (bitAt (lockOf s .operate).lockedAt.isSome 0 + bitAt (lockOf s .configure).lockedAt.isSome 1 +
      bitAt (lockOf s .service).lockedAt.isSome 2)),
   (OD.SES_TABLE, fun _ k => match s.sessions[k]? with
     | some x => nat (sesWord s x)
     | none => 0)]

/-- A reader of a row. -/
def findReader (r : ObjRow) : List (Obj × Reader) → Option Reader
  | [] => none
  | (o, f) :: l => if o.index = r.index ∧ o.sub = r.first then some f else findReader r l

/-- `COMMIT_DIRTY` of the unit whose COMMIT object has an index. -/
def dirtyAt (s : State) (index sub : Nat) : Option Int :=
  if sub = 3 then (allUnits.find? fun u => commitIndex u == index).map fun u => flag (unitSet s.shadow u != unitSet s.active u) else none

/-- `SEAL_SLOTS`: the slots written, and the one that is claimed and being programmed (R497, R500). -/
def slotsUsed (s : State) (index : Nat) : Nat :=
  (sealBank s index).slots.length + (match s.sealing with
    | some x => bitAt (x.index == index) 0
    | none => 0)

/-- The port of an object that R568 lists as pod-sourced; `CH_SEAT` and `CH_PGSTAT` are so in part (R570). -/
def podSource (index sub : Nat) : Option Chan :=
  if 1 ≤ index ∧ index ≤ 3 then (if 1 ≤ sub ∧ sub ≤ 16 then some (chanAt (sub - 1)) else none)
  else if index < 0x4000 ∨ 0x6000 ≤ index then none
  else
    let listed := match (index - 0x4000) % 0x200 with
      | 0x002 => sub == 3 || sub == 4
      | 0x021 => decide (1 ≤ sub) && decide (sub ≤ 7)
      | 0x043 => sub == 7 || sub == 8
      | 0x061 => sub == 1 || sub == 2
      | 0x0C1 => decide (3 ≤ sub) && decide (sub ≤ 7)
      | 0x0C2 => true
      | 0x0C3 => true
      | 0x0C4 => true
      | 0x101 => true
      | 0x181 => sub == 1
      | _ => false
    if listed then some (chanAt ((index - 0x4000) / 0x200)) else none

/-- A read of an object of a port without a pod that is pod-sourced: it answers the Default (R569). -/
def withoutPod (s : State) (index sub : Nat) : Bool := match podSource index sub with
  | some c => (s.port c).noPod
  | none => false

/-- The value of a scalar object that a session `h` reads (R470, R568, R569). -/
def readInt (s : State) (h : Nat) (r : ObjRow) (index sub : Nat) : Int :=
  let i := (r.instanceOf index).getD 0
  let k := sub - r.first
  match r.access with
  | .rws =>
    let shadow := match sessionOf s h with
      | some x => x.shadowView
      | none => false
    let v := ((if shadow then s.shadow else s.active).find (keyOf index sub)).getD r.dflt
    match r.mask with
    | some m => nat (v.toNat &&& m)
    | none => v
  | .seal => nat (ofLe (sealRead s index))
  | _ =>
    if withoutPod s index sub then r.dflt
    else if sealedIndex index then nat (if sub = 2 then slotsUsed s index else (sealBank s index).prog)
    else match dirtyAt s index sub with
      | some v => v
      | none =>
        match findReader r (hubReaders s ++ ringReaders s ++ busReaders s ++ chanReaders s ++ protReaders s ++ meterReaders s ++
            unitReaders s ++ sesReaders s h) with
        | some f => f i k
        | none => ((if r.access = .rw then s.active else s.status).find (keyOf index sub)).getD r.dflt

/-- A byte range of `JNL_DATA`: the record of each slot, zero where none has been written (R553, R557). -/
def jnlBytes (s : State) (off len : Nat) : List Byte :=
  (List.range len).map fun j =>
    let a := off + j
    match s.jnl.recs.find? fun r => r.seq % 8192 == a / 32 with
    | some r => r.bytes.getD (a % 32) 0
    | none => 0

/-- The bytes of a STR or BLOB from an offset (R465). -/
def readBytes (s : State) (src index sub off len : Nat) : List Byte :=
  let cut (l : List Byte) : List Byte := (l.drop off).take len
  if isRecord index then cut (recordAt index sub)
  else if index = 0 ∧ sub = 6 then cut (Config.devSerial.take 24)
  else if index = 0 then cut ([0x45, 0x4D, 0x45, 0x52, 0x4D, 0x4F, 0x4C] : List Byte)
  else if index = 0x11 then cut rackNames
  else if index = 0x7000 then jnlBytes s off (min len (262144 - off))
  else if index = 0x7100 then cut (challengeOf s src)
  else if sealedIndex index then cut (sealRead s index)
  else []

end Sys2Proof.Machine
end

