-- ==== Sys2Proof/Machine/Access.lean ====
section
/-! DEFINITION. Dictionary accesses: the checks of R468 in their order, what a write does at step 11, what a read answers. -/

namespace Sys2Proof.Machine

/-! ## What is answered (R400, R467) -/

/-- The objects that BOOT answers: the identity range, `HUB_STATE`, `HUB_BOOT_STATUS`, sessions, firmware (R400). -/
def bootServed (index sub : Nat) : Bool :=
  decide (index < 0x100) || (index == 0x1000 && (sub == 1 || sub == 6)) || index == 0x7100 || index == 0x7101 || index == 0x7200

/-- The dictionary answers an access: not in RESET and SLEEP, in BOOT for the objects of R400 only. -/
def serves (s : State) (index sub : Nat) : Bool :=
  match s.hub with
  | .reset | .sleep => false
  | .boot => bootServed index sub
  | .idle | .run | .adopt => true

/-! ## Steps 1 to 8 -/

/-- The unit whose block an index lies in. -/
def unitAt (index : Nat) : Option CUnit :=
  allUnits.find? fun u => decide (unitIndex u ≤ index) && decide (index < unitIndex u + unitSpan u)

/-- The handle of a partner. -/
abbrev partnerHandle : Nat := 0xFFFF

/-- The partner may act on an index: it lies in a unit of a group that this hub partners and does not own (R533). -/
def partnerMay (s : State) (src index : Nat) : Bool :=
  src == partnerAddr s && partnerAddr s != 0xFFF &&
  (match unitAt index with
   | some u => pxUnit s u false
   | none => false)

/-- Step 1: the role that a request acts with, if its handle stands (R477, R533). -/
def standing (s : State) (q : Req) (write : Bool) : Option Role :=
  if q.rq.session = 0 then some .observe
  else if q.rq.session = partnerHandle then if partnerMay s q.rq.src q.index then some .configure else none
  else match sessionOf s q.rq.session with
    | some x =>
      if x.src ≠ q.rq.src then none
      else if x.isOpen then some x.role
      else if write ∧ q.index = 0x7100 ∧ q.sub = 3 then some .observe else none
    | none => none

/-- Step 5 of a write (R472, R502). -/
def roleOk (s : State) (q : Req) (role : Role) (r : ObjRow) : Bool :=
  decide (r.role.code ≤ role.code) ||
  (r.access == .seal && keyIndex q.index && q.rq.session == 0 && q.rq.src == 0 && (sealBank s 0x7802).slots.isEmpty)

/-- Step 6: the owner writes a unit, or its partner mirrors (R471, R533). -/
def ownerOk (s : State) (q : Req) : Bool :=
  q.rq.session == partnerHandle ||
  (match unitAt q.index with
   | some u => ownsUnit s u
   | none => true)

/-- The byte-stream objects (R465). -/
def byteStream (index sub : Nat) : Bool := index == 0x7200 && sub == 7

/-- Step 7 of a write: `len` is the LENGTH that the request carries (R436, R464, R465). -/
def typeOkWrite (q : Req) (r : ObjRow) (len : Nat) (data : List Byte) : Bool :=
  len == data.length && len != 0 &&
  (if r.type.size = 0 then q.off == 0 || byteStream q.index q.sub else q.off == 0 && len == r.type.size)

/-- The value that the bytes of a scalar spell. -/
def valueOf (r : ObjRow) (data : List Byte) : Int :=
  if r.type.isSigned then signed r.type.size (ofLe data) else (ofLe data : Nat)

/-- Step 8: RW, CMD, WO and SEAL writes (R465, R500, R501). -/
def rangeOk (q : Req) (r : ObjRow) (data : List Byte) : Bool :=
  match r.access with
  | .rws | .ro => true
  | .seal => sealRange q.index data
  | .rw | .cmd | .wo =>
    if r.type.size = 0 then byteStream q.index q.sub || decide ((data.length : Int) ≤ r.hi)
    else rowAccepts r (valueOf r data)

/-- An index of the dictionary. -/
def hasIndex (index : Nat) : Bool := allRows.any fun r => (r.instanceOf index).isSome

/-- The row of an object. -/
def objRow (index sub : Nat) : Option ObjRow := rackFind index sub allRows

/-- Steps 1 to 8 of a write: the role and the row, or the first error (R468). -/
def writeCheck (s : State) (q : Req) (len : Nat) (data : List Byte) : Except Err (Role × ObjRow) :=
  match standing s q true with
  | none => .error .auth
  | some role =>
    if !hasIndex q.index then .error .noObject
    else match objRow q.index q.sub with
      | none => .error .noSub
      | some r =>
        if r.access = .ro then .error .access
        else if !roleOk s q role r then .error .role
        else if !ownerOk s q then .error .owner
        else if !typeOkWrite q r len data then .error .type
        else if !rangeOk q r data then .error .range
        else .ok (role, r)

/-! ## The operation -/

/-- What a CMD object does when it is written: instance, value. -/
abbrev Command := State → Req → Role → Nat → Nat → State × Err

/-- A BOOL command acts on 1; the spec gives a 0 no effect. -/
def onOne (f : State → Nat → State × Err) : Command := fun s _ _ i v => if v = 1 then f s i else (s, .ok)

/-- A BOOL command that acts on both values. -/
def onBoth (on off : State → Nat → State × Err) : Command := fun s _ _ i v => if v = 1 then on s i else off s i

/-- The commands of R473, but for COMMIT. -/
def commands : List (Obj × Command) :=
  [(OD.HUB_RESET, onOne fun s _ => s.hubReset), (OD.HUB_SLEEP, onOne fun s _ => s.hubSleep),
   (OD.HUB_FLTO_ACK, onOne fun s i => s.fltoAck (abAt i)), (OD.HUB_CFG_SAVE, onOne fun s _ => s.cfgSave),
   (OD.HUB_CFG_DEFAULTS, onOne fun s _ => s.cfgDefaults), (OD.MTR_SNAP, onOne fun s _ => s.mtrSnap),
   (OD.RING_ENUM, onOne fun s _ => s.ringEnum), (OD.RING_WAKE, fun s _ _ _ v => s.ringWake v),
   (OD.RING_MAP_CLEAR, onOne fun s _ => s.ringMapClear), (OD.HUB_PX_MOVE, fun s _ _ _ v => s.pxMove v),
   (OD.BUS_BF_CLEAR, onOne fun s i => s.busBfClear (busAt i)), (OD.BUS_XFER_RESUME, onOne fun s i => s.xferResume (busAt i)),
   (OD.CH_ENABLE, onBoth (fun s i => s.enableSet (chanAt i)) fun s i => s.enableClear (chanAt i)),
   (OD.CH_DMG_CLEAR, onOne fun s i => s.dmgClear (chanAt i)), (OD.ADC_CAL, onOne fun s i => s.adcCal (chanAt i)),
   (OD.ADC_RECAL, fun s _ _ i v => s.adcRecal (chanAt i) v), (OD.MTR_CLEAR, fun s _ _ i v => s.mtrClear (chanAt i) v),
   (OD.DIS_REQ, onBoth (fun s i => s.disReqSet (quadAt i)) fun s i => s.disReqClear (quadAt i)),
   (OD.PWM_RUN, onBoth (fun s i => s.pwmRun (octAt i) true) fun s i => s.pwmRun (octAt i) false),
   (OD.PWM_FREL, onOne fun s i => s.pwmFrel (octAt i)), (OD.CMP_TEST, fun s _ _ i v => s.cmpTest (octAt i) (v == 2)),
   (OD.STR_EN, onBoth (fun s _ => s.strStart) fun s _ => s.strStop), (OD.STR_CAPTURE, fun s _ _ _ v => s.strCapture v),
   (OD.STR_JNL_EXPORT, fun s _ _ _ v => s.strExport v), (OD.SES_OPEN, fun s q _ _ v => s.sesOpen q.rq v),
   (OD.SES_CLOSE, fun s q role _ v => s.sesClose q.rq.session role v), (OD.SES_VIEW, fun s q _ _ v => s.sesView q.rq.session v),
   (OD.FW_LOAD, fun s _ _ _ v => if v = 1 then s.fwBegin else if v = 2 then s.fwFinish else s.fwCancel),
   (OD.FW_ACTIVATE, onOne fun s _ => s.fwActivate), (OD.FW_CONFIRM, onOne fun s _ => s.fwConfirm)]

/-- The command of a row. -/
def findCommand (r : ObjRow) : List (Obj × Command) → Option Command
  | [] => none
  | (o, f) :: l => if o.index = r.index ∧ o.sub = r.first then some f else findCommand r l

/-- The unit whose COMMIT object stands at an index. -/
def commitUnit (index : Nat) : Option CUnit := allUnits.find? fun u => commitIndex u == index

/-- A CMD object is written. -/
def State.command (s : State) (q : Req) (role : Role) (r : ObjRow) (v : Nat) : State × Option Err :=
  match commitUnit q.index with
  | some u =>
    if v = 1 then s.commit u q
    else
      let x := s.revert u
      (x.1, some x.2)
  | none =>
    match findCommand r commands with
    | some f =>
      let x := f s q role ((r.instanceOf q.index).getD 0) v
      (x.1, some x.2)
    | none => (s, some .ok)

/-- Put a value of an RW object in force. -/
def State.putRw (s : State) (key : Nat) (v : Int) : State :=
  match rackFind (key / 256) (key % 256) rackRows with
  | some r => { s with active := s.active.put key r.dflt v, shadow := s.shadow.put key r.dflt v }
  | none => s

/-- RW objects that apply at the next tick boundary (R247, R421, R461, R479); the rest apply at once. -/
def atNextTick (index : Nat) : Bool :=
  (decide (0x1000 ≤ index) && decide (index < 0x1100)) || (decide (0x2000 ≤ index) && decide (index < 0x2060)) || index == 0x7100

/-- An RW object is written (R385, R397, R461, R532). -/
def State.writeRw (s : State) (q : Req) (v : Int) : State × Err :=
  let key := keyOf q.index q.sub
  if key = OD.HUB_PODSUP_EN.key 0 then s.podsupEn v.toNat
  else if key = OD.HUB_PX_PORTS.key 0 then
    if partlyPartnered s.active v.toNat then (s, .consistency) else ({ s.putRw key v with pxReady := false }, .ok)
  else if key = OD.HUB_PX_ADDR.key 0 then ({ s.putRw key v with pxReady := false }, .ok)
  else if atNextTick q.index then ({ s with rwNext := s.rwNext ++ [(key, v)] }, .ok)
  else
    match allOct.find? fun n => OD.PWM_WORD.key n.val == key with
    | some n => s.pwmWord n v.toNat
    | none => (s.putRw key v, .ok)

/-- A WO object is written. -/
def State.writeWo (s : State) (q : Req) (data : List Byte) : State × Err :=
  if q.index = 0x7200 then s.fwImage q.off data
  else match sessionOf s q.rq.session with
    | some x => if x.isOpen then (s, .auth) else s.sesRespond x data
    | none => (s, .auth)

/-- Steps 9 to 11 of a write: the error to answer, or none while a COMMIT waits. -/
def State.operate (s : State) (q : Req) (role : Role) (r : ObjRow) (data : List Byte) : State × Option Err :=
  let with_ (x : State × Err) : State × Option Err := (x.1, some x.2)
  if s.pfw.on then (s, some .busy)
  else match r.access with
    | .ro => (s, some .access)
    | .rws => ({ s with shadow := s.shadow.put (keyOf q.index q.sub) r.dflt (valueOf r data) }, some .ok)
    | .rw => with_ (s.writeRw q (valueOf r data))
    | .cmd => s.command q role r (valueOf r data).toNat
    | .wo => with_ (s.writeWo q data)
    | .seal => with_ (s.seal q.index data)

/-- The use of an open handle restarts its idle time (R477). -/
def State.touch (s : State) (q : Req) : State :=
  match sessionOf s q.rq.session with
  | some x => if x.isOpen && x.src == q.rq.src then s.updSession x.handle fun x => { x with idleFrom := s.now } else s
  | none => s

/-- A write of a staged object, a COMMIT or a command of a partnered group that this hub owns goes to the partner (R533). -/
def mirrored (s : State) (q : Req) (r : ObjRow) : Bool :=
  (r.access == .rws || r.access == .cmd) && q.rq.session != partnerHandle && partnerAddr s != 0xFFF &&
  (match unitAt q.index with
   | some u => pxUnit s u true
   | none => false)

/-- A write that was accepted is mirrored. -/
def State.passOn (s : State) (before : State) (q : Req) (r : ObjRow) (data : List Byte) (e : Option Err) : State :=
  if mirrored before q r && (e == some .ok || e == none) then s.mirror q.index q.sub q.off data else s

/-- A write (R468). -/
def State.write (s : State) (q : Req) (len : Nat) (data : List Byte) : State × Option Err :=
  match writeCheck s q len data with
  | .error e => (s.touch q, some e)
  | .ok (role, r) =>
    let x := (s.touch q).operate q role r data
    (x.1.passOn s q r data x.2, x.2)

/-! ## Reads -/

/-- A read (R464, R465, R468, R470). The read of a pending challenge starts its lapse (R475). -/
def State.read (s : State) (q : Req) (len : Nat) : State × Answer :=
  let t := s.touch q
  match standing s q false with
  | none => (t, { err := .auth })
  | some _ =>
    if !hasIndex q.index then (t, { err := .noObject })
    else match objRow q.index q.sub with
      | none => (t, { err := .noSub })
      | some r =>
        if r.access = .wo ∨ r.secret = true then (t, { err := .access })
        else if 248 < len then (t, { err := .type })
        else if r.type.size = 0 then
          (if q.index = 0x7100 then t.readChallenge q.rq.src else t,
           { err := .ok, data := readBytes s q.rq.src q.index q.sub q.off len })
        else if q.off ≠ 0 then (t, { err := .type })
        else if len = 0 then (t, { err := .ok })
        else if len < r.type.size then (t, { err := .type })
        else (t, { err := .ok, data := leInt r.type.size (readInt s q.rq.session r q.index q.sub) })

/-! ## Requests -/

/-- A write is executed and answered; a COMMIT that waits is answered when it applies (R484), and a hub that resets answers
nothing. -/
def State.doWrite (s : State) (q : Req) (len : Nat) (data : List Byte) : State :=
  if serves s q.index q.sub then
    let x := s.write q len data
    match x.2 with
    | some e => if x.1.hub = .reset then x.1 else x.1.answer q { err := e }
    | none => x.1
  else s

/-- A read is executed and answered. -/
def State.doRead (s : State) (q : Req) (len : Nat) : State :=
  if serves s q.index q.sub then
    let x := s.read q len
    x.1.answer q x.2
  else s

/-- Bytes of a value of an object, by the size of its type. -/
def objBytes (index sub : Nat) (v : Int) : List Byte :=
  match objRow index sub with
  | some r => leInt r.type.size v
  | none => []

/-- The write request of a command of the table: object, instance, requester. -/
def orderOf (rq : Requester) (o : Obj) (i : Nat) : Req := { rq := rq, index := o.index + o.stride * i, sub := o.sub }

/-- A command of the table is a write of one value (R467, R468). -/
def State.order (s : State) (rq : Requester) (o : Obj) (i : Nat) (v : Int) : State :=
  let q := orderOf rq o i
  let data := objBytes q.index q.sub v
  s.doWrite q data.length data

end Sys2Proof.Machine
end

