-- ==== Sys2Proof/Machine/RingAccess.lean ====
section
/-! DEFINITION. Dictionary access over the ring and through the head's SPI port (R434 to R436, R456 to R460). -/

namespace Sys2Proof.Machine

/-! ## Requests that arrive (R434, R436) -/

/-- The request that the payload of an OD_READ or OD_WRITE spells (R430). -/
def requestOf (src : Nat) (via : Via) (p : List Byte) : Req :=
  { rq := { src := src, session := fieldAt p 0 2 }, index := fieldAt p 2 2, sub := fieldAt p 4 1, off := fieldAt p 5 2, via := via }

/-- Execute a request of TYPE 2 or 3. -/
def State.request (s : State) (type : Nat) (q : Req) (p : List Byte) : State :=
  if type = 2 then s.doRead q (fieldAt p 7 2) else s.doWrite q (fieldAt p 7 2) (p.drop 9)

/-- A broadcast write acts as OBSERVER: of all objects, on `MTR_SNAP` (R436, R473). A broadcast read is discarded. -/
def State.broadcast (s : State) (type : Nat) (p : List Byte) : State :=
  let q := requestOf 0xFFF .direct p
  if type = 3 ∧ keyOf q.index q.sub = OD.MTR_SNAP.key 0 ∧ serves s q.index q.sub = true then
    (s.write { q with rq := { src := 0xFFF, session := 0 } } (fieldAt p 7 2) (p.drop 9)).1
  else s

/-- Remember a request: the last four of each source (R434). -/
def remember (l : List Kept) (src seq : Nat) : List Kept :=
  let mine := l.filter fun k => k.src == src
  let old := (mine.reverse.take 3).reverse
  (l.filter fun k => k.src != src) ++ old ++ [{ src := src, seq := seq }]

/-- A request frame for this hub: a repeat gets the kept response, a new one is executed. -/
def State.requestIn (s : State) (f : Frame) : State :=
  if f.payload.length < 9 then s
  else match s.ring.kept.find? fun k => k.src == f.src && k.seq == f.seq with
    | some k => (match k.answered with
      | some b => s.sendOwn 4 f.seq f.src b
      | none => s)
    | none =>
      let q := requestOf f.src (.ring f.src f.seq) f.payload
      if !serves s q.index q.sub then s
      else
        let s := { s with ring := { s.ring with kept := remember s.ring.kept f.src f.seq } }
        if f.dst = 0xFFF then s.broadcast f.type f.payload else s.request f.type q f.payload

/-- OD_READ. -/
def execOdRead (k : KPort) (f : Frame) (s : State) : Result :=
  .next (s.take_ k f fun s => if f.type = 2 ∧ forMe s f = true ∧ f.dst ≠ 0xFFF then s.requestIn f else s)

/-- OD_WRITE. -/
def execOdWrite (k : KPort) (f : Frame) (s : State) : Result :=
  .next (s.take_ k f fun s => if f.type = 3 ∧ forMe s f = true then s.requestIn f else s)

/-! ## Requests of the head (R435, R459) -/

/-- A submission that a response answers. -/
def sentFor (s : State) (src seq : Nat) : Option Sent := s.ring.sent.find? fun x => x.frame.seq == seq && x.frame.dst == src

/-- A submission is done with: its item goes to the SPI host. -/
def State.sentDone (s : State) (x : Sent) (bytes : List Byte) : State :=
  let s := { s with ring := { s.ring with sent := s.ring.sent.erase x } }
  s.push { kind := 1, tag := x.tag, src := x.frame.dst, bytes := bytes }

/-- OD_RESP: to the requester's queue. -/
def execOdResp (k : KPort) (f : Frame) (s : State) : Result :=
  .next (s.take_ k f fun s =>
    if f.type = 4 ∧ f.dst = s.ring.addr then
      match sentFor s f.src f.seq with
      | some x => s.sentDone x f.payload
      | none => s
    else s)

/-- RING_RESP_TMO: the request goes once more, then HW answers (R435). -/
def execRingRespTmo (seq : Nat) (s : State) : Result :=
  .next (match s.ring.sent.find? fun x => x.frame.seq == seq with
    | some x =>
      if x.at_ + s.act OD.RING_RESP_TMO * usNs ≤ s.now then
        if x.again then
          s.sentDone x (respPayload (requestOf 0 .direct x.frame.payload) { err := .hw })
        else
          let y : Sent := { x with again := true, at_ := s.now }
          ({ s with ring := { s.ring with sent := s.ring.sent.map fun z => if z == x then y else z } }.sendOwn
            x.frame.type x.frame.seq x.frame.dst x.frame.payload).count OD.RING_RETRIES
      else s
    | none => s)

/-! ## The SPI port (R456 to R460) -/

/-- Steps 1 and 2 of BOOT have ended: a later step has run, or their bounds of 2.1 ms and 0.5 ms have passed (R399; that they take
their bounds, DESIGN CHOICE, log 118). -/
def bootStep2 (s : State) : Bool :=
  s.power.loaded || s.stat OD.HUB_BOOT_STATUS != 0 || decide (s.power.bootFrom + 2600000 ≤ s.now)

/-- The SPI target runs: HEAD strap set, from the end of step 2 of BOOT on (R415, R419, R456). -/
def spiOn (s : State) : Bool := s.ring.strap.testBit 6 && (s.hubUp || s.hub == .boot && bootStep2 s)

/-- Bytes of a full response in the queue. -/
abbrev fullItem : Nat := 262

/-- Submissions without their response. -/
def outstanding (s : State) : Nat :=
  s.ring.sent.length + (s.pend.filter fun x => match x.req.via with
    | .spi _ => !x.told
    | _ => false).length

/-- A SUBMIT finds a place, and its full response one in the item queue (R459). -/
def submitRoom (s : State) : Bool := decide (outstanding s < 8) && decide ((outstanding s + 1) * fullItem ≤ queueFree s)

/-- IRQ_N is asserted (R413, R460). -/
def irqAsserted (s : State) : Bool := spiOn s && s.hub != .boot && (irqSrc s &&& s.act OD.RING_IRQ_EN) != 0

/-- STATUS, byte 0 of every transfer. -/
def spiStatus (s : State) : Nat :=
  bitAt (!s.spi.items.isEmpty) 0 + bitAt (!submitRoom s) 1 + bitAt s.spi.badCrc 2 + bitAt s.spi.refused 3 + bitAt (irqAsserted s) 4 +
  bitAt (s.hub == .boot) 5

/-- What SDO carries: STATUS, zeros, read data. -/
def sdoBytes (s : State) (zeros : Nat) (data : List Byte) : List Byte := leBytes 1 (spiStatus s) ++ List.replicate zeros 0 ++ data

/-- A transfer of OP, LEN, BODY and a CRC-16 over them: with a bad CRC it is discarded and counted; else `act` says what it does
and whether it is refused (R457). -/
def State.transfer (s : State) (op : Nat) (body : List Byte) (crc : Nat) (data : List Byte) (act : State → State × Bool) : State :=
  if !spiOn s then s
  else if crc = crc16 (spiBytes op body) then
    let x := act { s with spi := { s.spi with badCrc := false, refused := false, sdo := sdoBytes s (4 + body.length) data } }
    { x.1 with spi := { x.1.spi with refused := x.2 } }
  else
    { s with spi := { s.spi with badCrc := true, refused := false, sdo := sdoBytes s (4 + body.length) [] } }.count OD.RING_SPI_CRCERR

/-- The layout of an item on SDO. -/
def itemBytes (x : Item) : List Byte :=
  let b := leBytes 1 x.kind ++ leBytes 1 x.tag ++ leBytes 2 x.src ++ leBytes 2 x.bytes.length ++ x.bytes
  b ++ leBytes 2 (crc16 b)

def itemData : Option Item → List Byte
  | some x => itemBytes x
  | none => []

/-- A submission, and whether it is refused. -/
def State.submit (s : State) (type tag dst : Nat) (p : List Byte) : State × Bool :=
  let q := requestOf 0 (.spi tag) p
  if !submitRoom s then (s, true)
  else if (type ≠ 2 ∧ type ≠ 3) ∨ p.length < 9 ∨ 256 < p.length then (s, true)
  else if s.hub = .boot ∧ (dst ≠ 0 ∨ bootServed q.index q.sub = false) then (s, true)
  else if dst = 0 then (s.request type q p, false)
  else
    let t := s.nextSeq.sendOwn type s.ring.seq dst p
    if dst = 0xFFF then
      ((t.broadcast type p).push { kind := 1, tag := tag, src := 0xFFF, bytes := respPayload q { err := .ok } }, false)
    else
      let f : Frame := { type := type, seq := s.ring.seq, dst := dst, src := 0, len := p.length, payload := p }
      ({ t with ring := { t.ring with sent := t.ring.sent ++ [{ tag := tag, frame := f, at_ := t.now }] } }, false)

/-- BODY of a SUBMIT (R458). -/
def submitBody (type tag dst : Nat) (p : List Byte) : List Byte := leBytes 1 type ++ leBytes 1 tag ++ leBytes 2 dst ++ p

/-- SUBMIT, OP 0x01; `crc` is the CRC-16 that ends the transfer. -/
def execSubmit (type tag dst : Nat) (payload : List Byte) (crc : Nat) (s : State) : Result :=
  .next (s.transfer 1 (submitBody type tag dst payload) crc [] fun s => s.submit type tag dst payload)

/-- FETCH, OP 0x02: `full` says whether all bytes of the item were clocked, so that it leaves the queue. -/
def execFetch (crc : Nat) (full : Bool) (s : State) : Result :=
  .next (s.transfer 2 [] crc (itemData s.spi.items.head?) fun s =>
    match s.spi.items with
    | x :: rest => (if full then { s with spi := { s.spi with items := rest, last := some x } } else s, false)
    | [] => (s, false))

/-- REFETCH, OP 0x03. -/
def execRefetch (crc : Nat) (s : State) : Result := .next (s.transfer 3 [] crc (itemData s.spi.last) fun s => (s, false))

/-- What STATUS reads. -/
def statusData (s : State) : List Byte :=
  let next := match s.spi.items with
    | x :: _ => x.bytes.length
    | [] => 0
  leBytes 2 s.spi.items.length ++ leBytes 2 next ++ leBytes 1 (8 - outstanding s) ++ leBytes 1 0 ++ leBytes 2 (irqSrc s)

/-- STATUS, OP 0x04. -/
def execStatus (crc : Nat) (s : State) : Result := .next (s.transfer 4 [] crc (statusData s) fun s => (s, false))

/-- IRQ_ACK, OP 0x05: the named latched bits clear; bit 0 is a level. -/
def execIrqAck (mask : Nat) (crc : Nat) (s : State) : Result :=
  .next (s.transfer 5 (leBytes 2 mask) crc [] fun s =>
    ({ s with ring := { s.ring with irq := s.ring.irq - (s.ring.irq &&& mask) } }, false))

end Sys2Proof.Machine
end

