-- ==== Sys2Proof/Machine/Commands.lean ====
section
/-! DEFINITION. The rows of the table that are writes or reads of one object: each is an access of R468 by the requester, answered
to nobody but the record of the last answer. -/

namespace Sys2Proof.Machine

/-! ## Channels and buses -/

/-- CH_ENABLE_SET: 1 to `CH_ENABLE`. -/
def execChEnableSet (c : Chan) (rq : Requester) (s : State) : Result := .next (s.order rq OD.CH_ENABLE c.val 1)

/-- CH_ENABLE_CLEAR: 0 to `CH_ENABLE`. -/
def execChEnableClear (c : Chan) (rq : Requester) (s : State) : Result := .next (s.order rq OD.CH_ENABLE c.val 0)

/-- CH_DMG_CLEAR. -/
def execChDmgClear (c : Chan) (rq : Requester) (s : State) : Result := .next (s.order rq OD.CH_DMG_CLEAR c.val 1)

/-- BUS_BF_CLEAR. -/
def execBusBfClear (b : BusId) (rq : Requester) (s : State) : Result := .next (s.order rq OD.BUS_BF_CLEAR b.val 1)

/-- BUS_XFER_RESUME. -/
def execBusXferResume (b : BusId) (rq : Requester) (s : State) : Result := .next (s.order rq OD.BUS_XFER_RESUME b.val 1)

/-- DIS_REQ_SET: 1 to `DIS_REQ`. -/
def execDisReqSet (d : Quad) (rq : Requester) (s : State) : Result := .next (s.order rq OD.DIS_REQ d.val 1)

/-- DIS_REQ_CLEAR: 0 to `DIS_REQ`. -/
def execDisReqClear (d : Quad) (rq : Requester) (s : State) : Result := .next (s.order rq OD.DIS_REQ d.val 0)

/-- HUB_FLTO_ACK. -/
def execHubFltoAck (x : AB) (rq : Requester) (s : State) : Result := .next (s.order rq OD.HUB_FLTO_ACK x.val 1)

/-! ## Converters and metering -/

/-- ADC_CAL. -/
def execAdcCal (c : Chan) (rq : Requester) (s : State) : Result := .next (s.order rq OD.ADC_CAL c.val 1)

/-- ADC_RECAL: 1 or 2. -/
def execAdcRecal (c : Chan) (kind : Nat) (rq : Requester) (s : State) : Result := .next (s.order rq OD.ADC_RECAL c.val kind)

/-- MTR_SNAP. -/
def execMtrSnap (rq : Requester) (s : State) : Result := .next (s.order rq OD.MTR_SNAP 0 1)

/-- MTR_CLEAR: the mask of what to clear. -/
def execMtrClear (c : Chan) (mask : Nat) (rq : Requester) (s : State) : Result := .next (s.order rq OD.MTR_CLEAR c.val mask)

/-! ## Comparators and PWM -/

/-- CMP_TIE_TEST: 1 to `CMP_TEST`. -/
def execCmpTieTest (n : Oct) (rq : Requester) (s : State) : Result := .next (s.order rq OD.CMP_TEST n.val 1)

/-- CMP_SWAP_TEST: 2 to `CMP_TEST`. -/
def execCmpSwapTest (n : Oct) (rq : Requester) (s : State) : Result := .next (s.order rq OD.CMP_TEST n.val 2)

/-- PWM_WORD, written at time `t`. -/
def execPwmWord (n : Oct) (value : Nat) (rq : Requester) (t : Nat) (s : State) : Result :=
  .next ((s.at t).order rq OD.PWM_WORD n.val (value : Nat))

/-- PWM_RUN_START: 1 to `PWM_RUN`. -/
def execPwmRunStart (n : Oct) (rq : Requester) (s : State) : Result := .next (s.order rq OD.PWM_RUN n.val 1)

/-- PWM_RUN_STOP: 0 to `PWM_RUN`. -/
def execPwmRunStop (n : Oct) (rq : Requester) (s : State) : Result := .next (s.order rq OD.PWM_RUN n.val 0)

/-- PWM_FREL. -/
def execPwmFrel (n : Oct) (rq : Requester) (s : State) : Result := .next (s.order rq OD.PWM_FREL n.val 1)

/-! ## Hub and ring -/

/-- HUB_RESET. -/
def execHubReset (rq : Requester) (s : State) : Result := .next (s.order rq OD.HUB_RESET 0 1)

/-- HUB_PODSUP_EN. -/
def execHubPodsupEn (mask : Nat) (rq : Requester) (s : State) : Result := .next (s.order rq OD.HUB_PODSUP_EN 0 mask)

/-- HUB_SLEEP. -/
def execHubSleep (rq : Requester) (s : State) : Result := .next (s.order rq OD.HUB_SLEEP 0 1)

/-- RING_ENUM. -/
def execRingEnum (rq : Requester) (s : State) : Result := .next (s.order rq OD.RING_ENUM 0 1)

/-- RING_MAP_CLEAR. -/
def execRingMapClear (rq : Requester) (s : State) : Result := .next (s.order rq OD.RING_MAP_CLEAR 0 1)

/-- RING_WAKE: the mask of ports. -/
def execRingWake (mask : Nat) (rq : Requester) (s : State) : Result := .next (s.order rq OD.RING_WAKE 0 mask)

/-! ## The dictionary itself -/

/-- OBJECT_WRITE: an object without a row of its own. -/
def execObjectWrite (rq : Requester) (idx sub : Nat) (data : List Byte) (s : State) : Result :=
  .next (s.doWrite { rq := rq, index := idx, sub := sub } data.length data)

/-- SES_OPEN: the role code. -/
def execSesOpen (role : Nat) (rq : Requester) (s : State) : Result := .next (s.order rq OD.SES_OPEN 0 role)

/-- SES_CHALLENGE: a source reads its pending challenge. -/
def execSesChallenge (src : Nat) (s : State) : Result :=
  .next (s.doRead { rq := { src := src, session := 0 }, index := 0x7100, sub := 2 } 34)

/-- SES_RESPONSE: `rq` carries the pending handle. -/
def execSesResponse (rq : Requester) (data : List Byte) (s : State) : Result :=
  .next (s.doWrite { rq := rq, index := 0x7100, sub := 3 } data.length data)

/-- SES_CLOSE: the handle. -/
def execSesClose (h : Nat) (rq : Requester) (s : State) : Result := .next (s.order rq OD.SES_CLOSE 0 h)

/-- SES_VIEW: 0 ACTIVE, 1 SHADOW. -/
def execSesView (v : Nat) (rq : Requester) (s : State) : Result := .next (s.order rq OD.SES_VIEW 0 v)

/-- COMMIT: 1 to a COMMIT object. -/
def execCommit (u : CUnit) (rq : Requester) (s : State) : Result := .next (s.order rq (commitObj u 1) 0 1)

/-- REVERT: 2 to a COMMIT object. -/
def execRevert (u : CUnit) (rq : Requester) (s : State) : Result := .next (s.order rq (commitObj u 1) 0 2)

/-- HUB_CFG_SAVE. -/
def execHubCfgSave (rq : Requester) (s : State) : Result := .next (s.order rq OD.HUB_CFG_SAVE 0 1)

/-- HUB_CFG_DEFAULTS. -/
def execHubCfgDefaults (rq : Requester) (s : State) : Result := .next (s.order rq OD.HUB_CFG_DEFAULTS 0 1)

/-- SEAL_WRITE: the index of a sealed object and its value. -/
def execSealWrite (rq : Requester) (idx : Nat) (data : List Byte) (s : State) : Result :=
  .next (s.doWrite { rq := rq, index := idx, sub := 1 } data.length data)

/-! ## Stream, partner, firmware -/

/-- STR_EN_SET: 1 to `STR_EN`. -/
def execStrEnSet (rq : Requester) (s : State) : Result := .next (s.order rq OD.STR_EN 0 1)

/-- STR_EN_CLEAR: 0 to `STR_EN`. -/
def execStrEnClear (rq : Requester) (s : State) : Result := .next (s.order rq OD.STR_EN 0 0)

/-- STR_CAPTURE: the mask of channels. -/
def execStrCapture (mask : Nat) (rq : Requester) (s : State) : Result := .next (s.order rq OD.STR_CAPTURE 0 mask)

/-- STR_JNL_EXPORT: the number of records. -/
def execStrJnlExport (n : Nat) (rq : Requester) (s : State) : Result := .next (s.order rq OD.STR_JNL_EXPORT 0 n)

/-- HUB_PX_MOVE: the mask of ports. -/
def execHubPxMove (mask : Nat) (rq : Requester) (s : State) : Result := .next (s.order rq OD.HUB_PX_MOVE 0 mask)

/-- FW_LOAD_BEGIN: 1 to `FW_LOAD`. -/
def execFwLoadBegin (rq : Requester) (s : State) : Result := .next (s.order rq OD.FW_LOAD 0 1)

/-- FW_LOAD_FINISH: 2 to `FW_LOAD`. -/
def execFwLoadFinish (rq : Requester) (s : State) : Result := .next (s.order rq OD.FW_LOAD 0 2)

/-- FW_LOAD_CANCEL: 3 to `FW_LOAD`. -/
def execFwLoadCancel (rq : Requester) (s : State) : Result := .next (s.order rq OD.FW_LOAD 0 3)

/-- FW_IMAGE: bytes at an offset. -/
def execFwImage (rq : Requester) (off : Nat) (data : List Byte) (s : State) : Result :=
  .next (s.doWrite { rq := rq, index := 0x7200, sub := 7, off := off } data.length data)

/-- FW_ACTIVATE. -/
def execFwActivate (rq : Requester) (s : State) : Result := .next (s.order rq OD.FW_ACTIVATE 0 1)

/-- FW_CONFIRM. -/
def execFwConfirm (rq : Requester) (s : State) : Result := .next (s.order rq OD.FW_CONFIRM 0 1)

/-! ## The control tick (R21) -/

/-- RW values that were written since the last tick apply. -/
def State.rwApply (s : State) : State :=
  let u : State := s.rwNext.foldl (fun s e => s.putRw e.1 e.2) { s with rwNext := [] }
  (u.podSwitches (s.act OD.HUB_PODSUP_EN)).hkNew (s.act OD.ADC_HK_EN)

/-- CONTROL_TICK: time reaches the next tick boundary; written RW values apply; clock, configuration save and enumeration move on,
filters of comparators that have run out pass (R361);
a hub that is up evaluates lines, rules, feeds, converters and choppers and composes its command frames; the frames of a group that
it takes over carry what the pods hold (R21, R537, R538). -/
def execControlTick (s : State) : Result :=
  let s := (s.at (nextTick s.now)).rwApply
  let s := s.clockTick.cfgTick.enumTick.slewTick
  let s := allOct.foldl (fun s n => s.cellFilter n s.now) s
  .next (if s.hubUp then allChans.foldl State.takeover s.lineTrips.tick else s)

end Sys2Proof.Machine
end

