-- ==== Sys2Proof/Machine/Dispatch.lean ====
section
/-! DEFINITION. Dispatch: each command calls its meaning. -/

namespace Sys2Proof.Machine

/-- The effect of a command on everything but the queue. -/
def exec (i : Instr) (s : State) : Host.Outcome State Fault Refusal :=
  match i with
  | .controlTick => Sys2Proof.Machine.execControlTick s
  | .commandFrameReceived c rx => Sys2Proof.Machine.execCommandFrameReceived c rx s
  | .statusFrameReceived c crcOk => Sys2Proof.Machine.execStatusFrameReceived c crcOk s
  | .podTickBoundary c smp => Sys2Proof.Machine.execPodTickBoundary c smp s
  | .orphan c => Sys2Proof.Machine.execOrphan c s
  | .uvloAssert c vneg mv since t => Sys2Proof.Machine.execUvloAssert c vneg mv since t s
  | .uvloClear c vneg mv since t => Sys2Proof.Machine.execUvloClear c vneg mv since t s
  | .stackTurnOn c ic vc t => Sys2Proof.Machine.execStackTurnOn c ic vc t s
  | .turnOnAfterClamp c ic vc t => Sys2Proof.Machine.execTurnOnAfterClamp c ic vc t s
  | .gateLevelReached c side mv t => Sys2Proof.Machine.execGateLevelReached c side mv t s
  | .strongHoldEnd c side t => Sys2Proof.Machine.execStrongHoldEnd c side t s
  | .strongClampEnd c side t => Sys2Proof.Machine.execStrongClampEnd c side t s
  | .boostTimeLimit c side t => Sys2Proof.Machine.execBoostTimeLimit c side t s
  | .slewLimitExpired c side t => Sys2Proof.Machine.execSlewLimitExpired c side t s
  | .forcedClamp c side t => Sys2Proof.Machine.execForcedClamp c side t s
  | .clampGateFault c side t => Sys2Proof.Machine.execClampGateFault c side t s
  | .barrierSignalLoss c t => Sys2Proof.Machine.execBarrierSignalLoss c t s
  | .hvPowerUp c vpos vneg mid t => Sys2Proof.Machine.execHvPowerUp c vpos vneg mid t s
  | .hvPowerDown c t => Sys2Proof.Machine.execHvPowerDown c t s
  | .seatPairSeated c t => Sys2Proof.Machine.execSeatPairSeated c t s
  | .seatingAbort c s1 s2 t => Sys2Proof.Machine.execSeatingAbort c s1 s2 t s
  | .seatDebounceComplete c t => Sys2Proof.Machine.execSeatDebounceComplete c t s
  | .seatLoss c s1 s2 tFirst t => Sys2Proof.Machine.execSeatLoss c s1 s2 tFirst t s
  | .removalConfirmed c => Sys2Proof.Machine.execRemovalConfirmed c s
  | .reseatGuardExpiry c => Sys2Proof.Machine.execReseatGuardExpiry c s
  | .channelStart c t => Sys2Proof.Machine.execChannelStart c t s
  | .powerGoodAssert c => Sys2Proof.Machine.execPowerGoodAssert c s
  | .startEnergyExceeded c ic vc t => Sys2Proof.Machine.execStartEnergyExceeded c ic vc t s
  | .chEnableSet c rq => Sys2Proof.Machine.execChEnableSet c rq s
  | .chEnableClear c rq => Sys2Proof.Machine.execChEnableClear c rq s
  | .coolDownEnd c => Sys2Proof.Machine.execCoolDownEnd c s
  | .prechargeStart p => Sys2Proof.Machine.execPrechargeStart p s
  | .prechargeSelftestDone p passed ready => Sys2Proof.Machine.execPrechargeSelftestDone p passed ready s
  | .driverReadyLoss n back => Sys2Proof.Machine.execDriverReadyLoss n back s
  | .prechargeResume p => Sys2Proof.Machine.execPrechargeResume p s
  | .pauseLimit p => Sys2Proof.Machine.execPauseLimit p s
  | .prechargeClose p => Sys2Proof.Machine.execPrechargeClose p s
  | .noProgress p => Sys2Proof.Machine.execNoProgress p s
  | .prechargeTimeLimit p => Sys2Proof.Machine.execPrechargeTimeLimit p s
  | .closeLimit p => Sys2Proof.Machine.execCloseLimit p s
  | .disReqSet d rq => Sys2Proof.Machine.execDisReqSet d rq s
  | .disReqClear d rq => Sys2Proof.Machine.execDisReqClear d rq s
  | .dischargeRun d => Sys2Proof.Machine.execDischargeRun d s
  | .chopperResume d => Sys2Proof.Machine.execChopperResume d s
  | .dischargeDone d => Sys2Proof.Machine.execDischargeDone d s
  | .energyLimit d => Sys2Proof.Machine.execEnergyLimit d s
  | .dischargeTimeLimit d => Sys2Proof.Machine.execDischargeTimeLimit d s
  | .sc2Trip c t => Sys2Proof.Machine.execSc2Trip c t s
  | .sc1Trip c memberB since t => Sys2Proof.Machine.execSc1Trip c memberB since t s
  | .reverseTrip c since t => Sys2Proof.Machine.execReverseTrip c since t s
  | .desatTrip c side since t => Sys2Proof.Machine.execDesatTrip c side since t s
  | .desatBlankingEnd c side t => Sys2Proof.Machine.execDesatBlankingEnd c side t s
  | .busOvTrip c since t => Sys2Proof.Machine.execBusOvTrip c since t s
  | .busUvTrip c since t => Sys2Proof.Machine.execBusUvTrip c since t s
  | .currentLimitEntry c memberB negative t => Sys2Proof.Machine.execCurrentLimitEntry c memberB negative t s
  | .currentLimitExit c t => Sys2Proof.Machine.execCurrentLimitExit c t s
  | .faultTimerPeriodEnd c ic vc t => Sys2Proof.Machine.execFaultTimerPeriodEnd c ic vc t s
  | .thermalEvaluation c => Sys2Proof.Machine.execThermalEvaluation c s
  | .dieOverTemperature c t => Sys2Proof.Machine.execDieOverTemperature c t s
  | .outputPresent c ic vc t => Sys2Proof.Machine.execOutputPresent c ic vc t s
  | .stackTest c t => Sys2Proof.Machine.execStackTest c t s
  | .suspectConfirmation c t => Sys2Proof.Machine.execSuspectConfirmation c t s
  | .confirmationEvaluation c t => Sys2Proof.Machine.execConfirmationEvaluation c t s
  | .tieTest c cmp pass t => Sys2Proof.Machine.execTieTest c cmp pass t s
  | .onlineSelftestRound c t => Sys2Proof.Machine.execOnlineSelftestRound c t s
  | .memberTestEnd c cmp result t => Sys2Proof.Machine.execMemberTestEnd c cmp result t s
  | .retryDue c => Sys2Proof.Machine.execRetryDue c s
  | .retryReleased c => Sys2Proof.Machine.execRetryReleased c s
  | .retryCountReset c => Sys2Proof.Machine.execRetryCountReset c s
  | .selftestToggleDone c failMask t => Sys2Proof.Machine.execSelftestToggleDone c failMask t s
  | .chDmgClear c rq => Sys2Proof.Machine.execChDmgClear c rq s
  | .busFaultClassify b => Sys2Proof.Machine.execBusFaultClassify b s
  | .busBfClear b rq => Sys2Proof.Machine.execBusBfClear b rq s
  | .fltoMinWidthEnd x => Sys2Proof.Machine.execFltoMinWidthEnd x s
  | .hubFltoAck x rq => Sys2Proof.Machine.execHubFltoAck x rq s
  | .fltiAssert x since t => Sys2Proof.Machine.execFltiAssert x since t s
  | .fltiRelease x => Sys2Proof.Machine.execFltiRelease x s
  | .sourceLoss b => Sys2Proof.Machine.execSourceLoss b s
  | .revertDue b => Sys2Proof.Machine.execRevertDue b s
  | .transferMake b => Sys2Proof.Machine.execTransferMake b s
  | .transferTimeout b => Sys2Proof.Machine.execTransferTimeout b s
  | .busXferResume b rq => Sys2Proof.Machine.execBusXferResume b rq s
  | .oringReverseBlock c since t => Sys2Proof.Machine.execOringReverseBlock c since t s
  | .oringReverseTrip c t => Sys2Proof.Machine.execOringReverseTrip c t s
  | .oringReentry c t => Sys2Proof.Machine.execOringReentry c t s
  | .oringShareStep b => Sys2Proof.Machine.execOringShareStep b s
  | .oringBlocked b => Sys2Proof.Machine.execOringBlocked b s
  | .pairedWindowStart c trig t => Sys2Proof.Machine.execPairedWindowStart c trig t s
  | .pairedWindowEnd c t => Sys2Proof.Machine.execPairedWindowEnd c t s
  | .intDwellComplete c => Sys2Proof.Machine.execIntDwellComplete c s
  | .urgentConversionDone c codes t => Sys2Proof.Machine.execUrgentConversionDone c codes t s
  | .adcCal c rq => Sys2Proof.Machine.execAdcCal c rq s
  | .calComplete c icF vcF feF t => Sys2Proof.Machine.execCalComplete c icF vcF feF t s
  | .adcRecal c kind rq => Sys2Proof.Machine.execAdcRecal c kind rq s
  | .recalComplete c factors t => Sys2Proof.Machine.execRecalComplete c factors t s
  | .recalCoverEnd c => Sys2Proof.Machine.execRecalCoverEnd c s
  | .parkedBurst c smp => Sys2Proof.Machine.execParkedBurst c smp s
  | .hkMeanUpdate inp codes => Sys2Proof.Machine.execHkMeanUpdate inp codes s
  | .hkSleepBurst codes => Sys2Proof.Machine.execHkSleepBurst codes s
  | .averageComplete c src => Sys2Proof.Machine.execAverageComplete c src s
  | .meteringTransfer c => Sys2Proof.Machine.execMeteringTransfer c s
  | .meteringTransferReceived c crcOk => Sys2Proof.Machine.execMeteringTransferReceived c crcOk s
  | .minmaxWindowEnd => Sys2Proof.Machine.execMinmaxWindowEnd s
  | .mtrSnap rq => Sys2Proof.Machine.execMtrSnap rq s
  | .snapshotTick => Sys2Proof.Machine.execSnapshotTick s
  | .snapshotDone => Sys2Proof.Machine.execSnapshotDone s
  | .mtrClear c mask rq => Sys2Proof.Machine.execMtrClear c mask rq s
  | .meteringClearApply c => Sys2Proof.Machine.execMeteringClearApply c s
  | .checkpoint => Sys2Proof.Machine.execCheckpoint s
  | .checkpointWritten ok => Sys2Proof.Machine.execCheckpointWritten ok s
  | .speedHoldEnd cell active => Sys2Proof.Machine.execSpeedHoldEnd cell active s
  | .hubCmpEdge n active mid t => Sys2Proof.Machine.execHubCmpEdge n active mid t s
  | .cmpTieTest n rq => Sys2Proof.Machine.execCmpTieTest n rq s
  | .cmpSwapTest n rq => Sys2Proof.Machine.execCmpSwapTest n rq s
  | .cmpTestDone n result => Sys2Proof.Machine.execCmpTestDone n result s
  | .pwmWord n value rq t => Sys2Proof.Machine.execPwmWord n value rq t s
  | .pwmRunStart n rq => Sys2Proof.Machine.execPwmRunStart n rq s
  | .pwmRunStop n rq => Sys2Proof.Machine.execPwmRunStop n rq s
  | .pwmPeriodBoundary n rdy => Sys2Proof.Machine.execPwmPeriodBoundary n rdy s
  | .pwmMidperiodReload n => Sys2Proof.Machine.execPwmMidperiodReload n s
  | .pwmPulseEnd n => Sys2Proof.Machine.execPwmPulseEnd n s
  | .pwmDeadTimeEnd n => Sys2Proof.Machine.execPwmDeadTimeEnd n s
  | .pwmFrel n rq => Sys2Proof.Machine.execPwmFrel n rq s
  | .vdd33PowerOnReset => Sys2Proof.Machine.execVdd33PowerOnReset s
  | .coreSupplyReset => Sys2Proof.Machine.execCoreSupplyReset s
  | .alwaysOnPowerOnReset => Sys2Proof.Machine.execAlwaysOnPowerOnReset s
  | .resetN => Sys2Proof.Machine.execResetN s
  | .lockstepMismatch => Sys2Proof.Machine.execLockstepMismatch s
  | .watchdog => Sys2Proof.Machine.execWatchdog s
  | .crystalLost => Sys2Proof.Machine.execCrystalLost s
  | .hubReset rq => Sys2Proof.Machine.execHubReset rq s
  | .thermalReset => Sys2Proof.Machine.execThermalReset s
  | .resetRelease strap => Sys2Proof.Machine.execResetRelease strap s
  | .bootComplete => Sys2Proof.Machine.execBootComplete s
  | .adopt => Sys2Proof.Machine.execAdopt s
  | .podAdoption c => Sys2Proof.Machine.execPodAdoption c s
  | .podSupplyCurrentLimit c => Sys2Proof.Machine.execPodSupplyCurrentLimit c s
  | .podSupplyRetry c holds => Sys2Proof.Machine.execPodSupplyRetry c holds s
  | .hubPodsupEn mask rq => Sys2Proof.Machine.execHubPodsupEn mask rq s
  | .ringClockMove => Sys2Proof.Machine.execRingClockMove s
  | .ringClockLoss => Sys2Proof.Machine.execRingClockLoss s
  | .xtalMeasure ppm => Sys2Proof.Machine.execXtalMeasure ppm s
  | .hubSleep rq => Sys2Proof.Machine.execHubSleep rq s
  | .sleepEntered => Sys2Proof.Machine.execSleepEntered s
  | .podWakeSignal c => Sys2Proof.Machine.execPodWakeSignal c s
  | .wake src => Sys2Proof.Machine.execWake src s
  | .podPowerUp c kind rev uid a b => Sys2Proof.Machine.execPodPowerUp c kind rev uid a b s
  | .podSupplyLoss c t => Sys2Proof.Machine.execPodSupplyLoss c t s
  | .podLinkTrained c => Sys2Proof.Machine.execPodLinkTrained c s
  | .podLinkDown c => Sys2Proof.Machine.execPodLinkDown c s
  | .holdWindowEnd c => Sys2Proof.Machine.execHoldWindowEnd c s
  | .ringLinkDown k violations => Sys2Proof.Machine.execRingLinkDown k violations s
  | .ringLinkUp k => Sys2Proof.Machine.execRingLinkUp k s
  | .odRead k f => Sys2Proof.Machine.execOdRead k f s
  | .odWrite k f => Sys2Proof.Machine.execOdWrite k f s
  | .odResp k f => Sys2Proof.Machine.execOdResp k f s
  | .ringRespTmo seq => Sys2Proof.Machine.execRingRespTmo seq s
  | .eventFrame k f => Sys2Proof.Machine.execEventFrame k f s
  | .faultFrame k f => Sys2Proof.Machine.execFaultFrame k f s
  | .syncTime k f t => Sys2Proof.Machine.execSyncTime k f t s
  | .syncPeriod => Sys2Proof.Machine.execSyncPeriod s
  | .delayReq k f turn => Sys2Proof.Machine.execDelayReq k f turn s
  | .delayResp k f t => Sys2Proof.Machine.execDelayResp k f t s
  | .delayExchangePeriod => Sys2Proof.Machine.execDelayExchangePeriod s
  | .timeHoldover => Sys2Proof.Machine.execTimeHoldover s
  | .discover k f => Sys2Proof.Machine.execDiscover k f s
  | .report k f => Sys2Proof.Machine.execReport k f s
  | .assign k f => Sys2Proof.Machine.execAssign k f s
  | .done k f => Sys2Proof.Machine.execDone k f s
  | .ringEnum rq => Sys2Proof.Machine.execRingEnum rq s
  | .ringMapClear rq => Sys2Proof.Machine.execRingMapClear rq s
  | .faultToken k b t => Sys2Proof.Machine.execFaultToken k b t s
  | .faultTokenRepeat l => Sys2Proof.Machine.execFaultTokenRepeat l s
  | .faultViewRelease l => Sys2Proof.Machine.execFaultViewRelease l s
  | .faultPulseEnd l => Sys2Proof.Machine.execFaultPulseEnd l s
  | .rehome k b => Sys2Proof.Machine.execRehome k b s
  | .ringWake mask rq => Sys2Proof.Machine.execRingWake mask rq s
  | .submit type tag dst payload crc => Sys2Proof.Machine.execSubmit type tag dst payload crc s
  | .fetch crc full => Sys2Proof.Machine.execFetch crc full s
  | .refetch crc => Sys2Proof.Machine.execRefetch crc s
  | .status crc => Sys2Proof.Machine.execStatus crc s
  | .irqAck mask crc => Sys2Proof.Machine.execIrqAck mask crc s
  | .objectWrite rq idx sub data => Sys2Proof.Machine.execObjectWrite rq idx sub data s
  | .sesOpen role rq => Sys2Proof.Machine.execSesOpen role rq s
  | .sesChallenge src => Sys2Proof.Machine.execSesChallenge src s
  | .sesResponse rq data => Sys2Proof.Machine.execSesResponse rq data s
  | .challengeLapse => Sys2Proof.Machine.execChallengeLapse s
  | .roleLockEnd => Sys2Proof.Machine.execRoleLockEnd s
  | .sesClose h rq => Sys2Proof.Machine.execSesClose h rq s
  | .sesTimeout h => Sys2Proof.Machine.execSesTimeout h s
  | .sesView v rq => Sys2Proof.Machine.execSesView v rq s
  | .commit u rq => Sys2Proof.Machine.execCommit u rq s
  | .commitApply u => Sys2Proof.Machine.execCommitApply u s
  | .revert u rq => Sys2Proof.Machine.execRevert u rq s
  | .hubCfgSave rq => Sys2Proof.Machine.execHubCfgSave rq s
  | .cfgSaveComplete ok => Sys2Proof.Machine.execCfgSaveComplete ok s
  | .hubCfgDefaults rq => Sys2Proof.Machine.execHubCfgDefaults rq s
  | .sealWrite rq idx data => Sys2Proof.Machine.execSealWrite rq idx data s
  | .sealProgramDone ok => Sys2Proof.Machine.execSealProgramDone ok s
  | .strEnSet rq => Sys2Proof.Machine.execStrEnSet rq s
  | .strEnClear rq => Sys2Proof.Machine.execStrEnClear rq s
  | .readyHighEnd ns => Sys2Proof.Machine.execReadyHighEnd ns s
  | .blockSend => Sys2Proof.Machine.execBlockSend s
  | .streamFlush => Sys2Proof.Machine.execStreamFlush s
  | .streamRecord => Sys2Proof.Machine.execStreamRecord s
  | .strCapture mask rq => Sys2Proof.Machine.execStrCapture mask rq s
  | .strJnlExport n rq => Sys2Proof.Machine.execStrJnlExport n rq s
  | .journalExportRecord => Sys2Proof.Machine.execJournalExportRecord s
  | .hubPxMove mask rq => Sys2Proof.Machine.execHubPxMove mask rq s
  | .moveReclaim => Sys2Proof.Machine.execMoveReclaim s
  | .ownerlessClaim c => Sys2Proof.Machine.execOwnerlessClaim c s
  | .fwLoadBegin rq => Sys2Proof.Machine.execFwLoadBegin rq s
  | .fwImage rq off data => Sys2Proof.Machine.execFwImage rq off data s
  | .fwLoadFinish rq => Sys2Proof.Machine.execFwLoadFinish rq s
  | .fwCheckDone => Sys2Proof.Machine.execFwCheckDone s
  | .fwLoadCancel rq => Sys2Proof.Machine.execFwLoadCancel rq s
  | .fwActivate rq => Sys2Proof.Machine.execFwActivate rq s
  | .fwConfirm rq => Sys2Proof.Machine.execFwConfirm rq s
  | .fwTrialExpiry => Sys2Proof.Machine.execFwTrialExpiry s
  | .pfwN => Sys2Proof.Machine.execPfwN s
  | .powerWarningEnd => Sys2Proof.Machine.execPowerWarningEnd s
  | .cutThroughForward k f t residence => Sys2Proof.Machine.execCutThroughForward k f t residence s
  | .mirroringComplete => Sys2Proof.Machine.execMirroringComplete s

end Sys2Proof.Machine
end

