-- ==== Sys2Proof/Safety.lean ====
section
/-! DEFINITION. What a good state of the block is, in the terms that statements use. -/

namespace Sys2Proof.Machine

/-- The slots of the sealed object in place `i` of the OTP bank. -/
def slotsAt (s : State) (i : Fin 64) : List SealSlot := (s.seals.get i).slots

/-- No sealed object uses more than 16 slots (R497, R499), and the one that is being programmed has a slot left. -/
def otpOk (s : State) : Prop :=
  (∀ i : Fin 64, (slotsAt s i).length ≤ 16) ∧
  (∀ x : Sealing, s.sealing = some x → ∀ i : Fin 64, x.index = 0x7800 + i.val → (slotsAt s i).length < 16)

/-- At most eight sessions, pending ones included (R474). -/
def sessionsOk (s : State) : Prop := s.sessions.length ≤ 8

/-- The invariant that every step keeps. -/
def Inv (s : State) : Prop := otpOk s ∧ sessionsOk s

/-- The objects of the dictionary are held in canonical form: keys strictly rising. -/
def storesOk (s : State) : Bool := Store.sorted s.active && Store.sorted s.shadow && Store.sorted s.status

/-- Pod `q` holds, after `p`, the record of a new trip with cause `k`, which awaits its acknowledgement (R26, R227, R237). -/
def newTrip (p q : Pod) (k : Cause) (t : Nat) : Prop :=
  q.st.trip = p.st.trip.fresh k t ∧ q.st.fltq = true ∧ q.acked = false ∧ q.coll.due = true

/-- A running channel whose seat is held and without an open collection: its next cause starts a new trip (R226, R227, R231). -/
def Pod.canTrip (p : Pod) : Bool := !p.absentDue && !p.coll.isOpen && p.st.ch.running

/-- A write that the dictionary lets through to step 9: the object is served, the checks of R468 pass, no power warning holds. -/
def admits (s : State) (q : Req) (data : List Byte) : Bool :=
  serves s q.index q.sub && !s.pfw.on && (match writeCheck s q data.length data with
    | .ok _ => true
    | .error _ => false)

/-- The same of a command of the table that writes one value. -/
def admitsOrder (s : State) (rq : Requester) (o : Obj) (i : Nat) (v : Int) : Bool :=
  admits s (orderOf rq o i) (objBytes (orderOf rq o i).index (orderOf rq o i).sub v)

/-- The last access has been answered with this error code and no data. -/
def answers (u : State) (e : Err) : Prop := u.resp = some (.direct, { err := e })

/-- A core reset leaves every pod as it is, but for the report of its supply input A, which follows its output's default; with every
output at its default nothing of a pod changes (R396, R402). -/
def podsKept (s u : State) : Prop :=
  (∀ c : Chan, u.pod c = { s.pod c with st := { (s.pod c).st with lvA := (u.pod c).st.lvA } }) ∧
  (s.act OD.HUB_PODSUP_EN = State.reset.act OD.HUB_PODSUP_EN → u.pods = s.pods)

/-- `u` is `s` after a core reset by the cause with this bit (R401, R402): the core's sets and sessions are gone, the pods, the
journal's records and the MRAM's firmware selection are kept. -/
def coreResetTo (s u : State) (bit : Nat) : Prop :=
  u.hub = .reset ∧ u.power.latch = setBit s.power.latch bit true ∧ podsKept s u ∧ u.sessions = [] ∧ u.active = [] ∧
  u.shadow = [] ∧ u.jnl.recs = s.jnl.recs ∧ u.fw.selB = s.fw.selB ∧ u.now = s.now

/-- A frame that port `k` hears, that passes the checks of R431 and that has not been round the ring (R433). -/
def heard (s : State) (k : KPort) (f : Frame) : Bool := hearsPort s k && !badFrame f && !roundTrip s k f

/-- The hub as it executes the request that a frame brings: the frame's code violations counted, the request remembered (R434, R461). -/
def asked (s : State) (f : Frame) : State :=
  let h := s.codeErrs f.violations
  { h with ring := { h.ring with kept := remember h.ring.kept f.src f.seq } }

/-- The request of a frame. -/
def askOf (f : Frame) : Req := requestOf f.src (.ring f.src f.seq) f.payload

/-- A request frame of this type for this hub alone, which it has not executed and whose object it serves (R434). -/
def asks (s : State) (k : KPort) (f : Frame) (type : Nat) : Bool :=
  heard s k f && f.type == type && f.dst == s.ring.addr && f.dst != 0xFFF && decide (9 ≤ f.payload.length) &&
  !(s.ring.kept.any fun m => m.src == f.src && m.seq == f.seq) && serves s (fieldAt f.payload 2 2) (fieldAt f.payload 4 1)

/-- The answer to a request frame has left toward its source and is kept for a repeat (R434). -/
def keptAnswer (u : State) (f : Frame) (a : Answer) : Prop :=
  u.resp = some (.ring f.src f.seq, a) ∧
  ∃ m ∈ u.ring.kept, m.src = f.src ∧ m.seq = f.seq ∧ m.answered = some (respPayload (askOf f) a)

/-- OP, BODY and CRC of the SPI transfer that is a command (R458). -/
def transferOf : Instr → Option (Nat × List Byte × Nat)
  | .submit type tag dst p crc => some (1, submitBody type tag dst p, crc)
  | .fetch crc _ => some (2, [], crc)
  | .refetch crc => some (3, [], crc)
  | .status crc => some (4, [], crc)
  | .irqAck mask crc => some (5, leBytes 2 mask, crc)
  | _ => none

/-- The commands that act at one pod and nowhere else, with that pod. -/
def podOf : Instr → Option Chan
  | .uvloAssert c _ _ _ _ | .uvloClear c _ _ _ _ | .stackTurnOn c _ _ _ | .turnOnAfterClamp c _ _ _ | .gateLevelReached c _ _ _
  | .strongHoldEnd c _ _ | .strongClampEnd c _ _ | .boostTimeLimit c _ _ | .slewLimitExpired c _ _ | .forcedClamp c _ _
  | .clampGateFault c _ _ | .barrierSignalLoss c _ | .hvPowerUp c _ _ _ _ | .hvPowerDown c _ | .sc2Trip c _ | .sc1Trip c _ _ _
  | .reverseTrip c _ _ | .desatTrip c _ _ _ | .desatBlankingEnd c _ _ | .busOvTrip c _ _ | .busUvTrip c _ _ | .currentLimitEntry c _ _ _
  | .currentLimitExit c _ | .faultTimerPeriodEnd c _ _ _ | .thermalEvaluation c | .dieOverTemperature c _ | .outputPresent c _ _ _
  | .stackTest c _ | .tieTest c _ _ _ | .suspectConfirmation c _ | .confirmationEvaluation c _ | .onlineSelftestRound c _
  | .memberTestEnd c _ _ _ | .startEnergyExceeded c _ _ _ | .orphan c | .holdWindowEnd c | .oringReverseBlock c _ _
  | .oringReverseTrip c _ | .oringReentry c _ | .urgentConversionDone c _ _ | .pairedWindowStart c _ _ | .meteringTransfer c =>
    some c
  | _ => none

/-- An access: a frame or a transfer that carries a request, and each command that is a write of an object (R468). -/
def isAccess : Instr → Bool
  | .chEnableSet _ _ | .chEnableClear _ _ | .disReqSet _ _ | .disReqClear _ _ | .chDmgClear _ _ | .busBfClear _ _ | .hubFltoAck _ _
  | .busXferResume _ _ | .adcCal _ _ | .adcRecal _ _ _ | .mtrSnap _ | .mtrClear _ _ _ | .cmpTieTest _ _ | .cmpSwapTest _ _
  | .pwmWord _ _ _ _ | .pwmRunStart _ _ | .pwmRunStop _ _ | .pwmFrel _ _ | .hubReset _ | .hubPodsupEn _ _ | .hubSleep _
  | .odRead _ _ | .odWrite _ _ | .ringEnum _ | .ringMapClear _ | .ringWake _ _ | .submit _ _ _ _ _ | .objectWrite _ _ _ _
  | .sesOpen _ _ | .sesResponse _ _ | .sesClose _ _ | .sesView _ _ | .commit _ _ | .revert _ _ | .hubCfgSave _ | .hubCfgDefaults _
  | .sealWrite _ _ _ | .strEnSet _ | .strEnClear _ | .strCapture _ _ | .strJnlExport _ _ | .hubPxMove _ _ | .fwLoadBegin _
  | .fwImage _ _ _ | .fwLoadFinish _ | .fwLoadCancel _ | .fwActivate _ | .fwConfirm _ => true
  | _ => false

/-- A reset of the core, or the wake from SLEEP, in which the core domain had no supply (R401, R410). -/
def losesCore : Instr → Bool
  | .vdd33PowerOnReset | .coreSupplyReset | .alwaysOnPowerOnReset | .resetN | .lockstepMismatch | .watchdog | .crystalLost
  | .thermalReset | .ringClockLoss | .wake _ | .fwTrialExpiry => true
  | _ => false

/-- The commands that may change a session, a sealed object or the seal that is being programmed. -/
def touchesVault (i : Instr) : Bool := isAccess i || losesCore i || match i with
  | .sleepEntered | .sesChallenge _ | .challengeLapse | .sesTimeout _ | .sealProgramDone _ | .bootComplete | .podLinkTrained _
  | .ringLinkUp _ => true
  | _ => false

/-- The commands that may change an active or a shadow set, or a write or COMMIT that waits. -/
def touchesConfig (i : Instr) : Bool := isAccess i || losesCore i || match i with
  | .controlTick | .bootComplete | .podLinkTrained _ | .ringLinkUp _ | .adopt | .podAdoption _ | .commitApply _ => true
  | _ => false

/-- The commands that may change the stream port, the stored configuration, the firmware slots, the checkpoint, or the
state and power of the hub. -/
def touchesHost (i : Instr) : Bool := isAccess i || losesCore i || match i with
  | .controlTick | .pairedWindowEnd _ _ | .hkSleepBurst _ | .averageComplete _ _ | .minmaxWindowEnd | .meteringClearApply _
  | .checkpoint | .checkpointWritten _ | .resetRelease _ | .bootComplete | .podLinkTrained _ | .ringLinkUp _ | .hkMeanUpdate _ _
  | .adopt | .sleepEntered | .cfgSaveComplete _
  | .readyHighEnd _ | .blockSend | .streamFlush | .streamRecord | .journalExportRecord | .fwCheckDone | .pfwN
  | .syncTime _ _ _ | .ringClockMove | .ringClockLoss | .xtalMeasure _ => true
  | _ => false

/-- The commands that may change a bus, a converter, a chopper, a PWM generator, a comparator or a fault line. -/
def touchesUnits (i : Instr) : Bool := isAccess i || losesCore i || match i with
  | .controlTick | .statusFrameReceived _ _ | .podTickBoundary _ _ | .seatLoss _ _ _ _ _ | .removalConfirmed _ | .powerGoodAssert _
  | .prechargeStart _ | .prechargeSelftestDone _ _ _ | .driverReadyLoss _ _ | .prechargeResume _ | .pauseLimit _ | .prechargeClose _
  | .noProgress _ | .prechargeTimeLimit _ | .closeLimit _ | .dischargeRun _ | .chopperResume _ | .dischargeDone _ | .energyLimit _
  | .dischargeTimeLimit _ | .retryDue _ | .retryReleased _ | .selftestToggleDone _ _ _ | .busFaultClassify _ | .fltoMinWidthEnd _
  | .fltiAssert _ _ _ | .fltiRelease _ | .sourceLoss _ | .revertDue _ | .transferMake _ | .transferTimeout _ | .oringShareStep _
  | .oringBlocked _ | .speedHoldEnd _ _ | .hubCmpEdge _ _ _ _ | .cmpTestDone _ _ | .pwmPeriodBoundary _ _ | .pwmMidperiodReload _
  | .pwmPulseEnd _ | .pwmDeadTimeEnd _ | .bootComplete | .podLinkTrained _ | .ringLinkUp _ | .adopt | .podAdoption _
  | .sleepEntered | .faultFrame _ _
  | .faultToken _ _ _ | .faultTokenRepeat _ | .faultViewRelease _ | .faultPulseEnd _ | .commitApply _ => true
  | _ => false

/-- The commands that may change a pod. -/
def touchesPods (i : Instr) : Bool := isAccess i || losesCore i || match i with
  | .controlTick | .commandFrameReceived _ _ | .podTickBoundary _ _ | .orphan _ | .uvloAssert _ _ _ _ _ | .uvloClear _ _ _ _ _
  | .stackTurnOn _ _ _ _ | .turnOnAfterClamp _ _ _ _ | .gateLevelReached _ _ _ _ | .strongHoldEnd _ _ _ | .strongClampEnd _ _ _
  | .boostTimeLimit _ _ _ | .slewLimitExpired _ _ _ | .forcedClamp _ _ _ | .clampGateFault _ _ _ | .barrierSignalLoss _ _
  | .hvPowerUp _ _ _ _ _ | .hvPowerDown _ _ | .seatPairSeated _ _ | .seatingAbort _ _ _ _ | .seatDebounceComplete _ _
  | .seatLoss _ _ _ _ _ | .channelStart _ _ | .powerGoodAssert _ | .startEnergyExceeded _ _ _ _ | .prechargeStart _ | .sc2Trip _ _
  | .sc1Trip _ _ _ _ | .reverseTrip _ _ _ | .desatTrip _ _ _ _ | .desatBlankingEnd _ _ _ | .busOvTrip _ _ _ | .busUvTrip _ _ _
  | .currentLimitEntry _ _ _ _ | .currentLimitExit _ _ | .faultTimerPeriodEnd _ _ _ _ | .thermalEvaluation _ | .dieOverTemperature _ _
  | .outputPresent _ _ _ _ | .stackTest _ _ | .suspectConfirmation _ _ | .confirmationEvaluation _ _ | .tieTest _ _ _ _
  | .onlineSelftestRound _ _ | .memberTestEnd _ _ _ _ | .retryDue _ | .retryReleased _ | .selftestToggleDone _ _ _
  | .oringReverseBlock _ _ _ | .oringReverseTrip _ _ | .oringReentry _ _ | .pairedWindowStart _ _ _ | .pairedWindowEnd _ _
  | .intDwellComplete _ | .urgentConversionDone _ _ _ | .calComplete _ _ _ _ _ | .recalComplete _ _ _ | .recalCoverEnd _
  | .parkedBurst _ _ | .averageComplete _ _ | .meteringTransfer _ | .minmaxWindowEnd | .snapshotTick | .meteringClearApply _
  | .checkpoint | .speedHoldEnd _ _ | .bootComplete | .adopt | .podAdoption _ | .podWakeSignal _
  | .podPowerUp _ _ _ _ _ _ | .podSupplyLoss _ _
  | .podSupplyCurrentLimit _ | .podSupplyRetry _ _ | .podLinkTrained _ | .ringLinkUp _ | .holdWindowEnd _ | .syncTime _ _ _
  | .commitApply _ => true
  | _ => false

end Sys2Proof.Machine
end

