-- ==== Sys2Proof/Certificates/Slice0/Obligations.lean ====
section
/-! DEFINITION. The statements about the block. -/

open Sys2Proof Sys2Proof.Machine

/-! ## Gate drive (chapter 3) -/

/-- A supply event at the HV side of a pod: the UVLO bits of `CH_GSTAT`, the loss of the barrier, power up and power down. -/
def Obligations.GateSupplyEvents : Prop :=
  (∀ (c : Chan) (vneg : Bool) (mv : Int) (since t : Nat) (s : State), (s.pod c).st.hvOn = true →
    (if vneg then -1500 < mv else mv < 14500) → since + 2000 ≤ max s.now t →
    ∃ u, exec (.uvloAssert c vneg mv since t) s = .next u ∧ (u.pod c).st.gstat.testBit (if vneg then 1 else 0) = true) ∧
  (∀ (c : Chan) (vneg : Bool) (mv : Int) (since t : Nat) (s : State), (s.pod c).st.hvOn = true →
    (if vneg then mv < -2000 else 15500 < mv) → since + 2000 ≤ max s.now t →
    ∃ u, exec (.uvloClear c vneg mv since t) s = .next u ∧ (u.pod c).st.gstat.testBit (if vneg then 1 else 0) = false) ∧
  (∀ (c : Chan) (t : Nat) (s : State), (s.pod c).st.hvOn = true →
    ∃ u, exec (.barrierSignalLoss c t) s = .next u ∧ (u.pod c).barrierLost = true) ∧
  (∀ (c : Chan) (vp vn : Int) (mid t : Nat) (s : State),
    (s.pod c).st.pod ≠ .unpowered → (s.pod c).st.hvOn = false → 10000 ≤ vp - vn →
    ∃ u, exec (.hvPowerUp c vp vn mid t) s = .next u ∧ (u.pod c).st.hvOn = true ∧ (u.pod c).vpos = vp ∧ (u.pod c).vneg = vn ∧
      (u.pod c).st.gIn.phase = .staticClamp ∧ (u.pod c).st.gOut.phase = .staticClamp) ∧
  (∀ (c : Chan) (t : Nat) (s : State), (s.pod c).st.hvOn = true →
    ∃ u, exec (.hvPowerDown c t) s = .next u ∧ (u.pod c).st.hvOn = false ∧
      (u.pod c).st.gIn.phase = .depletion ∧ (u.pod c).st.gOut.phase = .depletion)

/-- The events of a turn-on: its start, its start after the wait in static clamp, the end of strong HOLD, and the two time
limits that end it with a trip of GATE_UVLO or DESAT. -/
def Obligations.TurnOnEvents : Prop :=
  (∀ (c : Chan) (ic vc : List Raw) (t : Nat) (s : State), (s.pod c).st.hvOn = true → (s.pod c).waitOn = some .whole →
    (s.pod c).busyForStart = false →
    (s.pod c).canTurnOn .whole (max s.now t) = true →
    ∃ u, exec (.stackTurnOn c ic vc t) s = .next u ∧ (u.pod c).waitOn = none ∧ (u.pod c).tOnStart = max s.now t ∧
      (u.pod c).onSides = 3 ∧ (u.pod c).slewing = ((s.pod c).upTo ic vc (max s.now t)).slews) ∧
  (∀ (c : Chan) (a : OnAsk) (ic vc : List Raw) (t : Nat) (s : State), (s.pod c).st.hvOn = true → (s.pod c).waitOn = some a →
    (s.pod c).freeToTurnOn = true → (s.pod c).canTurnOn a (max s.now t) = true →
    ∃ u, exec (.turnOnAfterClamp c ic vc t) s = .next u ∧ (u.pod c).waitOn = none ∧ (u.pod c).tOnStart = max s.now t) ∧
  (∀ (c : Chan) (x : Side) (t : Nat) (s : State), ((s.pod c).gate x).strongDone .strongHold (max s.now t) = true →
    ∃ u, exec (.strongHoldEnd c x t) s = .next u ∧ ((u.pod c).gate x).phase = .staticHold ∧
      ((u.pod c).gate x).mv = (s.pod c).vpos) ∧
  (∀ (c : Chan) (x : Side) (t : Nat) (s : State),
    ((s.pod c).gate x).phase = .boost ∨ ((s.pod c).gate x).phase = .strongHold → ((s.pod c).gate x).expired (max s.now t) = true →
    (s.pod c).canTrip = true →
    ∃ u, exec (.boostTimeLimit c x t) s = .next u ∧ (u.pod c).st.gstat.testBit (faultBit x) = true ∧
      (u.pod c).st.trip = (s.pod c).st.trip.fresh .gateUvlo (max s.now t)) ∧
  (∀ (c : Chan) (x : Side) (t : Nat) (s : State),
    ((s.pod c).gate x).phase = .slewOn → ((s.pod c).gate x).expired (max s.now t) = true →
    (s.pod c).canTrip = true →
    ∃ u, exec (.slewLimitExpired c x t) s = .next u ∧ (u.pod c).st.gstat.testBit 7 = true ∧
      ((s.pod c).st.gIn.phase ≠ .slewOn → (u.pod c).st.trip = (s.pod c).st.trip.fresh (desatOf x) (max s.now t)))

/-- The events of a turn-off: levels of the detectors, the end of strong CLAMP, forced CLAMP, and a CLAMP that fails.
Choices of the model that it meets: log 22. -/
def Obligations.TurnOffEvents : Prop :=
  (∀ (c : Chan) (x : Side) (mv : Int) (t : Nat) (s : State), (s.pod c).st.hvOn = true → ((s.pod c).gate x).phase = .slewOn →
    ((s.pod c).gate x).endMv ≤ mv →
    ∃ u, exec (.gateLevelReached c x mv t) s = .next u ∧ ((u.pod c).gate x).phase = .strongHold ∧ ((u.pod c).gate x).mv = mv) ∧
  (∀ (c : Chan) (x : Side) (mv : Int) (t : Nat) (s : State), (s.pod c).st.hvOn = true → ((s.pod c).gate x).phase = .slewOff →
    mv ≤ ((s.pod c).gate x).endMv →
    ∃ u, exec (.gateLevelReached c x mv t) s = .next u ∧ ((u.pod c).gate x).phase = .strongClamp ∧
      ((u.pod c).gate x).limitAt = some (max s.now t + 5000)) ∧
  (∀ (c : Chan) (x : Side) (mv : Int) (t : Nat) (s : State), (s.pod c).st.hvOn = true → ((s.pod c).gate x).phase = .staticHold →
    mv < (s.pod c).fullOnMv →
    ∃ u, exec (.gateLevelReached c x mv t) s = .next u ∧ (u.pod c).st.pg = false) ∧
  (∀ (c : Chan) (x : Side) (t : Nat) (s : State), ((s.pod c).gate x).strongDone .strongClamp (max s.now t) = true →
    ∃ u, exec (.strongClampEnd c x t) s = .next u ∧ ((u.pod c).gate x).phase = .staticClamp ∧
      ((u.pod c).gate x).since = max s.now t ∧ ((u.pod c).gate x).mv = (s.pod c).vneg) ∧
  (∀ (c : Chan) (x : Side) (t : Nat) (s : State),
    ((s.pod c).gate x).phase = .dump ∨ ((s.pod c).gate x).phase = .slewOff → ((s.pod c).gate x).expired (max s.now t) = true →
    ∃ u, exec (.forcedClamp c x t) s = .next u ∧ (u.pod c).st.gstat.testBit 6 = true ∧ ((u.pod c).gate x).phase = .strongClamp) ∧
  (∀ (c : Chan) (x : Side) (t : Nat) (s : State),
    ((s.pod c).gate x).phase = .strongClamp → ((s.pod c).gate x).expired (max s.now t) = true →
    ∃ u, exec (.clampGateFault c x t) s = .next u ∧ (u.pod c).st.gstat.testBit (faultBit x) = true)

/-! ## Protection in the pod (chapter 6) -/

/-- A comparator whose filter is done trips a running channel: SC2 at once, SC1 and REVERSE from a member that is not
under test, REVERSE with `CH_REV_EN` and a side out of clamp, DESAT of an armed side in turn-on HOLD after 50 ns,
BUS_OV, BUS_UV in ON or LIMITING, and THERMAL from the die; the end of blanking arms DESAT.
Choices of the model that it meets: logs 64, 77. -/
def Obligations.FastTripsRecordTheirCause : Prop :=
  (∀ (c : Chan) (t : Nat) (s : State), (s.pod c).st.hvOn = true → (s.pod c).canTrip = true →
    (s.pod c).masked .sc2 (max s.now t) = false →
    ∃ u, exec (.sc2Trip c t) s = .next u ∧ newTrip (s.pod c) (u.pod c) .sc2 (max s.now t)) ∧
  (∀ (c : Chan) (b : Bool) (since t : Nat) (s : State), (s.pod c).st.hvOn = true → (s.pod c).canTrip = true →
    (s.pod c).masked (if b then .sc1b else .sc1a) since = false →
    since + (s.pod c).prmSince since OD.CH_TSC1 * 5 ≤ max s.now t →
    ∃ u, exec (.sc1Trip c b since t) s = .next u ∧ newTrip (s.pod c) (u.pod c) .sc1 (max s.now t)) ∧
  (∀ (c : Chan) (since t : Nat) (s : State), (s.pod c).st.hvOn = true → (s.pod c).canTrip = true →
    (s.pod c).prmB OD.CH_REV_EN = true → (s.pod c).anyOut = true → (s.pod c).orTarget = none →
    (s.pod c).masked .rev since = false →
    since + (s.pod c).prmSince since OD.CH_TREV * 5 ≤ max s.now t →
    ∃ u, exec (.reverseTrip c since t) s = .next u ∧ newTrip (s.pod c) (u.pod c) .reverse (max s.now t)) ∧
  (∀ (c : Chan) (x : Side) (since t : Nat) (s : State), (s.pod c).st.hvOn = true → (s.pod c).canTrip = true →
    (s.pod c).dsArmed.testBit (dsBit x) = true → ((s.pod c).gate x).phase.inHold = true → since + 50 ≤ max s.now t →
    ∃ u, exec (.desatTrip c x since t) s = .next u ∧ newTrip (s.pod c) (u.pod c) (desatOf x) (max s.now t)) ∧
  (∀ (c : Chan) (since t : Nat) (s : State), (s.pod c).st.hvOn = true → (s.pod c).canTrip = true →
    (s.pod c).holdOv = none ∨ (s.pod c).st.prot.cmpOut.testBit 10 = true →
    since + (s.pod c).prmSince since OD.CH_TBUSW * 1000 ≤ max s.now t →
    ∃ u, exec (.busOvTrip c since t) s = .next u ∧ newTrip (s.pod c) (u.pod c) .busOv (max s.now t)) ∧
  (∀ (c : Chan) (since t : Nat) (s : State), (s.pod c).st.hvOn = true → (s.pod c).canTrip = true →
    (s.pod c).st.ch ≠ .starting → (s.pod c).held.uvHold = false →
    (s.pod c).holdUv = none ∨ (s.pod c).st.prot.cmpOut.testBit 9 = true →
    since + (s.pod c).prmSince since OD.CH_TBUSW * 1000 ≤ max s.now t →
    ∃ u, exec (.busUvTrip c since t) s = .next u ∧ newTrip (s.pod c) (u.pod c) .busUv (max s.now t)) ∧
  (∀ (c : Chan) (t : Nat) (s : State), (s.pod c).st.hvOn = true → (s.pod c).canTrip = true →
    ∃ u, exec (.dieOverTemperature c t) s = .next u ∧ newTrip (s.pod c) (u.pod c) .thermal (max s.now t)) ∧
  (∀ (c : Chan) (x : Side) (t b : Nat) (s : State), ((s.pod c).gate x).phase.inHold = true → (s.pod c).blank x = some b →
    b ≤ max s.now t →
    ∃ u, exec (.desatBlankingEnd c x t) s = .next u ∧ (u.pod c).dsArmed.testBit (dsBit x) = true ∧ (u.pod c).blank x = none)

/-- Current limit: entry regulates the blocking side and starts the fault timer, or with a count of 0 trips at once; a qualified
exit waits for the count period, whose end adds the weight of the band, in LIMITING alone, and trips at the count. Choices of the
model that it meets: log 78. -/
def Obligations.CurrentLimitAndFaultTimer : Prop :=
  (∀ (c : Chan) (b neg : Bool) (t : Nat) (s : State), (s.pod c).st.hvOn = true →
    (s.pod c).masked (if b then .oclb else .ocla) (max s.now t) = false → (s.pod c).limited = none → (s.pod c).turnOff = none →
    (oclArms (s.pod c).st.gIn.phase || oclArms (s.pod c).st.gOut.phase) = true → (s.pod c).prm OD.CH_FT_COUNT ≠ 0 →
    ∃ u, exec (.currentLimitEntry c b neg t) s = .next u ∧
      (u.pod c).limited = some (if neg && (s.pod c).orTarget.isNone then .outS else .inS) ∧
      ((u.pod c).gate (if neg && (s.pod c).orTarget.isNone then .outS else .inS)).phase = .regulated ∧
      (u.pod c).periodAt = max s.now t / 1000 * 1000 + (s.pod c).ftPeriod ∧
      (u.pod c).st.counts.limits = (s.pod c).st.counts.limits + 1) ∧
  (∀ (c : Chan) (b neg : Bool) (t : Nat) (s : State), (s.pod c).st.hvOn = true → (s.pod c).canTrip = true →
    (s.pod c).masked (if b then .oclb else .ocla) (max s.now t) = false → (s.pod c).limited = none → (s.pod c).turnOff = none →
    (oclArms (s.pod c).st.gIn.phase || oclArms (s.pod c).st.gOut.phase) = true → (s.pod c).prm OD.CH_FT_COUNT = 0 →
    ∃ u, exec (.currentLimitEntry c b neg t) s = .next u ∧ newTrip (s.pod c) (u.pod c) .limitTimeout (max s.now t)) ∧
  (∀ (c : Chan) (t f : Nat) (s : State), (s.pod c).limited.isSome = true → (s.pod c).limitExit = some f →
    f + (s.pod c).prmSince f OD.CH_TLIM_EXIT * 1000 ≤ max s.now t →
    ∃ u, exec (.currentLimitExit c t) s = .next u ∧ (u.pod c).limitEnds = true) ∧
  (∀ (c : Chan) (x : Side) (ic vc : List Raw) (t w : Nat) (s : State), (s.pod c).limited = some x →
    (s.pod c).periodAt ≤ max s.now t → (s.pod c).st.ch.running = true → (s.pod c).limitEnds = false →
    w = (((s.pod c).upTo ic vc (max s.now t)).band x (s.pod c).periodFrom (max s.now t)).2 →
    (s.pod c).st.prot.ftAcc + w < (s.pod c).prmSince (s.pod c).periodFrom OD.CH_FT_COUNT →
    ∃ u, exec (.faultTimerPeriodEnd c ic vc t) s = .next u ∧ (u.pod c).st.prot.ftAcc = (s.pod c).st.prot.ftAcc + w ∧
      (u.pod c).periodAt = (s.pod c).periodAt + (s.pod c).ftPeriod) ∧
  (∀ (c : Chan) (x : Side) (ic vc : List Raw) (t : Nat) (s : State), (s.pod c).limited = some x →
    (s.pod c).periodAt ≤ max s.now t → (s.pod c).st.ch.running = false → (s.pod c).limitEnds = false →
    ∃ u, exec (.faultTimerPeriodEnd c ic vc t) s = .next u ∧ (u.pod c).st.prot.ftAcc = (s.pod c).st.prot.ftAcc ∧
      (u.pod c).periodAt = (s.pod c).periodAt + (s.pod c).ftPeriod) ∧
  (∀ (c : Chan) (x : Side) (ic vc : List Raw) (t w : Nat) (s : State), (s.pod c).limited = some x →
    (s.pod c).periodAt ≤ max s.now t → (s.pod c).canTrip = true →
    w = (((s.pod c).upTo ic vc (max s.now t)).band x (s.pod c).periodFrom (max s.now t)).2 →
    (s.pod c).prmSince (s.pod c).periodFrom OD.CH_FT_COUNT ≤ (s.pod c).st.prot.ftAcc + w →
    ∃ u, exec (.faultTimerPeriodEnd c ic vc t) s = .next u ∧ newTrip (s.pod c) (u.pod c) .limitTimeout (max s.now t))

/-- The thermal evaluation takes the mean of its conversions; output present is a foreign output, or with a live input a damaged
output switch. Choices of the model that it meets: logs 6, 79. -/
def Obligations.ThermalAndOutputPresent : Prop :=
  (∀ (c : Chan) (s : State), (s.pod c).st.hvOn = true → 0 < (s.pod c).adc.ntcN → s.now % 1000 = 0 →
    (s.pod c).tests.thermAt + 1000000 ≤ s.now →
    ∃ u, exec (.thermalEvaluation c) s = .next u ∧ (u.pod c).tests.thermAt = s.now ∧
      (u.pod c).st.meas.tempStack = ntcTemp (s.pod c).adc.ntcSum (s.pod c).adc.ntcN ((s.pod c).prm OD.CH_NTC_R25)
        ((s.pod c).prm OD.CH_NTC_BETA) ∧
      (u.pod c).adc.ntcN = 0) ∧
  (∀ (c : Chan) (ic vc : List Raw) (t f : Nat) (s : State), (s.pod c).st.prot.outpArmed = true → (s.pod c).tests.outpDone = false →
    (s.pod c).tests.outpFrom = some f → f + 1000000 ≤ max s.now t →
    ((s.pod c).upTo ic vc (max s.now t)).st.meas.vin < ((s.pod c).prm OD.CH_VOUTP : Int) * 100000 →
    ∃ u, exec (.outputPresent c ic vc t) s = .next u ∧ (u.pod c).st.prot.detail.testBit 4 = true ∧
      (u.pod c).st.counts.foreign = (s.pod c).st.counts.foreign + 1) ∧
  (∀ (c : Chan) (ic vc : List Raw) (t f : Nat) (s : State), (s.pod c).st.prot.outpArmed = true → (s.pod c).tests.outpDone = false →
    (s.pod c).tests.outpFrom = some f → f + 1000000 ≤ max s.now t →
    ((s.pod c).prm OD.CH_VOUTP : Int) * 100000 ≤ ((s.pod c).upTo ic vc (max s.now t)).st.meas.vin → (s.pod c).coll.isOpen = false →
    (s.pod c).st.ch = .off → (s.pod c).absentDue = false →
    ∃ u, exec (.outputPresent c ic vc t) s = .next u ∧ (u.pod c).st.prot.detail.testBit 0 = true ∧
      newTrip (s.pod c) (u.pod c) .damagedOut (max s.now t))

/-- Tests of a pod: the stack test with its tie tests, the confirmation of a suspect, online rounds and their members. Choices
of the model that it meets: log 80. -/
def Obligations.PodSelfTests : Prop :=
  (∀ (c : Chan) (t : Nat) (s : State), (s.pod c).stackDue (max s.now t) = true →
    ∃ u, exec (.stackTest c t) s = .next u ∧ (u.pod c).tests.stackRun = true ∧
      (∃ r ∈ (u.pod c).adc.runs, Urgent.stackTest ∈ r.causes) ∧
      (u.pod c).tests.stackAt = some (max s.now t + (s.pod c).prm OD.CH_STEST_PER * 1000000)) ∧
  (∀ (c : Chan) (k : PodCmp) (t : Nat) (s : State), (s.pod c).st.prot.tieRun = true → (s.pod c).tests.tieLeft.head? = some k →
    (s.pod c).bothClamped = true → (s.pod c).tests.tieFrom + (s.pod c).tieLimit k ≤ max s.now t →
    ∃ u, exec (.tieTest c k true t) s = .next u ∧ (u.pod c).tests.tieLeft = (s.pod c).tests.tieLeft.erase k) ∧
  (∀ (c : Chan) (k : PodCmp) (t : Nat) (s : State), (s.pod c).st.prot.tieRun = true → (s.pod c).tests.tieLeft.head? = some k →
    (s.pod c).bothClamped = true → (s.pod c).tests.tieFrom + 2 * (s.pod c).tieLimit k ≤ max s.now t →
    ∃ u, exec (.tieTest c k false t) s = .next u ∧ (u.pod c).st.prot.selftestFail.testBit k.bit = true) ∧
  (∀ (c : Chan) (x : Side) (t : Nat) (s : State), (s.port c).linked = true → (s.pod c).st.prot.confirmDue = true →
    (s.pod c).st.prot.tieRun = false → (s.pod c).st.pod = .active → (s.pod c).st.hvOn = true →
    (s.pod c).st.gIn.phase = .staticClamp → (s.pod c).st.gOut.phase = .staticClamp →
    (s.pod c).st.prot.suspect = some x →
    ∃ u, exec (.suspectConfirmation c t) s = .next u ∧ (u.pod c).tests.confirmSide = some x.other ∧
      (u.pod c).st.prot.confirmDue = false ∧
      (if (s.pod c).canTurnOn (.side x.other) (max s.now t) then (u.pod c).tOnStart = max s.now t
       else (u.pod c).waitOn = some (.side x.other))) ∧
  (∀ (c : Chan) (o : Side) (vdi vdo : Int) (b : Bool) (t : Nat) (s : State), (s.pod c).tests.confirmSide = some o →
    (s.pod c).tests.confirmCodes = some (vdi, vdo) → (s.pod c).nodeCheck vdi vdo = some (o.other, b) →
    ((s.pod c).prm OD.CH_DMG_EN).testBit 1 = true → ((s.pod c).gate o.other).phase = .staticClamp →
    ∃ u, exec (.confirmationEvaluation c t) s = .next u ∧ (u.pod c).tests.confirmSide = none ∧
      (u.pod c).st.prot.suspect = none ∧ (b = true → (u.pod c).st.prot.detail.testBit (shortBit o.other) = true)) ∧
  (∀ (c : Chan) (t : Nat) (s : State), (s.pod c).st.hvOn = true → (s.pod c).st.ch = .starting ∨ (s.pod c).st.ch = .on →
    (s.pod c).tests.member = none →
    (s.pod c).tests.onlineAt ≤ max s.now t →
    ∃ u, exec (.onlineSelftestRound c t) s = .next u ∧ (u.pod c).tests.member = PodCmp.members.head? ∧
      (u.pod c).tests.onlineLeft = PodCmp.members.tail ∧
      (u.pod c).tests.onlineAt = max s.now t + (s.pod c).prm OD.CH_STEST_ONL * 1000000) ∧
  (∀ (c : Chan) (k : PodCmp) (t : Nat) (s : State), (s.pod c).tests.member = some k → (s.pod c).tests.memberAt + 4000 ≤ max s.now t →
    (s.pod c).st.ch ≠ .limiting →
    ∃ u, exec (.memberTestEnd c k .pass t) s = .next u ∧ (u.pod c).tests.member = (s.pod c).tests.onlineLeft.head? ∧
      (u.pod c).tests.onlineLeft = (s.pod c).tests.onlineLeft.tail) ∧
  (∀ (c : Chan) (k : PodCmp) (t : Nat) (s : State), (s.pod c).tests.member = some k → (s.pod c).tests.memberAt + 4000 ≤ max s.now t →
    (s.pod c).canTrip = true → (s.pod c).tests.partnerActed = false →
    ∃ u, exec (.memberTestEnd c k .fail t) s = .next u ∧ (u.pod c).st.prot.selftestFail.testBit k.bit = true ∧
      newTrip (s.pod c) (u.pod c) .selftestFail (max s.now t))

/-! ## ORing, the pod's tick, HOLD and SAFE -/

/-- ORing of a feed: reverse current blocks it, a reverse crossing that stays trips it, a qualified re-entry conducts again.
Choices of the model that it meets: logs 5, 81, 94. -/
def Obligations.OringOfAFeed : Prop :=
  (∀ (c : Chan) (since t : Nat) (s : State), (s.pod c).st.hvOn = true → (s.pod c).orTarget.isSome = true →
    (s.pod c).turnOff = none →
    (s.pod c).st.oring = .conducting ∨ ((s.pod c).st.ch.running = true ∧ GPhase.conducts (s.pod c).st.gOut.phase = true) →
    since + (s.pod c).prmSince since OD.CH_TREV * 5 ≤ max s.now t →
    ∃ u, exec (.oringReverseBlock c since t) s = .next u ∧ (u.pod c).st.oring = .blocking ∧ (u.pod c).st.gOut.phase = .strongClamp ∧
      (u.pod c).st.gIn = (s.pod c).st.gIn ∧ (u.pod c).st.counts.orBlocks = (s.pod c).st.counts.orBlocks + 1) ∧
  (∀ (c : Chan) (t : Nat) (s : State), (s.pod c).st.oring = .blocking → (s.pod c).clampedFor .outS (max s.now t) 1000 = true →
    (s.pod c).st.prot.cmpOut.testBit 5 = true → (s.pod c).tests.revStill = true → (s.pod c).canTrip = true →
    ∃ u, exec (.oringReverseTrip c t) s = .next u ∧ newTrip (s.pod c) (u.pod c) .reverse (max s.now t)) ∧
  (∀ (c : Chan) (t f : Nat) (s : State), (s.pod c).st.oring = .blocking → (s.pod c).st.gOut.phase = .staticClamp →
    (s.pod c).tests.vonFrom = some f → f + (s.pod c).held.orTon * 1000 ≤ max s.now t →
    (s.pod c).st.gOut.mv < (s.pod c).prmI OD.CH_GPRE_ON → (s.pod c).tickAt = max s.now t →
    ∃ u, exec (.oringReentry c t) s = .next u ∧ (u.pod c).st.oring = .conducting ∧ (u.pod c).st.gOut.phase = .boost ∧
      (u.pod c).st.gOut.endMv = (s.pod c).prmI OD.CH_GPRE_ON)

/-- An orphan enters HOLD, with `CH_THOLD` 0 SAFE at once; the end of the hold window is SAFE; a boundary composes the status
frame of the pod and ends its tick. -/
def Obligations.TickHoldAndSafe : Prop :=
  (∀ (c : Chan) (smp : TickSamples) (s : State), (s.pod c).st.pod ≠ .unpowered → (s.pod c).st.pod ≠ .linking →
    (s.pod c).tickAt < ceilTick s.now →
    ∃ u, exec (.podTickBoundary c smp) s = .next u ∧ (u.pod c).st = { (u.pod c).up with ignored := false } ∧ (u.pod c).gotFrame = false ∧
      u.now = max s.now (ceilTick s.now)) ∧
  (∀ (c : Chan) (s : State), (s.pod c).st.pod = .active → 20 ≤ (s.pod c).misses → (s.pod c).prm OD.CH_THOLD ≠ 0 →
    ∃ u, exec (.orphan c) s = .next u ∧ (u.pod c).st.pod = .hold ∧ (u.pod c).st.ch = (s.pod c).st.ch ∧
      (u.pod c).st.holdFrom = some s.now) ∧
  (∀ (c : Chan) (s : State), (s.pod c).st.pod = .active → 20 ≤ (s.pod c).misses → (s.pod c).prm OD.CH_THOLD = 0 →
    ∃ u, exec (.orphan c) s = .next u ∧ (u.pod c).st.pod = .safe) ∧
  (∀ (c : Chan) (f : Nat) (s : State), (s.pod c).st.pod = .hold → (s.pod c).st.holdFrom = some f →
    f + (s.pod c).prm OD.CH_THOLD * 1000000 ≤ s.now → (s.pod c).canTrip = true →
    ∃ u, exec (.holdWindowEnd c) s = .next u ∧ (u.pod c).st.pod = .safe ∧ newTrip (s.pod c) (u.pod c) .linkLossSafe s.now)

/-! ## Seats, supply and link of a pod, frames (chapters 1, 4, 15) -/

/-- Seats: SEATING, its abort, the state that a seated channel takes, the loss of the seat, removal, the reseat guard. Choices
of the model that it meets: log 66. -/
def Obligations.SeatingAndRemoval : Prop :=
  (∀ (c : Chan) (t : Nat) (s : State), (s.pod c).samplesSeat = true → (s.pod c).st.ch = .absent →
    ∃ u, exec (.seatPairSeated c t) s = .next u ∧ (u.pod c).st.ch = .seating ∧ (u.pod c).st.seat.debounced = false ∧
      (u.pod c).seatFrom = some (max s.now t)) ∧
  (∀ (c : Chan) (s1 s2 : Bool) (t : Nat) (s : State), (s.pod c).st.ch = .seating → (s1 && s2) = false →
    ∃ u, exec (.seatingAbort c s1 s2 t) s = .next u ∧ (u.pod c).st.ch = .absent ∧ (u.pod c).seatFrom = none) ∧
  (∀ (c : Chan) (t f : Nat) (s : State), (s.pod c).seatFrom = some f → (s.pod c).st.ch = .seating →
    f + (s.pod c).prmSince f OD.CH_TSEAT * 100000 ≤ max s.now t → (s.port c).linked = true → s.hubUp = true →
    (s.pod c).st.own.link = some true → (s.pod c).st.pod.holds = false →
    ∃ u, exec (.seatDebounceComplete c t) s = .next u ∧ (u.pod c).st.ch = reinsertState s c ∧
      (u.pod c).st.seat.debounced = true) ∧
  (∀ (c : Chan) (t f : Nat) (s : State), (s.pod c).seatFrom = some f → (s.pod c).st.ch = .seating →
    f + (s.pod c).prmSince f OD.CH_TSEAT * 100000 ≤ max s.now t → (s.port c).linked = false →
    ∃ u, exec (.seatDebounceComplete c t) s = .next u ∧ (u.pod c).st.seat.debounced = true ∧
      (u.pod c).st.ch = (if (s.pod c).st.kept.faulted then (s.pod c).st.kept else .off)) ∧
  (∀ (c : Chan) (s1 s2 : Bool) (tf t : Nat) (s : State), (s.pod c).samplesSeat = true → (s.pod c).st.ch ≠ .absent →
    (s.pod c).st.ch ≠ .seating → (s.pod c).absentDue = false → (s1 && s2) = false →
    tf + (s.pod c).prmSince tf OD.CH_TSEATLOSS * 1000 ≤ max s.now t →
    ∃ u, exec (.seatLoss c s1 s2 tf t) s = .next u ∧ (u.pod c).absentDue = true ∧ (u.pod c).st.ch = (s.pod c).st.ch ∧
      (u.pod c).st.seat.debounced = false ∧ (u.pod c).st.seat.s1 = s1 ∧ (u.pod c).st.seat.s2 = s2 ∧
      (u.pod c).st.seat.tUnseat = some tf ∧ (u.pod c).st.pg = false ∧ (u.pod c).st.prot.ftAcc = 0 ∧ (u.pod c).limited = none ∧
      ((s.pod c).bothClamped = false → (s.pod c).turnOff = none → (u.pod c).turnOff = some .normal)) ∧
  (∀ (c : Chan) (f : Nat) (s : State), (s.port c).seat.lossFrom = some f → f + (s.port c).seat.lossFor ≤ s.now →
    ∃ u, exec (.removalConfirmed c) s = .next u ∧ (u.port c).noPod = true ∧ (u.port c).seat.lossFrom = none ∧
      (u.port c).seat.confirmed = true ∧ (u.port c).seat.guardUntil = some (s.now + s.act OD.CH_TRESEAT c.val * msNs) ∧
      ((s.port c).trip.state = .latched → (u.port c).trip.state = .off ∧ (u.port c).cleared = true) ∧
      (s.act OD.CH_TRESEAT c.val = 0 → (u.port c).trip.retryN = 0)) ∧
  (∀ (c : Chan) (g : Nat) (s : State), (s.port c).seat.guardUntil = some g → g ≤ s.now →
    ∃ u, exec (.reseatGuardExpiry c) s = .next u ∧ (u.port c).seat.guardUntil = none ∧
      (u.port c).seat.confirmed = (s.port c).seat.confirmed ∧
      ((s.port c).seat.away = true → (s.port c).trip.state = .tripped →
        (u.port c).trip.state = .off ∧ (u.port c).trip.retryN = 0 ∧ (u.port c).trip.retryDue = none))

/-- Supply and link of a pod: LINKING after power up, UNPOWERED and a lost barrier after the loss, the link up and down. -/
def Obligations.PodSupplyAndLink : Prop :=
  (∀ (c : Chan) (kind : PodKind) (rev uid : Nat) (a b : Bool) (s : State), (s.pod c).st.pod = .unpowered →
    (a && supplyOn s c || b) = true → kind ≠ .none →
    ∃ u, exec (.podPowerUp c kind rev uid a b) s = .next u ∧ (u.pod c).st.pod = .linking ∧ (u.pod c).st.ch = .absent ∧
      (u.pod c).kind = kind ∧ (u.pod c).uid = uid ∧ (u.pod c).st.hvOn = (s.pod c).st.hvOn) ∧
  (∀ (c : Chan) (t : Nat) (s : State), (s.pod c).st.pod ≠ .unpowered →
    ∃ u, exec (.podSupplyLoss c t) s = .next u ∧ (u.pod c).st.pod = .unpowered ∧ (u.pod c).st.ch = .absent ∧
      (u.pod c).barrierLost = true ∧ (u.port c).linked = false) ∧
  (∀ (c : Chan) (s : State), (s.pod c).st.pod ≠ .unpowered → (s.port c).linked = false → s.hubUp = true →
    ∃ u, exec (.podLinkTrained c) s = .next u ∧ (u.port c).linked = true ∧ (u.port c).noPod = false) ∧
  (∀ (c : Chan) (s : State), (s.port c).linked = true →
    ∃ u, exec (.podLinkDown c) s = .next u ∧ (u.port c).linked = false ∧ u.pod c = s.pod c)

/-- Frames of a pod link, and claims: a frame with a failed CRC is counted or dropped, a valid frame of the owner waits for the
next boundary, an OWN that the pod does not accept is a conflict, a valid status is what the port then holds; a reclaimed or
ownerless port. Choices of the model that it meets: logs 18, 71, 102. -/
def Obligations.PodFramesAndClaims : Prop :=
  (∀ (c : Chan) (rx : RxFrame) (s : State), rx.crcOk = false → exec (.commandFrameReceived c rx) s = .next s) ∧
  (∀ (c : Chan) (rx : RxFrame) (s : State), rx.crcOk = true → rx.own = true → (s.port c).linked = true → s.hubUp = true →
    (s.pod c).st.pod ≠ .unpowered → (s.pod c).st.own.link = some true → (s.port c).down.claim = .own →
    ∃ u, exec (.commandFrameReceived c rx) s = .next u ∧ (u.pod c).gotFrame = true ∧
      (u.pod c).cmds = (s.pod c).cmds ++ [(s.port c).down] ∧
      u.pod c = ((s.pod c).owned true (s.port c).down.epoch s.now).queue (s.port c).down ∧
      (u.port c).down = frameLevel (s.port c).down) ∧
  (∀ (c : Chan) (rx : RxFrame) (s : State), rx.crcOk = true → rx.own = false → (s.pod c).st.pod ≠ .unpowered →
    (s.pod c).st.own.link = some true → rx.frame.claim = .own → (s.pod c).acceptsOwn rx.frame.epoch = false →
    ∃ u, exec (.commandFrameReceived c rx) s = .next u ∧ (u.pod c).st.own.conflict = true ∧
      (u.pod c).st.own.link = some true ∧ (u.pod c).held = (s.pod c).held) ∧
  (∀ (c : Chan) (s : State), (s.port c).linked = true → s.hubUp = true →
    ∃ u, exec (.statusFrameReceived c false) s = .next u ∧ (u.port c).linkErrors = (s.port c).linkErrors + 1 ∧
      (u.port c).seen = (s.port c).seen) ∧
  (∀ (c : Chan) (s : State), (s.port c).linked = true → s.hubUp = true →
    ∃ u, exec (.statusFrameReceived c true) s = .next u ∧ (u.port c).seen = (s.pod c).up.keep (s.port c).seen) ∧
  (∀ (c : Chan) (f : Nat) (s : State), (s.port c).releasing = some f → f + 100000 ≤ s.now →
    ∃ u, exec .moveReclaim s = .next u ∧ (u.port c).own = true ∧ (u.port c).releasing = none ∧
      (u.port c).epoch = ((s.port c).epoch + 1) % 256) ∧
  (∀ (c : Chan) (f : Nat) (s : State), (s.port c).ownerless = some f → f + 100 * msNs ≤ s.now → partnered s c = true →
    (s.port c).own = false → (s.port c).linked = true →
    ∃ u, exec (.ownerlessClaim c) s = .next u ∧ (u.port c).own = true ∧
      (u.port c).epoch = ((s.port c).seen.own.epoch + 1) % 256)

/-! ## Start, retry, latches (chapters 4 and 7) -/

/-- A start whose conditions hold is applied by the pod, or refused with the bits that fail there; start energy above its limit
is a DESAT of the slewing side; a qualified power-good is ON. Choices of the model that it meets: logs 23, 46, 82. -/
def Obligations.StartOfAChannel : Prop :=
  (∀ (c : Chan) (t : Nat) (s : State), startReady s c = true → reaches s c = true → (s.pod c).acked = true →
    max s.now t % 1000 = 0 → startsByIn s c = false → (s.pod c).startBits = 0 →
    ∃ u, exec (.channelStart c t) s = .next u ∧ (u.pod c).st.ch = .starting ∧ (u.pod c).waitOn = some .whole ∧
      (u.pod c).st.startAt = some (max s.now t)) ∧
  (∀ (c : Chan) (t : Nat) (s : State), startReady s c = true → reaches s c = true → (s.pod c).acked = true →
    max s.now t % 1000 = 0 → (s.pod c).startBits ≠ 0 →
    ∃ u, exec (.channelStart c t) s = .next u ∧ (u.pod c).st.ch = (s.pod c).st.ch ∧
      (u.pod c).st.refused = (s.pod c).startBits) ∧
  (∀ (c : Chan) (ic vc : List Raw) (t : Nat) (s : State), (s.pod c).st.ch = .starting →
    (s.pod c).prm OD.CH_ESLEW_MAX * 10 ^ 18 < ((s.pod c).upTo ic vc (max s.now t)).energy → (s.pod c).canTrip = true →
    ∃ u, exec (.startEnergyExceeded c ic vc t) s = .next u ∧ (u.pod c).st.startEnergy = true ∧
      newTrip (s.pod c) (u.pod c) (if (s.pod c).slewing.1 then .desatIn else .desatOut) (max s.now t)) ∧
  (∀ (c : Chan) (s : State), (s.pod c).tickAt = s.now → (s.pod c).st.counting = true → (s.pod c).st.pg = false →
    (s.pod c).pgHolds = true → (s.pod c).prm OD.CH_TPG ≤ (s.pod c).pgCount →
    ∃ u, exec (.powerGoodAssert c) s = .next u ∧ (u.pod c).st.pg = true ∧ (u.pod c).st.ch = .on)

/-- Retries, the retry count, the cool-down, and the tests of a SELFTEST_FAIL toggle. Choices of the model that it meets: logs
88, 89, 105. -/
def Obligations.RetriesAndToggles : Prop :=
  (∀ (c : Chan) (s : State), retryIsDue s c = true → retryReady s c = true → reaches s c = true → (s.pod c).st.ch = .tripped →
    (s.seen c).trip.n = (s.pod c).st.trip.n →
    ∃ u, exec (.retryDue c) s = .next u ∧ (u.pod c).st.ch = .off ∧ (u.pod c).acked = true ∧ (u.port c).trip.retryDue = none ∧
      (u.port c).trip.retryN = (if (s.port c).enable then min 255 ((s.port c).trip.retryN + 1) else (s.port c).trip.retryN)) ∧
  (∀ (c : Chan) (s : State), retryIsDue s c = true → retryReady s c = true → reaches s c = true → (s.pod c).st.ch = .tripped →
    (s.seen c).trip.n = (s.pod c).st.trip.n →
    ∃ u, exec (.retryReleased c) s = .next u ∧ (u.pod c).st.ch = .off ∧ (u.pod c).acked = true ∧
      (u.port c).trip.retryDue = none) ∧
  (∀ (c : Chan) (f : Nat) (s : State), (s.port c).cleanFrom = some f → f + s.act OD.CH_RETRY_RESET c.val * msNs ≤ s.now →
    ∃ u, exec (.retryCountReset c) s = .next u ∧ (u.port c).trip.retryN = 0) ∧
  (∀ (c : Chan) (s : State), coolEnd s c ≤ s.now → (s.port c).enable = false →
    ∃ u, exec (.coolDownEnd c) s = .next u ∧ (u.port c).cleared = false) ∧
  (∀ (c : Chan) (t : Nat) (s : State), (s.port c).toggling = true → (s.pod c).tests.toggle = true → reaches s c = true →
    max s.now t % 1000 = 0 → (s.pod c).st.ch = .latched → (s.seen c).trip.n = (s.pod c).st.trip.n →
    ∃ u, exec (.selftestToggleDone c 0 t) s = .next u ∧ (u.pod c).st.ch = .off ∧ (u.port c).trip.retryN = 0 ∧
      (u.port c).toggling = false) ∧
  (∀ (c : Chan) (m t : Nat) (s : State), (s.port c).toggling = true → (s.pod c).tests.toggle = true → reaches s c = true →
    max s.now t % 1000 = 0 → m % 2048 ≠ 0 →
    ∃ u, exec (.selftestToggleDone c m t) s = .next u ∧ (u.pod c).st.ch = (s.pod c).st.ch ∧
      (u.pod c).st.trip = (s.pod c).st.trip.fresh .selftestFail (max s.now t) ∧
      (u.pod c).st.prot.selftestFail = (s.pod c).st.prot.selftestFail ||| (m % 2048) ∧
      (u.port c).toggling = false)

/-! ## Bus faults and fault lines -/

/-- A classified bus fault latches; FLTO, FLTI, and the tokens and views of the ring's fault lines. Choices of the model that it
meets: logs 69, 97. -/
def Obligations.BusFaultAndLines : Prop :=
  (∀ (b : BusId) (c : Chan) (s : State), s.actB OD.BUS_BF_EN b.val = true → (s.bus b).bf = false → bfFirst s b = some c →
    ∃ u, exec (.busFaultClassify b) s = .next u ∧ (u.bus b).bf = true ∧ u.stat OD.BUS_BF_TIME b.val = (s.port c).trip.time ∧
      u.stat OD.BUS_BF_COUNT b.val = (s.stat OD.BUS_BF_COUNT b.val + 1) % 2 ^ 32) ∧
  (∀ (x : AB) (s : State), s.hubUp = true → fltoCond s x = false → fltoHold s x = false →
    (s.out_ x).since + s.act OD.HUB_FLTO_MINW x.val * usNs ≤ s.now →
    ∃ u, exec (.fltoMinWidthEnd x) s = .next u ∧ (u.out_ x).asserted = false) ∧
  (∀ (x : AB) (since t : Nat) (s : State), s.hubUp = true → s.flti.testBit x.val = false →
    since + s.act OD.HUB_FLTI_FILT x.val * 5 ≤ max s.now t →
    ∃ u, exec (.fltiAssert x since t) s = .next u ∧ u.flti.testBit x.val = true ∧
      ∀ c : Chan, (s.act OD.HUB_FLTI_CH x.val).testBit c.val = true → raisedIn .external (hubCh s c) = true →
        (u.port c).down.trips = addCause (s.port c).down.trips .external) ∧
  (∀ (x : AB) (s : State), ∃ u, exec (.fltiRelease x) s = .next u ∧ u.flti.testBit x.val = false) ∧
  (∀ (k : KPort) (b : Byte) (l : Quad) (t : Nat) (s : State), hearsPort s k = true → tokenLink b = false → tokenLine b = l →
    ∃ u, exec (.faultToken k b t) s = .next u ∧ (u.line l).view = true ∧ (u.line l).lastToken = max s.now t ∧
      ((s.line l).lastSent.all (fun w => decide (w + 4000 ≤ max s.now t)) = true →
        u.out = .token (tokenByte false l.val (min 31 (tokenHops b + 1))) (upPorts s - (upPorts s &&& 2 ^ k.val)) :: s.out) ∧
      ((s.line l).lastSent.any (fun w => decide (max s.now t < w + 4000)) = true → u.out = s.out)) ∧
  (∀ (l : Quad) (t : Nat) (s : State), (s.line l).asserting = true → (s.line l).ownAt = some t → t + 5000 ≤ s.now →
    ∃ u, exec (.faultTokenRepeat l) s = .next u ∧ u.out = .token (tokenByte false l.val 0) (upPorts s) :: s.out ∧
      (u.line l).ownAt = some s.now) ∧
  (∀ (l : Quad) (p : Nat) (s : State), (s.line l).pulseUntil = some p → p ≤ s.now →
    ∃ u, exec (.faultPulseEnd l) s = .next u ∧ (u.line l).asserting = false ∧ (u.line l).pulseUntil = none) ∧
  (∀ (l : Quad) (s : State), (s.line l).view = true → (s.line l).lastToken + 12000 ≤ s.now →
    ∃ u, exec (.faultViewRelease l) s = .next u ∧ (u.line l).view = false)

/-! ## Precharge, discharge, redundant feeds (chapters 5 and 8) -/

/-- The precharge sequence: start, self-test, pause and resume, hand-over, and its four limits. Choices of the model that it
meets: logs 15, 33, 83. -/
def Obligations.PrechargeSequence : Prop :=
  (∀ (p : Quad) (c : Chan) (s : State), feedOfPre s.active p = some c → preCanStart s p = true → reaches s c = true →
    (s.pod c).acked = true → s.now % 1000 = 0 →
    ∃ u, exec (.prechargeStart p) s = .next u ∧ (u.conv p).state = .selftest ∧ (u.conv p).selfAt = s.now ∧
      (u.pod c).st.ch = .starting ∧ (u.pod c).waitOn = (s.pod c).waitOn) ∧
  (∀ (p : Quad) (s : State), (s.conv p).state = .selftest → preDue s p = [] →
    ∃ u, exec (.prechargeSelftestDone p true true) s = .next u ∧
      (u.conv p).state = (if inBand s p then .qualify else .charging)) ∧
  (∀ (p : Quad) (ready : Bool) (s : State), (s.conv p).state = .selftest →
    ∃ u, exec (.prechargeSelftestDone p false ready) s = .next u ∧ (u.conv p).state = .aborted ∧
      (u.conv p).status = .sensorFault) ∧
  (∀ (n : Oct) (p : Quad) (s : State), preOwner s (mainOf n) = some p → n.val < 4 → (s.conv p).state = .charging →
    ∃ u, exec (.driverReadyLoss n false) s = .next u ∧ u.rdyLost.testBit n.val = true ∧ (u.conv p).state = .paused ∧
      (u.conv p).resumeTo = .charging ∧ (u.conv p).pauseAt = s.now) ∧
  (∀ (n : Oct) (s : State), ∃ u, exec (.driverReadyLoss n true) s = .next u ∧ u.rdyLost.testBit n.val = false) ∧
  (∀ (p : Quad) (s : State), (s.conv p).state = .paused → pauseOver s p = false →
    ∃ u, exec (.prechargeResume p) s = .next u ∧ (u.conv p).state = (s.conv p).resumeTo ∧ u.rdyLost.testBit p.val = false) ∧
  (∀ (p : Quad) (s : State), (s.conv p).state.busy = true → (preDue s p).head? = some .pauseLimit →
    ∃ u, exec (.pauseLimit p) s = .next u ∧ (u.conv p).state = .aborted ∧ (u.conv p).status = .pauseLimit) ∧
  (∀ (p : Quad) (c : Chan) (s : State), (s.conv p).state = .qualify →
    (s.conv p).qualAt + s.act OD.PRE_TCLOSEQ p.val * usNs ≤ s.now → preDue s p = [] → feedOfPre s.active p = some c →
    ∃ u, exec (.prechargeClose p) s = .next u ∧ (u.conv p).state = .handover ∧ (u.conv p).closeAt = s.now ∧
      (u.port c).down.start = true) ∧
  (∀ (p : Quad) (s : State), noProgress s p = false → windowOver s p = true →
    ∃ u, exec (.noProgress p) s = .next u ∧ (u.conv p).winAt = s.now ∧ (u.conv p).winV = preV s p) ∧
  (∀ (p : Quad) (s : State), (s.conv p).state.busy = true → (preDue s p).head? = some .noProgress →
    ∃ u, exec (.noProgress p) s = .next u ∧ (u.conv p).state = .aborted ∧ (u.conv p).status = .noProgress) ∧
  (∀ (p : Quad) (s : State), (s.conv p).state.busy = true → (preDue s p).head? = some .timeLimit →
    ∃ u, exec (.prechargeTimeLimit p) s = .next u ∧ (u.conv p).state = .aborted ∧ (u.conv p).status = .timeLimit) ∧
  (∀ (p : Quad) (s : State), (s.conv p).state.busy = true → (preDue s p).head? = some .closeLimit →
    ∃ u, exec (.closeLimit p) s = .next u ∧ (u.conv p).state = .aborted ∧ (u.conv p).status = .closeLimit)

/-- The chopper runs once its interlock and driver allow it, and ends in DONE, or STOPPED at its energy or time limit. Choices
of the model that it meets: logs 17, 51, 84, 105. -/
def Obligations.DischargeSequence : Prop :=
  (∀ (d : Quad) (v : Int) (s : State), (s.chop d).state = .wait → (s.chop d).req = true → runsDis s d = true →
    disReason s d = none → disV s d = some v →
    ∃ u, exec (.dischargeRun d) s = .next u ∧ (u.chop d).state = .run ∧ (u.chop d).duty = disOn s d v ∧
      (u.chop d).runAt = some ((s.chop d).runAt.getD s.now)) ∧
  (∀ (d : Quad) (s : State),
    ∃ u, exec (.chopperResume d) s = .next u ∧ (u.chop d).driverLow = false ∧ u.rdyLost.testBit (d.val + 4) = false) ∧
  (∀ (d : Quad) (f : Nat) (s : State), (s.chop d).doneFrom = some f → (s.chop d).state = .run →
    f + s.act OD.DIS_TDONEQ d.val * usNs ≤ s.now →
    ∃ u, exec (.dischargeDone d) s = .next u ∧ (u.chop d).state = .done) ∧
  (∀ (d : Quad) (s : State), (s.chop d).state = .run ∨ (s.chop d).state = .done ∨ (s.chop d).state = .wait →
    (s.act OD.DIS_EMAX d.val : Int) * 1000000000 < (s.chop d).eacc →
    ∃ u, exec (.energyLimit d) s = .next u ∧ (u.chop d).state = .stopped ∧ (u.chop d).status = .energyLimit ∧
      (u.chop d).duty = 0) ∧
  (∀ (d : Quad) (r : Nat) (s : State), (s.chop d).runAt = some r → (s.chop d).state = .run ∨ (s.chop d).state = .wait →
    (s.chop d).doneOnce = false →
    r + s.act OD.DIS_TMAX d.val * msNs ≤ s.now →
    ∃ u, exec (.dischargeTimeLimit d) s = .next u ∧ (u.chop d).state = .stopped ∧ (u.chop d).status = .timeLimit ∧
      (u.chop d).duty = 0)

/-- Transfers between feeds: off at a source loss or a revert, the make after break-before-make, the timeout; the sharing loop
and the note of an engine that blocks. Choices of the model that it meets: logs 14, 16, 32, 35, 76, 95,
104, 105, 112, 113. -/
def Obligations.FeedTransfersAndSharing : Prop :=
  (∀ (b : BusId) (c : Chan) (f : Nat) (s : State), runsBus s b = true → (s.bus b).sel = some c → (s.bus b).xfer = .steady →
    s.act OD.BUS_FMODE b.val = 1 → (hubCh s c).running = true → (s.port c).feed.lossFrom = some f →
    f + (s.port c).feed.lossFor * usNs ≤ s.now →
    ∃ u, exec (.sourceLoss b) s = .next u ∧ (u.port c).down.off = true ∧
      (u.bus b).xfer = (if (nextFeed s b (2 ^ c.val)).isSome then .break_ else .failed)) ∧
  (∀ (b : BusId) (c k : Chan) (s : State), runsBus s b = true → (s.bus b).sel = some c → (s.bus b).xfer = .steady →
    s.act OD.BUS_FMODE b.val = 1 → s.actB OD.BUS_REVERT b.val = true →
    (s.bus b).steadyFrom + s.act OD.BUS_TREVERT b.val * msNs ≤ s.now → (hubCh s c).running = true → revertTo s b c = some k →
    ∃ u, exec (.revertDue b) s = .next u ∧ (u.port c).down.off = true ∧ (u.bus b).xfer = .break_ ∧ (u.bus b).xOld = some c ∧
      (u.bus b).xNew = some k) ∧
  (∀ (b : BusId) (new : Chan) (t : Nat) (s : State), runsBus s b = true → (s.bus b).xfer = .gap → (s.bus b).tStatic = some t →
    (s.bus b).xNew = some new → t + (s.bus b).xTbbm * usNs ≤ s.now → (s.bus b).xSent = false →
    (s.pod new).busyForStart = false →
    ∃ u, exec (.transferMake b) s = .next u ∧ (u.bus b).xSent = true ∧ (u.port new).down.start = true) ∧
  (∀ (b : BusId) (new : Chan) (t : Nat) (s : State), runsBus s b = true → (s.bus b).xNew = some new → makeFrom s b new = some t →
    hubCh s new ≠ .on → t + (s.bus b).xTmax * msNs ≤ s.now →
    ∃ u, exec (.transferTimeout b) s = .next u ∧ (u.port new).down.off = true ∧
      (u.bus b).xfer = (if (nextBy s b (s.bus b).xRank (s.bus b).tried).isSome then .break_ else .failed)) ∧
  (∀ (b : BusId) (x y : Chan) (ix iy : Int) (s : State), runsBus s b = true → engineFeeds s b = some (x, y) → orLoop s b = true →
    orOf s x = .conducting → orOf s y = .conducting → (s.bus b).shareAt + 100000 ≤ s.now → (s.port x).mtr.meanI = some ix →
    (s.port y).mtr.meanI = some iy →
    ∃ u, exec (.oringShareStep b) s = .next u ∧ (u.bus b).shareAt = s.now ∧
      ((ix + iy) * 100 ≤ ((min (ifsAt s x) (ifsAt s y) : Nat) : Int) * 1000 * 5 → orFrozen s x = false → orFrozen s y = false →
        (u.bus b).target1 = s.act OD.BUS_OR_VFWD b.val ∧ (u.bus b).target2 = s.act OD.BUS_OR_VFWD b.val) ∧
      (((min (ifsAt s x) (ifsAt s y) : Nat) : Int) * 1000 * 5 < (ix + iy) * 100 →
        ((s.act OD.BUS_OR_RATIO b.val : Int) + 2) * (ix + iy) < 100 * ix → orFrozen s x = false → orFrozen s y = false →
        (u.bus b).target1 = stepTarget (s.act OD.BUS_OR_VFWD b.val) (s.act OD.BUS_OR_VMAX b.val) (s.bus b).target1 true ∧
        (u.bus b).target2 = stepTarget (s.act OD.BUS_OR_VFWD b.val) (s.act OD.BUS_OR_VMAX b.val) (s.bus b).target2 false)) ∧
  (∀ (b : BusId) (f : Nat) (s : State), runsBus s b = true → (s.bus b).blockedFrom = some f → f + msNs ≤ s.now →
    orBlocked s b = true →
    ∃ u, exec (.oringBlocked b) s = .next u ∧ (u.bus b).blockedNoted = true)

/-! ## Converters and metering (chapters 9 and 10) -/

/-- Internal nodes, urgent lists and paired windows of a pod. Choices of the model that it meets: logs 27, 65, 75, 91,
101, 106. -/
def Obligations.NodesUrgentListsAndWindows : Prop :=
  (∀ (c : Chan) (d : Dwell) (l : List Dwell) (s : State), (s.pod c).adc.dwells = d :: l →
    ∃ u, exec (.intDwellComplete c) s = .next u ∧ (u.pod c).adc.dwells = l ∧
      (d.n = 0 → (u.pod c).st.meas = (s.pod c).st.meas ∧ (u.pod c).st.adc.health = (s.pod c).st.adc.health) ∧
      (d.n ≠ 0 → d.node = 0 → (u.pod c).st.meas.vposMv = Config.nodeValue 0 d.sum d.n) ∧
      (d.n ≠ 0 → d.node = 1 → (u.pod c).st.meas.vnegMv = Config.nodeValue 1 d.sum d.n) ∧
      (d.n ≠ 0 → d.node = 2 → (u.pod c).st.meas.tempDie = Config.nodeValue 2 d.sum d.n) ∧
      (d.n ≠ 0 → d.node = 3 → ((u.pod c).st.adc.health.testBit 0 = true ↔ 288 * d.n < (d.sum - 28800 * d.n).natAbs)) ∧
      (d.n ≠ 0 → d.node = 4 → ((u.pod c).st.adc.health.testBit 1 = true ↔ 32 * d.n < d.sum.natAbs))) ∧
  (∀ (c : Chan) (r : UrgRun) (codes : List Raw) (t : Nat) (s : State), (s.pod c).st.hvOn = true →
    (s.pod c).adc.openRun = some r → r.lastListed + 225 ≤ max s.now t →
    ∃ u, exec (.urgentConversionDone c codes t) s = .next u ∧ r.deliver codes ∈ (u.pod c).adc.runs ∧
      (Urgent.snapshot ∈ r.causes → (u.pod c).mtr.snapV =
        some (vUv ((s.pod c).prm OD.CH_KDIV_IN) ((s.pod c).runCode (r.deliver codes) .vdi) -
            vUv ((s.pod c).prm OD.CH_KDIV_NEG) ((s.pod c).runCode (r.deliver codes) .vdn),
          vUv ((s.pod c).prm OD.CH_KDIV_OUT) ((s.pod c).runCode (r.deliver codes) .vdo) -
            vUv ((s.pod c).prm OD.CH_KDIV_NEG) ((s.pod c).runCode (r.deliver codes) .vdn)))) ∧
  (∀ (c : Chan) (r : UrgRun) (codes : List Raw) (x : Side) (t : Nat) (s : State), (s.pod c).st.hvOn = true →
    (s.pod c).adc.openRun = some r → r.lastListed + 225 ≤ max s.now t → Urgent.stackTest ∈ r.causes →
    (s.pod c).tests.stackRun = true → (s.pod c).bothClamped = true →
    (s.pod c).nodeCheck ((s.pod c).runCode (r.deliver codes) .vdi) ((s.pod c).runCode (r.deliver codes) .vdo) = some (x, true) →
    ((s.pod c).prm OD.CH_DMG_EN).testBit 1 = true → ((s.pod c).gate x).phase = .staticClamp →
    ∃ u, exec (.urgentConversionDone c codes t) s = .next u ∧ (u.pod c).st.prot.suspect = some x ∧
      (u.pod c).st.prot.detail.testBit 3 = true ∧ (u.pod c).st.prot.tieRun = true ∧ (u.pod c).tests.tieLeft = PodCmp.tied) ∧
  (∀ (c : Chan) (k : PodCmp) (t : Nat) (s : State), (s.pod c).st.hvOn = true → (s.pod c).prm OD.ADC_PAIR = 1 →
    ((s.pod c).prm OD.ADC_PAIR_TRIG).testBit k.bit = true → (s.pod c).masked k (max s.now t) = false → (s.pod c).hold k = none →
    (s.pod c).adc.winFrom = none → (s.pod c).adc.winEnd = 0 ∨ (s.pod c).adc.winEnd + 1000 ≤ max s.now t →
    (s.pod c).adc.pending < 16 → (s.pod c).st.adc.routing = .normal →
    ∃ u, exec (.pairedWindowStart c (some k) t) s = .next u ∧ (u.pod c).adc.winFrom = some (halfUp (max s.now t)) ∧
      (u.pod c).adc.winEnd = halfUp (max s.now t) + 1000 ∧
      (u.pod c).adc.wins = (s.pod c).adc.wins ++
        [{ from_ := halfUp (max s.now t), to_ := halfUp (max s.now t) + 1000, trig := k.bit, alt := false }] ∧
      (u.pod c).st.adc.routing = .paired) ∧
  (∀ (c : Chan) (t : Nat) (s : State), (s.pod c).st.hvOn = true → (s.pod c).prm OD.ADC_PAIR = 2 →
    (s.pod c).adc.winFrom = none → (s.pod c).st.adc.routing = .normal → max s.now t % 1000 = 0 →
    (max s.now t - (s.pod c).adc.altFrom) / 1000 % 2 = 0 →
    ∃ u, exec (.pairedWindowStart c none t) s = .next u ∧ (u.pod c).adc.winFrom = some (max s.now t) ∧
      (u.pod c).adc.winEnd = max s.now t + 1000 ∧ (u.pod c).st.adc.routing = .paired) ∧
  (∀ (c : Chan) (k : PodCmp) (t : Nat) (s : State), (s.pod c).st.hvOn = true → (s.pod c).prm OD.ADC_PAIR = 1 →
    ((s.pod c).prm OD.ADC_PAIR_TRIG).testBit k.bit = true → (s.pod c).masked k (max s.now t) = false → (s.pod c).hold k = none →
    (s.pod c).adc.winFrom.isSome = true →
    ∃ u, exec (.pairedWindowStart c (some k) t) s = .next u ∧ (u.pod c).st.counts.missed = (s.pod c).st.counts.missed + 1 ∧
      (u.pod c).adc = (s.pod c).adc) ∧
  (∀ (c : Chan) (f t : Nat) (s : State), (s.pod c).adc.winFrom = some f → f + 1000 ≤ max s.now t →
    ∃ u, exec (.pairedWindowEnd c t) s = .next u ∧ (u.pod c).adc.winFrom = none ∧
      (u.pod c).st.counts.windows = (s.pod c).st.counts.windows + 1 ∧
      ((s.pod c).st.adc.routing = .paired → (u.pod c).st.adc.routing = .normal))

/-- CAL and recalibration start with their frame; CAL loads factors within their limits and fails beyond them, a recalibration
of the IC loads its factors; the cover of a recalibration ends; bursts of a parked pod and of the housekeeping converter, and a
housekeeping mean. Choices of the model that it meets: logs 28, 96. -/
def Obligations.CalibrationAndBursts : Prop :=
  (∀ (p : Pod) (t : Nat), p.st.hvOn = true →
    (p.calAsk (some 0) t).adc.calFrom = some t ∧ (p.calAsk (some 0) t).st.adc.routing = .cal ∧
      (p.calAsk (some 0) t).st.adc.cal = 1 ∧ (p.calAsk (some 1) t).adc.recalFrom = some t ∧
      (p.calAsk (some 1) t).st.adc.routing = .icRecal ∧ (p.calAsk (some 2) t).st.adc.routing = .vcRecal) ∧
  (∀ (c : Chan) (a b d : List Int) (f t : Nat) (s : State), (s.pod c).adc.calFrom = some f → f + 3200000 ≤ max s.now t →
    badOf [(0, sliceLimits, a), (1, sliceLimits, b), (2, feLimits, d)] = none →
    ∃ u, exec (.calComplete c a b d t) s = .next u ∧ (u.pod c).adc.calFrom = none ∧ (u.pod c).st.adc.cal = 2 ∧
      (u.pod c).st.adc.calibrated = true ∧ (u.pod c).adc.icF = factorsOf sliceLimits a ∧
      (u.pod c).adc.vcF = factorsOf sliceLimits b ∧ (u.pod c).adc.feF = factorsOf feLimits d) ∧
  (∀ (c : Chan) (a b d : List Int) (f t : Nat) (s : State), (s.pod c).adc.calFrom = some f → f + 3200000 ≤ max s.now t →
    (badOf [(0, sliceLimits, a), (1, sliceLimits, b), (2, feLimits, d)]).isSome = true →
    ∃ u, exec (.calComplete c a b d t) s = .next u ∧ (u.pod c).st.adc.cal = 3 ∧ (u.pod c).adc.icF = (s.pod c).adc.icF ∧
      (u.pod c).adc.vcF = (s.pod c).adc.vcF ∧ (u.pod c).adc.feF = (s.pod c).adc.feF ∧
      (u.pod c).st.adc.calibrated = (s.pod c).st.adc.calibrated) ∧
  (∀ (c : Chan) (l : List Int) (f t : Nat) (s : State), (s.pod c).adc.recalFrom = some f → (s.pod c).adc.coverFrom = none →
    f + 3200000 ≤ max s.now t → (s.pod c).adc.recalKind = 1 → badOf [(0, sliceLimits, l)] = none →
    ∃ u, exec (.recalComplete c l t) s = .next u ∧ (u.pod c).adc.coverFrom = some (slotUp (max s.now t)) ∧
      (u.pod c).adc.icF = factorsOf sliceLimits l ∧ (u.pod c).adc.vcF = (s.pod c).adc.vcF) ∧
  (∀ (c : Chan) (f : Nat) (s : State), (s.pod c).adc.coverFrom = some f → ceilTick (f + 200) ≤ s.now →
    ∃ u, exec (.recalCoverEnd c) s = .next u ∧ (u.pod c).adc.coverFrom = none ∧ (u.pod c).st.adc.routing = (s.pod c).restRouting ∧
      (u.pod c).st.adc.recal = (if (s.pod c).adc.recalOk then 2 else 3)) ∧
  (∀ (c : Chan) (smp : TickSamples) (s : State), (s.pod c).st.pod = .parked ∨ (s.pod c).st.pod = .linking →
    (s.pod c).st.hvOn = true → (s.pod c).st.adc.routing = .burst → s.now % 1000 = 0 → (s.pod c).tickAt < s.now →
    (s.pod c).adc.burstAt + (s.pod c).prm OD.ADC_PARK_PER * msNs + 5000 ≤ s.now →
    ∃ u, exec (.parkedBurst c smp) s = .next u ∧ (u.pod c).adc.burstAt = s.now - 5000 ∧
      (u.pod c).vpos = smp.vpos ∧ (u.pod c).vneg = smp.vneg) ∧
  (∀ (i : Nat) (codes : List Raw) (s : State), i < 8 → s.hubUp = true ∨ s.hub = .boot →
    (hkInputs (s.act OD.ADC_HK_EN))[s.hkPos]? = some i →
    s.hkFrom + (15 * (hkInputs (s.act OD.ADC_HK_EN)).length + s.hkPos + 1) * usNs ≤ s.now →
    ∃ u, exec (.hkMeanUpdate i codes) s = .next u ∧ u.stat OD.ADC_HK_PIN 0 i = hkSum codes ∧
      u.hkPos = (if s.hkPos + 1 < (hkInputs (s.act OD.ADC_HK_EN)).length then s.hkPos + 1 else 0)) ∧
  (∀ (codes : List (List Raw)) (s : State), s.hub = .sleep → s.act OD.ADC_HK_SLEEP_PER ≠ 0 →
    s.hkAt + s.act OD.ADC_HK_SLEEP_PER * msNs + hkBurstNs (hkInputs (s.act OD.ADC_HK_SLEEP_EN)).length ≤ s.now →
    ∃ u, exec (.hkSleepBurst codes) s = .next u ∧
      u.hkAt = s.now - hkBurstNs (hkInputs (s.act OD.ADC_HK_SLEEP_EN)).length ∧ u.hub = .sleep ∧
      ∀ i j : Nat, i < 8 → (hkInputs (s.act OD.ADC_HK_SLEEP_EN))[j]? = some i →
        u.stat OD.ADC_HK_PIN 0 i = hkSum (codes.getD j []))

/-- Metering: averages and totals reach the port; windows, snapshot, checkpoint and clear. Choices of the model that it meets:
logs 24, 26, 29, 58, 100, 107. -/
def Obligations.MeteringMovesTotals : Prop :=
  (∀ (c : Chan) (x : Source) (d : AvgDone) (r : List AvgDone) (s : State), takeAvg x (s.pod c).adc.ready = some (d, r) →
    hears s c = true → (s.pod c).st.pod.holds = false → d.src.idx < (s.port c).mtr.means.length →
    ∃ u, exec (.averageComplete c x) s = .next u ∧ (u.pod c).adc.ready = r ∧
      (u.port c).mtr.means[d.src.idx]? = some (some d)) ∧
  (∀ (c : Chan) (s : State), (s.pod c).st.pod ≠ .unpowered → (s.pod c).st.pod ≠ .linking → s.now % tickNs = 0 →
    (s.pod c).mtr.sentAt + 100000 ≤ s.now →
    ∃ u, exec (.meteringTransfer c) s = .next u ∧ (u.pod c).mtr.tx = (s.pod c).mtr.total ∧ (u.pod c).mtr.sentAt = s.now) ∧
  (∀ (c : Chan) (s : State), hears s c = true → (s.pod c).mtr.txEpoch = (s.port c).mtr.baseEpoch →
    (s.pod c).mtr.sentAt < (s.port c).mtr.baseAt →
    ∃ u, exec (.meteringTransferReceived c true) s = .next u ∧ (u.port c).mtr.acc = (s.port c).mtr.acc ∧
      (u.port c).mtr.base = (s.port c).mtr.base) ∧
  (∀ (c : Chan) (s : State), hears s c = true → (s.pod c).mtr.txEpoch = (s.port c).mtr.baseEpoch →
    (s.port c).mtr.baseAt ≤ (s.pod c).mtr.sentAt →
    ∃ u, exec (.meteringTransferReceived c true) s = .next u ∧
      (u.port c).mtr.acc = (s.port c).mtr.acc.rise (s.port c).mtr.base (s.pod c).mtr.tx ∧
      (u.port c).mtr.base = (s.pod c).mtr.tx) ∧
  (∀ (c : Chan) (s : State), hears s c = true → (s.pod c).mtr.txEpoch ≠ (s.port c).mtr.baseEpoch →
    ∃ u, exec (.meteringTransferReceived c true) s = .next u ∧ (u.port c).mtr.acc.q = (s.port c).mtr.acc.q ∧
      (u.port c).mtr.base = (s.pod c).mtr.tx ∧ (u.port c).mtr.baseEpoch = (s.pod c).mtr.txEpoch) ∧
  (∀ (c : Chan) (s : State), s.hubUp = true → windowDue s c = true →
    ∃ u, exec .minmaxWindowEnd s = .next u ∧ (u.pod c).mtr.trk = {} ∧ (u.port c).mtr.partialWin = false) ∧
  (∀ (c : Chan) (T : Nat) (s : State), s.snap = some T → T ≤ s.now → s.snapLatched = false → owns s c = true →
    (s.pod c).st.pod = .active →
    ∃ u, exec .snapshotTick s = .next u ∧ u.snapLatched = true ∧ (u.pod c).mtr.snap = (s.pod c).mtr.total ∧
      (u.pod c).mtr.snapTaken = true) ∧
  (∀ (T : Nat) (s : State), s.snap = some T → s.snapLatched = true →
    ∃ u, exec .snapshotDone s = .next u ∧ u.snap = none ∧ u.stat OD.MTR_SNAP = 2) ∧
  (∀ (c : Chan) (s : State), (s.port c).mtr.clearMask.testBit 0 = true → (s.port c).mtr.clearAt ≤ s.now → canClear s = true →
    ∃ u, exec (.meteringClearApply c) s = .next u ∧ (u.port c).mtr.acc.q = 0 ∧ (u.port c).mtr.acc.e = 0 ∧
      (u.port c).mtr.acc.i2t = 0 ∧ (u.port c).mtr.clearMask = 0 ∧ u.ckpt.writing.isSome = true) ∧
  (∀ (s : State), ckptDue s = true → s.ckpt.writing.isSome = true →
    ∃ u k, exec .checkpoint s = .next u ∧ u.ckpt.waiting = some k ∧ k.at_ = s.now ∧ u.ckpt.writing = s.ckpt.writing) ∧
  (∀ (s : State), ckptDue s = true → s.ckpt.writing = none →
    ∃ u k, exec .checkpoint s = .next u ∧ u.ckpt.writing = some k ∧ k.seq = s.ckpt.last + 1 ∧ k.at_ = s.now) ∧
  (∀ (k : Ckpt) (s : State), s.ckpt.writing = some k →
    ∃ u, exec (.checkpointWritten true) s = .next u ∧ (s.ckpt.waiting = none → u.ckpt.writing = none) ∧
      (∀ w, s.ckpt.waiting = some w → u.ckpt.waiting = none ∧ ∃ x, u.ckpt.writing = some x ∧ x.at_ = w.at_ ∧ x.ports = w.ports) ∧
      (if k.seq % 2 = 0 then u.ckpt.slot0 = some k ∧ u.ckpt.slot1 = s.ckpt.slot1
        else u.ckpt.slot1 = some k ∧ u.ckpt.slot0 = s.ckpt.slot0)) ∧
  (∀ (k : Ckpt) (s : State), s.ckpt.writing = some k →
    ∃ u, exec (.checkpointWritten false) s = .next u ∧ (s.ckpt.waiting = none → u.ckpt.writing = none) ∧
      (∀ w, s.ckpt.waiting = some w → u.ckpt.waiting = none ∧ ∃ x, u.ckpt.writing = some x ∧ x.at_ = w.at_ ∧ x.ports = w.ports) ∧
      (if k.seq % 2 = 0 then u.ckpt.slot0 = none ∧ u.ckpt.slot1 = s.ckpt.slot1
        else u.ckpt.slot1 = none ∧ u.ckpt.slot0 = s.ckpt.slot0))

/-! ## Comparators and PWM of the hub (chapters 11 and 12) -/

/-- An edge at a hub comparator, the end of a speed hold, the end of a test. Choices of the model that it meets: logs 20,
125. -/
def Obligations.ComparatorEvents : Prop :=
  (∀ (n : Oct) (mid : Bool) (t : Nat) (s : State), (s.cell n).sees = true → (s.cell n).out = false →
    ∃ u, exec (.hubCmpEdge n true mid t) s = .next u ∧ (u.cell n).out = true ∧
      (s.filterOf n = 0 → (u.cell n).filt = true) ∧
      (s.filterOf n ≠ 0 → (u.cell n).filt = (s.cell n).filt ∧
        (u.cell n).rising = some (stepOf (max s.now t), stepOf (max s.now t) + s.filterOf n))) ∧
  (∀ (n : Oct) (mid : Bool) (t : Nat) (s : State), (s.cell n).sees = true → (s.cell n).out = true →
    ∃ u, exec (.hubCmpEdge n false mid t) s = .next u ∧ (u.cell n).out = false ∧ (u.cell n).filt = false ∧
      (u.cell n).rising = none) ∧
  (∀ (n : Oct) (active mid : Bool) (t : Nat) (s : State), (s.cell n).sees = false →
    ∃ u, exec (.hubCmpEdge n active mid t) s = .next u ∧ (u.cell n).out = (s.cell n).out ∧ (u.cell n).later = some active) ∧
  (∀ (n : Oct) (active : Bool) (h : Nat) (s : State), (s.cell n).holdUntil = some h → h ≤ s.now →
    ∃ u, exec (.speedHoldEnd (.hub n) active) s = .next u ∧ (u.cell n).holdUntil = none ∧ (u.cell n).out = active) ∧
  (∀ (c : Chan) (k : PodCmp) (active : Bool) (h : Nat) (s : State), (s.pod c).hold k = some h → h ≤ s.now →
    ∃ u, exec (.speedHoldEnd (.pod c k) active) s = .next u ∧ (u.pod c).hold k = none ∧
      (u.pod c).st.prot.cmpOut.testBit k.bit = active) ∧
  (∀ (n : Oct) (r : TestResult) (s : State), (s.cell n).test = 1 →
    (s.cell n).testAt + 4 * speedNs (s.act OD.CMP_SPEED n.val) ≤ s.now →
    ∃ u, exec (.cmpTestDone n r) s = .next u ∧
      (u.cell n).test = (match r with
        | .pass => 2
        | .fail => 3
        | .void => if (s.cell n).swap then 4 else 3))

/-- A period boundary numbers the period and takes the ready inputs; the midperiod reload takes D; pulses and dead times end.
A period does with its request nothing at 0, drops it below the least on-time, and else gives a main pulse of the request limited
to L, which a comparator in its active sense skips. -/
def Obligations.PwmEvents : Prop :=
  (∀ (n : Oct) (rdy : Nat) (s : State), (s.gen n).run = true → isPartner s n = false → s.hubUp = true →
    ∃ u, exec (.pwmPeriodBoundary n rdy) s = .next u ∧ (u.gen n).periodAt = (s.gen n).boundaryAt ∧
      (u.gen n).startAt = none ∧
      (u.gen n).pcount = (if (s.gen n).startAt.isSome then 0 else ((s.gen n).pcount + 1) % 2 ^ 32) ∧
      u.now = max s.now (s.gen n).boundaryAt) ∧
  (∀ (n : Oct) (s : State), (s.gen n).run = true → (s.gen n).startAt = none →
    s.act OD.PWM_UPD n.val = 1 → isPartner s n = false →
    (s.gen n).visible ((s.gen n).periodAt + (s.gen n).word.p / 2 * stepNs) = true →
    ∃ u, exec (.pwmMidperiodReload n) s = .next u ∧ (u.gen n).word.d = (s.gen n).reload.d ∧
      (u.gen n).word.p = (s.gen n).word.p ∧ (u.gen n).reloadAt = none) ∧
  (∀ (n : Oct) (e : Nat) (s : State), (s.gen n).until_ = some e → (s.gen n).main = true →
    ∃ u, exec (.pwmPulseEnd n) s = .next u ∧ (u.gen n).main = false ∧ (u.gen n).until_ = none ∧ u.now = max s.now e) ∧
  (∀ (n : Oct) (e : Nat) (s : State), (s.gen n).until_ = some e → (s.gen n).main = false → (s.gen n).partner = true →
    ∃ u, exec (.pwmPulseEnd n) s = .next u ∧ (u.gen n).partner = false ∧ (u.gen n).until_ = none) ∧
  (∀ (n : Oct) (t : Nat) (s : State), (s.gen n).partnerAt = some t → (s.gen n).fault = false →
    ∃ u, exec (.pwmDeadTimeEnd n) s = .next u ∧ (u.gen n).partner = true ∧ (u.gen n).partnerAt = none) ∧
  (∀ (n : Oct) (t : Nat) (s : State), compl s n = false →
    (cmpTerm s n = true → ((s.period n t id id).gen n).main = false) ∧
    (cmpTerm s n = false → (s.gen n).word.d + ((s.gen n).acc + (s.gen n).word.dith) / 16 = 0 →
      ((s.period n t id id).gen n).main = false ∧
      ((s.period n t id id).gen n).acc = ((s.gen n).acc + (s.gen n).word.dith) % 16) ∧
    (∀ req on : Nat, cmpTerm s n = false → req = (s.gen n).word.d + ((s.gen n).acc + (s.gen n).word.dith) / 16 →
      on = min req (pwmLimit s n (s.gen n).word.p) → req ≠ 0 →
      (on < s.act OD.PWM_TMIN n.val → ((s.period n t id id).gen n).main = false) ∧
      (s.act OD.PWM_TMIN n.val ≤ on → on < (s.gen n).word.p →
        ((s.period n t id id).gen n).main = true ∧ ((s.period n t id id).gen n).from_ = t ∧
        ((s.period n t id id).gen n).until_ = some (t + on * stepNs) ∧
        ((s.period n t id id).gen n).acc = ((s.gen n).acc + (s.gen n).word.dith) % 16)))

/-! ## Resets, boot, supplies, clocks, SLEEP (chapter 13) -/

/-- Every reset source ends in RESET with its cause latched, and the release of RESET samples the straps and starts BOOT.
Choices of the model that it meets: log 36. -/
def Obligations.ResetSources : Prop :=
  (∀ s : State, ∃ u, exec .vdd33PowerOnReset s = .next u ∧ coreResetTo s u 0) ∧
  (∀ s : State, s.hub ≠ .sleep → ∃ u, exec .coreSupplyReset s = .next u ∧ coreResetTo s u 1) ∧
  (∀ s : State, ∃ u, exec .alwaysOnPowerOnReset s = .next u ∧ u.hub = .reset ∧ u.power.latch = 4 ∧ podsKept s u ∧
    u.sessions = [] ∧ u.stat OD.HUB_RST_COUNT = 0 ∧ u.stat OD.HUB_WAKE_CAUSE = 0) ∧
  (∀ s : State, ∃ u, exec .resetN s = .next u ∧ coreResetTo s u 3) ∧
  (∀ s : State, coreRuns s = true → ∃ u, exec .lockstepMismatch s = .next u ∧ coreResetTo s u 4) ∧
  (∀ s : State, coreRuns s = true → ∃ u, exec .watchdog s = .next u ∧ coreResetTo s u 5) ∧
  (∀ s : State, coreRuns s = true → s.stat OD.HUB_CLK_STATE ≠ 1 → ∃ u, exec .crystalLost s = .next u ∧ coreResetTo s u 6) ∧
  (∀ s : State, coreRuns s = true → s.stat OD.HUB_CLK_STATE = 1 →
    ∃ u, exec .crystalLost s = .next u ∧ u.hub = s.hub ∧ u.active = s.active ∧ u.pods = s.pods) ∧
  (∀ s : State, coreRuns s = true → ∃ u, exec .thermalReset s = .next u ∧ coreResetTo s u 9) ∧
  (∀ (strap : Nat) (s : State), s.hub = .reset → xtalBad s = false →
    ∃ u, exec (.resetRelease strap) s = .next u ∧ u.hub = .boot ∧ u.power.bootFrom = s.now ∧ u.ring.strap = strap % 128 ∧
      u.pods = s.pods ∧
      u.ring.addr = (if strap.testBit 6 then 0 else if strap % 64 ≠ 0 then strap % 64 else 0xFFF))

/-- BOOT ends in IDLE or ADOPT with the causes read and the boot number counted, or stays with NO_IMAGE; ADOPT takes every pod
that the hub claims and ends in RUN; a pod in HOLD or SAFE on a hub that runs is adopted alone. Choices of the model that it
meets: logs 40, 48, 71, 74. -/
def Obligations.BootAndAdoption : Prop :=
  (∀ (x : Bool × Bool) (s : State), s.hub = .boot → s.power.loaded = false → s.stat OD.HUB_BOOT_STATUS = 0 →
    bootSlot s = some x →
    ∃ u, exec .bootComplete s = .next u ∧ (u.hub = .idle ∨ u.hub = .adopt) ∧ u.power.latch = 0 ∧
      u.jnl.boot = (s.jnl.boot + 1) % 65536 ∧ u.fw.runsB = x.1) ∧
  (∀ s : State, s.hub = .boot → s.power.loaded = true →
    ∃ u, exec .bootComplete s = .next u ∧ (u.hub = .idle ∨ u.hub = .adopt) ∧ u.jnl.boot = s.jnl.boot ∧ u.fw = s.fw) ∧
  (∀ s : State, s.hub = .boot → s.power.loaded = false → s.stat OD.HUB_BOOT_STATUS = 0 → bootSlot s = none →
    ∃ u, exec .bootComplete s = .next u ∧ u.hub = .boot ∧ u.stat OD.HUB_BOOT_STATUS = 1 ∧ u.active = s.active) ∧
  (∀ s : State, s.hub = .adopt →
    ∃ u, exec .adopt s = .next u ∧ u.hub = .run ∧
      ∀ c : Chan, mayAdopt s c = true → (u.port c).own = true ∧ (u.pod c).st.own.link = some true) ∧
  (∀ (c : Chan) (s : State), s.hub = .idle ∨ s.hub = .run → (s.port c).own = false → mayAdopt s c = true →
    (s.pod c).st.pod.holds = true →
    ∃ u, exec (.podAdoption c) s = .next u ∧ (u.port c).own = true ∧ (u.pod c).st.own.link = some true)

/-- Pod supply outputs, the reference clock, the entry into SLEEP and the wake from it. Choices of the model that it meets: logs
37, 50, 63, 116, 117. -/
def Obligations.SupplyClockSleepWake : Prop :=
  (∀ (c : Chan) (s : State), (s.act OD.HUB_PODSUP_EN).testBit c.val = true → (s.port c).supply.openSince = none →
    ∃ u, exec (.podSupplyCurrentLimit c) s = .next u ∧ (u.port c).supply.openSince = some s.now ∧
      (u.stat OD.HUB_PODSUP_FLT).testBit c.val = true ∧ ((s.pod c).st.pod ≠ .unpowered → (u.pod c).st.lvA = false)) ∧
  (∀ (c : Chan) (f : Nat) (s : State), (s.port c).supply.openSince = some f → f + 100 * msNs ≤ s.now →
    ∃ u, exec (.podSupplyRetry c true) s = .next u ∧ (u.port c).supply.openSince = none ∧
      ((s.pod c).st.pod ≠ .unpowered → (u.pod c).st.lvA = (s.act OD.HUB_PODSUP_EN).testBit c.val)) ∧
  (∀ (c : Chan) (f : Nat) (s : State), (s.port c).supply.openSince = some f → f + 100 * msNs ≤ s.now →
    ∃ u, exec (.podSupplyRetry c false) s = .next u ∧ (u.port c).supply.openSince = some s.now) ∧
  (∀ s : State, s.hubUp = true → s.act OD.HUB_CLKSRC = 1 → s.stat OD.HUB_CLK_STATE = 0 →
    s.ringUp.testBit (s.act OD.HUB_CLK_PORT) = true →
    ∃ u, exec .ringClockMove s = .next u ∧ u.stat OD.HUB_CLK_STATE = 1 ∧ u.power.clkPort = s.act OD.HUB_CLK_PORT) ∧
  (∀ s : State, s.hubUp = true → s.act OD.HUB_CLKSRC = 1 → s.stat OD.HUB_CLK_STATE = 1 →
    s.act OD.HUB_CLK_PORT ≠ s.power.clkPort → s.ringUp.testBit (s.act OD.HUB_CLK_PORT) = true →
    ∃ u, exec .ringClockMove s = .next u ∧ u.stat OD.HUB_CLK_STATE = 1 ∧ u.power.clkPort = s.act OD.HUB_CLK_PORT) ∧
  (∀ s : State, s.hubUp = true → s.stat OD.HUB_CLK_STATE = 1 → s.power.xtalLost = none →
    ∃ u, exec .ringClockLoss s = .next u ∧ u.stat OD.HUB_CLK_STATE = 2) ∧
  (∀ s : State, s.hubUp = true → s.stat OD.HUB_CLK_STATE = 1 → s.power.xtalLost.isSome = true →
    ∃ u, exec .ringClockLoss s = .next u ∧ coreResetTo s u 6) ∧
  (∀ (ppm : Int) (s : State), s.hubUp = true → s.stat OD.HUB_CLK_STATE = 1 →
    s.power.xtalAt + 1000 * msNs ≤ s.now → -32768 ≤ ppm → ppm ≤ 32767 →
    ∃ u, exec (.xtalMeasure ppm) s = .next u ∧ u.status.get OD.HUB_XTAL_PPM = ppm) ∧
  (∀ (t : Nat) (s : State), s.power.sleep = some t → s.hub = .idle → parkedAll s t = true → s.ckpt.writing = none →
    s.pfw.on = false →
    ∃ u, exec .sleepEntered s = .next u ∧ u.hub = .sleep ∧ u.sessions = [] ∧ u.ringUp = 0 ∧ u.power.sleptAt = s.now ∧
      ∀ c : Chan, (u.port c).linked = false) ∧
  (∀ (c : Chan) (k : Bool × Bool × Nat) (s : State), (s.pod c).st.pod = .parked → (s.pod c).rest = some k →
    k ≠ (s.pod c).restKey ∨ (s.pod c).st.prot.suspect.isSome = true →
    ∃ u, exec (.podWakeSignal c) s = .next u ∧ (u.pod c).wakeAt = some s.now ∧ wakeLevel u c = true) ∧
  (∀ (src : Nat) (s : State), s.hub = .sleep → wakeSources s src ≠ 0 →
    ∃ u, exec (.wake src) s = .next u ∧ u.hub = .boot ∧ u.power.woke = true ∧ u.stat OD.HUB_WAKE_CAUSE = wakeSources s src ∧
      u.now = ceilTick s.now) ∧
  (∀ (src : Nat) (s : State), s.hub = .idle → s.power.sleep.isSome = true → wakeSources s src ≠ 0 →
    ∃ u, exec (.wake src) s = .next u ∧ u.hub = .idle ∧ u.power.sleep = none)

/-! ## The ring (chapter 14) -/

/-- Links, breaks, cut-through forwarding and enumeration. Choices of the model that it meets: logs 42, 49,
119, 122. -/
def Obligations.RingLinksAndEnumeration : Prop :=
  (∀ (k : KPort) (n : Nat) (s : State), hearsPort s k = true →
    ∃ u, exec (.ringLinkDown k n) s = .next u ∧ u.ringUp.testBit k.val = false ∧
      (s.ring.topo.testBit 0 = false ∨ s.ring.onBranch = true → u.ring.upstream = s.ring.upstream) ∧
      (s.ring.topo.testBit 0 = true → s.ring.onBranch = false → isHead s = false → s.ring.upstream = some k → k.val < 2 →
        s.ringUp.testBit (otherPort k).val = true →
        u.ring.upstream = some (otherPort k) ∧ u.out.head? = some (.token (tokenByte true 0 0) (2 ^ (otherPort k).val)))) ∧
  (∀ (k : KPort) (s : State), ringOpen s = true → s.ringUp.testBit k.val = false →
    ∃ u, exec (.ringLinkUp k) s = .next u ∧ u.ringUp.testBit k.val = true) ∧
  (∀ (k : KPort) (b : Byte) (s : State), hearsPort s k = true → tokenLink b = true → (tokenLine b).val = 0 → isHead s = false →
    s.ring.upstream = some k → k.val < 2 →
    ∃ u, exec (.rehome k b) s = .next u ∧ u.ring.upstream = some (otherPort k) ∧
      u.out = (if s.ringUp.testBit (otherPort k).val then
        .token (tokenByte true 0 (min 31 (tokenHops b + 1))) (2 ^ (otherPort k).val) :: s.out else s.out)) ∧
  (∀ (b : Byte) (s : State), hearsPort s 0 = true → tokenLink b = true → (tokenLine b).val = 0 → isHead s = true →
    ∃ u, exec (.rehome 0 b) s = .next u ∧ u.ring.topo.testBit 2 = true ∧ u.ring.irq.testBit 2 = true) ∧
  (∀ (k : KPort) (f : Frame) (t res : Nat) (s : State), heard s k f = true → f.local_ = false → f.dst ≠ s.ring.addr →
    laterCopy s k f = false → routePorts s k f &&& (s.ringUp % 8) ≠ 0 →
    ∃ u g, exec (.cutThroughForward k f t res) s = .next u ∧
      u.out = .frame g (routePorts s k f &&& (s.ringUp % 8)) :: s.out ∧ g.hops = min 63 (f.hops + 1) ∧ g.type = f.type ∧
      g.src = f.src ∧ g.dst = f.dst ∧ g.seq = f.seq ∧ g.crc = g.crcOf ∧ (f.type ≠ 1 → g.payload = f.payload)) ∧
  (∀ (k : KPort) (f : Frame) (t res : Nat) (s : State), (roundTrip s k f || laterCopy s k f) = true →
    exec (.cutThroughForward k f t res) s = .next s) ∧
  (∀ (k : KPort) (f : Frame) (s : State), heard s k f = true → f.type = 7 → fieldAt f.payload 0 1 = 0 → f.dst = 0xFFF →
    isHead s = false → fieldAt f.payload 2 2 ≠ s.ring.gen →
    ∃ u, exec (.discover k f) s = .next u ∧ u.ring.gen = fieldAt f.payload 2 2 ∧ u.ring.upstream = some k ∧
      u.ring.hops = min 63 (f.hops + 1)) ∧
  (∀ (k : KPort) (f : Frame) (s : State), heard s k f = true → f.type = 7 → fieldAt f.payload 0 1 = 1 → isHead s = true →
    s.hubUp = true → fieldAt f.payload 1 1 = 0 → s.ring.enumAt.isSome = true →
    ∃ u x, exec (.report k f) s = .next u ∧ x ∈ u.ring.found ∧ x.uid = fieldAt f.payload 4 8 ∧
      x.hops = fieldAt f.payload 13 1) ∧
  (∀ (k : KPort) (f : Frame) (s : State), heard s k f = true → f.type = 7 → fieldAt f.payload 0 1 = 2 → isHead s = false →
    fieldAt f.payload 4 8 = Config.devUid % 2 ^ 64 →
    ∃ u, exec (.assign k f) s = .next u ∧ u.ring.addr = fieldAt f.payload 12 2 % 4096 ∧ u.ring.addrSrc = 2) ∧
  (∀ (k : KPort) (f : Frame) (s : State), heard s k f = true → f.type = 7 → fieldAt f.payload 0 1 = 3 → isHead s = false →
    ∃ u, exec (.done k f) s = .next u ∧ u.ring.topo = fieldAt f.payload 1 1 % 4 ∧ u.ring.nodes = fieldAt f.payload 4 2)

/-- SYNC at the head and at a hub, holdover, the delay exchange, and the frames that the head hands to its host.
Choices of the model that it meets: logs 11, 41, 47, 120. -/
def Obligations.RingTimeAndEvents : Prop :=
  (∀ (k : KPort) (f : Frame) (t : Nat) (s : State), heard s k f = true → f.type = 1 → fieldAt f.payload 0 1 = 0 →
    isHead s = false → s.ring.upstream = some k → s.hub = .boot → s.ring.stepped = false →
    ∃ u, exec (.syncTime k f t) s = .next u ∧ u.ring.stepped = true ∧ u.ring.syncAt = u.now ∧
      u.now = (fieldAt f.payload 4 8 * 1000 + fieldAt f.payload 12 4 * 1000 / 256 + linkDelay s k) / 1000) ∧
  (∀ (k : KPort) (f : Frame) (t : Nat) (s : State), heard s k f = true → f.type = 1 → fieldAt f.payload 0 1 = 0 →
    isHead s = false → s.ring.upstream = some k → s.hub ≠ .boot →
    ∃ u, exec (.syncTime k f t) s = .next u ∧ u.now = max s.now t ∧ u.ring.syncAt = max s.now t ∧ u.pods = s.pods) ∧
  (∀ s : State, isHead s = true → s.hubUp = true → s.ring.syncAt + s.act OD.RING_SYNC_PER * usNs ≤ s.now →
    ∃ u, exec .syncPeriod s = .next u ∧ u.ring.syncAt = s.now ∧ u.ring.syncSeq = (s.ring.syncSeq + 1) % 65536) ∧
  (∀ s : State, s.hubUp = true → isHead s = false → s.stat OD.RING_TIME_STATE ≠ 3 →
    s.ring.syncAt + 8 * s.act OD.RING_SYNC_PER * usNs ≤ s.now →
    ∃ u, exec .timeHoldover s = .next u ∧ u.stat OD.RING_TIME_STATE = 3) ∧
  (∀ (k : KPort) (f : Frame) (turn : Nat) (s : State), heard s k f = true → f.type = 1 → fieldAt f.payload 0 1 = 1 →
    f.local_ = true → s.ring.addr ≠ 0xFFF →
    ∃ u g, exec (.delayReq k f turn) s = .next u ∧ u.out = .frame g (2 ^ k.val) :: s.out ∧ g.local_ = true ∧ g.type = 1 ∧
      g.payload = leBytes 2 2 ++ leBytes 2 (fieldAt f.payload 2 2) ++ leBytes 8 (fieldAt f.payload 4 8) ++ leBytes 4 turn) ∧
  (∀ (k : KPort) (f : Frame) (t : Nat) (s : State), heard s k f = true → f.type = 1 → fieldAt f.payload 0 1 = 2 →
    f.local_ = true → fieldAt f.payload 4 8 = (s.ring.ports.get k).t1 →
    ∃ u, exec (.delayResp k f t) s = .next u ∧
      (u.ring.ports.get k).delays.head? =
        some (((max s.now t - (s.ring.ports.get k).t1) * 1000 - fieldAt f.payload 12 4 * 1000 / 256) / 2)) ∧
  (∀ (k : KPort) (s : State), hearsPort s k = true → (s.ring.ports.get k).t1 + msNs ≤ s.now →
    ∃ u, exec .delayExchangePeriod s = .next u ∧ (u.ring.ports.get k).t1 = s.now) ∧
  (∀ (k : KPort) (f : Frame) (s : State), heard s k f = true → f.type = 5 → isHead s = true → f.dst = 0 →
    2048 ≤ queueFree s →
    ∃ u, exec (.eventFrame k f) s = .next u ∧
      u.spi.items = s.spi.items ++ [{ kind := 2, tag := 0, src := f.src, bytes := f.payload }]) ∧
  (∀ (k : KPort) (f : Frame) (l : Quad) (s : State), heard s k f = true → f.type = 6 → fieldAt f.payload 0 1 = l.val →
    ∃ u, exec (.faultFrame k f) s = .next u ∧ (u.line l).last = f.src)

/-- Requests and responses on the ring. OD_READ of a value answers the value, OD_WRITE of a staged object puts it in the shadow set,
a write that the checks refuse answers their error and changes nothing; each answer leaves toward its source and is kept. A repeat
gets the kept answer and is not executed, a broadcast read is discarded, OD_RESP takes its request off the list and its payload to
the host. Choices of the model that it meets: logs 11, 52, 53. -/
def Obligations.RingRequests : Prop :=
  (∀ (k : KPort) (f : Frame) (r : ObjRow) (a : Answer) (s : State), asks s k f 2 = true →
    (standing (asked s f) (askOf f) false).isSome = true →
    hasIndex (askOf f).index = true → objRow (askOf f).index (askOf f).sub = some r → r.access ≠ .wo → r.secret = false →
    r.type.size ≠ 0 → (askOf f).off = 0 → r.type.size ≤ fieldAt f.payload 7 2 → fieldAt f.payload 7 2 ≤ 248 →
    a = { err := .ok, data := leInt r.type.size (readInt (asked s f) (askOf f).rq.session r (askOf f).index (askOf f).sub) } →
    ∃ u, exec (.odRead k f) s = .next u ∧ keptAnswer u f a ∧ u.out = (s.sendOwn 4 f.seq f.src (respPayload (askOf f) a)).out ∧
      u.active = s.active ∧ u.shadow = s.shadow ∧ u.pods = s.pods ∧ u.ports = s.ports) ∧
  (∀ (k : KPort) (f : Frame) (role : Role) (r : ObjRow) (s : State), asks s k f 3 = true → s.pfw.on = false →
    writeCheck (asked s f) (askOf f) (fieldAt f.payload 7 2) (f.payload.drop 9) = .ok (role, r) → r.access = .rws →
    ∃ u, exec (.odWrite k f) s = .next u ∧ keptAnswer u f { err := .ok } ∧ u.active = s.active ∧
      u.shadow = s.shadow.put (keyOf (askOf f).index (askOf f).sub) r.dflt (valueOf r (f.payload.drop 9)) ∧
      (mirrored (asked s f) (askOf f) r = false →
        u.out = (s.sendOwn 4 f.seq f.src (respPayload (askOf f) { err := .ok })).out)) ∧
  (∀ (k : KPort) (f : Frame) (e : Err) (s : State), asks s k f 3 = true →
    writeCheck (asked s f) (askOf f) (fieldAt f.payload 7 2) (f.payload.drop 9) = .error e →
    ∃ u, exec (.odWrite k f) s = .next u ∧ keptAnswer u f { err := e } ∧
      u.out = (s.sendOwn 4 f.seq f.src (respPayload (askOf f) { err := e })).out ∧ u.active = s.active ∧
      u.shadow = s.shadow ∧ u.pods = s.pods ∧ u.ports = s.ports) ∧
  (∀ (k : KPort) (f : Frame) (m : Kept) (b : List Byte) (s : State), heard s k f = true → f.dst = s.ring.addr → f.dst ≠ 0xFFF →
    9 ≤ f.payload.length → (s.ring.kept.find? fun m => m.src == f.src && m.seq == f.seq) = some m → m.answered = some b →
    (f.type = 2 → exec (.odRead k f) s = .next ((s.codeErrs f.violations).sendOwn 4 f.seq f.src b)) ∧
    (f.type = 3 → exec (.odWrite k f) s = .next ((s.codeErrs f.violations).sendOwn 4 f.seq f.src b))) ∧
  (∀ (k : KPort) (f : Frame) (s : State), heard s k f = true → f.type = 2 → f.dst = 0xFFF →
    exec (.odRead k f) s = .next (s.codeErrs f.violations)) ∧
  (∀ (k : KPort) (f : Frame) (x : Sent) (s : State), heard s k f = true → f.type = 4 → f.dst = s.ring.addr →
    sentFor s f.src f.seq = some x →
    ∃ u, exec (.odResp k f) s = .next u ∧ u.ring.sent = s.ring.sent.erase x ∧
      u.spi.items = s.spi.items ++ [{ kind := 1, tag := x.tag, src := x.frame.dst, bytes := f.payload }])

/-- A request of the head that has had no response goes once more, and then HW answers (R435); one that OD_RESP answers does
neither. -/
def Obligations.UnansweredRequestIsRepeatedOnce : Prop :=
  (∀ (seq : Nat) (x : Sent) (s : State), (s.ring.sent.find? fun x => x.frame.seq == seq) = some x →
    x.at_ + s.act OD.RING_RESP_TMO * usNs ≤ s.now → x.again = false →
    ∃ u, exec (.ringRespTmo seq) s = .next u ∧ { x with again := true, at_ := s.now } ∈ u.ring.sent ∧
      u.spi.items = s.spi.items ∧ u.out = (s.sendOwn x.frame.type x.frame.seq x.frame.dst x.frame.payload).out) ∧
  (∀ (seq : Nat) (x : Sent) (s : State), (s.ring.sent.find? fun x => x.frame.seq == seq) = some x →
    x.at_ + s.act OD.RING_RESP_TMO * usNs ≤ s.now → x.again = true →
    ∃ u, exec (.ringRespTmo seq) s = .next u ∧ u.ring.sent = s.ring.sent.erase x ∧
      u.spi.items = s.spi.items ++
        [{ kind := 1, tag := x.tag, src := x.frame.dst, bytes := respPayload (requestOf 0 .direct x.frame.payload) { err := .hw } }]) ∧
  (∀ (k : KPort) (f : Frame) (x : Sent) (s : State), heard s k f = true → f.type = 4 → f.dst = s.ring.addr →
    sentFor s f.src f.seq = some x →
    ∃ u, exec (.odResp k f) s = .next u ∧ u.ring.sent = s.ring.sent.erase x ∧
      u.spi.items = s.spi.items ++ [{ kind := 1, tag := x.tag, src := x.frame.dst, bytes := f.payload }] ∧ u.out = s.out)

/-- The head's SPI port: a submission to another hub leaves and is remembered or is refused, items are fetched oldest first, the
last one again, STATUS and IRQ_ACK, a transfer with a bad CRC does nothing but count, and the bytes of a transfer spell its command.
Choices of the model that it meets: logs 11, 54, 118. -/
def Obligations.SpiTransfers : Prop :=
  (∀ (type tag dst : Nat) (p : List Byte) (s : State), spiOn s = true → submitRoom s = true → type = 2 ∨ type = 3 →
    9 ≤ p.length → p.length ≤ 256 → s.hub ≠ .boot → dst ≠ 0 → dst ≠ 0xFFF →
    ∃ u f, exec (.submit type tag dst p (crc16 (spiBytes 1 (submitBody type tag dst p)))) s = .next u ∧ u.spi.refused = false ∧
      u.ring.sent = s.ring.sent ++ [{ tag := tag, frame := f, at_ := s.now }] ∧ f.type = type ∧ f.dst = dst ∧ f.payload = p ∧
      f.seq = s.ring.seq) ∧
  (∀ (type tag dst : Nat) (p : List Byte) (s : State), spiOn s = true → submitRoom s = false →
    ∃ u, exec (.submit type tag dst p (crc16 (spiBytes 1 (submitBody type tag dst p)))) s = .next u ∧ u.spi.refused = true ∧
      u.ring = s.ring) ∧
  (∀ (x : Item) (rest : List Item) (s : State), spiOn s = true → s.spi.items = x :: rest →
    ∃ u, exec (.fetch (crc16 (spiBytes 2 [])) true) s = .next u ∧ u.spi.items = rest ∧ u.spi.last = some x ∧
      u.spi.sdo = sdoBytes s 4 (itemBytes x)) ∧
  (∀ (x : Item) (rest : List Item) (s : State), spiOn s = true → s.spi.items = x :: rest →
    ∃ u, exec (.fetch (crc16 (spiBytes 2 [])) false) s = .next u ∧ u.spi.items = x :: rest ∧ u.spi.sdo = sdoBytes s 4 (itemBytes x)) ∧
  (∀ (x : Item) (s : State), spiOn s = true → s.spi.last = some x →
    ∃ u, exec (.refetch (crc16 (spiBytes 3 []))) s = .next u ∧ u.spi.items = s.spi.items ∧ u.spi.sdo = sdoBytes s 4 (itemBytes x)) ∧
  (∀ s : State, spiOn s = true →
    ∃ u, exec (.status (crc16 (spiBytes 4 []))) s = .next u ∧ u.spi.items = s.spi.items ∧ u.spi.sdo = sdoBytes s 4 (statusData s)) ∧
  (∀ (mask : Nat) (s : State), spiOn s = true →
    ∃ u, exec (.irqAck mask (crc16 (spiBytes 5 (leBytes 2 mask)))) s = .next u ∧ u.ring.irq = s.ring.irq - (s.ring.irq &&& mask)) ∧
  (∀ (i : Instr) (op crc : Nat) (body : List Byte) (s : State), spiOn s = true → transferOf i = some (op, body, crc) →
    crc ≠ crc16 (spiBytes op body) →
    ∃ u, exec i s = .next u ∧ u.spi.badCrc = true ∧ u.spi.items = s.spi.items ∧ u.ring = s.ring ∧
      u.spi.sdo = sdoBytes s (4 + body.length) []) ∧
  (∀ (type tag dst crc : Nat) (p : List Byte) (full : Bool), type < 256 → tag < 256 → dst < 65536 → p.length ≤ 256 → crc < 65536 →
    decodeTransfer full (spiBytes 1 (submitBody type tag dst p) ++ leBytes 2 crc) = some (.submit type tag dst p crc)) ∧
  (∀ (mask crc : Nat) (full : Bool), mask < 65536 → crc < 65536 →
    decodeTransfer full (spiBytes 2 [] ++ leBytes 2 crc) = some (.fetch crc full) ∧
    decodeTransfer full (spiBytes 3 [] ++ leBytes 2 crc) = some (.refetch crc) ∧
    decodeTransfer full (spiBytes 4 [] ++ leBytes 2 crc) = some (.status crc) ∧
    decodeTransfer full (spiBytes 5 (leBytes 2 mask) ++ leBytes 2 crc) = some (.irqAck mask crc))

/-! ## The stream port (chapter 16) -/

/-- Records, blocks and credits: a record with room joins the queue, one without is dropped and counted, a ready block takes a
credit and the next number, a waiting byte flushes, and READY grants or resets credits by the length of its high level. Choices
of the model that it meets: log 103. -/
def Obligations.StreamPort : Prop :=
  (∀ (r : StrRec) (rest : List StrRec) (s : State), s.str.arriving = r :: rest → s.str.en = true → roomFor s r ≤ bufFree s →
    ∃ u, exec .streamRecord s = .next u ∧ u.str.arriving = rest ∧ u.str.queue.getLast? = some { r with since := s.now }) ∧
  (∀ (r : StrRec) (rest : List StrRec) (s : State), s.str.arriving = r :: rest → s.str.en = true → bufFree s < roomFor s r →
    r.type - 1 < s.str.loss.length →
    ∃ u, exec .streamRecord s = .next u ∧ u.str.queue = s.str.queue ∧
      u.str.loss[r.type - 1]? = (s.str.loss[r.type - 1]?).map fun n => n + 1) ∧
  (∀ s : State, blockReady s = true →
    ∃ u, exec .blockSend s = .next u ∧ u.str.block = blockOf s ∧ u.str.bseq = (s.str.bseq + 1) % 65536 ∧
      u.str.credits = s.str.credits - 1 ∧ u.str.blockAt = some s.now) ∧
  (∀ (r : StrRec) (rest : List StrRec) (s : State), s.str.queue = r :: rest → s.str.en = true → bufUsed s < 256 →
    r.since + s.act OD.STR_FLUSH * usNs ≤ s.now →
    ∃ u, exec .streamFlush s = .next u ∧ u.str.flush = true) ∧
  (∀ (ns : Nat) (s : State), s.str.en = true → 20 ≤ ns → ns ≤ 200 → s.str.credits < s.act OD.STR_CREDIT_MAX →
    ∃ u, exec (.readyHighEnd ns) s = .next u ∧ u.str.credits = s.str.credits + 1) ∧
  (∀ (ns : Nat) (s : State), s.str.en = true → 1000 < ns →
    ∃ u, exec (.readyHighEnd ns) s = .next u ∧ u.str.credits = 0 ∧ u.str.bseq = 0)

/-- R521: the journal exporter writes a record only with room for it and a LOSS record, and else waits. -/
def Obligations.JournalExportWaitsForRoom : Prop :=
  (∀ (r : JRec) (s : State), s.str.en = true → s.str.left ≠ 0 → s.str.exportAt ≤ s.now → 44 + 28 ≤ bufFree s →
    jnlFind s s.str.next = some r →
    ∃ u, exec .journalExportRecord s = .next u ∧ u.str.next = (s.str.next + 1) % 2 ^ 32 ∧
      u.str.queue.getLast? = some { type := 4, src := 0x10, time := s.now, body := r.bytes, since := s.now }) ∧
  (∀ s : State, bufFree s < 44 + 28 → exec .journalExportRecord s = .next s)

/-- R522: with LOSS counts pending a record is taken only with 28 bytes more, a LOSS record goes in front and the counts clear. -/
def Obligations.LossRecordGoesInFront : Prop :=
  (∀ (r : StrRec) (rest : List StrRec) (s : State), s.str.arriving = r :: rest → s.str.en = true → lossDue s = true →
    recLen r + 28 ≤ bufFree s →
    ∃ u, exec .streamRecord s = .next u ∧ u.str.queue = s.str.queue ++ [lossRecord s, { r with since := s.now }] ∧
      lossDue u = false) ∧
  (∀ (r : StrRec) (rest : List StrRec) (s : State), s.str.arriving = r :: rest → s.str.en = true → lossDue s = true →
    bufFree s < recLen r + 28 →
    ∃ u, exec .streamRecord s = .next u ∧ u.str.queue = s.str.queue)

/-! ## What is stored, firmware, power loss (chapters 15 and 17) -/

/-- A save, a seal and a firmware check end; a trial that runs out falls back; a power warning begins.
Choices of the model that it meets: logs 12, 38, 123. -/
def Obligations.StoredThingsAndFirmware : Prop :=
  (∀ (img : CfgImage) (s : State), s.cfg.writing = some img →
    ∃ u, exec (.cfgSaveComplete true) s = .next u ∧ u.cfg = s.cfg.putOlder (some img) ∧ u.stat OD.HUB_CFG_STATE = 2) ∧
  (∀ (img : CfgImage) (s : State), s.cfg.writing = some img →
    ∃ u, exec (.cfgSaveComplete false) s = .next u ∧ u.cfg = s.cfg.putOlder none ∧ u.stat OD.HUB_CFG_STATE = 3) ∧
  (∀ (ok : Bool) (i : Fin 64) (x : Sealing) (s : State), s.sealing = some x → x.index = 0x7800 + i.val →
    ∃ u, exec (.sealProgramDone ok) s = .next u ∧ u.sealing = none ∧
      slotsAt u i = slotsAt s i ++ [{ value := x.value, ok := ok }] ∧ ∀ j : Fin 64, j ≠ i → slotsAt u j = slotsAt s j) ∧
  (∀ s : State, s.fw.idle.state = 2 →
    ∃ u, exec .fwCheckDone s = .next u ∧ u.fw.idle.state = imageState s s.fw.idle.image ∧
      (u.fw.idle.sound = true ↔ u.fw.idle.state = 3)) ∧
  (∀ s : State, s.hubUp = true → s.fw.trial = true → s.fw.trialAt + s.act OD.FW_TTRIAL * secNs ≤ s.now →
    ∃ u, exec .fwTrialExpiry s = .next u ∧ u.hub = .reset ∧ u.fw.trial = false ∧ u.fw.selB = (!s.fw.runsB) ∧
      u.power.latch = setBit s.power.latch 8 true) ∧
  (∀ s : State, s.hubUp = true → s.pfw.on = false →
    ∃ u, exec .pfwN s = .next u ∧ u.pfw.on = true ∧ u.pfw.from_ = s.now ∧ u.ring.sent = [] ∧ u.power.sleep = none ∧
      u.stat OD.HUB_PFW_STATE = 1)

/-- R560: 1 ms after the sequence the warning ends with a power record of sub-kind 3, without a reset, and writes are accepted. -/
def Obligations.PowerWarningEnds : Prop :=
  ∀ (d : Nat) (s : State), s.pfw.doneAt = some d → s.pfw.on = true → d + msNs ≤ s.now →
    ∃ u r rest, exec .powerWarningEnd s = .next u ∧ u.jnl.recs = r :: rest ∧ r.kind = 0x16 ∧ r.code = 3 ∧ u.pfw.on = false ∧
      u.hub = s.hub ∧ u.active = s.active ∧ u.pods = s.pods

/-! ## Sessions and COMMIT (chapter 15) -/

/-- Sessions and their challenges, responses, ends. Choices of the model that it meets: logs 2, 34, 45. -/
def Obligations.Sessions : Prop :=
  (∀ (role : Nat) (rq : Requester) (s : State), role ≤ 3 → admitsOrder s rq OD.SES_OPEN 0 role = true →
    (lockOf s (roleOf role)).lockedAt = none → (roleKey s (roleOf role)).isSome = true → s.sessions.length < 8 →
    ∃ u x, exec (.sesOpen role rq) s = .next u ∧ answers u .ok ∧ u.sessions.getLast? = some x ∧ x.role = roleOf role ∧
      x.src = rq.src ∧ x.isOpen = false ∧ x.readAt = none ∧ u.sessions.length = s.sessions.length + 1) ∧
  (∀ (src : Nat) (x : Session) (s : State), serves s 0x7100 2 = true → pendingOf s src = some x → x.challenge.length = 32 →
    ∃ u y, exec (.sesChallenge src) s = .next u ∧
      u.resp = some (.direct, { err := .ok, data := leBytes 2 x.handle ++ x.challenge }) ∧
      sessionOf u x.handle = some y ∧ y.readAt.isSome = true) ∧
  (∀ (rq : Requester) (data key : List Byte) (x : Session) (s : State),
    admits s { rq := rq, index := 0x7100, sub := 3 } data = true → sessionOf s rq.session = some x → x.isOpen = false →
    lapsed s x = false → roleKey s x.role = some key → data = hmac key (sesMessage x) →
    ∃ u y, exec (.sesResponse rq data) s = .next u ∧ answers u .ok ∧ sessionOf u rq.session = some y ∧ y.isOpen = true ∧
      y.role = x.role ∧ (lockOf u x.role).fails = 0) ∧
  (∀ (rq : Requester) (data key : List Byte) (x : Session) (s : State),
    admits s { rq := rq, index := 0x7100, sub := 3 } data = true → sessionOf s rq.session = some x → x.isOpen = false →
    lapsed s x = false → roleKey s x.role = some key → data ≠ hmac key (sesMessage x) →
    ∃ u, exec (.sesResponse rq data) s = .next u ∧ answers u .auth ∧ sessionOf u rq.session = none ∧
      (2 ≤ (lockOf s x.role).fails → (lockOf u x.role).lockedAt = some s.now)) ∧
  (∀ (t : Nat) (x : Session) (s : State), x ∈ s.sessions → x.readAt = some t → x.isOpen = false → t + 10 * secNs ≤ s.now →
    ∃ u, exec .challengeLapse s = .next u ∧ { x with late := true } ∈ u.sessions) ∧
  (∀ (i : Quad) (t : Nat) (s : State), (s.locks.get i).lockedAt = some t → t + 10 * secNs ≤ s.now →
    ∃ u, exec .roleLockEnd s = .next u ∧ (u.locks.get i).lockedAt = none) ∧
  (∀ (h : Nat) (rq : Requester) (s : State), h < 65536 → rq.session = h → admitsOrder s rq OD.SES_CLOSE 0 h = true →
    (sessionOf s h).isSome = true →
    ∃ u, exec (.sesClose h rq) s = .next u ∧ answers u .ok ∧ sessionOf u h = none) ∧
  (∀ (h : Nat) (x : Session) (s : State), sessionOf s h = some x → x.idleFrom + s.act OD.SES_TIMEOUT * secNs ≤ s.now →
    ∃ u, exec (.sesTimeout h) s = .next u ∧ sessionOf u h = none ∧ ∀ g : Nat, g ≠ h → sessionOf u g = sessionOf s g) ∧
  (∀ (v : Nat) (rq : Requester) (s : State), v ≤ 1 → admitsOrder s rq OD.SES_VIEW 0 v = true →
    (sessionOf s rq.session).isSome = true →
    ∃ u y, exec (.sesView v rq) s = .next u ∧ answers u .ok ∧ sessionOf u rq.session = some y ∧ y.shadowView = (v == 1))

/-- COMMIT: accepted for the boundary, applied at once in an idle unit, applied at its boundary.
Choices of the model that it meets: logs 8, 10. -/
def Obligations.CommitAcceptsAndApplies : Prop :=
  (∀ (v : CUnit) (rq : Requester) (s : State), admitsOrder s rq (commitObj v 1) 0 1 = true → commitBusy s v = false →
    unitSet s.shadow v ≠ unitSet s.active v → commitCheck s v (unitSet s.shadow v) = none → unitIdle s v = false →
    ∃ u x, exec (.commit v rq) s = .next u ∧ u.pend = s.pend ++ [x] ∧ x.unit = v ∧ x.set = unitSet s.shadow v ∧
      u.active = s.active) ∧
  (∀ (c : Chan) (rq : Requester) (s : State), admitsOrder s rq (commitObj (.chan c) 1) 0 1 = true →
    commitBusy s (.chan c) = false → unitSet s.shadow (.chan c) ≠ unitSet s.active (.chan c) →
    commitCheck s (.chan c) (unitSet s.shadow (.chan c)) = none → unitIdle s (.chan c) = true → s.pend = [] →
    ownsUnit s (.chan c) = true →
    stateFail s (putUnit s.active (.chan c) (unitSet s.shadow (.chan c))) (.chan c) = none →
    ∃ u, exec (.commit (.chan c) rq) s = .next u ∧ answers u .ok ∧
      u.active = putUnit s.active (.chan c) (unitSet s.shadow (.chan c)) ∧ u.shadow = s.shadow) ∧
  (∀ (v : CUnit) (e : Err) (k : Nat) (rq : Requester) (s : State), admitsOrder s rq (commitObj v 1) 0 1 = true →
    commitBusy s v = false → unitSet s.shadow v ≠ unitSet s.active v → commitCheck s v (unitSet s.shadow v) = some (e, k) →
    ∃ u, exec (.commit v rq) s = .next u ∧ answers u e ∧ u.active = s.active ∧ u.shadow = s.shadow ∧ u.pend = s.pend) ∧
  (∀ (c : Chan) (x : Pend) (rest : List Pend) (t : Nat) (s : State), s.pend = x :: rest → x.unit = .chan c →
    applyDue s x = some t → ownsUnit s (.chan c) = true → stateFail s (putUnit s.active (.chan c) x.set) (.chan c) = none →
    ∃ u, exec (.commitApply (.chan c)) s = .next u ∧ u.pend = rest ∧ u.active = putUnit s.active (.chan c) x.set ∧
      u.stat (commitObj (.chan c) 1) = 2 ∧ (x.told = false → u.resp = some (x.req.via, { err := .ok }))) ∧
  (∀ (v : CUnit) (x : Pend) (rest : List Pend) (t k : Nat) (s : State), s.pend = x :: rest → x.unit = v →
    applyDue s x = some t → ownsUnit s v = true → stateFail s (putUnit s.active v x.set) v = some k →
    ∃ u, exec (.commitApply v) s = .next u ∧ u.pend = rest ∧ u.active = s.active ∧
      (x.told = false → u.resp = some (x.req.via, { err := .state })))

/-- R486: REVERT copies the active set of its unit into the shadow set and answers OK, or BUSY while a COMMIT of the unit waits. -/
def Obligations.RevertCopiesTheActiveSet : Prop :=
  (∀ (v : CUnit) (rq : Requester) (s : State), admitsOrder s rq (commitObj v 1) 0 2 = true →
    (s.pend.any fun x => x.unit == v) = false →
    ∃ u, exec (.revert v rq) s = .next u ∧ answers u .ok ∧ u.shadow = putUnit s.shadow v (unitSet s.active v) ∧
      u.active = s.active) ∧
  (∀ (v : CUnit) (rq : Requester) (s : State), admitsOrder s rq (commitObj v 1) 0 2 = true →
    (s.pend.any fun x => x.unit == v) = true →
    ∃ u, exec (.revert v rq) s = .next u ∧ answers u .busy ∧ u.shadow = s.shadow ∧ u.active = s.active)

/-! ## Accesses and the commands that are writes (chapter 15) -/

/-- An access of the dictionary: not served it does nothing, refused it answers its first error and changes no set and no unit,
under a power warning it answers BUSY; a staged object is written in the shadow set only, an RW object of the hub applies at the
next tick. The same access in an OD_READ or OD_WRITE frame reads the value, writes the staged object. Choices of the
model that it meets: logs 55, 56. -/
def Obligations.ObjectWrites : Prop :=
  (∀ (rq : Requester) (i j : Nat) (d : List Byte) (s : State), serves s i j = false →
    exec (.objectWrite rq i j d) s = .next s) ∧
  (∀ (rq : Requester) (i j : Nat) (d : List Byte) (e : Err) (s : State), serves s i j = true →
    writeCheck s { rq := rq, index := i, sub := j } d.length d = .error e →
    ∃ u, exec (.objectWrite rq i j d) s = .next u ∧ answers u e ∧ u.active = s.active ∧ u.shadow = s.shadow ∧
      u.pods = s.pods ∧ u.ports = s.ports ∧ u.rwNext = s.rwNext) ∧
  (∀ (rq : Requester) (i j : Nat) (d : List Byte) (a : Role × ObjRow) (s : State), serves s i j = true → s.pfw.on = true →
    writeCheck s { rq := rq, index := i, sub := j } d.length d = .ok a →
    ∃ u, exec (.objectWrite rq i j d) s = .next u ∧ answers u .busy ∧ u.active = s.active ∧ u.shadow = s.shadow) ∧
  (∀ (rq : Requester) (i j : Nat) (d : List Byte) (r : ObjRow) (s : State),
    admits s { rq := rq, index := i, sub := j } d = true → objRow i j = some r → r.access = .rws →
    ∃ u, exec (.objectWrite rq i j d) s = .next u ∧ answers u .ok ∧ u.active = s.active ∧
      u.shadow = s.shadow.put (keyOf i j) r.dflt (valueOf r d)) ∧
  (∀ (rq : Requester) (v : Nat) (s : State), v < 65536 → admitsOrder s rq OD.HUB_FLTI_CH 0 v = true →
    ∃ u, exec (.objectWrite rq OD.HUB_FLTI_CH.index OD.HUB_FLTI_CH.sub (objBytes OD.HUB_FLTI_CH.index OD.HUB_FLTI_CH.sub v)) s =
        .next u ∧
      answers u .ok ∧ u.active = s.active ∧ u.rwNext = s.rwNext ++ [(OD.HUB_FLTI_CH.key 0, (v : Int))]) ∧
  (∀ (k : KPort) (f : Frame) (r : ObjRow) (s : State), asks s k f 2 = true → (askOf f).rq.session = 0 →
    hasIndex (askOf f).index = true → objRow (askOf f).index (askOf f).sub = some r → r.access = .rws → r.secret = false → r.mask = none →
    r.type.size ≠ 0 → (askOf f).off = 0 → r.type.size ≤ fieldAt f.payload 7 2 → fieldAt f.payload 7 2 ≤ 248 →
    sessionOf s 0 = none →
    ∃ u, exec (.odRead k f) s = .next u ∧ u.active = s.active ∧ u.shadow = s.shadow ∧ u.resp = some (.ring f.src f.seq,
      { err := .ok, data := leInt r.type.size ((s.active.find (keyOf (askOf f).index (askOf f).sub)).getD r.dflt) })) ∧
  (∀ (k : KPort) (f : Frame) (role : Role) (r : ObjRow) (s : State), asks s k f 3 = true → s.pfw.on = false →
    writeCheck (asked s f) (askOf f) (fieldAt f.payload 7 2) (f.payload.drop 9) = .ok (role, r) → r.access = .rws →
    ∃ u, exec (.odWrite k f) s = .next u ∧ u.resp = some (.ring f.src f.seq, { err := .ok }) ∧ u.active = s.active ∧
      u.shadow = s.shadow.put (keyOf (askOf f).index (askOf f).sub) r.dflt (valueOf r (f.payload.drop 9)))

/-- The commands to a channel: enable set and cleared, and the clear of DAMAGED. Choices of the model that it meets: logs 57,
76. -/
def Obligations.ChannelCommands : Prop :=
  (∀ (c : Chan) (rq : Requester) (s : State), admitsOrder s rq OD.CH_ENABLE c.val 1 = true → hubCh s c ≠ .latched →
    ∃ u, exec (.chEnableSet c rq) s = .next u ∧ answers u .ok ∧ (u.port c).enable = true ∧ u.pods = s.pods) ∧
  (∀ (c : Chan) (rq : Requester) (s : State), admitsOrder s rq OD.CH_ENABLE c.val 1 = true → hubCh s c = .latched →
    (s.port c).enable = true ∨ s.now < coolEnd s c →
    ∃ u, exec (.chEnableSet c rq) s = .next u ∧ answers u .state ∧ u.port c = s.port c ∧ u.pods = s.pods) ∧
  (∀ (c : Chan) (rq : Requester) (s : State), admitsOrder s rq OD.CH_ENABLE c.val 1 = true → hubCh s c = .latched →
    (s.port c).enable = false → coolEnd s c ≤ s.now → (s.port c).trip.set = addCause 0 .sc2 →
    ∃ u, exec (.chEnableSet c rq) s = .next u ∧ answers u .ok ∧ (u.port c).enable = true ∧ (u.port c).trip.retryN = 0) ∧
  (∀ (c : Chan) (rq : Requester) (s : State), admitsOrder s rq OD.CH_ENABLE c.val 0 = true →
    ∃ u, exec (.chEnableClear c rq) s = .next u ∧ answers u .ok ∧ (u.port c).enable = false) ∧
  (∀ (c : Chan) (rq : Requester) (s : State), admitsOrder s rq OD.CH_ENABLE c.val 0 = true →
    (∀ p : Quad, feedOfPre s.active p ≠ some c) →
    ∃ u, exec (.chEnableClear c rq) s = .next u ∧ answers u .ok ∧ (u.port c).enable = false ∧
      ((s.port c).enable = true → (hubCh s c).running = true → (u.port c).down.off = true) ∧ u.pods = s.pods) ∧
  (∀ (p : Pod) (t : Nat), p.st.ch.running = true → p.coll.due = false → p.bothClamped = false → p.turnOff = none →
    (p.commandOff t).st.leaving = true ∧ (p.commandOff t).turnOff = some .normal ∧ (p.commandOff t).st.ch = p.st.ch) ∧
  (∀ (c : Chan) (rq : Requester) (s : State), admitsOrder s rq OD.CH_DMG_CLEAR c.val 1 = true → hubCh s c = .damaged →
    ∃ u, exec (.chDmgClear c rq) s = .next u ∧ answers u .ok ∧ (u.port c).damaged = false ∧ (u.port c).trip.state = .latched ∧
      (u.port c).tLatch = s.now) ∧
  (∀ (c : Chan) (rq : Requester) (s : State), admitsOrder s rq OD.CH_DMG_CLEAR c.val 1 = true → hubCh s c ≠ .damaged →
    ∃ u, exec (.chDmgClear c rq) s = .next u ∧ answers u .state ∧ u.port c = s.port c)

/-- The commands to buses, choppers and fault outputs. Choices of the model that it meets: logs 31, 57, 86, 87. -/
def Obligations.BusAndLineCommands : Prop :=
  (∀ (b : BusId) (rq : Requester) (s : State), admitsOrder s rq OD.BUS_BF_CLEAR b.val 1 = true →
    ∃ u, exec (.busBfClear b rq) s = .next u ∧ answers u .ok ∧ (u.bus b).bf = false ∧
      (u.bus b).bfOn = (s.bus b).bfOn ∧ u.pods = s.pods) ∧
  (∀ (b : BusId) (rq : Requester) (s : State), admitsOrder s rq OD.BUS_XFER_RESUME b.val 1 = true → (s.bus b).xfer = .halted →
    ∃ u, exec (.busXferResume b rq) s = .next u ∧ answers u .ok ∧ (u.bus b).resume = true ∧ (u.bus b).sel = (s.bus b).sel) ∧
  (∀ (d : Quad) (b : BusId) (rq : Requester) (s : State), admitsOrder s rq OD.DIS_REQ d.val 1 = true →
    busOfDis s.active d = some b → s.act OD.DIS_PTARGET d.val ≠ 0 → (s.chop d).req = false →
    ∃ u, exec (.disReqSet d rq) s = .next u ∧ answers u .ok ∧ (u.chop d).req = true ∧ (u.chop d).state = .wait ∧
      (u.bus b).sel = none ∧ (u.bus b).xfer = .steady) ∧
  (∀ (d : Quad) (rq : Requester) (s : State), admitsOrder s rq OD.DIS_REQ d.val 1 = true → busOfDis s.active d = none →
    ∃ u, exec (.disReqSet d rq) s = .next u ∧ answers u .state ∧ u.dis = s.dis) ∧
  (∀ (d : Quad) (rq : Requester) (s : State), admitsOrder s rq OD.DIS_REQ d.val 0 = true →
    ∃ u, exec (.disReqClear d rq) s = .next u ∧ answers u .ok ∧ (u.chop d).req = false ∧
      (u.chop d).state = (s.chop d).state) ∧
  (∀ (d : Quad) (s : State), (busOfDis s.active d).isSome = true → (s.chop d).req = false → (s.chop d).state ≠ .idle →
    ((s.disTick d).chop d).state = .idle ∧ ((s.disTick d).chop d).duty = 0) ∧
  (∀ (x : AB) (rq : Requester) (s : State), admitsOrder s rq OD.HUB_FLTO_ACK x.val 1 = true → fltoCond s x = false →
    fltoHold s x = true → (s.out_ x).held = true →
    ∃ u, exec (.hubFltoAck x rq) s = .next u ∧ answers u .ok ∧ (u.out_ x).asserted = false ∧ (u.out_ x).held = false) ∧
  (∀ (x : AB) (rq : Requester) (s : State), admitsOrder s rq OD.HUB_FLTO_ACK x.val 1 = true → fltoCond s x = true →
    ∃ u, exec (.hubFltoAck x rq) s = .next u ∧ answers u .state ∧ u.flto = s.flto)

/-- The commands to the converters of a pod and to metering. Choices of the model that it meets: logs 28, 57. -/
def Obligations.ConverterAndMeteringCommands : Prop :=
  (∀ (c : Chan) (rq : Requester) (s : State), admitsOrder s rq OD.ADC_CAL c.val 1 = true →
    hubPod s c = .active → hubCh s c = .off → (s.port c).calBusy = false →
    ∃ u, exec (.adcCal c rq) s = .next u ∧ answers u .ok ∧ (u.port c).cal = 1 ∧ (u.port c).down.cal = some 0 ∧
      u.pods = s.pods) ∧
  (∀ (c : Chan) (rq : Requester) (s : State), admitsOrder s rq OD.ADC_CAL c.val 1 = true → hubCh s c = .on →
    ∃ u, exec (.adcCal c rq) s = .next u ∧ answers u .state ∧ u.pods = s.pods) ∧
  (∀ (c : Chan) (k : Nat) (rq : Requester) (s : State), k = 1 ∨ k = 2 → admitsOrder s rq OD.ADC_RECAL c.val k = true →
    hubPod s c = .active → (s.seen c).adc.calibrated = true → (s.port c).calBusy = false →
    ∃ u, exec (.adcRecal c k rq) s = .next u ∧ answers u .ok ∧ (u.port c).recal = 1 ∧ (u.port c).down.cal = some k ∧
      u.pods = s.pods) ∧
  (∀ (c : Chan) (k : Nat) (rq : Requester) (s : State), k = 1 ∨ k = 2 → admitsOrder s rq OD.ADC_RECAL c.val k = true →
    (s.seen c).adc.calibrated = false →
    ∃ u, exec (.adcRecal c k rq) s = .next u ∧ answers u .state ∧ u.pods = s.pods) ∧
  (∀ (rq : Requester) (s : State), admitsOrder s rq OD.MTR_SNAP 0 1 = true → s.snap = none →
    ∃ u, exec (.mtrSnap rq) s = .next u ∧ answers u .ok ∧ u.snap = some (ceilTick (s.now + 2500)) ∧ u.snapLatched = false ∧
      u.stat OD.MTR_SNAP = 1) ∧
  (∀ (T : Nat) (rq : Requester) (s : State), admitsOrder s rq OD.MTR_SNAP 0 1 = true → s.snap = some T →
    ∃ u, exec (.mtrSnap rq) s = .next u ∧ answers u .busy ∧ u.snap = some T) ∧
  (∀ (c : Chan) (m : Nat) (rq : Requester) (s : State), m ≠ 0 → m ≤ 7 → admitsOrder s rq OD.MTR_CLEAR c.val m = true →
    ∃ u, exec (.mtrClear c m rq) s = .next u ∧ answers u .ok ∧ (u.port c).mtr.clearAt = nextTick s.now ∧
      (u.port c).mtr.clearMask = (s.port c).mtr.clearMask ||| m)

/-- The commands to comparators and PWM generators. -/
def Obligations.ComparatorAndPwmCommands : Prop :=
  (∀ (n : Oct) (rq : Requester) (s : State), admitsOrder s rq OD.CMP_TEST n.val 1 = true → s.actB OD.CMP_EN n.val = true →
    routesRunning s n = false → testRunning s n = false → paired s n = false → (s.cell n).holdUntil = none →
    ∃ u, exec (.cmpTieTest n rq) s = .next u ∧ answers u .ok ∧ (u.cell n).test = 1 ∧ (u.cell n).swap = false ∧
      (u.cell n).kept = (s.cell n).out) ∧
  (∀ (n : Oct) (rq : Requester) (s : State), admitsOrder s rq OD.CMP_TEST n.val 2 = true → s.actB OD.CMP_EN n.val = true →
    routesRunning s n = false → testRunning s n = false → paired s n = false → (s.cell n).holdUntil = none →
    ∃ u, exec (.cmpSwapTest n rq) s = .next u ∧ answers u .ok ∧ (u.cell n).test = 1 ∧ (u.cell n).swap = true) ∧
  (∀ (n : Oct) (rq : Requester) (s : State), admitsOrder s rq OD.CMP_TEST n.val 2 = true → s.actB OD.CMP_EN n.val = false →
    ∃ u, exec (.cmpSwapTest n rq) s = .next u ∧ answers u .state ∧ u.cells = s.cells) ∧
  (∀ (n : Oct) (v : Nat) (rq : Requester) (t : Nat) (s : State), v % 2 ^ 16 ≠ 0 → v < 2 ^ 36 →
    admitsOrder (s.at t) rq OD.PWM_WORD n.val v = true → pwmOwned s n = false →
    ∃ u, exec (.pwmWord n v rq t) s = .next u ∧ answers u .ok ∧ (u.gen n).reload = PwmWord.unpack v ∧
      (u.gen n).reloadAt = some (max s.now t + 10) ∧ (u.gen n).word = (s.gen n).word) ∧
  (∀ (n : Oct) (rq : Requester) (s : State), admitsOrder s rq OD.PWM_RUN n.val 1 = true → pwmOwned s n = false →
    (s.gen n).run = false →
    ∃ u, exec (.pwmRunStart n rq) s = .next u ∧ answers u .ok ∧ (u.gen n).run = true ∧
      (u.gen n).startAt = some (nextTick s.now) ∧ (u.gen n).acc = 0) ∧
  (∀ (n : Oct) (rq : Requester) (s : State), admitsOrder s rq OD.PWM_RUN n.val 0 = true → pwmOwned s n = false →
    ∃ u, exec (.pwmRunStop n rq) s = .next u ∧ answers u .ok ∧ (u.gen n).run = false ∧
      (u.gen n).fault = ((s.gen n).fault && s.act OD.PWM_FLTMODE n.val == 1)) ∧
  (∀ (n : Oct) (rq : Requester) (s : State), admitsOrder s rq OD.PWM_FREL n.val 1 = true → faultSource s n = false →
    ∃ u, exec (.pwmFrel n rq) s = .next u ∧ answers u .ok ∧
      (u.gen n).released = ((s.gen n).fault && (s.gen n).run) ∧ (u.gen n).fault = ((s.gen n).fault && (s.gen n).run)) ∧
  (∀ (n : Oct) (rq : Requester) (s : State), admitsOrder s rq OD.PWM_FREL n.val 1 = true → faultSource s n = true →
    ∃ u, exec (.pwmFrel n rq) s = .next u ∧ answers u .state ∧ u.pwm = s.pwm)

/-- The commands to the hub and to the ring. Choices of the model that it meets: logs 42, 57. -/
def Obligations.HubAndRingCommands : Prop :=
  (∀ (rq : Requester) (s : State), admitsOrder s rq OD.HUB_RESET 0 1 = true →
    ∃ u, exec (.hubReset rq) s = .next u ∧ coreResetTo s u 7) ∧
  (∀ (m : Nat) (rq : Requester) (s : State), m < 65536 → admitsOrder s rq OD.HUB_PODSUP_EN 0 m = true →
    (∀ c : Chan, (s.act OD.HUB_PODSUP_EN).testBit c.val = true → m.testBit c.val = false → soleSupply s c = false) →
    ∃ u, exec (.hubPodsupEn m rq) s = .next u ∧ answers u .ok ∧ u.rwNext = s.rwNext ++ [(OD.HUB_PODSUP_EN.key 0, (m : Int))]) ∧
  (∀ (c : Chan) (m : Nat) (rq : Requester) (s : State), m < 65536 → admitsOrder s rq OD.HUB_PODSUP_EN 0 m = true →
    (s.act OD.HUB_PODSUP_EN).testBit c.val = true → m.testBit c.val = false → soleSupply s c = true →
    ∃ u v, exec (.hubPodsupEn m rq) s = .next u ∧ answers u .state ∧
      u.rwNext = s.rwNext ++ [(OD.HUB_PODSUP_EN.key 0, ((v : Nat) : Int))]) ∧
  (∀ (rq : Requester) (s : State), admitsOrder s rq OD.HUB_SLEEP 0 1 = true → s.power.sleep = none → sleepBlock s = 0 →
    ∃ u, exec (.hubSleep rq) s = .next u ∧ answers u .ok ∧ u.power.sleep = some s.now ∧
      ∀ c : Chan, (s.port c).linked = true → (s.port c).own = true → (u.port c).down.ask = .parkRest) ∧
  (∀ (rq : Requester) (s : State), admitsOrder s rq OD.HUB_SLEEP 0 1 = true → sleepBlock s ≠ 0 →
    ∃ u, exec (.hubSleep rq) s = .next u ∧ answers u .state ∧ u.power.sleep = s.power.sleep) ∧
  (∀ (rq : Requester) (s : State), admitsOrder s rq OD.HUB_SLEEP 0 1 = true → s.power.sleep.isSome = true → sleepBlock s = 0 →
    ∃ u, exec (.hubSleep rq) s = .next u ∧ answers u .busy ∧ u.power.sleep = s.power.sleep) ∧
  (∀ (rq : Requester) (s : State), admitsOrder s rq OD.RING_ENUM 0 1 = true → isHead s = true → s.ring.enumAt = none →
    ∃ u, exec (.ringEnum rq) s = .next u ∧ answers u .ok ∧ u.ring.enumAt = some s.now ∧
      u.ring.gen = (s.ring.gen + 1) % 65536 ∧ u.ring.found = []) ∧
  (∀ (rq : Requester) (s : State), admitsOrder s rq OD.RING_MAP_CLEAR 0 1 = true →
    ∃ u, exec (.ringMapClear rq) s = .next u ∧ answers u .ok ∧ u.ring.addrs = []) ∧
  (∀ (k : KPort) (m : Nat) (rq : Requester) (s : State), m < 8 → admitsOrder s rq OD.RING_WAKE 0 m = true →
    m.testBit k.val = true → s.ringUp.testBit k.val = false →
    ∃ u, exec (.ringWake m rq) s = .next u ∧ answers u .ok ∧ (u.ring.ports.get k).toneUntil = some (s.now + 100000)) ∧
  (∀ (rq : Requester) (s : State), admitsOrder s rq OD.HUB_CFG_SAVE 0 1 = true → s.cfg.due = none → s.cfg.writing = none →
    ∃ u, exec (.hubCfgSave rq) s = .next u ∧ answers u .ok ∧ u.cfg.due = some s.now ∧ u.stat OD.HUB_CFG_STATE = 1) ∧
  (∀ (rq : Requester) (s : State), admitsOrder s rq OD.HUB_CFG_DEFAULTS 0 1 = true →
    ∃ u, exec (.hubCfgDefaults rq) s = .next u ∧ answers u .ok ∧ u.active = s.active ∧
      u.shadow = s.shadow.filter fun e => !staged e.1)

/-- The commands to the stream port, to the partner, to the seals and to the firmware slots. Choices of the model that it meets:
logs 38, 39, 43, 44, 57. -/
def Obligations.StreamSealAndFirmwareCommands : Prop :=
  (∀ (rq : Requester) (s : State), admitsOrder s rq OD.STR_EN 0 1 = true → s.str.en = false →
    ∃ u, exec (.strEnSet rq) s = .next u ∧ answers u .ok ∧ u.str.en = true ∧ u.str.enAt = s.now ∧ u.str.credits = 0) ∧
  (∀ (rq : Requester) (s : State), admitsOrder s rq OD.STR_EN 0 0 = true → s.str.en = true →
    ∃ u, exec (.strEnClear rq) s = .next u ∧ answers u .ok ∧ u.str.en = false ∧ u.str.queue = [] ∧ u.str.left = 0) ∧
  (∀ (m : Nat) (c : Chan) (rq : Requester) (s : State), m < 65536 → admitsOrder s rq OD.STR_CAPTURE 0 m = true →
    m.testBit c.val = true →
    ∃ u, exec (.strCapture m rq) s = .next u ∧ answers u .ok ∧ (u.port c).down.capture = true) ∧
  (∀ (n : Nat) (rq : Requester) (s : State), n < 65536 → admitsOrder s rq OD.STR_JNL_EXPORT 0 n = true → s.str.en = true →
    s.str.left = 0 → n ≠ 0 → s.jnl.recs ≠ [] →
    ∃ u, exec (.strJnlExport n rq) s = .next u ∧ answers u .ok ∧ u.str.left = n ∧ u.str.exportAt = s.now) ∧
  (∀ (m : Nat) (c : Chan) (rq : Requester) (s : State), m < 65536 → admitsOrder s rq OD.HUB_PX_MOVE 0 m = true →
    m.testBit c.val = true → pxState s = 3 →
    (∀ k : Chan, m.testBit k.val = true → (s.port k).own = true ∧ (s.port k).releasing = none ∧ partnered s k = true ∧
      moveHeld s k = false ∧ ∀ j ∈ groupOf s k, m.testBit j.val = true) →
    ∃ u, exec (.hubPxMove m rq) s = .next u ∧ answers u .ok ∧ (u.port c).releasing = some s.now) ∧
  (∀ (i : Nat) (d : List Byte) (rq : Requester) (s : State), sealedIndex i = true →
    admits s { rq := rq, index := i, sub := 1 } d = true → s.sealing = none → sealValue s (i - 0x7800) ≠ some d →
    (sealBank s i).slots.length < 16 →
    ∃ u, exec (.sealWrite rq i d) s = .next u ∧ answers u .ok ∧ u.sealing = some { index := i, value := d } ∧
      (sealBank u i).slots = (sealBank s i).slots) ∧
  (∀ (i : Nat) (d : List Byte) (rq : Requester) (s : State), sealedIndex i = true →
    admits s { rq := rq, index := i, sub := 1 } d = true → s.sealing = none → sealValue s (i - 0x7800) ≠ some d →
    16 ≤ (sealBank s i).slots.length →
    ∃ u, exec (.sealWrite rq i d) s = .next u ∧ answers u .sealExhausted ∧ u.seals = s.seals ∧ u.sealing = none) ∧
  (∀ (rq : Requester) (s : State), admitsOrder s rq OD.FW_LOAD 0 1 = true → s.fw.trial = false → s.fw.idle.state ≠ 2 →
    ∃ u, exec (.fwLoadBegin rq) s = .next u ∧ answers u .ok ∧ u.fw = s.fw.putIdle { state := 1 }) ∧
  (∀ (off : Nat) (d : List Byte) (rq : Requester) (s : State),
    admits s { rq := rq, index := 0x7200, sub := 7, off := off } d = true → s.fw.idle.state = 1 →
    off = s.fw.idle.image.length → off + d.length ≤ 262144 →
    ∃ u, exec (.fwImage rq off d) s = .next u ∧ answers u .ok ∧ u.fw.idle.image = s.fw.idle.image ++ d ∧ u.fw.idle.state = 1) ∧
  (∀ (rq : Requester) (s : State), admitsOrder s rq OD.FW_LOAD 0 2 = true → s.fw.idle.state = 1 →
    ∃ u, exec (.fwLoadFinish rq) s = .next u ∧ answers u .ok ∧ u.fw.idle.state = 2 ∧ u.fw.idle.image = s.fw.idle.image) ∧
  (∀ (rq : Requester) (s : State), admitsOrder s rq OD.FW_LOAD 0 3 = true → s.fw.trial = false → s.fw.idle.state ≠ 2 →
    ∃ u, exec (.fwLoadCancel rq) s = .next u ∧ answers u .ok ∧ u.fw = s.fw.putIdle {}) ∧
  (∀ (rq : Requester) (s : State), admitsOrder s rq OD.FW_ACTIVATE 0 1 = true → fwBlock s = 0 →
    ∃ u, exec (.fwActivate rq) s = .next u ∧ u.hub = .reset ∧ u.fw.trial = true ∧ u.fw.selB = (!s.fw.runsB) ∧
      u.power.latch = setBit s.power.latch 8 true ∧ podsKept s u) ∧
  (∀ (rq : Requester) (s : State), admitsOrder s rq OD.FW_CONFIRM 0 1 = true → s.fw.trial = true →
    ∃ u, exec (.fwConfirm rq) s = .next u ∧ answers u .ok ∧ u.fw.trial = false)

/-- MIRRORING_COMPLETE and the control tick: the mirroring is then complete; time reaches the next boundary, and no RW write
waits any longer. Where no group is taken over at that tick, the active set is what the waiting RW writes make it, and on a hub
that is up the frame of every port carries its enable, epoch and retry count. Choices of the model that it meets: logs 18,
43. -/
def Obligations.TickAndMirroring : Prop :=
  (∀ s : State, s.hubUp = true → pxState s = 2 → ∃ u, exec .mirroringComplete s = .next u ∧ u.pxReady = true) ∧
  (∀ s : State, ∃ u, exec .controlTick s = .next u ∧ u.now = nextTick s.now ∧ u.rwNext = [] ∧
    ((∀ k : Chan, (s.port k).takeDue = none) →
      u.active = ((s.at (nextTick s.now)).rwApply).active ∧
      (s.hubUp = true → ∀ c : Chan, (u.port c).down.enable = (u.port c).enable ∧ (u.port c).down.epoch = (u.port c).epoch ∧
        (u.port c).down.retryN = (u.port c).trip.retryN)))

/-! ## Numbered rules -/

/-- R27: a frame with a failed CRC is discarded by the pod and by the hub, the hub counts it, and a tick without a valid frame
counts as a missed one. -/
def Obligations.DamagedFramesAreDiscarded : Prop :=
  (∀ (c : Chan) (rx : RxFrame) (s : State), rx.crcOk = false → exec (.commandFrameReceived c rx) s = .next s) ∧
  (∀ (c : Chan) (s : State), (s.port c).linked = true → s.hubUp = true →
    ∃ u, exec (.statusFrameReceived c false) s = .next u ∧ (u.port c).seen = (s.port c).seen ∧
      (u.port c).linkErrors = (s.port c).linkErrors + 1 ∧ u.pods = s.pods) ∧
  (∀ (c : Chan) (smp : TickSamples) (s : State), (s.pod c).st.pod ≠ .unpowered → (s.pod c).st.pod ≠ .linking →
    (s.pod c).gotFrame = false → (s.pod c).cmds = [] → (s.pod c).tickAt < ceilTick s.now →
    ∃ u, exec (.podTickBoundary c smp) s = .next u ∧ (u.pod c).misses = (s.pod c).misses + 1 ∧ (u.pod c).held = (s.pod c).held)

/-- R108: in SEATING one sample with a pin unseated returns the channel to ABSENT, and the next seated pair starts the debounce
from zero. -/
def Obligations.SeatingRestartsFromZero : Prop :=
  ∀ (c : Chan) (s1 s2 : Bool) (t t' : Nat) (s : State), (s.pod c).st.ch = .seating → (s1 && s2) = false →
    (s.pod c).samplesSeat = true →
    ∃ u v, exec (.seatingAbort c s1 s2 t) s = .next u ∧ (u.pod c).st.ch = .absent ∧ (u.pod c).seatFrom = none ∧
      exec (.seatPairSeated c t') u = .next v ∧ (v.pod c).st.ch = .seating ∧
      (v.pod c).seatFrom = some (max (max s.now t) t')

/-! ## The whole block -/

/-- A step runs the command at the front of the queue on the state with the rest of the queue. -/
def Obligations.StepRunsFrontCommand : Prop :=
  ∀ (i : Instr) (rest : List Instr) (s : State), s.pending = i :: rest → step s = exec i { s with pending := rest }

/-- Every command goes on with a next state: nothing the block receives stops it. With no command waiting the block idles, a step
changes nothing; the idling is the model's choice (log 1). -/
def Obligations.NothingStopsTheBlock : Prop :=
  (∀ (i : Instr) (s : State), ∃ u, exec i s = .next u) ∧ (∀ s : State, s.pending = [] → step s = .next s)

/-- Right after reset every object is at its Default, no pod is powered, every gate is held by its depletion clamp, no session is
open. That the hub is in BOOT there and that nothing waits is the model's choice (log 3). -/
def Obligations.ResetState : Prop :=
  (∀ (o : Obj) (i k : Nat), State.reset.actI o i k = o.dflt ∧ State.reset.status.get o i k = o.dflt) ∧
  (∀ c : Chan, (State.reset.pod c).st.pod = .unpowered ∧ (State.reset.pod c).st.ch = .absent ∧
    (State.reset.pod c).st.gIn.phase = .depletion ∧ (State.reset.pod c).st.gOut.phase = .depletion) ∧
  State.reset.sessions = [] ∧ State.reset.hub = .boot ∧ State.reset.pending = [] ∧ storesOk State.reset = true

/-- The invariant holds right after reset. -/
def Obligations.InvAtReset : Prop := Inv State.reset

/-- Every step keeps the invariant: no sealed object ever uses more than its 16 slots, whatever is written to it, and no more
than eight sessions exist. -/
def Obligations.EveryStepKeepsInv : Prop := ∀ s u : State, Inv s → step s = .next u → Inv u

/-- A used slot of the OTP bank stays as it is: every step leaves the slots of every sealed object as they were, or adds one at
the end. -/
def Obligations.UsedSlotsStay : Prop :=
  ∀ (s u : State) (i : Fin 64), step s = .next u → slotsAt s i <+: slotsAt u i ∧ (slotsAt u i).length ≤ (slotsAt s i).length + 1

/-- Frame of the commands at one pod: they change time and that pod, and nothing else of the block. -/
def Obligations.PodEventsChangeOnePod : Prop :=
  ∀ (i : Instr) (c : Chan) (s u : State), podOf i = some c → exec i s = .next u →
    u = { s with now := u.now, pods := u.pods } ∧ s.now ≤ u.now ∧ ∀ d : Chan, d ≠ c → u.pod d = s.pod d

/-- What a pod does at an event of its own depends on that pod and the time alone, on no hub, no frame and no write; the
confirmation of a suspect is the one that needs the link. Choices of the model that it meets: log 5. -/
def Obligations.PodEventsNeedNoHub : Prop :=
  ∀ (i : Instr) (c : Chan) (s s' u u' : State), podOf i = some c → (∀ t, i ≠ .suspectConfirmation c t) → s.pod c = s'.pod c →
    s.now = s'.now → exec i s = .next u → exec i s' = .next u' → u.pod c = u'.pod c

/-- Frame of what the hub keeps: no command touches the queue of waiting commands; but for accesses, losses of the core domain and
the few commands that `touchesVault`, `touchesConfig` and `touchesHost` name, sessions and seals, the configuration sets with what
waits to change them, and stream port, stored configuration, firmware, checkpoint and power state stay as they are. -/
def Obligations.FrameOfWhatTheHubKeeps : Prop :=
  (∀ (i : Instr) (s u : State), exec i s = .next u → u.pending = s.pending) ∧
  (∀ (i : Instr) (s u : State), touchesVault i = false → exec i s = .next u →
    u.sessions = s.sessions ∧ u.seals = s.seals ∧ u.sealing = s.sealing) ∧
  (∀ (i : Instr) (s u : State), touchesConfig i = false → exec i s = .next u →
    u.active = s.active ∧ u.shadow = s.shadow ∧ u.rwNext = s.rwNext ∧ u.pend = s.pend) ∧
  (∀ (i : Instr) (s u : State), touchesHost i = false → exec i s = .next u →
    u.str = s.str ∧ u.cfg = s.cfg ∧ u.fw = s.fw ∧ u.ckpt = s.ckpt ∧ u.hub = s.hub ∧ u.power = s.power)

/-- Frame of the power path: the commands that may change a bus, a converter, a chopper, a PWM generator, a comparator or a fault
line are those that `touchesUnits` names, those that may change a pod are those that `touchesPods` names; what a
reset changes there is in `podsKept`. -/
def Obligations.FrameOfThePowerPath : Prop :=
  (∀ (i : Instr) (s u : State), touchesUnits i = false → exec i s = .next u →
    u.buses = s.buses ∧ u.pre = s.pre ∧ u.dis = s.dis ∧ u.pwm = s.pwm ∧ u.cells = s.cells ∧ u.flto = s.flto ∧ u.flti = s.flti ∧
      u.lines = s.lines) ∧
  (∀ (i : Instr) (s u : State), touchesPods i = false → exec i s = .next u → u.pods = s.pods)

/-- No reset and no step of BOOT or ADOPT moves a gate. -/
def Obligations.NoGateMovesInBoot : Prop :=
  ∀ (i : Instr) (c : Chan) (s u : State),
    i ∈ [Instr.vdd33PowerOnReset, .coreSupplyReset, .alwaysOnPowerOnReset, .resetN, .lockstepMismatch, .watchdog, .thermalReset,
      .bootComplete, .adopt] →
    exec i s = .next u → (u.pod c).st.gIn = (s.pod c).st.gIn ∧ (u.pod c).st.gOut = (s.pod c).st.gOut
end

