-- ==== Sys2Proof/Laws/Bank.lean ====
section
/-! SUPPORT. Reading and writing banks and stores. -/

namespace Sys2Proof

set_option linter.unusedSimpArgs false

@[simp] theorem Bank.get_put_self {α : Type} {n : Nat} (b : Bank α n) (i : Fin n) (x : α) : Bank.get (Bank.put b i x) i = x := by
  simp [Bank.get, Bank.put]

theorem Bank.get_put_other {α : Type} {n : Nat} (b : Bank α n) (i j : Fin n) (x : α) (h : i ≠ j) :
    Bank.get (Bank.put b i x) j = Bank.get b j := by
  have : i.val ≠ j.val := fun e => h (Fin.ext e)
  simp [Bank.get, Bank.put, Vector.getElem_set, this]

@[simp] theorem Bank.get_upd_self {α : Type} {n : Nat} (b : Bank α n) (i : Fin n) (f : α → α) :
    Bank.get (Bank.upd b i f) i = f (Bank.get b i) := by
  simp [Bank.upd]

theorem Bank.get_upd_other {α : Type} {n : Nat} (b : Bank α n) (i j : Fin n) (f : α → α) (h : i ≠ j) :
    Bank.get (Bank.upd b i f) j = Bank.get b j := by
  simp [Bank.upd, Bank.get_put_other, h]

@[simp] theorem Bank.get_fill {α : Type} {n : Nat} (x : α) (i : Fin n) : Bank.get (Bank.fill n x) i = x := by
  simp [Bank.get, Bank.fill]

@[simp] theorem Bank.get_all {α : Type} {n : Nat} (b : Bank α n) (f : α → α) (i : Fin n) : Bank.get (Bank.all b f) i = f (Bank.get b i) := by
  simp [Bank.get, Bank.all]

/-! ## Stores -/

/-- Every key of a store lies above `k`. -/
def Store.above (k : Nat) (m : Store) : Prop := ∀ e, e ∈ m → k < e.1

theorem Store.sorted_cons (k : Nat) (v : Int) (m : Store) : Store.sorted ((k, v) :: m) = true ↔ Store.above k m ∧ Store.sorted m = true := by
  induction m generalizing k v with
  | nil => simp [Store.sorted, Store.above]
  | cons e r ih =>
    obtain ⟨k', v'⟩ := e
    have step : Store.sorted ((k, v) :: (k', v') :: r) = (decide (k < k') && Store.sorted ((k', v') :: r)) := rfl
    rw [step, Bool.and_eq_true, decide_eq_true_eq]
    constructor
    · intro h
      refine ⟨?_, h.2⟩
      intro e he
      rcases List.mem_cons.mp he with he | he
      · subst he; exact h.1
      · exact Nat.lt_trans h.1 (((ih k' v').mp h.2).1 e he)
    · intro h
      exact ⟨h.1 (k', v') (by simp), h.2⟩

theorem Store.mem_insert (m : Store) (k : Nat) (v : Int) (e : Nat × Int) : e ∈ Store.insert m k v → e = (k, v) ∨ e ∈ m := by
  induction m with
  | nil => simp [Store.insert]
  | cons x r ih =>
    obtain ⟨k', v'⟩ := x
    simp only [Store.insert]
    split
    · intro h; rcases List.mem_cons.mp h with h | h
      · exact .inl h
      · exact .inr (List.mem_cons_of_mem _ h)
    · split
      · intro h; rcases List.mem_cons.mp h with h | h
        · exact .inl h
        · exact .inr h
      · intro h; rcases List.mem_cons.mp h with h | h
        · exact .inr (h ▸ List.mem_cons_self)
        · rcases ih h with h | h
          · exact .inl h
          · exact .inr (List.mem_cons_of_mem _ h)

theorem Store.mem_erase (m : Store) (k : Nat) (e : Nat × Int) : e ∈ Store.erase m k → e ∈ m := by
  induction m with
  | nil => simp [Store.erase]
  | cons x r ih =>
    obtain ⟨k', v'⟩ := x
    simp only [Store.erase]
    split
    · exact List.mem_cons_of_mem _
    · intro h; rcases List.mem_cons.mp h with h | h
      · exact h ▸ List.mem_cons_self
      · exact List.mem_cons_of_mem _ (ih h)

theorem Store.sorted_insert (m : Store) (k : Nat) (v : Int) (h : Store.sorted m = true) : Store.sorted (Store.insert m k v) = true := by
  induction m with
  | nil => rfl
  | cons x r ih =>
    obtain ⟨k', v'⟩ := x
    have hr := (Store.sorted_cons k' v' r).mp h
    simp only [Store.insert]
    split
    · rename_i hk; subst hk; exact (Store.sorted_cons _ _ _).mpr hr
    · split
      · rename_i hlt
        refine (Store.sorted_cons _ _ _).mpr ⟨?_, h⟩
        intro e he
        rcases List.mem_cons.mp he with he | he
        · subst he; exact hlt
        · exact Nat.lt_trans hlt (hr.1 e he)
      · rename_i hne hnl
        refine (Store.sorted_cons _ _ _).mpr ⟨?_, ih hr.2⟩
        intro e he
        rcases Store.mem_insert r k v e he with he | he
        · subst he; exact Nat.lt_of_le_of_ne (Nat.le_of_not_lt hnl) hne
        · exact hr.1 e he

theorem Store.sorted_erase (m : Store) (k : Nat) (h : Store.sorted m = true) : Store.sorted (Store.erase m k) = true := by
  induction m with
  | nil => rfl
  | cons x r ih =>
    obtain ⟨k', v'⟩ := x
    have hr := (Store.sorted_cons k' v' r).mp h
    simp only [Store.erase]
    split
    · exact hr.2
    · refine (Store.sorted_cons _ _ _).mpr ⟨?_, ih hr.2⟩
      intro e he
      exact hr.1 e (Store.mem_erase r k e he)

/-- Writing an object keeps the canonical form. -/
theorem Store.sorted_put (m : Store) (k : Nat) (d v : Int) (h : Store.sorted m = true) : Store.sorted (Store.put m k d v) = true := by
  unfold Store.put
  split
  · exact Store.sorted_erase m k h
  · exact Store.sorted_insert m k v h

theorem Store.find_insert_self (m : Store) (k : Nat) (v : Int) : Store.find (Store.insert m k v) k = some v := by
  induction m with
  | nil => simp [Store.insert, Store.find]
  | cons e r ih =>
    obtain ⟨k', v'⟩ := e
    simp only [Store.insert]
    split
    · simp [Store.find]
    · split
      · simp [Store.find]
      · simp [Store.find, *]

theorem Store.find_insert_other (m : Store) (k j : Nat) (v : Int) (h : k ≠ j) :
    Store.find (Store.insert m k v) j = Store.find m j := by
  induction m with
  | nil => simp [Store.insert, Store.find, h]
  | cons e r ih =>
    obtain ⟨k', v'⟩ := e
    simp only [Store.insert]
    split
    · rename_i hk; subst hk; simp [Store.find, h]
    · split
      · simp [Store.find, h]
      · simp [Store.find, ih]

theorem Store.find_erase_other (m : Store) (k j : Nat) (h : k ≠ j) : Store.find (Store.erase m k) j = Store.find m j := by
  induction m with
  | nil => rfl
  | cons e r ih =>
    obtain ⟨k', v'⟩ := e
    simp only [Store.erase]
    split
    · rename_i hk; subst hk; simp [Store.find, h]
    · simp [Store.find, ih]

theorem Store.find_above (m : Store) (k : Nat) (h : Store.above k m) : Store.find m k = none := by
  induction m with
  | nil => rfl
  | cons e r ih =>
    obtain ⟨k', v'⟩ := e
    have h1 : k < k' := h (k', v') (by simp)
    have h2 : k' ≠ k := by omega
    simp only [Store.find, if_neg h2]
    exact ih (fun x hx => h x (List.mem_cons_of_mem _ hx))

theorem Store.find_erase_self (m : Store) (k : Nat) (h : Store.sorted m = true) : Store.find (Store.erase m k) k = none := by
  induction m with
  | nil => rfl
  | cons e r ih =>
    obtain ⟨k', v'⟩ := e
    have hs := (Store.sorted_cons k' v' r).mp h
    simp only [Store.erase]
    split
    · rename_i hk; subst hk; exact Store.find_above r _ hs.1
    · rename_i hk; simp [Store.find, hk, ih hs.2]

/-- Reading another object than the one written. -/
theorem Store.find_put_other (m : Store) (k j : Nat) (d v : Int) (h : k ≠ j) : Store.find (Store.put m k d v) j = Store.find m j := by
  unfold Store.put; split
  · exact Store.find_erase_other m k j h
  · exact Store.find_insert_other m k j v h

/-- Reading an object that was written with a value other than its default. -/
theorem Store.get_set_self (m : Store) (o : Obj) (i k : Nat) (v : Int) (h : v ≠ o.dflt) : Store.get (Store.set m o i v k) o i k = v := by
  unfold Store.get Store.set Store.put
  rw [if_neg h, Store.find_insert_self]; rfl

/-- Reading an object that was written, in a store in canonical form. -/
theorem Store.get_set_sorted (m : Store) (o : Obj) (i k : Nat) (v : Int) (h : Store.sorted m = true) :
    Store.get (Store.set m o i v k) o i k = v := by
  by_cases hv : v = o.dflt
  · unfold Store.get Store.set Store.put
    rw [if_pos hv, Store.find_erase_self _ _ h]; exact hv.symm
  · exact Store.get_set_self m o i k v hv

end Sys2Proof
end

