-- ==== Sys2Proof/Laws/State.lean ====
section
/-! SUPPORT. What each plain update of the state leaves as it was, and what it changes. -/

namespace Sys2Proof.Machine

/-! `State.at` -/

@[simp] theorem State.at_fresh (s : State) (t : Nat) : (s.at t).fresh = s.fresh := rfl
@[simp] theorem State.at_pending (s : State) (t : Nat) : (s.at t).pending = s.pending := rfl
@[simp] theorem State.at_active (s : State) (t : Nat) : (s.at t).active = s.active := rfl
@[simp] theorem State.at_shadow (s : State) (t : Nat) : (s.at t).shadow = s.shadow := rfl
@[simp] theorem State.at_status (s : State) (t : Nat) : (s.at t).status = s.status := rfl
@[simp] theorem State.at_pods (s : State) (t : Nat) : (s.at t).pods = s.pods := rfl
@[simp] theorem State.at_ports (s : State) (t : Nat) : (s.at t).ports = s.ports := rfl
@[simp] theorem State.at_buses (s : State) (t : Nat) : (s.at t).buses = s.buses := rfl
@[simp] theorem State.at_pre (s : State) (t : Nat) : (s.at t).pre = s.pre := rfl
@[simp] theorem State.at_dis (s : State) (t : Nat) : (s.at t).dis = s.dis := rfl
@[simp] theorem State.at_jnl (s : State) (t : Nat) : (s.at t).jnl = s.jnl := rfl
@[simp] theorem State.at_pwm (s : State) (t : Nat) : (s.at t).pwm = s.pwm := rfl
@[simp] theorem State.at_cells (s : State) (t : Nat) : (s.at t).cells = s.cells := rfl
@[simp] theorem State.at_rdyLost (s : State) (t : Nat) : (s.at t).rdyLost = s.rdyLost := rfl
@[simp] theorem State.at_hub (s : State) (t : Nat) : (s.at t).hub = s.hub := rfl
@[simp] theorem State.at_flto (s : State) (t : Nat) : (s.at t).flto = s.flto := rfl
@[simp] theorem State.at_flti (s : State) (t : Nat) : (s.at t).flti = s.flti := rfl
@[simp] theorem State.at_lines (s : State) (t : Nat) : (s.at t).lines = s.lines := rfl
@[simp] theorem State.at_out (s : State) (t : Nat) : (s.at t).out = s.out := rfl
@[simp] theorem State.at_ringUp (s : State) (t : Nat) : (s.at t).ringUp = s.ringUp := rfl
@[simp] theorem State.at_str (s : State) (t : Nat) : (s.at t).str = s.str := rfl
@[simp] theorem State.at_snap (s : State) (t : Nat) : (s.at t).snap = s.snap := rfl
@[simp] theorem State.at_snapLatched (s : State) (t : Nat) : (s.at t).snapLatched = s.snapLatched := rfl
@[simp] theorem State.at_hkAt (s : State) (t : Nat) : (s.at t).hkAt = s.hkAt := rfl
@[simp] theorem State.at_hkFrom (s : State) (t : Nat) : (s.at t).hkFrom = s.hkFrom := rfl
@[simp] theorem State.at_hkPos (s : State) (t : Nat) : (s.at t).hkPos = s.hkPos := rfl
@[simp] theorem State.at_ckpt (s : State) (t : Nat) : (s.at t).ckpt = s.ckpt := rfl
@[simp] theorem State.at_pfw (s : State) (t : Nat) : (s.at t).pfw = s.pfw := rfl
@[simp] theorem State.at_pend (s : State) (t : Nat) : (s.at t).pend = s.pend := rfl
@[simp] theorem State.at_resp (s : State) (t : Nat) : (s.at t).resp = s.resp := rfl
@[simp] theorem State.at_sessions (s : State) (t : Nat) : (s.at t).sessions = s.sessions := rfl
@[simp] theorem State.at_locks (s : State) (t : Nat) : (s.at t).locks = s.locks := rfl
@[simp] theorem State.at_seals (s : State) (t : Nat) : (s.at t).seals = s.seals := rfl
@[simp] theorem State.at_sealing (s : State) (t : Nat) : (s.at t).sealing = s.sealing := rfl
@[simp] theorem State.at_cfg (s : State) (t : Nat) : (s.at t).cfg = s.cfg := rfl
@[simp] theorem State.at_ring (s : State) (t : Nat) : (s.at t).ring = s.ring := rfl
@[simp] theorem State.at_spi (s : State) (t : Nat) : (s.at t).spi = s.spi := rfl
@[simp] theorem State.at_power (s : State) (t : Nat) : (s.at t).power = s.power := rfl
@[simp] theorem State.at_fw (s : State) (t : Nat) : (s.at t).fw = s.fw := rfl
@[simp] theorem State.at_rwNext (s : State) (t : Nat) : (s.at t).rwNext = s.rwNext := rfl
@[simp] theorem State.at_pxReady (s : State) (t : Nat) : (s.at t).pxReady = s.pxReady := rfl

/-! `State.updPod` -/

@[simp] theorem State.updPod_now (s : State) (c : Chan) (f : Pod → Pod) : (s.updPod c f).now = s.now := rfl
@[simp] theorem State.updPod_fresh (s : State) (c : Chan) (f : Pod → Pod) : (s.updPod c f).fresh = s.fresh := rfl
@[simp] theorem State.updPod_pending (s : State) (c : Chan) (f : Pod → Pod) : (s.updPod c f).pending = s.pending := rfl
@[simp] theorem State.updPod_active (s : State) (c : Chan) (f : Pod → Pod) : (s.updPod c f).active = s.active := rfl
@[simp] theorem State.updPod_shadow (s : State) (c : Chan) (f : Pod → Pod) : (s.updPod c f).shadow = s.shadow := rfl
@[simp] theorem State.updPod_status (s : State) (c : Chan) (f : Pod → Pod) : (s.updPod c f).status = s.status := rfl
@[simp] theorem State.updPod_ports (s : State) (c : Chan) (f : Pod → Pod) : (s.updPod c f).ports = s.ports := rfl
@[simp] theorem State.updPod_buses (s : State) (c : Chan) (f : Pod → Pod) : (s.updPod c f).buses = s.buses := rfl
@[simp] theorem State.updPod_pre (s : State) (c : Chan) (f : Pod → Pod) : (s.updPod c f).pre = s.pre := rfl
@[simp] theorem State.updPod_dis (s : State) (c : Chan) (f : Pod → Pod) : (s.updPod c f).dis = s.dis := rfl
@[simp] theorem State.updPod_jnl (s : State) (c : Chan) (f : Pod → Pod) : (s.updPod c f).jnl = s.jnl := rfl
@[simp] theorem State.updPod_pwm (s : State) (c : Chan) (f : Pod → Pod) : (s.updPod c f).pwm = s.pwm := rfl
@[simp] theorem State.updPod_cells (s : State) (c : Chan) (f : Pod → Pod) : (s.updPod c f).cells = s.cells := rfl
@[simp] theorem State.updPod_rdyLost (s : State) (c : Chan) (f : Pod → Pod) : (s.updPod c f).rdyLost = s.rdyLost := rfl
@[simp] theorem State.updPod_hub (s : State) (c : Chan) (f : Pod → Pod) : (s.updPod c f).hub = s.hub := rfl
@[simp] theorem State.updPod_flto (s : State) (c : Chan) (f : Pod → Pod) : (s.updPod c f).flto = s.flto := rfl
@[simp] theorem State.updPod_flti (s : State) (c : Chan) (f : Pod → Pod) : (s.updPod c f).flti = s.flti := rfl
@[simp] theorem State.updPod_lines (s : State) (c : Chan) (f : Pod → Pod) : (s.updPod c f).lines = s.lines := rfl
@[simp] theorem State.updPod_out (s : State) (c : Chan) (f : Pod → Pod) : (s.updPod c f).out = s.out := rfl
@[simp] theorem State.updPod_ringUp (s : State) (c : Chan) (f : Pod → Pod) : (s.updPod c f).ringUp = s.ringUp := rfl
@[simp] theorem State.updPod_str (s : State) (c : Chan) (f : Pod → Pod) : (s.updPod c f).str = s.str := rfl
@[simp] theorem State.updPod_snap (s : State) (c : Chan) (f : Pod → Pod) : (s.updPod c f).snap = s.snap := rfl
@[simp] theorem State.updPod_snapLatched (s : State) (c : Chan) (f : Pod → Pod) : (s.updPod c f).snapLatched = s.snapLatched := rfl
@[simp] theorem State.updPod_hkAt (s : State) (c : Chan) (f : Pod → Pod) : (s.updPod c f).hkAt = s.hkAt := rfl
@[simp] theorem State.updPod_hkFrom (s : State) (c : Chan) (f : Pod → Pod) : (s.updPod c f).hkFrom = s.hkFrom := rfl
@[simp] theorem State.updPod_hkPos (s : State) (c : Chan) (f : Pod → Pod) : (s.updPod c f).hkPos = s.hkPos := rfl
@[simp] theorem State.updPod_ckpt (s : State) (c : Chan) (f : Pod → Pod) : (s.updPod c f).ckpt = s.ckpt := rfl
@[simp] theorem State.updPod_pfw (s : State) (c : Chan) (f : Pod → Pod) : (s.updPod c f).pfw = s.pfw := rfl
@[simp] theorem State.updPod_pend (s : State) (c : Chan) (f : Pod → Pod) : (s.updPod c f).pend = s.pend := rfl
@[simp] theorem State.updPod_resp (s : State) (c : Chan) (f : Pod → Pod) : (s.updPod c f).resp = s.resp := rfl
@[simp] theorem State.updPod_sessions (s : State) (c : Chan) (f : Pod → Pod) : (s.updPod c f).sessions = s.sessions := rfl
@[simp] theorem State.updPod_locks (s : State) (c : Chan) (f : Pod → Pod) : (s.updPod c f).locks = s.locks := rfl
@[simp] theorem State.updPod_seals (s : State) (c : Chan) (f : Pod → Pod) : (s.updPod c f).seals = s.seals := rfl
@[simp] theorem State.updPod_sealing (s : State) (c : Chan) (f : Pod → Pod) : (s.updPod c f).sealing = s.sealing := rfl
@[simp] theorem State.updPod_cfg (s : State) (c : Chan) (f : Pod → Pod) : (s.updPod c f).cfg = s.cfg := rfl
@[simp] theorem State.updPod_ring (s : State) (c : Chan) (f : Pod → Pod) : (s.updPod c f).ring = s.ring := rfl
@[simp] theorem State.updPod_spi (s : State) (c : Chan) (f : Pod → Pod) : (s.updPod c f).spi = s.spi := rfl
@[simp] theorem State.updPod_power (s : State) (c : Chan) (f : Pod → Pod) : (s.updPod c f).power = s.power := rfl
@[simp] theorem State.updPod_fw (s : State) (c : Chan) (f : Pod → Pod) : (s.updPod c f).fw = s.fw := rfl
@[simp] theorem State.updPod_rwNext (s : State) (c : Chan) (f : Pod → Pod) : (s.updPod c f).rwNext = s.rwNext := rfl
@[simp] theorem State.updPod_pxReady (s : State) (c : Chan) (f : Pod → Pod) : (s.updPod c f).pxReady = s.pxReady := rfl

/-! `State.updPort` -/

@[simp] theorem State.updPort_now (s : State) (c : Chan) (f : Port → Port) : (s.updPort c f).now = s.now := rfl
@[simp] theorem State.updPort_fresh (s : State) (c : Chan) (f : Port → Port) : (s.updPort c f).fresh = s.fresh := rfl
@[simp] theorem State.updPort_pending (s : State) (c : Chan) (f : Port → Port) : (s.updPort c f).pending = s.pending := rfl
@[simp] theorem State.updPort_active (s : State) (c : Chan) (f : Port → Port) : (s.updPort c f).active = s.active := rfl
@[simp] theorem State.updPort_shadow (s : State) (c : Chan) (f : Port → Port) : (s.updPort c f).shadow = s.shadow := rfl
@[simp] theorem State.updPort_status (s : State) (c : Chan) (f : Port → Port) : (s.updPort c f).status = s.status := rfl
@[simp] theorem State.updPort_pods (s : State) (c : Chan) (f : Port → Port) : (s.updPort c f).pods = s.pods := rfl
@[simp] theorem State.updPort_buses (s : State) (c : Chan) (f : Port → Port) : (s.updPort c f).buses = s.buses := rfl
@[simp] theorem State.updPort_pre (s : State) (c : Chan) (f : Port → Port) : (s.updPort c f).pre = s.pre := rfl
@[simp] theorem State.updPort_dis (s : State) (c : Chan) (f : Port → Port) : (s.updPort c f).dis = s.dis := rfl
@[simp] theorem State.updPort_jnl (s : State) (c : Chan) (f : Port → Port) : (s.updPort c f).jnl = s.jnl := rfl
@[simp] theorem State.updPort_pwm (s : State) (c : Chan) (f : Port → Port) : (s.updPort c f).pwm = s.pwm := rfl
@[simp] theorem State.updPort_cells (s : State) (c : Chan) (f : Port → Port) : (s.updPort c f).cells = s.cells := rfl
@[simp] theorem State.updPort_rdyLost (s : State) (c : Chan) (f : Port → Port) : (s.updPort c f).rdyLost = s.rdyLost := rfl
@[simp] theorem State.updPort_hub (s : State) (c : Chan) (f : Port → Port) : (s.updPort c f).hub = s.hub := rfl
@[simp] theorem State.updPort_flto (s : State) (c : Chan) (f : Port → Port) : (s.updPort c f).flto = s.flto := rfl
@[simp] theorem State.updPort_flti (s : State) (c : Chan) (f : Port → Port) : (s.updPort c f).flti = s.flti := rfl
@[simp] theorem State.updPort_lines (s : State) (c : Chan) (f : Port → Port) : (s.updPort c f).lines = s.lines := rfl
@[simp] theorem State.updPort_out (s : State) (c : Chan) (f : Port → Port) : (s.updPort c f).out = s.out := rfl
@[simp] theorem State.updPort_ringUp (s : State) (c : Chan) (f : Port → Port) : (s.updPort c f).ringUp = s.ringUp := rfl
@[simp] theorem State.updPort_str (s : State) (c : Chan) (f : Port → Port) : (s.updPort c f).str = s.str := rfl
@[simp] theorem State.updPort_snap (s : State) (c : Chan) (f : Port → Port) : (s.updPort c f).snap = s.snap := rfl
@[simp] theorem State.updPort_snapLatched (s : State) (c : Chan) (f : Port → Port) : (s.updPort c f).snapLatched = s.snapLatched := rfl
@[simp] theorem State.updPort_hkAt (s : State) (c : Chan) (f : Port → Port) : (s.updPort c f).hkAt = s.hkAt := rfl
@[simp] theorem State.updPort_hkFrom (s : State) (c : Chan) (f : Port → Port) : (s.updPort c f).hkFrom = s.hkFrom := rfl
@[simp] theorem State.updPort_hkPos (s : State) (c : Chan) (f : Port → Port) : (s.updPort c f).hkPos = s.hkPos := rfl
@[simp] theorem State.updPort_ckpt (s : State) (c : Chan) (f : Port → Port) : (s.updPort c f).ckpt = s.ckpt := rfl
@[simp] theorem State.updPort_pfw (s : State) (c : Chan) (f : Port → Port) : (s.updPort c f).pfw = s.pfw := rfl
@[simp] theorem State.updPort_pend (s : State) (c : Chan) (f : Port → Port) : (s.updPort c f).pend = s.pend := rfl
@[simp] theorem State.updPort_resp (s : State) (c : Chan) (f : Port → Port) : (s.updPort c f).resp = s.resp := rfl
@[simp] theorem State.updPort_sessions (s : State) (c : Chan) (f : Port → Port) : (s.updPort c f).sessions = s.sessions := rfl
@[simp] theorem State.updPort_locks (s : State) (c : Chan) (f : Port → Port) : (s.updPort c f).locks = s.locks := rfl
@[simp] theorem State.updPort_seals (s : State) (c : Chan) (f : Port → Port) : (s.updPort c f).seals = s.seals := rfl
@[simp] theorem State.updPort_sealing (s : State) (c : Chan) (f : Port → Port) : (s.updPort c f).sealing = s.sealing := rfl
@[simp] theorem State.updPort_cfg (s : State) (c : Chan) (f : Port → Port) : (s.updPort c f).cfg = s.cfg := rfl
@[simp] theorem State.updPort_ring (s : State) (c : Chan) (f : Port → Port) : (s.updPort c f).ring = s.ring := rfl
@[simp] theorem State.updPort_spi (s : State) (c : Chan) (f : Port → Port) : (s.updPort c f).spi = s.spi := rfl
@[simp] theorem State.updPort_power (s : State) (c : Chan) (f : Port → Port) : (s.updPort c f).power = s.power := rfl
@[simp] theorem State.updPort_fw (s : State) (c : Chan) (f : Port → Port) : (s.updPort c f).fw = s.fw := rfl
@[simp] theorem State.updPort_rwNext (s : State) (c : Chan) (f : Port → Port) : (s.updPort c f).rwNext = s.rwNext := rfl
@[simp] theorem State.updPort_pxReady (s : State) (c : Chan) (f : Port → Port) : (s.updPort c f).pxReady = s.pxReady := rfl

/-! `State.updBus` -/

@[simp] theorem State.updBus_now (s : State) (b : BusId) (f : Bus → Bus) : (s.updBus b f).now = s.now := rfl
@[simp] theorem State.updBus_fresh (s : State) (b : BusId) (f : Bus → Bus) : (s.updBus b f).fresh = s.fresh := rfl
@[simp] theorem State.updBus_pending (s : State) (b : BusId) (f : Bus → Bus) : (s.updBus b f).pending = s.pending := rfl
@[simp] theorem State.updBus_active (s : State) (b : BusId) (f : Bus → Bus) : (s.updBus b f).active = s.active := rfl
@[simp] theorem State.updBus_shadow (s : State) (b : BusId) (f : Bus → Bus) : (s.updBus b f).shadow = s.shadow := rfl
@[simp] theorem State.updBus_status (s : State) (b : BusId) (f : Bus → Bus) : (s.updBus b f).status = s.status := rfl
@[simp] theorem State.updBus_pods (s : State) (b : BusId) (f : Bus → Bus) : (s.updBus b f).pods = s.pods := rfl
@[simp] theorem State.updBus_ports (s : State) (b : BusId) (f : Bus → Bus) : (s.updBus b f).ports = s.ports := rfl
@[simp] theorem State.updBus_pre (s : State) (b : BusId) (f : Bus → Bus) : (s.updBus b f).pre = s.pre := rfl
@[simp] theorem State.updBus_dis (s : State) (b : BusId) (f : Bus → Bus) : (s.updBus b f).dis = s.dis := rfl
@[simp] theorem State.updBus_jnl (s : State) (b : BusId) (f : Bus → Bus) : (s.updBus b f).jnl = s.jnl := rfl
@[simp] theorem State.updBus_pwm (s : State) (b : BusId) (f : Bus → Bus) : (s.updBus b f).pwm = s.pwm := rfl
@[simp] theorem State.updBus_cells (s : State) (b : BusId) (f : Bus → Bus) : (s.updBus b f).cells = s.cells := rfl
@[simp] theorem State.updBus_rdyLost (s : State) (b : BusId) (f : Bus → Bus) : (s.updBus b f).rdyLost = s.rdyLost := rfl
@[simp] theorem State.updBus_hub (s : State) (b : BusId) (f : Bus → Bus) : (s.updBus b f).hub = s.hub := rfl
@[simp] theorem State.updBus_flto (s : State) (b : BusId) (f : Bus → Bus) : (s.updBus b f).flto = s.flto := rfl
@[simp] theorem State.updBus_flti (s : State) (b : BusId) (f : Bus → Bus) : (s.updBus b f).flti = s.flti := rfl
@[simp] theorem State.updBus_lines (s : State) (b : BusId) (f : Bus → Bus) : (s.updBus b f).lines = s.lines := rfl
@[simp] theorem State.updBus_out (s : State) (b : BusId) (f : Bus → Bus) : (s.updBus b f).out = s.out := rfl
@[simp] theorem State.updBus_ringUp (s : State) (b : BusId) (f : Bus → Bus) : (s.updBus b f).ringUp = s.ringUp := rfl
@[simp] theorem State.updBus_str (s : State) (b : BusId) (f : Bus → Bus) : (s.updBus b f).str = s.str := rfl
@[simp] theorem State.updBus_snap (s : State) (b : BusId) (f : Bus → Bus) : (s.updBus b f).snap = s.snap := rfl
@[simp] theorem State.updBus_snapLatched (s : State) (b : BusId) (f : Bus → Bus) : (s.updBus b f).snapLatched = s.snapLatched := rfl
@[simp] theorem State.updBus_hkAt (s : State) (b : BusId) (f : Bus → Bus) : (s.updBus b f).hkAt = s.hkAt := rfl
@[simp] theorem State.updBus_hkFrom (s : State) (b : BusId) (f : Bus → Bus) : (s.updBus b f).hkFrom = s.hkFrom := rfl
@[simp] theorem State.updBus_hkPos (s : State) (b : BusId) (f : Bus → Bus) : (s.updBus b f).hkPos = s.hkPos := rfl
@[simp] theorem State.updBus_ckpt (s : State) (b : BusId) (f : Bus → Bus) : (s.updBus b f).ckpt = s.ckpt := rfl
@[simp] theorem State.updBus_pfw (s : State) (b : BusId) (f : Bus → Bus) : (s.updBus b f).pfw = s.pfw := rfl
@[simp] theorem State.updBus_pend (s : State) (b : BusId) (f : Bus → Bus) : (s.updBus b f).pend = s.pend := rfl
@[simp] theorem State.updBus_resp (s : State) (b : BusId) (f : Bus → Bus) : (s.updBus b f).resp = s.resp := rfl
@[simp] theorem State.updBus_sessions (s : State) (b : BusId) (f : Bus → Bus) : (s.updBus b f).sessions = s.sessions := rfl
@[simp] theorem State.updBus_locks (s : State) (b : BusId) (f : Bus → Bus) : (s.updBus b f).locks = s.locks := rfl
@[simp] theorem State.updBus_seals (s : State) (b : BusId) (f : Bus → Bus) : (s.updBus b f).seals = s.seals := rfl
@[simp] theorem State.updBus_sealing (s : State) (b : BusId) (f : Bus → Bus) : (s.updBus b f).sealing = s.sealing := rfl
@[simp] theorem State.updBus_cfg (s : State) (b : BusId) (f : Bus → Bus) : (s.updBus b f).cfg = s.cfg := rfl
@[simp] theorem State.updBus_ring (s : State) (b : BusId) (f : Bus → Bus) : (s.updBus b f).ring = s.ring := rfl
@[simp] theorem State.updBus_spi (s : State) (b : BusId) (f : Bus → Bus) : (s.updBus b f).spi = s.spi := rfl
@[simp] theorem State.updBus_power (s : State) (b : BusId) (f : Bus → Bus) : (s.updBus b f).power = s.power := rfl
@[simp] theorem State.updBus_fw (s : State) (b : BusId) (f : Bus → Bus) : (s.updBus b f).fw = s.fw := rfl
@[simp] theorem State.updBus_rwNext (s : State) (b : BusId) (f : Bus → Bus) : (s.updBus b f).rwNext = s.rwNext := rfl
@[simp] theorem State.updBus_pxReady (s : State) (b : BusId) (f : Bus → Bus) : (s.updBus b f).pxReady = s.pxReady := rfl

/-! `State.updPre` -/

@[simp] theorem State.updPre_now (s : State) (p : Quad) (f : Pre → Pre) : (s.updPre p f).now = s.now := rfl
@[simp] theorem State.updPre_fresh (s : State) (p : Quad) (f : Pre → Pre) : (s.updPre p f).fresh = s.fresh := rfl
@[simp] theorem State.updPre_pending (s : State) (p : Quad) (f : Pre → Pre) : (s.updPre p f).pending = s.pending := rfl
@[simp] theorem State.updPre_active (s : State) (p : Quad) (f : Pre → Pre) : (s.updPre p f).active = s.active := rfl
@[simp] theorem State.updPre_shadow (s : State) (p : Quad) (f : Pre → Pre) : (s.updPre p f).shadow = s.shadow := rfl
@[simp] theorem State.updPre_status (s : State) (p : Quad) (f : Pre → Pre) : (s.updPre p f).status = s.status := rfl
@[simp] theorem State.updPre_pods (s : State) (p : Quad) (f : Pre → Pre) : (s.updPre p f).pods = s.pods := rfl
@[simp] theorem State.updPre_ports (s : State) (p : Quad) (f : Pre → Pre) : (s.updPre p f).ports = s.ports := rfl
@[simp] theorem State.updPre_buses (s : State) (p : Quad) (f : Pre → Pre) : (s.updPre p f).buses = s.buses := rfl
@[simp] theorem State.updPre_dis (s : State) (p : Quad) (f : Pre → Pre) : (s.updPre p f).dis = s.dis := rfl
@[simp] theorem State.updPre_jnl (s : State) (p : Quad) (f : Pre → Pre) : (s.updPre p f).jnl = s.jnl := rfl
@[simp] theorem State.updPre_pwm (s : State) (p : Quad) (f : Pre → Pre) : (s.updPre p f).pwm = s.pwm := rfl
@[simp] theorem State.updPre_cells (s : State) (p : Quad) (f : Pre → Pre) : (s.updPre p f).cells = s.cells := rfl
@[simp] theorem State.updPre_rdyLost (s : State) (p : Quad) (f : Pre → Pre) : (s.updPre p f).rdyLost = s.rdyLost := rfl
@[simp] theorem State.updPre_hub (s : State) (p : Quad) (f : Pre → Pre) : (s.updPre p f).hub = s.hub := rfl
@[simp] theorem State.updPre_flto (s : State) (p : Quad) (f : Pre → Pre) : (s.updPre p f).flto = s.flto := rfl
@[simp] theorem State.updPre_flti (s : State) (p : Quad) (f : Pre → Pre) : (s.updPre p f).flti = s.flti := rfl
@[simp] theorem State.updPre_lines (s : State) (p : Quad) (f : Pre → Pre) : (s.updPre p f).lines = s.lines := rfl
@[simp] theorem State.updPre_out (s : State) (p : Quad) (f : Pre → Pre) : (s.updPre p f).out = s.out := rfl
@[simp] theorem State.updPre_ringUp (s : State) (p : Quad) (f : Pre → Pre) : (s.updPre p f).ringUp = s.ringUp := rfl
@[simp] theorem State.updPre_str (s : State) (p : Quad) (f : Pre → Pre) : (s.updPre p f).str = s.str := rfl
@[simp] theorem State.updPre_snap (s : State) (p : Quad) (f : Pre → Pre) : (s.updPre p f).snap = s.snap := rfl
@[simp] theorem State.updPre_snapLatched (s : State) (p : Quad) (f : Pre → Pre) : (s.updPre p f).snapLatched = s.snapLatched := rfl
@[simp] theorem State.updPre_hkAt (s : State) (p : Quad) (f : Pre → Pre) : (s.updPre p f).hkAt = s.hkAt := rfl
@[simp] theorem State.updPre_hkFrom (s : State) (p : Quad) (f : Pre → Pre) : (s.updPre p f).hkFrom = s.hkFrom := rfl
@[simp] theorem State.updPre_hkPos (s : State) (p : Quad) (f : Pre → Pre) : (s.updPre p f).hkPos = s.hkPos := rfl
@[simp] theorem State.updPre_ckpt (s : State) (p : Quad) (f : Pre → Pre) : (s.updPre p f).ckpt = s.ckpt := rfl
@[simp] theorem State.updPre_pfw (s : State) (p : Quad) (f : Pre → Pre) : (s.updPre p f).pfw = s.pfw := rfl
@[simp] theorem State.updPre_pend (s : State) (p : Quad) (f : Pre → Pre) : (s.updPre p f).pend = s.pend := rfl
@[simp] theorem State.updPre_resp (s : State) (p : Quad) (f : Pre → Pre) : (s.updPre p f).resp = s.resp := rfl
@[simp] theorem State.updPre_sessions (s : State) (p : Quad) (f : Pre → Pre) : (s.updPre p f).sessions = s.sessions := rfl
@[simp] theorem State.updPre_locks (s : State) (p : Quad) (f : Pre → Pre) : (s.updPre p f).locks = s.locks := rfl
@[simp] theorem State.updPre_seals (s : State) (p : Quad) (f : Pre → Pre) : (s.updPre p f).seals = s.seals := rfl
@[simp] theorem State.updPre_sealing (s : State) (p : Quad) (f : Pre → Pre) : (s.updPre p f).sealing = s.sealing := rfl
@[simp] theorem State.updPre_cfg (s : State) (p : Quad) (f : Pre → Pre) : (s.updPre p f).cfg = s.cfg := rfl
@[simp] theorem State.updPre_ring (s : State) (p : Quad) (f : Pre → Pre) : (s.updPre p f).ring = s.ring := rfl
@[simp] theorem State.updPre_spi (s : State) (p : Quad) (f : Pre → Pre) : (s.updPre p f).spi = s.spi := rfl
@[simp] theorem State.updPre_power (s : State) (p : Quad) (f : Pre → Pre) : (s.updPre p f).power = s.power := rfl
@[simp] theorem State.updPre_fw (s : State) (p : Quad) (f : Pre → Pre) : (s.updPre p f).fw = s.fw := rfl
@[simp] theorem State.updPre_rwNext (s : State) (p : Quad) (f : Pre → Pre) : (s.updPre p f).rwNext = s.rwNext := rfl
@[simp] theorem State.updPre_pxReady (s : State) (p : Quad) (f : Pre → Pre) : (s.updPre p f).pxReady = s.pxReady := rfl

/-! `State.updDis` -/

@[simp] theorem State.updDis_now (s : State) (d : Quad) (f : Dis → Dis) : (s.updDis d f).now = s.now := rfl
@[simp] theorem State.updDis_fresh (s : State) (d : Quad) (f : Dis → Dis) : (s.updDis d f).fresh = s.fresh := rfl
@[simp] theorem State.updDis_pending (s : State) (d : Quad) (f : Dis → Dis) : (s.updDis d f).pending = s.pending := rfl
@[simp] theorem State.updDis_active (s : State) (d : Quad) (f : Dis → Dis) : (s.updDis d f).active = s.active := rfl
@[simp] theorem State.updDis_shadow (s : State) (d : Quad) (f : Dis → Dis) : (s.updDis d f).shadow = s.shadow := rfl
@[simp] theorem State.updDis_status (s : State) (d : Quad) (f : Dis → Dis) : (s.updDis d f).status = s.status := rfl
@[simp] theorem State.updDis_pods (s : State) (d : Quad) (f : Dis → Dis) : (s.updDis d f).pods = s.pods := rfl
@[simp] theorem State.updDis_ports (s : State) (d : Quad) (f : Dis → Dis) : (s.updDis d f).ports = s.ports := rfl
@[simp] theorem State.updDis_buses (s : State) (d : Quad) (f : Dis → Dis) : (s.updDis d f).buses = s.buses := rfl
@[simp] theorem State.updDis_pre (s : State) (d : Quad) (f : Dis → Dis) : (s.updDis d f).pre = s.pre := rfl
@[simp] theorem State.updDis_jnl (s : State) (d : Quad) (f : Dis → Dis) : (s.updDis d f).jnl = s.jnl := rfl
@[simp] theorem State.updDis_pwm (s : State) (d : Quad) (f : Dis → Dis) : (s.updDis d f).pwm = s.pwm := rfl
@[simp] theorem State.updDis_cells (s : State) (d : Quad) (f : Dis → Dis) : (s.updDis d f).cells = s.cells := rfl
@[simp] theorem State.updDis_rdyLost (s : State) (d : Quad) (f : Dis → Dis) : (s.updDis d f).rdyLost = s.rdyLost := rfl
@[simp] theorem State.updDis_hub (s : State) (d : Quad) (f : Dis → Dis) : (s.updDis d f).hub = s.hub := rfl
@[simp] theorem State.updDis_flto (s : State) (d : Quad) (f : Dis → Dis) : (s.updDis d f).flto = s.flto := rfl
@[simp] theorem State.updDis_flti (s : State) (d : Quad) (f : Dis → Dis) : (s.updDis d f).flti = s.flti := rfl
@[simp] theorem State.updDis_lines (s : State) (d : Quad) (f : Dis → Dis) : (s.updDis d f).lines = s.lines := rfl
@[simp] theorem State.updDis_out (s : State) (d : Quad) (f : Dis → Dis) : (s.updDis d f).out = s.out := rfl
@[simp] theorem State.updDis_ringUp (s : State) (d : Quad) (f : Dis → Dis) : (s.updDis d f).ringUp = s.ringUp := rfl
@[simp] theorem State.updDis_str (s : State) (d : Quad) (f : Dis → Dis) : (s.updDis d f).str = s.str := rfl
@[simp] theorem State.updDis_snap (s : State) (d : Quad) (f : Dis → Dis) : (s.updDis d f).snap = s.snap := rfl
@[simp] theorem State.updDis_snapLatched (s : State) (d : Quad) (f : Dis → Dis) : (s.updDis d f).snapLatched = s.snapLatched := rfl
@[simp] theorem State.updDis_hkAt (s : State) (d : Quad) (f : Dis → Dis) : (s.updDis d f).hkAt = s.hkAt := rfl
@[simp] theorem State.updDis_hkFrom (s : State) (d : Quad) (f : Dis → Dis) : (s.updDis d f).hkFrom = s.hkFrom := rfl
@[simp] theorem State.updDis_hkPos (s : State) (d : Quad) (f : Dis → Dis) : (s.updDis d f).hkPos = s.hkPos := rfl
@[simp] theorem State.updDis_ckpt (s : State) (d : Quad) (f : Dis → Dis) : (s.updDis d f).ckpt = s.ckpt := rfl
@[simp] theorem State.updDis_pfw (s : State) (d : Quad) (f : Dis → Dis) : (s.updDis d f).pfw = s.pfw := rfl
@[simp] theorem State.updDis_pend (s : State) (d : Quad) (f : Dis → Dis) : (s.updDis d f).pend = s.pend := rfl
@[simp] theorem State.updDis_resp (s : State) (d : Quad) (f : Dis → Dis) : (s.updDis d f).resp = s.resp := rfl
@[simp] theorem State.updDis_sessions (s : State) (d : Quad) (f : Dis → Dis) : (s.updDis d f).sessions = s.sessions := rfl
@[simp] theorem State.updDis_locks (s : State) (d : Quad) (f : Dis → Dis) : (s.updDis d f).locks = s.locks := rfl
@[simp] theorem State.updDis_seals (s : State) (d : Quad) (f : Dis → Dis) : (s.updDis d f).seals = s.seals := rfl
@[simp] theorem State.updDis_sealing (s : State) (d : Quad) (f : Dis → Dis) : (s.updDis d f).sealing = s.sealing := rfl
@[simp] theorem State.updDis_cfg (s : State) (d : Quad) (f : Dis → Dis) : (s.updDis d f).cfg = s.cfg := rfl
@[simp] theorem State.updDis_ring (s : State) (d : Quad) (f : Dis → Dis) : (s.updDis d f).ring = s.ring := rfl
@[simp] theorem State.updDis_spi (s : State) (d : Quad) (f : Dis → Dis) : (s.updDis d f).spi = s.spi := rfl
@[simp] theorem State.updDis_power (s : State) (d : Quad) (f : Dis → Dis) : (s.updDis d f).power = s.power := rfl
@[simp] theorem State.updDis_fw (s : State) (d : Quad) (f : Dis → Dis) : (s.updDis d f).fw = s.fw := rfl
@[simp] theorem State.updDis_rwNext (s : State) (d : Quad) (f : Dis → Dis) : (s.updDis d f).rwNext = s.rwNext := rfl
@[simp] theorem State.updDis_pxReady (s : State) (d : Quad) (f : Dis → Dis) : (s.updDis d f).pxReady = s.pxReady := rfl

/-! `State.set` -/

@[simp] theorem State.set_now (s : State) (o : Obj) (i : Nat) (v : Int) (k : Nat) : (s.set o i v k).now = s.now := rfl
@[simp] theorem State.set_fresh (s : State) (o : Obj) (i : Nat) (v : Int) (k : Nat) : (s.set o i v k).fresh = s.fresh := rfl
@[simp] theorem State.set_pending (s : State) (o : Obj) (i : Nat) (v : Int) (k : Nat) : (s.set o i v k).pending = s.pending := rfl
@[simp] theorem State.set_active (s : State) (o : Obj) (i : Nat) (v : Int) (k : Nat) : (s.set o i v k).active = s.active := rfl
@[simp] theorem State.set_shadow (s : State) (o : Obj) (i : Nat) (v : Int) (k : Nat) : (s.set o i v k).shadow = s.shadow := rfl
@[simp] theorem State.set_pods (s : State) (o : Obj) (i : Nat) (v : Int) (k : Nat) : (s.set o i v k).pods = s.pods := rfl
@[simp] theorem State.set_ports (s : State) (o : Obj) (i : Nat) (v : Int) (k : Nat) : (s.set o i v k).ports = s.ports := rfl
@[simp] theorem State.set_buses (s : State) (o : Obj) (i : Nat) (v : Int) (k : Nat) : (s.set o i v k).buses = s.buses := rfl
@[simp] theorem State.set_pre (s : State) (o : Obj) (i : Nat) (v : Int) (k : Nat) : (s.set o i v k).pre = s.pre := rfl
@[simp] theorem State.set_dis (s : State) (o : Obj) (i : Nat) (v : Int) (k : Nat) : (s.set o i v k).dis = s.dis := rfl
@[simp] theorem State.set_jnl (s : State) (o : Obj) (i : Nat) (v : Int) (k : Nat) : (s.set o i v k).jnl = s.jnl := rfl
@[simp] theorem State.set_pwm (s : State) (o : Obj) (i : Nat) (v : Int) (k : Nat) : (s.set o i v k).pwm = s.pwm := rfl
@[simp] theorem State.set_cells (s : State) (o : Obj) (i : Nat) (v : Int) (k : Nat) : (s.set o i v k).cells = s.cells := rfl
@[simp] theorem State.set_rdyLost (s : State) (o : Obj) (i : Nat) (v : Int) (k : Nat) : (s.set o i v k).rdyLost = s.rdyLost := rfl
@[simp] theorem State.set_hub (s : State) (o : Obj) (i : Nat) (v : Int) (k : Nat) : (s.set o i v k).hub = s.hub := rfl
@[simp] theorem State.set_flto (s : State) (o : Obj) (i : Nat) (v : Int) (k : Nat) : (s.set o i v k).flto = s.flto := rfl
@[simp] theorem State.set_flti (s : State) (o : Obj) (i : Nat) (v : Int) (k : Nat) : (s.set o i v k).flti = s.flti := rfl
@[simp] theorem State.set_lines (s : State) (o : Obj) (i : Nat) (v : Int) (k : Nat) : (s.set o i v k).lines = s.lines := rfl
@[simp] theorem State.set_out (s : State) (o : Obj) (i : Nat) (v : Int) (k : Nat) : (s.set o i v k).out = s.out := rfl
@[simp] theorem State.set_ringUp (s : State) (o : Obj) (i : Nat) (v : Int) (k : Nat) : (s.set o i v k).ringUp = s.ringUp := rfl
@[simp] theorem State.set_str (s : State) (o : Obj) (i : Nat) (v : Int) (k : Nat) : (s.set o i v k).str = s.str := rfl
@[simp] theorem State.set_snap (s : State) (o : Obj) (i : Nat) (v : Int) (k : Nat) : (s.set o i v k).snap = s.snap := rfl
@[simp] theorem State.set_snapLatched (s : State) (o : Obj) (i : Nat) (v : Int) (k : Nat) : (s.set o i v k).snapLatched = s.snapLatched := rfl
@[simp] theorem State.set_hkAt (s : State) (o : Obj) (i : Nat) (v : Int) (k : Nat) : (s.set o i v k).hkAt = s.hkAt := rfl
@[simp] theorem State.set_hkFrom (s : State) (o : Obj) (i : Nat) (v : Int) (k : Nat) : (s.set o i v k).hkFrom = s.hkFrom := rfl
@[simp] theorem State.set_hkPos (s : State) (o : Obj) (i : Nat) (v : Int) (k : Nat) : (s.set o i v k).hkPos = s.hkPos := rfl
@[simp] theorem State.set_ckpt (s : State) (o : Obj) (i : Nat) (v : Int) (k : Nat) : (s.set o i v k).ckpt = s.ckpt := rfl
@[simp] theorem State.set_pfw (s : State) (o : Obj) (i : Nat) (v : Int) (k : Nat) : (s.set o i v k).pfw = s.pfw := rfl
@[simp] theorem State.set_pend (s : State) (o : Obj) (i : Nat) (v : Int) (k : Nat) : (s.set o i v k).pend = s.pend := rfl
@[simp] theorem State.set_resp (s : State) (o : Obj) (i : Nat) (v : Int) (k : Nat) : (s.set o i v k).resp = s.resp := rfl
@[simp] theorem State.set_sessions (s : State) (o : Obj) (i : Nat) (v : Int) (k : Nat) : (s.set o i v k).sessions = s.sessions := rfl
@[simp] theorem State.set_locks (s : State) (o : Obj) (i : Nat) (v : Int) (k : Nat) : (s.set o i v k).locks = s.locks := rfl
@[simp] theorem State.set_seals (s : State) (o : Obj) (i : Nat) (v : Int) (k : Nat) : (s.set o i v k).seals = s.seals := rfl
@[simp] theorem State.set_sealing (s : State) (o : Obj) (i : Nat) (v : Int) (k : Nat) : (s.set o i v k).sealing = s.sealing := rfl
@[simp] theorem State.set_cfg (s : State) (o : Obj) (i : Nat) (v : Int) (k : Nat) : (s.set o i v k).cfg = s.cfg := rfl
@[simp] theorem State.set_ring (s : State) (o : Obj) (i : Nat) (v : Int) (k : Nat) : (s.set o i v k).ring = s.ring := rfl
@[simp] theorem State.set_spi (s : State) (o : Obj) (i : Nat) (v : Int) (k : Nat) : (s.set o i v k).spi = s.spi := rfl
@[simp] theorem State.set_power (s : State) (o : Obj) (i : Nat) (v : Int) (k : Nat) : (s.set o i v k).power = s.power := rfl
@[simp] theorem State.set_fw (s : State) (o : Obj) (i : Nat) (v : Int) (k : Nat) : (s.set o i v k).fw = s.fw := rfl
@[simp] theorem State.set_rwNext (s : State) (o : Obj) (i : Nat) (v : Int) (k : Nat) : (s.set o i v k).rwNext = s.rwNext := rfl
@[simp] theorem State.set_pxReady (s : State) (o : Obj) (i : Nat) (v : Int) (k : Nat) : (s.set o i v k).pxReady = s.pxReady := rfl

/-! `State.count` -/

@[simp] theorem State.count_now (s : State) (o : Obj) (i n k : Nat) : (s.count o i n k).now = s.now := rfl
@[simp] theorem State.count_fresh (s : State) (o : Obj) (i n k : Nat) : (s.count o i n k).fresh = s.fresh := rfl
@[simp] theorem State.count_pending (s : State) (o : Obj) (i n k : Nat) : (s.count o i n k).pending = s.pending := rfl
@[simp] theorem State.count_active (s : State) (o : Obj) (i n k : Nat) : (s.count o i n k).active = s.active := rfl
@[simp] theorem State.count_shadow (s : State) (o : Obj) (i n k : Nat) : (s.count o i n k).shadow = s.shadow := rfl
@[simp] theorem State.count_pods (s : State) (o : Obj) (i n k : Nat) : (s.count o i n k).pods = s.pods := rfl
@[simp] theorem State.count_ports (s : State) (o : Obj) (i n k : Nat) : (s.count o i n k).ports = s.ports := rfl
@[simp] theorem State.count_buses (s : State) (o : Obj) (i n k : Nat) : (s.count o i n k).buses = s.buses := rfl
@[simp] theorem State.count_pre (s : State) (o : Obj) (i n k : Nat) : (s.count o i n k).pre = s.pre := rfl
@[simp] theorem State.count_dis (s : State) (o : Obj) (i n k : Nat) : (s.count o i n k).dis = s.dis := rfl
@[simp] theorem State.count_jnl (s : State) (o : Obj) (i n k : Nat) : (s.count o i n k).jnl = s.jnl := rfl
@[simp] theorem State.count_pwm (s : State) (o : Obj) (i n k : Nat) : (s.count o i n k).pwm = s.pwm := rfl
@[simp] theorem State.count_cells (s : State) (o : Obj) (i n k : Nat) : (s.count o i n k).cells = s.cells := rfl
@[simp] theorem State.count_rdyLost (s : State) (o : Obj) (i n k : Nat) : (s.count o i n k).rdyLost = s.rdyLost := rfl
@[simp] theorem State.count_hub (s : State) (o : Obj) (i n k : Nat) : (s.count o i n k).hub = s.hub := rfl
@[simp] theorem State.count_flto (s : State) (o : Obj) (i n k : Nat) : (s.count o i n k).flto = s.flto := rfl
@[simp] theorem State.count_flti (s : State) (o : Obj) (i n k : Nat) : (s.count o i n k).flti = s.flti := rfl
@[simp] theorem State.count_lines (s : State) (o : Obj) (i n k : Nat) : (s.count o i n k).lines = s.lines := rfl
@[simp] theorem State.count_out (s : State) (o : Obj) (i n k : Nat) : (s.count o i n k).out = s.out := rfl
@[simp] theorem State.count_ringUp (s : State) (o : Obj) (i n k : Nat) : (s.count o i n k).ringUp = s.ringUp := rfl
@[simp] theorem State.count_str (s : State) (o : Obj) (i n k : Nat) : (s.count o i n k).str = s.str := rfl
@[simp] theorem State.count_snap (s : State) (o : Obj) (i n k : Nat) : (s.count o i n k).snap = s.snap := rfl
@[simp] theorem State.count_snapLatched (s : State) (o : Obj) (i n k : Nat) : (s.count o i n k).snapLatched = s.snapLatched := rfl
@[simp] theorem State.count_hkAt (s : State) (o : Obj) (i n k : Nat) : (s.count o i n k).hkAt = s.hkAt := rfl
@[simp] theorem State.count_hkFrom (s : State) (o : Obj) (i n k : Nat) : (s.count o i n k).hkFrom = s.hkFrom := rfl
@[simp] theorem State.count_hkPos (s : State) (o : Obj) (i n k : Nat) : (s.count o i n k).hkPos = s.hkPos := rfl
@[simp] theorem State.count_ckpt (s : State) (o : Obj) (i n k : Nat) : (s.count o i n k).ckpt = s.ckpt := rfl
@[simp] theorem State.count_pfw (s : State) (o : Obj) (i n k : Nat) : (s.count o i n k).pfw = s.pfw := rfl
@[simp] theorem State.count_pend (s : State) (o : Obj) (i n k : Nat) : (s.count o i n k).pend = s.pend := rfl
@[simp] theorem State.count_resp (s : State) (o : Obj) (i n k : Nat) : (s.count o i n k).resp = s.resp := rfl
@[simp] theorem State.count_sessions (s : State) (o : Obj) (i n k : Nat) : (s.count o i n k).sessions = s.sessions := rfl
@[simp] theorem State.count_locks (s : State) (o : Obj) (i n k : Nat) : (s.count o i n k).locks = s.locks := rfl
@[simp] theorem State.count_seals (s : State) (o : Obj) (i n k : Nat) : (s.count o i n k).seals = s.seals := rfl
@[simp] theorem State.count_sealing (s : State) (o : Obj) (i n k : Nat) : (s.count o i n k).sealing = s.sealing := rfl
@[simp] theorem State.count_cfg (s : State) (o : Obj) (i n k : Nat) : (s.count o i n k).cfg = s.cfg := rfl
@[simp] theorem State.count_ring (s : State) (o : Obj) (i n k : Nat) : (s.count o i n k).ring = s.ring := rfl
@[simp] theorem State.count_spi (s : State) (o : Obj) (i n k : Nat) : (s.count o i n k).spi = s.spi := rfl
@[simp] theorem State.count_power (s : State) (o : Obj) (i n k : Nat) : (s.count o i n k).power = s.power := rfl
@[simp] theorem State.count_fw (s : State) (o : Obj) (i n k : Nat) : (s.count o i n k).fw = s.fw := rfl
@[simp] theorem State.count_rwNext (s : State) (o : Obj) (i n k : Nat) : (s.count o i n k).rwNext = s.rwNext := rfl
@[simp] theorem State.count_pxReady (s : State) (o : Obj) (i n k : Nat) : (s.count o i n k).pxReady = s.pxReady := rfl

@[simp] theorem State.at_now (s : State) (t : Nat) : (s.at t).now = max s.now t := rfl

/-! Units of the state -/

@[simp] theorem State.updPod_pod_self (s : State) (c : Chan) (f : Pod → Pod) : (s.updPod c f).pod c = f (s.pod c) := by
  simp [State.pod, State.updPod]

theorem State.updPod_pod_other (s : State) (c k : Chan) (f : Pod → Pod) (h : c ≠ k) : (s.updPod c f).pod k = s.pod k := by
  simp [State.pod, State.updPod, Bank.get_upd_other _ _ _ _ h]

@[simp] theorem State.updPort_port_self (s : State) (c : Chan) (f : Port → Port) : (s.updPort c f).port c = f (s.port c) := by
  simp [State.port, State.updPort]

theorem State.updPort_port_other (s : State) (c k : Chan) (f : Port → Port) (h : c ≠ k) : (s.updPort c f).port k = s.port k := by
  simp [State.port, State.updPort, Bank.get_upd_other _ _ _ _ h]

@[simp] theorem State.updBus_bus_self (s : State) (b : BusId) (f : Bus → Bus) : (s.updBus b f).bus b = f (s.bus b) := by
  simp [State.bus, State.updBus]

theorem State.updBus_bus_other (s : State) (b k : BusId) (f : Bus → Bus) (h : b ≠ k) : (s.updBus b f).bus k = s.bus k := by
  simp [State.bus, State.updBus, Bank.get_upd_other _ _ _ _ h]

@[simp] theorem State.at_pod (s : State) (t : Nat) (j : Chan) : (s.at t).pod j = s.pod j := rfl
@[simp] theorem State.at_port (s : State) (t : Nat) (j : Chan) : (s.at t).port j = s.port j := rfl
@[simp] theorem State.at_bus (s : State) (t : Nat) (j : BusId) : (s.at t).bus j = s.bus j := rfl
@[simp] theorem State.updPod_port (s : State) (c : Chan) (f : Pod → Pod) (j : Chan) : (s.updPod c f).port j = s.port j := rfl
@[simp] theorem State.updPod_bus (s : State) (c : Chan) (f : Pod → Pod) (j : BusId) : (s.updPod c f).bus j = s.bus j := rfl
@[simp] theorem State.updPort_pod (s : State) (c : Chan) (f : Port → Port) (j : Chan) : (s.updPort c f).pod j = s.pod j := rfl
@[simp] theorem State.updPort_bus (s : State) (c : Chan) (f : Port → Port) (j : BusId) : (s.updPort c f).bus j = s.bus j := rfl
@[simp] theorem State.updBus_pod (s : State) (b : BusId) (f : Bus → Bus) (j : Chan) : (s.updBus b f).pod j = s.pod j := rfl
@[simp] theorem State.updBus_port (s : State) (b : BusId) (f : Bus → Bus) (j : Chan) : (s.updBus b f).port j = s.port j := rfl
@[simp] theorem State.updPre_pod (s : State) (p : Quad) (f : Pre → Pre) (j : Chan) : (s.updPre p f).pod j = s.pod j := rfl
@[simp] theorem State.updPre_port (s : State) (p : Quad) (f : Pre → Pre) (j : Chan) : (s.updPre p f).port j = s.port j := rfl
@[simp] theorem State.updPre_bus (s : State) (p : Quad) (f : Pre → Pre) (j : BusId) : (s.updPre p f).bus j = s.bus j := rfl
@[simp] theorem State.updDis_pod (s : State) (d : Quad) (f : Dis → Dis) (j : Chan) : (s.updDis d f).pod j = s.pod j := rfl
@[simp] theorem State.updDis_port (s : State) (d : Quad) (f : Dis → Dis) (j : Chan) : (s.updDis d f).port j = s.port j := rfl
@[simp] theorem State.updDis_bus (s : State) (d : Quad) (f : Dis → Dis) (j : BusId) : (s.updDis d f).bus j = s.bus j := rfl
@[simp] theorem State.set_pod (s : State) (o : Obj) (i : Nat) (v : Int) (k : Nat) (j : Chan) : (s.set o i v k).pod j = s.pod j := rfl
@[simp] theorem State.set_port (s : State) (o : Obj) (i : Nat) (v : Int) (k : Nat) (j : Chan) : (s.set o i v k).port j = s.port j := rfl
@[simp] theorem State.set_bus (s : State) (o : Obj) (i : Nat) (v : Int) (k : Nat) (j : BusId) : (s.set o i v k).bus j = s.bus j := rfl
@[simp] theorem State.count_pod (s : State) (o : Obj) (i n k : Nat) (j : Chan) : (s.count o i n k).pod j = s.pod j := rfl
@[simp] theorem State.count_port (s : State) (o : Obj) (i n k : Nat) (j : Chan) : (s.count o i n k).port j = s.port j := rfl
@[simp] theorem State.count_bus (s : State) (o : Obj) (i n k : Nat) (j : BusId) : (s.count o i n k).bus j = s.bus j := rfl

end Sys2Proof.Machine
end

