-- ==== Sys2Proof/Laws/Vault.lean ====
section
/-! SUPPORT. The part of the state that almost no operation touches: the queue of waiting commands, the OTP bank, the seal that is
being programmed, the sessions. -/

namespace Sys2Proof.Machine

set_option linter.unusedSimpArgs false

/-- Queue, OTP bank, running seal, sessions. -/
def State.vault (s : State) : List Instr × Bank SealBank 64 × Option Sealing × List Session := (s.pending, s.seals, s.sealing, s.sessions)

/-- The state that an outcome goes on with. -/
def stateOf (s : State) (r : Result) : State := match r with
  | .next t => t
  | .fault _ => s
  | .refused _ => s

@[simp] theorem stateOf_next (s t : State) : stateOf s (.next t) = t := rfl

@[simp] theorem vault_mk (now : _) (fresh : _) (pending : _) (active : _) (shadow : _) (status : _) (pods : _) (ports : _) (buses : _) (pre : _) (dis : _) (jnl : _) (pwm : _) (cells : _) (rdyLost : _) (hub : _) (flto : _) (flti : _) (lines : _) (out : _) (ringUp : _) (str : _) (snap : _) (snapLatched : _) (hkAt : _) (hkFrom : _) (hkPos : _) (ckpt : _) (pfw : _) (pend : _) (resp : _) (sessions : _) (locks : _) (seals : _) (sealing : _) (cfg : _) (ring : _) (spi : _) (power : _) (fw : _) (rwNext : _) (pxReady : _) :
    State.vault (State.mk now fresh pending active shadow status pods ports buses pre dis jnl pwm cells rdyLost hub flto flti lines out ringUp str snap snapLatched hkAt hkFrom hkPos ckpt pfw pend resp sessions locks seals sealing cfg ring spi power fw rwNext pxReady) = (pending, seals, sealing, sessions) := rfl

theorem vault_fields (s : State) : s.pending = s.vault.1 ∧ s.seals = s.vault.2.1 ∧ s.sealing = s.vault.2.2.1 ∧ s.sessions = s.vault.2.2.2 :=
  ⟨rfl, rfl, rfl, rfl⟩

@[simp] theorem ite_vault (c : Prop) [Decidable c] (a b : State) : (if c then a else b).vault = if c then a.vault else b.vault := by split <;> rfl

@[simp] theorem ite_fst {β : Type} (c : Prop) [Decidable c] (a b : State × β) : (if c then a else b).1 = if c then a.1 else b.1 := by split <;> rfl

@[simp] theorem foldl_vault {α : Type} (f : State → α → State) (h : ∀ s x, (f s x).vault = s.vault) (l : List α) (s : State) :
    (l.foldl f s).vault = s.vault := by
  induction l generalizing s with
  | nil => rfl
  | cons x r ih => simp only [List.foldl]; rw [ih, h]

theorem foldl_fst_vault {α β : Type} (f : State × β → α → State × β) (h : ∀ r x, (f r x).1.vault = r.1.vault) (l : List α) (r : State × β) :
    (l.foldl f r).1.vault = r.1.vault := by
  induction l generalizing r with
  | nil => rfl
  | cons x l ih => simp only [List.foldl]; rw [ih, h]

theorem foldl_snd_vault {α β : Type} (f : β × State → α → β × State) (h : ∀ r x, (f r x).2.vault = r.2.vault) (l : List α) (r : β × State) :
    (l.foldl f r).2.vault = r.2.vault := by
  induction l generalizing r with
  | nil => rfl
  | cons x l ih => simp only [List.foldl]; rw [ih, h]

@[simp] theorem State.updPod_vault (s : State) (c : Chan) (f : Pod → Pod) : (State.updPod s c f).vault = s.vault := by
  unfold State.updPod; simp [vault_fields]
@[simp] theorem State.updPort_vault (s : State) (c : Chan) (f : Port → Port) : (State.updPort s c f).vault = s.vault := by
  unfold State.updPort; simp [vault_fields]
@[simp] theorem State.updBus_vault (s : State) (b : BusId) (f : Bus → Bus) : (State.updBus s b f).vault = s.vault := by
  unfold State.updBus; simp [vault_fields]
@[simp] theorem State.updPre_vault (s : State) (p : Quad) (f : Pre → Pre) : (State.updPre s p f).vault = s.vault := by
  unfold State.updPre; simp [vault_fields]
@[simp] theorem State.updDis_vault (s : State) (d : Quad) (f : Dis → Dis) : (State.updDis s d f).vault = s.vault := by
  unfold State.updDis; simp [vault_fields]
@[simp] theorem State.forChans_vault (s : State) (l : List Chan) (f : State → Chan → State) (h : ∀ s x, (f s x).vault = s.vault) : (State.forChans s l f).vault = s.vault := by
  unfold State.forChans; exact foldl_vault f h l s
@[simp] theorem State.at_vault (s : State) (t : Nat) : (State.at s t).vault = s.vault := by unfold State.at; simp [vault_fields]
@[simp] theorem State.podEvent_vault (s : State) (c : Chan) (t : Nat) (ok : Pod → Nat → Bool) (f : Pod → Nat → Pod) : (State.podEvent s c t ok f).vault = s.vault := by
  unfold State.podEvent; simp [vault_fields]
@[simp] theorem State.set_vault (s : State) (o : Obj) (i : Nat) (v : Int) (k : Nat) : (State.set s o i v k).vault = s.vault := by
  unfold State.set; simp [vault_fields]
@[simp] theorem State.count_vault (s : State) (o : Obj) (i : Nat) (n : Nat) (k : Nat) : (State.count s o i n k).vault = s.vault := by
  unfold State.count; simp [vault_fields]
@[simp] theorem State.count64_vault (s : State) (o : Obj) (i : Nat) (n : Nat) : (State.count64 s o i n).vault = s.vault := by
  unfold State.count64; simp [vault_fields]
@[simp] theorem State.take_vault (s : State) : (State.take s).2.vault = s.vault := by unfold State.take; simp [vault_fields]
@[simp] theorem State.irq_vault (s : State) (bit : Nat) : (State.irq s bit).vault = s.vault := by unfold State.irq; simp [vault_fields]
@[simp] theorem State.push_vault (s : State) (x : Item) : (State.push s x).vault = s.vault := by unfold State.push; simp [vault_fields]
@[simp] theorem State.pushOrDrop_vault (s : State) (x : Item) : (State.pushOrDrop s x).vault = s.vault := by
  unfold State.pushOrDrop; simp [vault_fields]
@[simp] theorem State.sendOn_vault (s : State) (f : Frame) (ports : Nat) : (State.sendOn s f ports).vault = s.vault := by
  unfold State.sendOn; simp [vault_fields]
@[simp] theorem State.sendOwn_vault (s : State) (type seq dst : Nat) (payload : List Byte) : (State.sendOwn s type seq dst payload).vault = s.vault := by
  unfold State.sendOwn; simp [vault_fields]
@[simp] theorem State.nextSeq_vault (s : State) : (State.nextSeq s).vault = s.vault := by unfold State.nextSeq; simp [vault_fields]
@[simp] theorem State.sendEvent_vault (s : State) (r : JRec) : (State.sendEvent s r).vault = s.vault := by
  unfold State.sendEvent; simp [vault_fields]
@[simp] theorem State.journalAt_vault (s : State) (t kind : Nat) (src : JSrc) (code : Nat) (data : List (Nat × Nat)) (held : Bool) (clean : Bool) : (State.journalAt s t kind src code data held clean).vault = s.vault := by
  unfold State.journalAt; simp [vault_fields]
@[simp] theorem State.journal_vault (s : State) (kind : Nat) (src : JSrc) (code : Nat) (data : List (Nat × Nat)) : (State.journal s kind src code data).vault = s.vault := by
  unfold State.journal; simp [vault_fields]
@[simp] theorem State.warn_vault (s : State) (src : JSrc) (code : Nat) (data : List (Nat × Nat)) : (State.warn s src code data).vault = s.vault := by
  unfold State.warn; simp [vault_fields]
theorem execUvloAssert_vault (c : Chan) (vneg : Bool) (mv : Int) (since : Nat) (t : Nat) (s : State) : (stateOf s (execUvloAssert c vneg mv since t s)).vault = s.vault := by
  unfold execUvloAssert; simp [vault_fields]
theorem execUvloClear_vault (c : Chan) (vneg : Bool) (mv : Int) (since : Nat) (t : Nat) (s : State) : (stateOf s (execUvloClear c vneg mv since t s)).vault = s.vault := by
  unfold execUvloClear; simp [vault_fields]
theorem execStackTurnOn_vault (c : Chan) (ic vc : List Raw) (t : Nat) (s : State) : (stateOf s (execStackTurnOn c ic vc t s)).vault = s.vault := by
  unfold execStackTurnOn; simp [vault_fields]
theorem execTurnOnAfterClamp_vault (c : Chan) (ic vc : List Raw) (t : Nat) (s : State) : (stateOf s (execTurnOnAfterClamp c ic vc t s)).vault = s.vault := by
  unfold execTurnOnAfterClamp; simp [vault_fields]
theorem execGateLevelReached_vault (c : Chan) (side : Side) (mv : Int) (t : Nat) (s : State) : (stateOf s (execGateLevelReached c side mv t s)).vault = s.vault := by
  unfold execGateLevelReached; simp [vault_fields]
theorem execStrongHoldEnd_vault (c : Chan) (side : Side) (t : Nat) (s : State) : (stateOf s (execStrongHoldEnd c side t s)).vault = s.vault := by
  unfold execStrongHoldEnd; simp [vault_fields]
theorem execStrongClampEnd_vault (c : Chan) (side : Side) (t : Nat) (s : State) : (stateOf s (execStrongClampEnd c side t s)).vault = s.vault := by
  unfold execStrongClampEnd; simp [vault_fields]
theorem execBoostTimeLimit_vault (c : Chan) (side : Side) (t : Nat) (s : State) : (stateOf s (execBoostTimeLimit c side t s)).vault = s.vault := by
  unfold execBoostTimeLimit; simp [vault_fields]
theorem execSlewLimitExpired_vault (c : Chan) (side : Side) (t : Nat) (s : State) : (stateOf s (execSlewLimitExpired c side t s)).vault = s.vault := by
  unfold execSlewLimitExpired; simp [vault_fields]
theorem execForcedClamp_vault (c : Chan) (side : Side) (t : Nat) (s : State) : (stateOf s (execForcedClamp c side t s)).vault = s.vault := by
  unfold execForcedClamp; simp [vault_fields]
theorem execClampGateFault_vault (c : Chan) (side : Side) (t : Nat) (s : State) : (stateOf s (execClampGateFault c side t s)).vault = s.vault := by
  unfold execClampGateFault; simp [vault_fields]
theorem execBarrierSignalLoss_vault (c : Chan) (t : Nat) (s : State) : (stateOf s (execBarrierSignalLoss c t s)).vault = s.vault := by
  unfold execBarrierSignalLoss; simp [vault_fields]
theorem execHvPowerUp_vault (c : Chan) (vpos vneg : Int) (mid : Nat) (t : Nat) (s : State) : (stateOf s (execHvPowerUp c vpos vneg mid t s)).vault = s.vault := by
  unfold execHvPowerUp; simp [vault_fields]
theorem execHvPowerDown_vault (c : Chan) (t : Nat) (s : State) : (stateOf s (execHvPowerDown c t s)).vault = s.vault := by
  unfold execHvPowerDown; simp [vault_fields]
theorem execSc2Trip_vault (c : Chan) (t : Nat) (s : State) : (stateOf s (execSc2Trip c t s)).vault = s.vault := by
  unfold execSc2Trip; simp [vault_fields]
theorem execSc1Trip_vault (c : Chan) (memberB : Bool) (since : Nat) (t : Nat) (s : State) : (stateOf s (execSc1Trip c memberB since t s)).vault = s.vault := by
  unfold execSc1Trip; simp [vault_fields]
theorem execReverseTrip_vault (c : Chan) (since : Nat) (t : Nat) (s : State) : (stateOf s (execReverseTrip c since t s)).vault = s.vault := by
  unfold execReverseTrip; simp [vault_fields]
theorem execDesatTrip_vault (c : Chan) (side : Side) (since : Nat) (t : Nat) (s : State) : (stateOf s (execDesatTrip c side since t s)).vault = s.vault := by
  unfold execDesatTrip; simp [vault_fields]
theorem execDesatBlankingEnd_vault (c : Chan) (side : Side) (t : Nat) (s : State) : (stateOf s (execDesatBlankingEnd c side t s)).vault = s.vault := by
  unfold execDesatBlankingEnd; simp [vault_fields]
theorem execBusOvTrip_vault (c : Chan) (since : Nat) (t : Nat) (s : State) : (stateOf s (execBusOvTrip c since t s)).vault = s.vault := by
  unfold execBusOvTrip; simp [vault_fields]
theorem execBusUvTrip_vault (c : Chan) (since : Nat) (t : Nat) (s : State) : (stateOf s (execBusUvTrip c since t s)).vault = s.vault := by
  unfold execBusUvTrip; simp [vault_fields]
theorem execCurrentLimitEntry_vault (c : Chan) (memberB : Bool) (negative : Bool) (t : Nat) (s : State) : (stateOf s (execCurrentLimitEntry c memberB negative t s)).vault = s.vault := by
  unfold execCurrentLimitEntry; simp [vault_fields]
theorem execCurrentLimitExit_vault (c : Chan) (t : Nat) (s : State) : (stateOf s (execCurrentLimitExit c t s)).vault = s.vault := by
  unfold execCurrentLimitExit; simp [vault_fields]
theorem execFaultTimerPeriodEnd_vault (c : Chan) (ic vc : List Raw) (t : Nat) (s : State) : (stateOf s (execFaultTimerPeriodEnd c ic vc t s)).vault = s.vault := by
  unfold execFaultTimerPeriodEnd; simp [vault_fields]
theorem execThermalEvaluation_vault (c : Chan) (s : State) : (stateOf s (execThermalEvaluation c s)).vault = s.vault := by
  unfold execThermalEvaluation; simp [vault_fields]
theorem execDieOverTemperature_vault (c : Chan) (t : Nat) (s : State) : (stateOf s (execDieOverTemperature c t s)).vault = s.vault := by
  unfold execDieOverTemperature; simp [vault_fields]
theorem execOutputPresent_vault (c : Chan) (ic vc : List Raw) (t : Nat) (s : State) : (stateOf s (execOutputPresent c ic vc t s)).vault = s.vault := by
  unfold execOutputPresent; simp [vault_fields]
theorem execStackTest_vault (c : Chan) (t : Nat) (s : State) : (stateOf s (execStackTest c t s)).vault = s.vault := by
  unfold execStackTest; simp [vault_fields]
theorem execTieTest_vault (c : Chan) (cmp : PodCmp) (pass : Bool) (t : Nat) (s : State) : (stateOf s (execTieTest c cmp pass t s)).vault = s.vault := by
  unfold execTieTest; simp [vault_fields]
theorem execSuspectConfirmation_vault (c : Chan) (t : Nat) (s : State) : (stateOf s (execSuspectConfirmation c t s)).vault = s.vault := by
  unfold execSuspectConfirmation; simp [vault_fields]
theorem execConfirmationEvaluation_vault (c : Chan) (t : Nat) (s : State) : (stateOf s (execConfirmationEvaluation c t s)).vault = s.vault := by
  unfold execConfirmationEvaluation; simp [vault_fields]
theorem execOnlineSelftestRound_vault (c : Chan) (t : Nat) (s : State) : (stateOf s (execOnlineSelftestRound c t s)).vault = s.vault := by
  unfold execOnlineSelftestRound; simp [vault_fields]
theorem execMemberTestEnd_vault (c : Chan) (cmp : PodCmp) (result : TestResult) (t : Nat) (s : State) : (stateOf s (execMemberTestEnd c cmp result t s)).vault = s.vault := by
  unfold execMemberTestEnd; simp [vault_fields]
theorem execStartEnergyExceeded_vault (c : Chan) (ic vc : List Raw) (t : Nat) (s : State) : (stateOf s (execStartEnergyExceeded c ic vc t s)).vault = s.vault := by
  unfold execStartEnergyExceeded; simp [vault_fields]
theorem execOrphan_vault (c : Chan) (s : State) : (stateOf s (execOrphan c s)).vault = s.vault := by unfold execOrphan; simp [vault_fields]
theorem execHoldWindowEnd_vault (c : Chan) (s : State) : (stateOf s (execHoldWindowEnd c s)).vault = s.vault := by
  unfold execHoldWindowEnd; simp [vault_fields]
theorem execOringReverseBlock_vault (c : Chan) (since : Nat) (t : Nat) (s : State) : (stateOf s (execOringReverseBlock c since t s)).vault = s.vault := by
  unfold execOringReverseBlock; simp [vault_fields]
theorem execOringReverseTrip_vault (c : Chan) (t : Nat) (s : State) : (stateOf s (execOringReverseTrip c t s)).vault = s.vault := by
  unfold execOringReverseTrip; simp [vault_fields]
theorem execOringReentry_vault (c : Chan) (t : Nat) (s : State) : (stateOf s (execOringReentry c t s)).vault = s.vault := by
  unfold execOringReentry; simp [vault_fields]
@[simp] theorem State.updGen_vault (s : State) (n : Oct) (f : Pwm → Pwm) : (State.updGen s n f).vault = s.vault := by
  unfold State.updGen; simp [vault_fields]
@[simp] theorem State.updCell_vault (s : State) (n : Oct) (f : Cell → Cell) : (State.updCell s n f).vault = s.vault := by
  unfold State.updCell; simp [vault_fields]
@[simp] theorem State.pwmStop_vault (s : State) (n : Oct) : (State.pwmStop s n).vault = s.vault := by
  unfold State.pwmStop; simp [vault_fields]
@[simp] theorem State.uncount_vault (s : State) (o : Obj) (i : Nat) : (State.uncount s o i).vault = s.vault := by
  unfold State.uncount; simp [vault_fields]
@[simp] theorem State.untermed_vault (s : State) (n : Oct) (t : Nat) : (State.untermed s n t).vault = s.vault := by
  unfold State.untermed; (try dsimp only); (repeat' split) <;> simp [vault_fields]
@[simp] theorem State.pwmFault_vault (s : State) (n : Oct) : (State.pwmFault s n).vault = s.vault := by
  unfold State.pwmFault; simp [vault_fields]
@[simp] theorem State.faultSee_vault (s : State) (n : Oct) : (State.faultSee s n).vault = s.vault := by
  unfold State.faultSee; simp [vault_fields]
@[simp] theorem State.pwmFaults_vault (s : State) : (State.pwmFaults s).vault = s.vault := by unfold State.pwmFaults; simp [vault_fields]
@[simp] theorem State.mainEnds_vault (s : State) (n : Oct) (t : Nat) : (State.mainEnds s n t).vault = s.vault := by
  unfold State.mainEnds; simp [vault_fields]
@[simp] theorem State.mainStarts_vault (s : State) (n : Oct) (t on p : Nat) (clipped : Bool) : (State.mainStarts s n t on p clipped).vault = s.vault := by
  unfold State.mainStarts; simp [vault_fields]
@[simp] theorem State.period_vault (s : State) (n : Oct) (t : Nat) (emit skip : State → State) (h1 : ∀ s, (emit s).vault = s.vault) (h2 : ∀ s, (skip s).vault = s.vault) : (State.period s n t emit skip).vault = s.vault := by
  unfold State.period; dsimp only; (repeat' split) <;> simp [vault_fields, h1, h2]
@[simp] theorem State.pwmBoundary_vault (s : State) (n : Oct) (t : Nat) (emit skip : State → State) (h1 : ∀ s, (emit s).vault = s.vault) (h2 : ∀ s, (skip s).vault = s.vault) : (State.pwmBoundary s n t emit skip).vault = s.vault := by
  unfold State.pwmBoundary; dsimp only; (repeat' split) <;> simp [vault_fields, h1, h2]
@[simp] theorem State.pwmMid_vault (s : State) (n : Oct) : (State.pwmMid s n).vault = s.vault := by
  unfold State.pwmMid; dsimp only; (repeat' split) <;> simp [vault_fields]
@[simp] theorem State.pwmTerminate_vault (s : State) (n : Oct) (t : Nat) : (State.pwmTerminate s n t).vault = s.vault := by
  unfold State.pwmTerminate; (try dsimp only); (repeat' split) <;> simp [vault_fields]
@[simp] theorem State.pwmRelease_vault (s : State) (n : Oct) : (State.pwmRelease s n).vault = s.vault := by
  unfold State.pwmRelease; simp [vault_fields]
@[simp] theorem State.lastReload_vault (s : State) (n : Oct) (t : Nat) : (State.lastReload s n t).vault = s.vault := by
  unfold State.lastReload; (try dsimp only); (repeat' split) <;> simp [vault_fields]
@[simp] theorem State.pwmRun_vault (s : State) (n : Oct) (on : Bool) : (State.pwmRun s n on).1.vault = s.vault := by
  unfold State.pwmRun; (try dsimp only); (repeat' split) <;> simp [vault_fields]
@[simp] theorem State.pwmWord_vault (s : State) (n : Oct) (v : Nat) : (State.pwmWord s n v).1.vault = s.vault := by
  unfold State.pwmWord; dsimp only; (repeat' split) <;> simp [vault_fields]
@[simp] theorem State.pwmFrel_vault (s : State) (n : Oct) : (State.pwmFrel s n).1.vault = s.vault := by
  unfold State.pwmFrel; (try dsimp only); (repeat' split) <;> simp [vault_fields]
@[simp] theorem State.cellInit_vault (s : State) (n : Oct) : (State.cellInit s n).vault = s.vault := by
  unfold State.cellInit; simp [vault_fields]
@[simp] theorem State.cellOff_vault (s : State) (n : Oct) : (State.cellOff s n).vault = s.vault := by
  unfold State.cellOff; simp [vault_fields]
@[simp] theorem State.cellsPower_vault (s : State) : (State.cellsPower s).vault = s.vault := by unfold State.cellsPower; simp [vault_fields]
@[simp] theorem State.cmpCapture_vault (s : State) (n : Oct) (active : Bool) (t : Nat) : (State.cmpCapture s n active t).vault = s.vault := by
  unfold State.cmpCapture; simp [vault_fields]
@[simp] theorem State.cmpEvent_vault (s : State) (n : Oct) (active : Bool) (t : Nat) : (State.cmpEvent s n active t).vault = s.vault := by
  unfold State.cmpEvent; simp [vault_fields]
@[simp] theorem State.slowRoutes_vault (s : State) (n : Oct) (active : Bool) (t : Nat) : (State.slowRoutes s n active t).vault = s.vault := by
  unfold State.slowRoutes; simp [vault_fields]
@[simp] theorem State.termRoute_vault (s : State) (n : Oct) (t : Nat) : (State.termRoute s n t).vault = s.vault := by
  unfold State.termRoute; simp [vault_fields]
@[simp] theorem State.filtEdge_vault (s : State) (n : Oct) (active : Bool) (t : Nat) : (State.filtEdge s n active t).vault = s.vault := by
  unfold State.filtEdge; simp [vault_fields]
@[simp] theorem State.cellFilter_vault (s : State) (n : Oct) (t : Nat) : (State.cellFilter s n t).vault = s.vault := by
  unfold State.cellFilter; (try dsimp only); (repeat' split) <;> simp [vault_fields]
@[simp] theorem State.routesAct_vault (s old : State) (t : Nat) : (State.routesAct s old t).vault = s.vault := by
  unfold State.routesAct; simp [vault_fields]
@[simp] theorem State.cellOut_vault (s : State) (n : Oct) (active : Bool) (t : Nat) : (State.cellOut s n active t).vault = s.vault := by
  unfold State.cellOut; simp [vault_fields]
@[simp] theorem State.cellEdge_vault (s : State) (n : Oct) (active : Bool) (t : Nat) : (State.cellEdge s n active t).vault = s.vault := by
  unfold State.cellEdge; simp [vault_fields]
@[simp] theorem State.cellAt_vault (s : State) (n : Oct) (active : Bool) (t : Nat) : (State.cellAt s n active t).vault = s.vault := by
  unfold State.cellAt; simp [vault_fields]
theorem execHubCmpEdge_vault (n : Oct) (active : Bool) (mid : Bool) (t : Nat) (s : State) : (stateOf s (execHubCmpEdge n active mid t s)).vault = s.vault := by
  unfold execHubCmpEdge; simp [vault_fields]
@[simp] theorem State.testBegin_vault (s : State) (n : Oct) (swap : Bool) : (State.testBegin s n swap).vault = s.vault := by
  unfold State.testBegin; simp [vault_fields]
@[simp] theorem State.holdEnd_vault (s : State) (n : Oct) (active : Bool) (t : Nat) : (State.holdEnd s n active t).vault = s.vault := by
  unfold State.holdEnd; dsimp only; (repeat' split) <;> simp [vault_fields]
theorem execSpeedHoldEnd_vault (cell : CellId) (active : Bool) (s : State) : (stateOf s (execSpeedHoldEnd cell active s)).vault = s.vault := by
  unfold execSpeedHoldEnd; (try dsimp only); (repeat' split) <;> simp [vault_fields]
@[simp] theorem State.cmpTest_vault (s : State) (n : Oct) (swap : Bool) : (State.cmpTest s n swap).1.vault = s.vault := by
  unfold State.cmpTest; (try dsimp only); (repeat' split) <;> simp [vault_fields]
@[simp] theorem State.testFail_vault (s : State) (n : Oct) : (State.testFail s n).vault = s.vault := by
  unfold State.testFail; simp [vault_fields]
@[simp] theorem State.testEnd_vault (s : State) (n : Oct) (r : TestResult) : (State.testEnd s n r).vault = s.vault := by
  unfold State.testEnd; (try dsimp only); (repeat' split) <;> simp [vault_fields]
theorem execCmpTestDone_vault (n : Oct) (result : TestResult) (s : State) : (stateOf s (execCmpTestDone n result s)).vault = s.vault := by
  unfold execCmpTestDone; simp [vault_fields]
@[simp] theorem State.selfMask_vault (s : State) (n : Oct) : (State.selfMask s n).vault = s.vault := by
  unfold State.selfMask; simp [vault_fields]
@[simp] theorem State.selfUnmask_vault (s : State) (n : Oct) : (State.selfUnmask s n).vault = s.vault := by
  unfold State.selfUnmask; (try dsimp only); (repeat' split) <;> simp [vault_fields]
@[simp] theorem State.testAbort_vault (s : State) (n : Oct) : (State.testAbort s n).vault = s.vault := by
  unfold State.testAbort; simp [vault_fields]
@[simp] theorem State.down_vault (s : State) (c : Chan) (f : CmdFrame → CmdFrame) : (State.down s c f).vault = s.vault := by
  unfold State.down; simp [vault_fields]
@[simp] theorem State.tripBy_vault (s : State) (c : Chan) (k : Cause) : (State.tripBy s c k).vault = s.vault := by
  unfold State.tripBy; simp [vault_fields]
@[simp] theorem State.offBy_vault (s : State) (c : Chan) : (State.offBy s c).vault = s.vault := by unfold State.offBy; simp [vault_fields]
@[simp] theorem State.podNow_vault (s : State) (c : Chan) (f : Pod → Pod) : (State.podNow s c f).vault = s.vault := by
  unfold State.podNow; simp [vault_fields]
@[simp] theorem State.feedForward_vault (s : State) (p : Quad) : (State.feedForward s p).vault = s.vault := by
  unfold State.feedForward; (try dsimp only); (repeat' split) <;> simp [vault_fields]
@[simp] theorem State.preRun_vault (s : State) (p : Quad) : (State.preRun s p).vault = s.vault := by
  unfold State.preRun; simp [vault_fields]
@[simp] theorem State.preQuiet_vault (s : State) (p : Quad) : (State.preQuiet s p).vault = s.vault := by
  unfold State.preQuiet; simp [vault_fields]
@[simp] theorem State.preFeedActs_vault (s : State) (p : Quad) (ev : PreStatus) : (State.preFeedActs s p ev).vault = s.vault := by
  unfold State.preFeedActs; (try dsimp only); (repeat' split) <;> simp [vault_fields]
@[simp] theorem State.preStop_vault (s : State) (p : Quad) (ev : PreStatus) : (State.preStop s p ev).vault = s.vault := by
  unfold State.preStop; simp [vault_fields]
@[simp] theorem State.preStopOn_vault (s : State) (p : Quad) (ev : List PreStatus) : (State.preStopOn s p ev).vault = s.vault := by
  unfold State.preStopOn; (try dsimp only); (repeat' split) <;> simp [vault_fields]
@[simp] theorem State.preSelftest_vault (s : State) (p : Quad) : (State.preSelftest s p).vault = s.vault := by
  unfold State.preSelftest; simp [vault_fields]
@[simp] theorem State.preCharge_vault (s : State) (p : Quad) : (State.preCharge s p).vault = s.vault := by
  unfold State.preCharge; simp [vault_fields]
@[simp] theorem State.preQualify_vault (s : State) (p : Quad) : (State.preQualify s p).vault = s.vault := by
  unfold State.preQualify; simp [vault_fields]
@[simp] theorem State.preBegin_vault (s : State) (p : Quad) : (State.preBegin s p).vault = s.vault := by
  unfold State.preBegin; simp [vault_fields]
@[simp] theorem State.prePause_vault (s : State) (p : Quad) : (State.prePause s p).vault = s.vault := by
  unfold State.prePause; simp [vault_fields]
@[simp] theorem State.preFeedOn_vault (s : State) (c : Chan) : (State.preFeedOn s c).vault = s.vault := by
  unfold State.preFeedOn; simp [vault_fields]
@[simp] theorem State.preHist_vault (s : State) (p : Quad) : (State.preHist s p).vault = s.vault := by
  unfold State.preHist; simp [vault_fields]
@[simp] theorem State.preWindow_vault (s : State) (p : Quad) : (State.preWindow s p).vault = s.vault := by
  unfold State.preWindow; simp [vault_fields]
@[simp] theorem State.preTick_vault (s : State) (p : Quad) : (State.preTick s p).vault = s.vault := by
  unfold State.preTick; dsimp only; (repeat' split) <;> simp [vault_fields]
theorem execPrechargeStart_vault (p : Quad) (s : State) : (stateOf s (execPrechargeStart p s)).vault = s.vault := by
  unfold execPrechargeStart; (try dsimp only); (repeat' split) <;> simp [vault_fields]
theorem execPrechargeSelftestDone_vault (p : Quad) (passed : Bool) (ready : Bool) (s : State) : (stateOf s (execPrechargeSelftestDone p passed ready s)).vault = s.vault := by
  unfold execPrechargeSelftestDone; simp [vault_fields]
theorem execPrechargeResume_vault (p : Quad) (s : State) : (stateOf s (execPrechargeResume p s)).vault = s.vault := by
  unfold execPrechargeResume; simp [vault_fields]
theorem execPauseLimit_vault (p : Quad) (s : State) : (stateOf s (execPauseLimit p s)).vault = s.vault := by
  unfold execPauseLimit; simp [vault_fields]
@[simp] theorem State.preHandover_vault (s : State) (p : Quad) : (State.preHandover s p).vault = s.vault := by
  unfold State.preHandover; (try dsimp only); (repeat' split) <;> simp [vault_fields]
theorem execPrechargeClose_vault (p : Quad) (s : State) : (stateOf s (execPrechargeClose p s)).vault = s.vault := by
  unfold execPrechargeClose; simp [vault_fields]
theorem execNoProgress_vault (p : Quad) (s : State) : (stateOf s (execNoProgress p s)).vault = s.vault := by
  unfold execNoProgress; simp [vault_fields]
theorem execPrechargeTimeLimit_vault (p : Quad) (s : State) : (stateOf s (execPrechargeTimeLimit p s)).vault = s.vault := by
  unfold execPrechargeTimeLimit; simp [vault_fields]
theorem execCloseLimit_vault (p : Quad) (s : State) : (stateOf s (execCloseLimit p s)).vault = s.vault := by
  unfold execCloseLimit; simp [vault_fields]
@[simp] theorem State.preEmit_vault (s : State) (n : Oct) : (State.preEmit s n).vault = s.vault := by
  unfold State.preEmit; (try dsimp only); (repeat' split) <;> simp [vault_fields]
@[simp] theorem State.preSkip_vault (s : State) (n : Oct) : (State.preSkip s n).vault = s.vault := by
  unfold State.preSkip; (try dsimp only); (repeat' split) <;> simp [vault_fields]
@[simp] theorem State.refresh_vault (s : State) (n : Oct) (t : Nat) : (State.refresh s n t).vault = s.vault := by
  unfold State.refresh; simp [vault_fields]
theorem execPwmPeriodBoundary_vault (n : Oct) (rdy : Nat) (s : State) : (stateOf s (execPwmPeriodBoundary n rdy s)).vault = s.vault := by
  unfold execPwmPeriodBoundary; dsimp only; (repeat' split) <;> simp [vault_fields]
theorem execPwmMidperiodReload_vault (n : Oct) (s : State) : (stateOf s (execPwmMidperiodReload n s)).vault = s.vault := by
  unfold execPwmMidperiodReload; simp [vault_fields]
@[simp] theorem State.missedTrip_vault (s : State) (n : Oct) : (State.missedTrip s n).vault = s.vault := by
  unfold State.missedTrip; (try dsimp only); (repeat' split) <;> simp [vault_fields]
theorem execPwmPulseEnd_vault (n : Oct) (s : State) : (stateOf s (execPwmPulseEnd n s)).vault = s.vault := by
  unfold execPwmPulseEnd; dsimp only; (repeat' split) <;> simp [vault_fields]
theorem execPwmDeadTimeEnd_vault (n : Oct) (s : State) : (stateOf s (execPwmDeadTimeEnd n s)).vault = s.vault := by
  unfold execPwmDeadTimeEnd; (try dsimp only); (repeat' split) <;> simp [vault_fields]
@[simp] theorem State.disDuty_vault (s : State) (d : Quad) (v : Int) : (State.disDuty s d v).vault = s.vault := by
  unfold State.disDuty; simp [vault_fields]
@[simp] theorem State.disQuiet_vault (s : State) (d : Quad) : (State.disQuiet s d).vault = s.vault := by
  unfold State.disQuiet; simp [vault_fields]
@[simp] theorem State.disWait_vault (s : State) (d : Quad) (r : DisStatus) : (State.disWait s d r).vault = s.vault := by
  unfold State.disWait; simp [vault_fields]
@[simp] theorem State.disHeat_vault (s : State) (d : Quad) : (State.disHeat s d).vault = s.vault := by
  unfold State.disHeat; simp [vault_fields]
@[simp] theorem State.disOff_vault (s : State) (d : Quad) : (State.disOff s d).vault = s.vault := by
  unfold State.disOff; (try dsimp only); (repeat' split) <;> simp [vault_fields]
@[simp] theorem State.disTick_vault (s : State) (d : Quad) : (State.disTick s d).vault = s.vault := by
  unfold State.disTick; dsimp only; (repeat' split) <;> simp [vault_fields]
@[simp] theorem State.disStop_vault (s : State) (d : Quad) (r : DisStatus) : (State.disStop s d r).vault = s.vault := by
  unfold State.disStop; simp [vault_fields]
theorem execDischargeRun_vault (d : Quad) (s : State) : (stateOf s (execDischargeRun d s)).vault = s.vault := by
  unfold execDischargeRun; (try dsimp only); (repeat' split) <;> simp [vault_fields]
theorem execChopperResume_vault (d : Quad) (s : State) : (stateOf s (execChopperResume d s)).vault = s.vault := by
  unfold execChopperResume; simp [vault_fields]
theorem execDischargeDone_vault (d : Quad) (s : State) : (stateOf s (execDischargeDone d s)).vault = s.vault := by
  unfold execDischargeDone; (try dsimp only); (repeat' split) <;> simp [vault_fields]
theorem execEnergyLimit_vault (d : Quad) (s : State) : (stateOf s (execEnergyLimit d s)).vault = s.vault := by
  unfold execEnergyLimit; simp [vault_fields]
theorem execDischargeTimeLimit_vault (d : Quad) (s : State) : (stateOf s (execDischargeTimeLimit d s)).vault = s.vault := by
  unfold execDischargeTimeLimit; (try dsimp only); (repeat' split) <;> simp [vault_fields]
@[simp] theorem State.readyLoss_vault (s : State) (n : Oct) : (State.readyLoss s n).vault = s.vault := by
  unfold State.readyLoss; dsimp only; (repeat' split) <;> simp [vault_fields]
theorem execDriverReadyLoss_vault (n : Oct) (back : Bool) (s : State) : (stateOf s (execDriverReadyLoss n back s)).vault = s.vault := by
  unfold execDriverReadyLoss; simp [vault_fields]
@[simp] theorem State.xferEnd_vault (s : State) (b : BusId) : (State.xferEnd s b).vault = s.vault := by
  unfold State.xferEnd; simp [vault_fields]
@[simp] theorem State.xferFailed_vault (s : State) (b : BusId) : (State.xferFailed s b).vault = s.vault := by
  unfold State.xferFailed; simp [vault_fields]
@[simp] theorem State.branchesOff_vault (s : State) (b : BusId) : (State.branchesOff s b).vault = s.vault := by
  unfold State.branchesOff; simp [vault_fields]
@[simp] theorem State.xferChoose_vault (s : State) (b : BusId) (new : Chan) : (State.xferChoose s b new).vault = s.vault := by
  unfold State.xferChoose; simp [vault_fields]
@[simp] theorem State.xferKeep_vault (s : State) (b : BusId) : (State.xferKeep s b).vault = s.vault := by
  unfold State.xferKeep; simp [vault_fields]
@[simp] theorem State.xferStart_vault (s : State) (b : BusId) (old : Chan) (dest : Option Chan) : (State.xferStart s b old dest).vault = s.vault := by
  unfold State.xferStart; dsimp only; (repeat' split) <;> simp [vault_fields]
@[simp] theorem State.xferNext_vault (s : State) (b : BusId) : (State.xferNext s b).vault = s.vault := by
  unfold State.xferNext; dsimp only; (repeat' split) <;> simp [vault_fields]
@[simp] theorem State.xferComplete_vault (s : State) (b : BusId) : (State.xferComplete s b).vault = s.vault := by
  unfold State.xferComplete; simp [vault_fields]
@[simp] theorem State.feedOn_vault (s : State) (c : Chan) : (State.feedOn s c).vault = s.vault := by
  unfold State.feedOn; simp [vault_fields]
@[simp] theorem State.xferAgain_vault (s : State) (b : BusId) (new : Chan) : (State.xferAgain s b new).vault = s.vault := by
  unfold State.xferAgain; dsimp only; split <;> simp [vault_fields]
@[simp] theorem State.selLost_vault (s : State) (b : BusId) (c : Chan) : (State.selLost s b c).vault = s.vault := by
  unfold State.selLost; simp [vault_fields]
@[simp] theorem State.xferTick_vault (s : State) (b : BusId) : (State.xferTick s b).vault = s.vault := by
  unfold State.xferTick; dsimp only; (repeat' split) <;> simp [vault_fields]
@[simp] theorem State.selectDead_vault (s : State) (b : BusId) : (State.selectDead s b).vault = s.vault := by
  unfold State.selectDead; simp [vault_fields]
@[simp] theorem State.feedTick_vault (s : State) (b : BusId) (c : Chan) : (State.feedTick s b c).vault = s.vault := by
  unfold State.feedTick; simp [vault_fields]
@[simp] theorem State.eligibleTick_vault (s : State) (b : BusId) : (State.eligibleTick s b).vault = s.vault := by
  unfold State.eligibleTick; simp [vault_fields]
@[simp] theorem State.busSource_vault (s : State) (b : BusId) : (State.busSource s b).vault = s.vault := by
  unfold State.busSource; simp [vault_fields]
@[simp] theorem State.noFeed_vault (s : State) (b : BusId) : (State.noFeed s b).vault = s.vault := by
  unfold State.noFeed; simp [vault_fields]
@[simp] theorem State.busTick_vault (s : State) (b : BusId) : (State.busTick s b).vault = s.vault := by
  unfold State.busTick; dsimp only; (repeat' split) <;> simp [vault_fields]
theorem execSourceLoss_vault (b : BusId) (s : State) : (stateOf s (execSourceLoss b s)).vault = s.vault := by
  unfold execSourceLoss; (try dsimp only); (repeat' split) <;> simp [vault_fields]
theorem execRevertDue_vault (b : BusId) (s : State) : (stateOf s (execRevertDue b s)).vault = s.vault := by
  unfold execRevertDue; (try dsimp only); (repeat' split) <;> simp [vault_fields]
theorem execTransferMake_vault (b : BusId) (s : State) : (stateOf s (execTransferMake b s)).vault = s.vault := by
  unfold execTransferMake; (try dsimp only); (repeat' split) <;> simp [vault_fields]
theorem execTransferTimeout_vault (b : BusId) (s : State) : (stateOf s (execTransferTimeout b s)).vault = s.vault := by
  unfold execTransferTimeout; (try dsimp only); (repeat' split) <;> simp [vault_fields]
@[simp] theorem State.xferResume_vault (s : State) (b : BusId) : (State.xferResume s b).1.vault = s.vault := by
  unfold State.xferResume; simp [vault_fields]
@[simp] theorem State.xferScan_vault (s : State) (c : Chan) (l : List Fed) : (State.xferScan s c l).vault = s.vault := by
  unfold State.xferScan; (repeat' split)
  · rfl
  · exact foldl_vault _ (fun s x => by (repeat' split) <;> simp [vault_fields]) _ _
  · rfl
@[simp] theorem State.updFlto_vault (s : State) (x : AB) (f : Flto → Flto) : (State.updFlto s x f).vault = s.vault := by
  unfold State.updFlto; simp [vault_fields]
@[simp] theorem State.updLine_vault (s : State) (l : Quad) (f : RLine → RLine) : (State.updLine s l f).vault = s.vault := by
  unfold State.updLine; simp [vault_fields]
@[simp] theorem State.fltoOne_vault (s : State) (x : AB) : (State.fltoOne s x).vault = s.vault := by
  unfold State.fltoOne; simp [vault_fields]
@[simp] theorem State.fltoEval_vault (s : State) : (State.fltoEval s).vault = s.vault := by unfold State.fltoEval; simp [vault_fields]
theorem execFltoMinWidthEnd_vault (x : AB) (s : State) : (stateOf s (execFltoMinWidthEnd x s)).vault = s.vault := by
  unfold execFltoMinWidthEnd; simp [vault_fields]
@[simp] theorem State.fltoAck_vault (s : State) (x : AB) : (State.fltoAck s x).1.vault = s.vault := by
  unfold State.fltoAck; (try dsimp only); (repeat' split) <;> simp [vault_fields]
@[simp] theorem State.sendToken_vault (s : State) (l : Quad) (hops but t : Nat) : (State.sendToken s l hops but t).vault = s.vault := by
  unfold State.sendToken; simp [vault_fields]
@[simp] theorem State.ownToken_vault (s : State) (l : Quad) : (State.ownToken s l).vault = s.vault := by
  unfold State.ownToken; simp [vault_fields]
@[simp] theorem State.lineSeen_vault (s : State) (l : Quad) (t : Nat) : (State.lineSeen s l t).vault = s.vault := by
  unfold State.lineSeen; simp [vault_fields]
@[simp] theorem State.sendFault_vault (s : State) (l : Quad) (start : Bool) : (State.sendFault s l start).vault = s.vault := by
  unfold State.sendFault; simp [vault_fields]
@[simp] theorem State.lineStart_vault (s : State) (l : Quad) : (State.lineStart s l).vault = s.vault := by
  unfold State.lineStart; simp [vault_fields]
@[simp] theorem State.lineStop_vault (s : State) (l : Quad) : (State.lineStop s l).vault = s.vault := by
  unfold State.lineStop; simp [vault_fields]
@[simp] theorem State.lineEval_vault (s : State) : (State.lineEval s).vault = s.vault := by unfold State.lineEval; simp [vault_fields]
@[simp] theorem State.linePulse_vault (s : State) (l : Quad) : (State.linePulse s l).vault = s.vault := by
  unfold State.linePulse; simp [vault_fields]
@[simp] theorem State.pulses_vault (s : State) (hit : State → Quad → Bool) : (State.pulses s hit).vault = s.vault := by
  unfold State.pulses; simp [vault_fields]
@[simp] theorem State.pulseTrip_vault (s : State) (c : Chan) (set : Nat) : (State.pulseTrip s c set).vault = s.vault := by
  unfold State.pulseTrip; simp [vault_fields]
@[simp] theorem State.pulseBus_vault (s : State) (b : BusId) : (State.pulseBus s b).vault = s.vault := by
  unfold State.pulseBus; simp [vault_fields]
@[simp] theorem State.evalLines_vault (s : State) : (State.evalLines s).vault = s.vault := by unfold State.evalLines; simp [vault_fields]
theorem execFaultTokenRepeat_vault (l : Quad) (s : State) : (stateOf s (execFaultTokenRepeat l s)).vault = s.vault := by
  unfold execFaultTokenRepeat; (try dsimp only); (repeat' split) <;> simp [vault_fields]
theorem execFaultPulseEnd_vault (l : Quad) (s : State) : (stateOf s (execFaultPulseEnd l s)).vault = s.vault := by
  unfold execFaultPulseEnd; (try dsimp only); (repeat' split) <;> simp [vault_fields]
theorem execFaultViewRelease_vault (l : Quad) (s : State) : (stateOf s (execFaultViewRelease l s)).vault = s.vault := by
  unfold execFaultViewRelease; simp [vault_fields]
theorem execFaultToken_vault (k : KPort) (b : Byte) (t : Nat) (s : State) : (stateOf s (execFaultToken k b t s)).vault = s.vault := by
  unfold execFaultToken; dsimp only; (repeat' split) <;> simp [vault_fields]
@[simp] theorem State.lineTrips_vault (s : State) : (State.lineTrips s).vault = s.vault := by unfold State.lineTrips; simp [vault_fields]
theorem execFltiAssert_vault (x : AB) (since : Nat) (t : Nat) (s : State) : (stateOf s (execFltiAssert x since t s)).vault = s.vault := by
  unfold execFltiAssert; simp [vault_fields]
theorem execFltiRelease_vault (x : AB) (s : State) : (stateOf s (execFltiRelease x s)).vault = s.vault := by
  unfold execFltiRelease; simp [vault_fields]
@[simp] theorem State.armRetry_vault (s : State) (c : Chan) : (State.armRetry s c).vault = s.vault := by
  unfold State.armRetry; simp [vault_fields]
@[simp] theorem State.tripNew_vault (s : State) (c : Chan) (r : PodTrip) (ch : ChState) (held : Bool) : (State.tripNew s c r ch held).vault = s.vault := by
  unfold State.tripNew; simp [vault_fields]
@[simp] theorem State.tripMore_vault (s : State) (c : Chan) (r : PodTrip) (ch : ChState) : (State.tripMore s c r ch).vault = s.vault := by
  unfold State.tripMore; simp [vault_fields]
@[simp] theorem State.noteSeen_vault (s : State) (c : Chan) (v : PodStatus) (held : Bool) : (State.noteSeen s c v held).vault = s.vault := by
  unfold State.noteSeen; exact foldl_vault _ (fun s e => by simp [vault_fields]) _ _
@[simp] theorem State.tripSeen_vault (s : State) (c : Chan) (v : PodStatus) (held : Bool) : (State.tripSeen s c v held).vault = s.vault := by
  unfold State.tripSeen; simp [vault_fields]
@[simp] theorem State.release_vault (s : State) (c : Chan) : (State.release s c).vault = s.vault := by
  unfold State.release; simp [vault_fields]
@[simp] theorem State.releaseNow_vault (s : State) (c : Chan) : (State.releaseNow s c).vault = s.vault := by
  unfold State.releaseNow; simp [vault_fields]
@[simp] theorem State.retry_vault (s : State) (c : Chan) : (State.retry s c).vault = s.vault := by unfold State.retry; simp [vault_fields]
theorem execRetryDue_vault (c : Chan) (s : State) : (stateOf s (execRetryDue c s)).vault = s.vault := by
  unfold execRetryDue; simp [vault_fields]
theorem execRetryReleased_vault (c : Chan) (s : State) : (stateOf s (execRetryReleased c s)).vault = s.vault := by
  unfold execRetryReleased; simp [vault_fields]
theorem execRetryCountReset_vault (c : Chan) (s : State) : (stateOf s (execRetryCountReset c s)).vault = s.vault := by
  unfold execRetryCountReset; dsimp only; (repeat' split) <;> simp [vault_fields]
@[simp] theorem State.cleanTick_vault (s : State) (c : Chan) : (State.cleanTick s c).vault = s.vault := by
  unfold State.cleanTick; simp [vault_fields]
@[simp] theorem State.clearPod_vault (s : State) (c : Chan) : (State.clearPod s c).vault = s.vault := by
  unfold State.clearPod; simp [vault_fields]
@[simp] theorem State.activatePod_vault (s : State) (c : Chan) : (State.activatePod s c).vault = s.vault := by
  unfold State.activatePod; simp [vault_fields]
@[simp] theorem State.latchGone_vault (s : State) (c : Chan) : (State.latchGone s c).vault = s.vault := by
  unfold State.latchGone; simp [vault_fields]
@[simp] theorem State.latchCleared_vault (s : State) (c : Chan) (way : Nat) : (State.latchCleared s c way).vault = s.vault := by
  unfold State.latchCleared; simp [vault_fields]
@[simp] theorem State.clearLatch_vault (s : State) (c : Chan) : (State.clearLatch s c).vault = s.vault := by
  unfold State.clearLatch; simp [vault_fields]
@[simp] theorem State.enableSet_vault (s : State) (c : Chan) : (State.enableSet s c).1.vault = s.vault := by
  unfold State.enableSet; dsimp only; (repeat' split) <;> simp [vault_fields]
@[simp] theorem State.disable_vault (s : State) (c : Chan) : (State.disable s c).vault = s.vault := by
  unfold State.disable; simp [vault_fields]
@[simp] theorem State.enableClear_vault (s : State) (c : Chan) : (State.enableClear s c).1.vault = s.vault := by
  unfold State.enableClear; simp [vault_fields]
theorem execCoolDownEnd_vault (c : Chan) (s : State) : (stateOf s (execCoolDownEnd c s)).vault = s.vault := by
  unfold execCoolDownEnd; (try dsimp only); (repeat' split) <;> simp [vault_fields]
@[simp] theorem State.testsPassed_vault (s : State) (c : Chan) : (State.testsPassed s c).vault = s.vault := by
  unfold State.testsPassed; simp [vault_fields]
theorem execSelftestToggleDone_vault (c : Chan) (failMask : Nat) (t : Nat) (s : State) : (stateOf s (execSelftestToggleDone c failMask t s)).vault = s.vault := by
  unfold execSelftestToggleDone; simp [vault_fields]
@[simp] theorem State.dmgClear_vault (s : State) (c : Chan) : (State.dmgClear s c).1.vault = s.vault := by
  unfold State.dmgClear; dsimp only; (repeat' split) <;> simp [vault_fields]
@[simp] theorem State.unheard_vault (s : State) (c : Chan) : (State.unheard s c).vault = s.vault := by
  unfold State.unheard; simp [vault_fields]
@[simp] theorem State.seatTimer_vault (s : State) (c : Chan) (t : Nat) : (State.seatTimer s c t).vault = s.vault := by
  unfold State.seatTimer; simp [vault_fields]
@[simp] theorem State.removed_vault (s : State) (c : Chan) : (State.removed s c).vault = s.vault := by
  unfold State.removed; simp [vault_fields]
theorem execRemovalConfirmed_vault (c : Chan) (s : State) : (stateOf s (execRemovalConfirmed c s)).vault = s.vault := by
  unfold execRemovalConfirmed; (try dsimp only); (repeat' split) <;> simp [vault_fields]
theorem execReseatGuardExpiry_vault (c : Chan) (s : State) : (stateOf s (execReseatGuardExpiry c s)).vault = s.vault := by
  unfold execReseatGuardExpiry; dsimp only; (repeat' split) <;> simp [vault_fields]
@[simp] theorem State.busFault_vault (s : State) (b : BusId) (first : Chan) : (State.busFault s b first).vault = s.vault := by
  unfold State.busFault; simp [vault_fields]
theorem execBusFaultClassify_vault (b : BusId) (s : State) : (stateOf s (execBusFaultClassify b s)).vault = s.vault := by
  unfold execBusFaultClassify; (try dsimp only); (repeat' split) <;> simp [vault_fields]
@[simp] theorem State.busBfClear_vault (s : State) (b : BusId) : (State.busBfClear s b).1.vault = s.vault := by
  unfold State.busBfClear; (try dsimp only); (repeat' split) <;> simp [vault_fields]
@[simp] theorem State.disReqSet_vault (s : State) (d : Quad) : (State.disReqSet s d).1.vault = s.vault := by
  unfold State.disReqSet; dsimp only; (repeat' split) <;> simp [vault_fields]
@[simp] theorem State.disReqClear_vault (s : State) (d : Quad) : (State.disReqClear s d).1.vault = s.vault := by
  unfold State.disReqClear; simp [vault_fields]
@[simp] theorem State.resumeXfer_vault (s : State) (b : BusId) (k : Option (Chan × Option Chan)) : (State.resumeXfer s b k).vault = s.vault := by
  unfold State.resumeXfer; (try dsimp only); (repeat' split) <;> simp [vault_fields]
@[simp] theorem State.rebuildBus_vault (s : State) (b : BusId) : (State.rebuildBus s b).vault = s.vault := by
  unfold State.rebuildBus; simp [vault_fields]
@[simp] theorem State.rebuildPre_vault (s : State) (c : Chan) : (State.rebuildPre s c).vault = s.vault := by
  unfold State.rebuildPre; simp [vault_fields]
@[simp] theorem State.rebuild_vault (s : State) (c : Chan) : (State.rebuild s c).vault = s.vault := by
  unfold State.rebuild; (try dsimp only); (repeat' split) <;> simp [vault_fields]
@[simp] theorem State.ownership_vault (s : State) (c : Chan) (code epoch : Nat) : (State.ownership s c code epoch).vault = s.vault := by
  unfold State.ownership; simp [vault_fields]
@[simp] theorem State.claim_vault (s : State) (c : Chan) (epoch : Nat) : (State.claim s c epoch).vault = s.vault := by
  unfold State.claim; simp [vault_fields]
@[simp] theorem State.claimHeld_vault (s : State) (c : Chan) (epoch : Nat) : (State.claimHeld s c epoch).vault = s.vault := by
  unfold State.claimHeld; simp [vault_fields]
@[simp] theorem State.claimGroup_vault (s : State) (c : Chan) (epoch : Nat) : (State.claimGroup s c epoch).vault = s.vault := by
  unfold State.claimGroup; (try dsimp only); (repeat' split) <;> simp [vault_fields]
@[simp] theorem State.standby_vault (s : State) (c : Chan) : (State.standby s c).vault = s.vault := by
  unfold State.standby; simp [vault_fields]
@[simp] theorem State.standbyGroup_vault (s : State) (c : Chan) : (State.standbyGroup s c).vault = s.vault := by
  unfold State.standbyGroup; dsimp only; (repeat' split) <;> simp [vault_fields]
@[simp] theorem State.takeover_vault (s : State) (c : Chan) : (State.takeover s c).vault = s.vault := by
  unfold State.takeover; (try dsimp only); (repeat' split) <;> simp [vault_fields]
@[simp] theorem State.yield_vault (s : State) (c : Chan) (epoch : Nat) : (State.yield s c epoch).vault = s.vault := by
  unfold State.yield; simp [vault_fields]
@[simp] theorem State.ownSeen_vault (s : State) (c : Chan) (old v : PodStatus) : (State.ownSeen s c old v).vault = s.vault := by
  unfold State.ownSeen; simp [vault_fields]
theorem execOwnerlessClaim_vault (c : Chan) (s : State) : (stateOf s (execOwnerlessClaim c s)).vault = s.vault := by
  unfold execOwnerlessClaim; (try dsimp only); (repeat' split) <;> simp [vault_fields]
theorem execMoveReclaim_vault (s : State) : (stateOf s (execMoveReclaim s)).vault = s.vault := by
  unfold execMoveReclaim; rw [stateOf_next]; exact foldl_vault _ (fun s x => by (repeat' split) <;> simp [vault_fields]) _ _
@[simp] theorem State.addRise_vault (s : State) (o : Obj) (i old new : Nat) : (State.addRise s o i old new).vault = s.vault := by
  unfold State.addRise; simp [vault_fields]
@[simp] theorem State.countsSeen_vault (s : State) (c : Chan) (a b : PodCounts) : (State.countsSeen s c a b).vault = s.vault := by
  unfold State.countsSeen; dsimp only; (repeat' split) <;> simp [vault_fields]
@[simp] theorem State.warningsSeen_vault (s : State) (c : Chan) (old v : PodStatus) : (State.warningsSeen s c old v).vault = s.vault := by
  unfold State.warningsSeen; simp [vault_fields]
@[simp] theorem State.tells_vault (s : State) (c : Chan) (old v : PodStatus) : (State.tells s c old v).vault = s.vault := by
  unfold State.tells; simp [vault_fields]
@[simp] theorem State.seatSeen_vault (s : State) (c : Chan) (old v : PodStatus) : (State.seatSeen s c old v).vault = s.vault := by
  unfold State.seatSeen; dsimp only; (repeat' split) <;> simp [vault_fields]
@[simp] theorem State.tripOver_vault (s : State) (c : Chan) (v : PodStatus) : (State.tripOver s c v).vault = s.vault := by
  unfold State.tripOver; simp [vault_fields]
@[simp] theorem State.statusIn_vault (s : State) (c : Chan) (v : PodStatus) : (State.statusIn s c v).vault = s.vault := by
  unfold State.statusIn; simp [vault_fields]
theorem execStatusFrameReceived_vault (c : Chan) (crcOk : Bool) (s : State) : (stateOf s (execStatusFrameReceived c crcOk s)).vault = s.vault := by
  unfold execStatusFrameReceived; simp [vault_fields]
theorem execCommandFrameReceived_vault (c : Chan) (rx : RxFrame) (s : State) : (stateOf s (execCommandFrameReceived c rx s)).vault = s.vault := by
  unfold execCommandFrameReceived; simp [vault_fields]
@[simp] theorem State.podTell_vault (s : State) (c : Chan) (f : Pod → Pod) : (State.podTell s c f).vault = s.vault := by
  unfold State.podTell; simp [vault_fields]
theorem execSeatPairSeated_vault (c : Chan) (t : Nat) (s : State) : (stateOf s (execSeatPairSeated c t s)).vault = s.vault := by
  unfold execSeatPairSeated; simp [vault_fields]
theorem execSeatingAbort_vault (c : Chan) (s1 : Bool) (s2 : Bool) (t : Nat) (s : State) : (stateOf s (execSeatingAbort c s1 s2 t s)).vault = s.vault := by
  unfold execSeatingAbort; simp [vault_fields]
theorem execSeatDebounceComplete_vault (c : Chan) (t : Nat) (s : State) : (stateOf s (execSeatDebounceComplete c t s)).vault = s.vault := by
  unfold execSeatDebounceComplete; dsimp only; (repeat' split) <;> simp [vault_fields]
theorem execSeatLoss_vault (c : Chan) (s1 : Bool) (s2 : Bool) (tFirst : Nat) (t : Nat) (s : State) : (stateOf s (execSeatLoss c s1 s2 tFirst t s)).vault = s.vault := by
  unfold execSeatLoss; simp [vault_fields]
theorem execChannelStart_vault (c : Chan) (t : Nat) (s : State) : (stateOf s (execChannelStart c t s)).vault = s.vault := by
  unfold execChannelStart; simp [vault_fields]
theorem execPowerGoodAssert_vault (c : Chan) (s : State) : (stateOf s (execPowerGoodAssert c s)).vault = s.vault := by
  unfold execPowerGoodAssert; simp [vault_fields]
@[simp] theorem State.feedA_vault (s : State) (c : Chan) : (State.feedA s c).vault = s.vault := by unfold State.feedA; simp [vault_fields]
@[simp] theorem State.podSwitches_vault (s : State) (old : Nat) : (State.podSwitches s old).vault = s.vault := by
  unfold State.podSwitches; simp [vault_fields]
theorem execPodPowerUp_vault (c : Chan) (kind : PodKind) (rev : Nat) (uid : Nat) (a : Bool) (b : Bool) (s : State) : (stateOf s (execPodPowerUp c kind rev uid a b s)).vault = s.vault := by
  unfold execPodPowerUp; simp [vault_fields]
@[simp] theorem State.linkLost_vault (s : State) (c : Chan) : (State.linkLost s c).vault = s.vault := by
  unfold State.linkLost; simp [vault_fields]
theorem execPodSupplyLoss_vault (c : Chan) (t : Nat) (s : State) : (stateOf s (execPodSupplyLoss c t s)).vault = s.vault := by
  unfold execPodSupplyLoss; simp [vault_fields]
@[simp] theorem State.podReport_vault (s : State) (c : Chan) : (State.podReport s c).vault = s.vault := by
  unfold State.podReport; simp [vault_fields]
@[simp] theorem State.linkUp_vault (s : State) (c : Chan) : (State.linkUp s c).vault = s.vault := by
  unfold State.linkUp; simp [vault_fields]
@[simp] theorem State.missed_vault (s : State) (c : Chan) : (State.missed s c).vault = s.vault := by
  unfold State.missed; simp [vault_fields]
theorem execPodLinkDown_vault (c : Chan) (s : State) : (stateOf s (execPodLinkDown c s)).vault = s.vault := by
  unfold execPodLinkDown; simp [vault_fields]
@[simp] theorem State.podWarn_vault (s : State) (c : Chan) (code : Nat) (data : List (Nat × Nat)) : (State.podWarn s c code data).vault = s.vault := by
  unfold State.podWarn; simp [vault_fields]
@[simp] theorem State.healthSeen_vault (s : State) (c : Chan) (old new : Nat) (mean : Int) : (State.healthSeen s c old new mean).vault = s.vault := by
  unfold State.healthSeen; simp [vault_fields]
theorem execIntDwellComplete_vault (c : Chan) (s : State) : (stateOf s (execIntDwellComplete c s)).vault = s.vault := by
  unfold execIntDwellComplete; (try dsimp only); (repeat' split) <;> simp [vault_fields]
theorem execUrgentConversionDone_vault (c : Chan) (codes : List Raw) (t : Nat) (s : State) : (stateOf s (execUrgentConversionDone c codes t s)).vault = s.vault := by
  unfold execUrgentConversionDone; (try dsimp only); (repeat' split) <;> simp [vault_fields]
theorem execPairedWindowStart_vault (c : Chan) (trig : Option PodCmp) (t : Nat) (s : State) : (stateOf s (execPairedWindowStart c trig t s)).vault = s.vault := by
  unfold execPairedWindowStart; simp [vault_fields]
@[simp] theorem State.queueWindows_vault (s : State) (c : Chan) : (State.queueWindows s c).vault = s.vault := by
  unfold State.queueWindows; simp [vault_fields]
@[simp] theorem State.sendCaptures_vault (s : State) (c : Chan) : (State.sendCaptures s c).vault = s.vault := by
  unfold State.sendCaptures; simp [vault_fields]
theorem execPairedWindowEnd_vault (c : Chan) (t : Nat) (s : State) : (stateOf s (execPairedWindowEnd c t s)).vault = s.vault := by
  unfold execPairedWindowEnd; (try dsimp only); (repeat' split) <;> simp [vault_fields]
theorem execPodTickBoundary_vault (c : Chan) (smp : TickSamples) (s : State) : (stateOf s (execPodTickBoundary c smp s)).vault = s.vault := by
  unfold execPodTickBoundary; simp [vault_fields]
@[simp] theorem State.adcCal_vault (s : State) (c : Chan) : (State.adcCal s c).1.vault = s.vault := by
  unfold State.adcCal; dsimp only; (repeat' split) <;> simp [vault_fields]
@[simp] theorem State.adcRecal_vault (s : State) (c : Chan) (kind : Nat) : (State.adcRecal s c kind).1.vault = s.vault := by
  unfold State.adcRecal; simp [vault_fields]
@[simp] theorem State.calFailed_vault (s : State) (c : Chan) (kind : Nat) (bad : Nat × Nat × Int) : (State.calFailed s c kind bad).vault = s.vault := by
  unfold State.calFailed; simp [vault_fields]
theorem execCalComplete_vault (c : Chan) (icF vcF feF : List Int) (t : Nat) (s : State) : (stateOf s (execCalComplete c icF vcF feF t s)).vault = s.vault := by
  unfold execCalComplete; dsimp only; (repeat' split) <;> simp [vault_fields]
theorem execRecalComplete_vault (c : Chan) (factors : List Int) (t : Nat) (s : State) : (stateOf s (execRecalComplete c factors t s)).vault = s.vault := by
  unfold execRecalComplete; dsimp only; (repeat' split) <;> simp [vault_fields]
theorem execRecalCoverEnd_vault (c : Chan) (s : State) : (stateOf s (execRecalCoverEnd c s)).vault = s.vault := by
  unfold execRecalCoverEnd; (try dsimp only); (repeat' split) <;> simp [vault_fields]
theorem execParkedBurst_vault (c : Chan) (smp : TickSamples) (s : State) : (stateOf s (execParkedBurst c smp s)).vault = s.vault := by
  unfold execParkedBurst; simp [vault_fields]
@[simp] theorem State.hkPut_vault (s : State) (i sum : Nat) : (State.hkPut s i sum).vault = s.vault := by
  unfold State.hkPut; simp [vault_fields]
@[simp] theorem State.hkMean_vault (s : State) (i : Nat) (codes : List Raw) : (State.hkMean s i codes).vault = s.vault := by
  unfold State.hkMean; simp [vault_fields]
@[simp] theorem State.hkNew_vault (s : State) (old : Nat) : (State.hkNew s old).vault = s.vault := by
  unfold State.hkNew; simp [vault_fields]
theorem execHkMeanUpdate_vault (inp : Nat) (codes : List Raw) (s : State) : (stateOf s (execHkMeanUpdate inp codes s)).vault = s.vault := by
  unfold execHkMeanUpdate; simp [vault_fields]
theorem execHkSleepBurst_vault (codes : List (List Raw)) (s : State) : (stateOf s (execHkSleepBurst codes s)).vault = s.vault := by
  unfold execHkSleepBurst; dsimp only; split
  · simp only [stateOf_next]; rw [foldl_vault _ (fun s x => by simp [vault_fields])]; simp [vault_fields]
  · rfl
@[simp] theorem State.emit_vault (s : State) (r : StrRec) : (State.emit s r).vault = s.vault := by unfold State.emit; simp [vault_fields]
@[simp] theorem State.engineering_vault (s : State) (c : Chan) : (State.engineering s c).vault = s.vault := by
  unfold State.engineering; simp [vault_fields]
@[simp] theorem State.avgRecord_vault (s : State) (c : Chan) (d : AvgDone) (word : Nat) : (State.avgRecord s c d word).vault = s.vault := by
  unfold State.avgRecord; simp [vault_fields]
@[simp] theorem State.averageIn_vault (s : State) (c : Chan) (d : AvgDone) : (State.averageIn s c d).vault = s.vault := by
  simp only [State.averageIn, State.avgRecord_vault, State.engineering_vault, State.set_vault, State.updPort_vault]
theorem execAverageComplete_vault (c : Chan) (src : Source) (s : State) : (stateOf s (execAverageComplete c src s)).vault = s.vault := by
  unfold execAverageComplete; dsimp only; (repeat' split) <;> simp [vault_fields]
theorem execMeteringTransfer_vault (c : Chan) (s : State) : (stateOf s (execMeteringTransfer c s)).vault = s.vault := by
  unfold execMeteringTransfer; simp [vault_fields]
theorem execMeteringTransferReceived_vault (c : Chan) (crcOk : Bool) (s : State) : (stateOf s (execMeteringTransferReceived c crcOk s)).vault = s.vault := by
  unfold execMeteringTransferReceived; simp [vault_fields]
@[simp] theorem State.publish_vault (s : State) (c : Chan) (k : Trackers) (flags t : Nat) : (State.publish s c k flags t).vault = s.vault := by
  unfold State.publish; simp [vault_fields]
@[simp] theorem State.freshTrackers_vault (s : State) (c : Chan) (part : Bool) : (State.freshTrackers s c part).vault = s.vault := by
  unfold State.freshTrackers; simp [vault_fields]
@[simp] theorem State.windowEnds_vault (s : State) (c : Chan) : (State.windowEnds s c).vault = s.vault := by
  unfold State.windowEnds; simp [vault_fields]
@[simp] theorem State.mtrSnap_vault (s : State) : (State.mtrSnap s).1.vault = s.vault := by
  unfold State.mtrSnap; (try dsimp only); (repeat' split) <;> simp [vault_fields]
@[simp] theorem State.snapAt_vault (s : State) (T : Nat) (c : Chan) : (State.snapAt s T c).vault = s.vault := by
  unfold State.snapAt; simp [vault_fields]
@[simp] theorem State.snapNow_vault (s : State) : (State.snapNow s).vault = s.vault := by
  unfold State.snapNow; (try dsimp only); (repeat' split) <;> simp [vault_fields]
theorem execSnapshotTick_vault (s : State) : (stateOf s (execSnapshotTick s)).vault = s.vault := by
  unfold execSnapshotTick; (try dsimp only); (repeat' split) <;> simp [vault_fields]
@[simp] theorem State.windowsNow_vault (s : State) : (State.windowsNow s).vault = s.vault := by unfold State.windowsNow; simp [vault_fields]
theorem execMinmaxWindowEnd_vault (s : State) : (stateOf s (execMinmaxWindowEnd s)).vault = s.vault := by
  unfold execMinmaxWindowEnd; simp [vault_fields]
@[simp] theorem State.snapBlock_vault (s : State) (c : Chan) : (State.snapBlock s c).vault = s.vault := by
  unfold State.snapBlock; simp [vault_fields]
theorem execSnapshotDone_vault (s : State) : (stateOf s (execSnapshotDone s)).vault = s.vault := by
  unfold execSnapshotDone; dsimp only; (repeat' split) <;> simp [vault_fields]
@[simp] theorem State.latch_vault (s : State) : (State.latch s).vault = s.vault := by unfold State.latch; simp [vault_fields]
@[simp] theorem State.clearsDone_vault (s : State) : (State.clearsDone s).vault = s.vault := by unfold State.clearsDone; simp [vault_fields]
@[simp] theorem State.sealed_vault (s : State) : (State.sealed s).vault = s.vault := by unfold State.sealed; simp [vault_fields]
theorem execCheckpointWritten_vault (ok : Bool) (s : State) : (stateOf s (execCheckpointWritten ok s)).vault = s.vault := by
  unfold execCheckpointWritten; dsimp only; (repeat' split) <;> simp [vault_fields]
@[simp] theorem State.mtrClear_vault (s : State) (c : Chan) (mask : Nat) : (State.mtrClear s c mask).1.vault = s.vault := by
  unfold State.mtrClear; dsimp only; (repeat' split) <;> simp [vault_fields]
@[simp] theorem State.clearNow_vault (s : State) (c : Chan) : (State.clearNow s c).vault = s.vault := by
  unfold State.clearNow; simp [vault_fields]
@[simp] theorem State.clearsNow_vault (s : State) : (State.clearsNow s).vault = s.vault := by unfold State.clearsNow; simp [vault_fields]
theorem execMeteringClearApply_vault (c : Chan) (s : State) : (stateOf s (execMeteringClearApply c s)).vault = s.vault := by
  unfold execMeteringClearApply; simp [vault_fields]
theorem execCheckpoint_vault (s : State) : (stateOf s (execCheckpoint s)).vault = s.vault := by unfold execCheckpoint; simp [vault_fields]
@[simp] theorem State.shareStep_vault (s : State) (b : BusId) (x y : Chan) (ix iy : Int) : (State.shareStep s b x y ix iy).vault = s.vault := by
  unfold State.shareStep; simp [vault_fields]
theorem execOringShareStep_vault (b : BusId) (s : State) : (stateOf s (execOringShareStep b s)).vault = s.vault := by
  unfold execOringShareStep; (try dsimp only); (repeat' split) <;> simp [vault_fields]
@[simp] theorem State.orTargets_vault (s : State) (b : BusId) : (State.orTargets s b).vault = s.vault := by
  unfold State.orTargets; simp [vault_fields]
@[simp] theorem State.orTick_vault (s : State) (b : BusId) : (State.orTick s b).vault = s.vault := by
  unfold State.orTick; simp [vault_fields]
theorem execOringBlocked_vault (b : BusId) (s : State) : (stateOf s (execOringBlocked b s)).vault = s.vault := by
  unfold execOringBlocked; (try dsimp only); (repeat' split) <;> simp [vault_fields]
@[simp] theorem State.compose_vault (s : State) (c : Chan) : (State.compose s c).vault = s.vault := by
  unfold State.compose; simp [vault_fields]
@[simp] theorem State.milli_vault (s : State) (c : Chan) : (State.milli s c).vault = s.vault := by unfold State.milli; simp [vault_fields]
@[simp] theorem State.trackersAfresh_vault (s : State) : (State.trackersAfresh s).vault = s.vault := by
  unfold State.trackersAfresh; simp [vault_fields]
@[simp] theorem State.hubTick_vault (s : State) : (State.hubTick s).vault = s.vault := by
  unfold State.hubTick; (try dsimp only); (repeat' split) <;> simp [vault_fields]
@[simp] theorem State.tick_vault (s : State) : (State.tick s).vault = s.vault := by
  unfold State.tick
  dsimp only
  rw [State.evalLines_vault, State.hubTick_vault]
  rw [State.forChans_vault _ _ _ (fun s c => by simp [vault_fields])]
  have h : ∀ s : State, (if s.now % msNs = 0 then s.forChans allChans State.milli else s).vault = s.vault := by
    intro s; split
    · exact State.forChans_vault _ _ _ (fun s c => by simp [vault_fields])
    · rfl
  rw [h]
  rw [foldl_vault _ (fun s d => by (repeat' split) <;> simp [vault_fields])]
  rw [foldl_vault _ (fun s p => by (repeat' split) <;> simp [vault_fields])]
  rw [foldl_vault _ (fun s b => by split <;> simp [vault_fields])]
  rw [foldl_vault State.pulseBus (fun s b => by simp [vault_fields])]
  rw [foldl_vault State.busSource (fun s b => by simp [vault_fields])]
  exact State.forChans_vault _ _ _ (fun s c => by simp [vault_fields])
@[simp] theorem State.codeErrs_vault (s : State) (n : Nat) : (State.codeErrs s n).vault = s.vault := by
  unfold State.codeErrs; simp [vault_fields]
@[simp] theorem State.take__vault (s : State) (k : KPort) (f : Frame) (act : State → State) (h : ∀ s, (act s).vault = s.vault) : (State.take_ s k f act).vault = s.vault := by
  unfold State.take_; (repeat' split) <;> simp [vault_fields, h]
theorem execCutThroughForward_vault (k : KPort) (f : Frame) (t : Nat) (residence : Nat) (s : State) : (stateOf s (execCutThroughForward k f t residence s)).vault = s.vault := by
  unfold execCutThroughForward; simp [vault_fields]
@[simp] theorem State.report_vault (s : State) (reason : Nat) : (State.report s reason).vault = s.vault := by
  unfold State.report; simp [vault_fields]
@[simp] theorem State.enumerate_vault (s : State) : (State.enumerate s).vault = s.vault := by unfold State.enumerate; simp [vault_fields]
theorem execDiscover_vault (k : KPort) (f : Frame) (s : State) : (stateOf s (execDiscover k f s)).vault = s.vault := by
  unfold execDiscover; rw [stateOf_next, State.take__vault]; intro s; (try dsimp only); (repeat' split) <;> simp [vault_fields]
@[simp] theorem State.giveAddr_vault (s : State) (uid : Nat) : (State.giveAddr s uid).2.vault = s.vault := by
  unfold State.giveAddr; dsimp only; (repeat' split) <;> simp [vault_fields]
@[simp] theorem State.assign_vault (s : State) (uid : Nat) : (State.assign s uid).vault = s.vault := by
  unfold State.assign; simp [vault_fields]
@[simp] theorem State.reported_vault (s : State) (e : MapEntry) : (State.reported s e).vault = s.vault := by
  unfold State.reported; dsimp only; (repeat' split) <;> simp [vault_fields]
theorem execReport_vault (k : KPort) (f : Frame) (s : State) : (stateOf s (execReport k f s)).vault = s.vault := by
  unfold execReport; rw [stateOf_next, State.take__vault]; intro s; (try dsimp only); (repeat' split) <;> simp [vault_fields]
theorem execAssign_vault (k : KPort) (f : Frame) (s : State) : (stateOf s (execAssign k f s)).vault = s.vault := by
  unfold execAssign; rw [stateOf_next, State.take__vault]; intro s; (try dsimp only); (repeat' split) <;> simp [vault_fields]
theorem execDone_vault (k : KPort) (f : Frame) (s : State) : (stateOf s (execDone k f s)).vault = s.vault := by
  unfold execDone; rw [stateOf_next, State.take__vault]; intro s; (try dsimp only); (repeat' split) <;> simp [vault_fields]
@[simp] theorem State.enumEnd_vault (s : State) : (State.enumEnd s).vault = s.vault := by unfold State.enumEnd; simp [vault_fields]
@[simp] theorem State.enumTick_vault (s : State) : (State.enumTick s).vault = s.vault := by
  unfold State.enumTick; (try dsimp only); (repeat' split) <;> simp [vault_fields]
@[simp] theorem State.ringEnum_vault (s : State) : (State.ringEnum s).1.vault = s.vault := by
  unfold State.ringEnum; (try dsimp only); (repeat' split) <;> simp [vault_fields]
@[simp] theorem State.ringMapClear_vault (s : State) : (State.ringMapClear s).1.vault = s.vault := by
  unfold State.ringMapClear; simp [vault_fields]
@[simp] theorem State.sendRehome_vault (s : State) (k : KPort) (hops : Nat) : (State.sendRehome s k hops).vault = s.vault := by
  unfold State.sendRehome; simp [vault_fields]
@[simp] theorem State.rehome_vault (s : State) (k : KPort) (hops : Nat) : (State.rehome s k hops).vault = s.vault := by
  unfold State.rehome; simp [vault_fields]
@[simp] theorem State.linkChange_vault (s : State) (k : KPort) (up : Bool) : (State.linkChange s k up).vault = s.vault := by
  unfold State.linkChange; simp [vault_fields]
theorem execRingLinkDown_vault (k : KPort) (violations : Nat) (s : State) : (stateOf s (execRingLinkDown k violations s)).vault = s.vault := by
  unfold execRingLinkDown; simp [vault_fields]
@[simp] theorem State.ringLinkUp_vault (s : State) (k : KPort) : (State.ringLinkUp s k).vault = s.vault := by
  unfold State.ringLinkUp; simp [vault_fields]
@[simp] theorem State.broken_vault (s : State) : (State.broken s).vault = s.vault := by unfold State.broken; simp [vault_fields]
theorem execRehome_vault (k : KPort) (b : Byte) (s : State) : (stateOf s (execRehome k b s)).vault = s.vault := by
  unfold execRehome; simp [vault_fields]
@[simp] theorem State.ringWake_vault (s : State) (mask : Nat) : (State.ringWake s mask).1.vault = s.vault := by
  unfold State.ringWake; simp [vault_fields]
theorem execEventFrame_vault (k : KPort) (f : Frame) (s : State) : (stateOf s (execEventFrame k f s)).vault = s.vault := by
  unfold execEventFrame; rw [stateOf_next, State.take__vault]; intro s; (try dsimp only); (repeat' split) <;> simp [vault_fields]
theorem execFaultFrame_vault (k : KPort) (f : Frame) (s : State) : (stateOf s (execFaultFrame k f s)).vault = s.vault := by
  unfold execFaultFrame; rw [stateOf_next, State.take__vault]; intro s; (try dsimp only); (repeat' split) <;> simp [vault_fields]
@[simp] theorem State.timeState_vault (s : State) (v : Nat) : (State.timeState s v).vault = s.vault := by
  unfold State.timeState; simp [vault_fields]
@[simp] theorem State.stepTime_vault (s : State) (master : Nat) : (State.stepTime s master).vault = s.vault := by
  unfold State.stepTime; simp [vault_fields]
@[simp] theorem State.slewTick_vault (s : State) : (State.slewTick s).vault = s.vault := by unfold State.slewTick; simp [vault_fields]
@[simp] theorem State.offset_vault (s : State) (ps : Int) : (State.offset s ps).vault = s.vault := by
  unfold State.offset; simp [vault_fields]
theorem execSyncTime_vault (k : KPort) (f : Frame) (t : Nat) (s : State) : (stateOf s (execSyncTime k f t s)).vault = s.vault := by
  unfold execSyncTime; rw [stateOf_next, State.take__vault]; intro s; (try dsimp only); (repeat' split) <;> simp [vault_fields]
theorem execSyncPeriod_vault (s : State) : (stateOf s (execSyncPeriod s)).vault = s.vault := by unfold execSyncPeriod; simp [vault_fields]
theorem execTimeHoldover_vault (s : State) : (stateOf s (execTimeHoldover s)).vault = s.vault := by
  unfold execTimeHoldover; simp [vault_fields]
@[simp] theorem State.sendLocal_vault (s : State) (k : KPort) (payload : List Byte) : (State.sendLocal s k payload).vault = s.vault := by
  unfold State.sendLocal; simp [vault_fields]
theorem execDelayReq_vault (k : KPort) (f : Frame) (turn : Nat) (s : State) : (stateOf s (execDelayReq k f turn s)).vault = s.vault := by
  unfold execDelayReq; rw [stateOf_next, State.take__vault]; intro s; (try dsimp only); (repeat' split) <;> simp [vault_fields]
theorem execDelayResp_vault (k : KPort) (f : Frame) (t : Nat) (s : State) : (stateOf s (execDelayResp k f t s)).vault = s.vault := by
  unfold execDelayResp; rw [stateOf_next, State.take__vault]; intro s; (try dsimp only); (repeat' split) <;> simp [vault_fields]
theorem execDelayExchangePeriod_vault (s : State) : (stateOf s (execDelayExchangePeriod s)).vault = s.vault := by
  unfold execDelayExchangePeriod; simp [vault_fields]
@[simp] theorem State.answer_vault (s : State) (q : Req) (a : Answer) : (State.answer s q a).vault = s.vault := by
  unfold State.answer; dsimp only; (repeat' split) <;> simp [vault_fields]
@[simp] theorem State.commitDone_vault (s : State) (u : CUnit) (e : Err) (key : Nat) : (State.commitDone s u e key).vault = s.vault := by
  unfold State.commitDone; simp [vault_fields]
@[simp] theorem State.chanEff_vault (s : State) (c : Chan) : (State.chanEff s c).vault = s.vault := by
  unfold State.chanEff; simp [vault_fields]
@[simp] theorem State.chanApplied_vault (s : State) (c : Chan) (old : Store) : (State.chanApplied s c old).vault = s.vault := by
  unfold State.chanApplied; dsimp only; (repeat' split) <;> simp [vault_fields]
@[simp] theorem State.orFrames_vault (s : State) (b : BusId) : (State.orFrames s b).vault = s.vault := by
  unfold State.orFrames; simp [vault_fields]
@[simp] theorem State.busApplied_vault (s : State) (b : BusId) (old : Store) : (State.busApplied s b old).vault = s.vault := by
  unfold State.busApplied; simp [vault_fields]
@[simp] theorem State.impose_vault (s : State) (o : Obj) (i : Nat) (v : Int) : (State.impose s o i v).vault = s.vault := by
  unfold State.impose; simp [vault_fields]
@[simp] theorem State.both_vault (s : State) (o : Obj) (i : Nat) (v : Int) : (State.both s o i v).vault = s.vault := by
  unfold State.both; simp [vault_fields]
@[simp] theorem State.preSenses_vault (s : State) (p : Quad) : (State.preSenses s p).vault = s.vault := by
  unfold State.preSenses; simp [vault_fields]
@[simp] theorem State.preLetsSecond_vault (s : State) (p : Quad) (old : Store) : (State.preLetsSecond s p old).vault = s.vault := by
  unfold State.preLetsSecond; simp [vault_fields]
@[simp] theorem State.preOwns_vault (s : State) (p : Quad) (old : Store) : (State.preOwns s p old).vault = s.vault := by
  unfold State.preOwns; simp [vault_fields]
@[simp] theorem State.preLets_vault (s : State) (p : Quad) (old : Store) : (State.preLets s p old).vault = s.vault := by
  unfold State.preLets; simp [vault_fields]
@[simp] theorem State.cmpApplied_vault (s : State) (n : Oct) (old : Store) : (State.cmpApplied s n old).vault = s.vault := by
  unfold State.cmpApplied; simp [vault_fields]
@[simp] theorem State.preApplied_vault (s : State) (p : Quad) (old : Store) : (State.preApplied s p old).vault = s.vault := by
  unfold State.preApplied; simp [vault_fields]
@[simp] theorem State.disApplied_vault (s : State) (d : Quad) (old : Store) : (State.disApplied s d old).vault = s.vault := by
  unfold State.disApplied; simp [vault_fields]
@[simp] theorem State.applySet_vault (s : State) (u : CUnit) (set : Store) : (State.applySet s u set).vault = s.vault := by
  unfold State.applySet; dsimp only; (repeat' split) <;> simp [vault_fields]
@[simp] theorem State.commitNow_vault (s : State) (u : CUnit) (set : Store) : (State.commitNow s u set).1.vault = s.vault := by
  unfold State.commitNow; (try dsimp only); (repeat' split) <;> simp [vault_fields]
@[simp] theorem State.commit_vault (s : State) (u : CUnit) (q : Req) : (State.commit s u q).1.vault = s.vault := by
  unfold State.commit; dsimp only; (repeat' split) <;> simp [vault_fields]
theorem execCommitApply_vault (u : CUnit) (s : State) : (stateOf s (execCommitApply u s)).vault = s.vault := by
  unfold execCommitApply; dsimp only; (repeat' split) <;> simp [vault_fields]
@[simp] theorem State.revert_vault (s : State) (u : CUnit) : (State.revert s u).1.vault = s.vault := by
  unfold State.revert; (try dsimp only); (repeat' split) <;> simp [vault_fields]
@[simp] theorem State.enqueue_vault (s : State) (r : StrRec) : (State.enqueue s r).vault = s.vault := by
  unfold State.enqueue; simp [vault_fields]
@[simp] theorem State.dropRecord_vault (s : State) (r : StrRec) : (State.dropRecord s r).vault = s.vault := by
  unfold State.dropRecord; simp [vault_fields]
theorem execStreamRecord_vault (s : State) : (stateOf s (execStreamRecord s)).vault = s.vault := by
  unfold execStreamRecord; dsimp only; (repeat' split) <;> simp [vault_fields]
theorem execBlockSend_vault (s : State) : (stateOf s (execBlockSend s)).vault = s.vault := by unfold execBlockSend; simp [vault_fields]
theorem execStreamFlush_vault (s : State) : (stateOf s (execStreamFlush s)).vault = s.vault := by
  unfold execStreamFlush; dsimp only; (repeat' split) <;> simp [vault_fields]
theorem execReadyHighEnd_vault (ns : Nat) (s : State) : (stateOf s (execReadyHighEnd ns s)).vault = s.vault := by
  unfold execReadyHighEnd; simp [vault_fields]
@[simp] theorem State.strStart_vault (s : State) : (State.strStart s).1.vault = s.vault := by
  unfold State.strStart; dsimp only; (repeat' split) <;> simp [vault_fields]
@[simp] theorem State.strHalt_vault (s : State) : (State.strHalt s).vault = s.vault := by unfold State.strHalt; simp [vault_fields]
@[simp] theorem State.strStop_vault (s : State) : (State.strStop s).1.vault = s.vault := by unfold State.strStop; simp [vault_fields]
@[simp] theorem State.strCapture_vault (s : State) (mask : Nat) : (State.strCapture s mask).1.vault = s.vault := by
  unfold State.strCapture; simp [vault_fields]
@[simp] theorem State.strExport_vault (s : State) (n : Nat) : (State.strExport s n).1.vault = s.vault := by
  unfold State.strExport; dsimp only; (repeat' split) <;> simp [vault_fields]
theorem execJournalExportRecord_vault (s : State) : (stateOf s (execJournalExportRecord s)).vault = s.vault := by
  unfold execJournalExportRecord; dsimp only; (repeat' split) <;> simp [vault_fields]
@[simp] theorem State.xtalGone_vault (s : State) : (State.xtalGone s).vault = s.vault := by unfold State.xtalGone; simp [vault_fields]
@[simp] theorem State.strapped_vault (s : State) (strap : Nat) : (State.strapped s strap).vault = s.vault := by
  unfold State.strapped; simp [vault_fields]
theorem execResetRelease_vault (strap : Nat) (s : State) : (stateOf s (execResetRelease strap s)).vault = s.vault := by
  unfold execResetRelease; simp [vault_fields]
@[simp] theorem State.bootFw_vault (s : State) (runsB back : Bool) : (State.bootFw s runsB back).vault = s.vault := by
  unfold State.bootFw; simp [vault_fields]
@[simp] theorem State.loadValue_vault (s : State) (k : Nat) (v : Int) : (State.loadValue s k v).1.vault = s.vault := by
  unfold State.loadValue; (try dsimp only); (repeat' split) <;> simp [vault_fields]
@[simp] theorem State.grantCheck_vault (s : State) (b : BusId) : (State.grantCheck s b).1.vault = s.vault := by
  unfold State.grantCheck; dsimp only; (repeat' split) <;> simp [vault_fields]
@[simp] theorem State.loadPass_vault (s : State) : (State.loadPass s).1.vault = s.vault := by
  unfold State.loadPass; exact foldl_fst_vault _ (fun r x => by dsimp only; split <;> simp [vault_fields]) _ _
theorem loadPasses_vault (n : Nat) (s : State) : (State.loadPasses n s).1.vault = s.vault := by
  induction n generalizing s with
  | zero => rfl
  | succ n ih => simp only [State.loadPasses]; split <;> simp [ih]

@[simp] theorem State.loadCfg_vault (s : State) : (State.loadCfg s).vault = s.vault := by
  unfold State.loadCfg; split
  · simp [vault_fields]
  · dsimp only
    rw [State.set_vault, State.set_vault, State.set_vault, State.forChans_vault _ _ _ fun s c => State.chanEff_vault s c]
    simp only [vault_mk, vault_fields, Prod.eta, loadPasses_vault]
    rw [foldl_fst_vault _ (fun r x => by simp [vault_fields]), foldl_fst_vault _ (fun r x => by simp [vault_fields])]
@[simp] theorem State.cfgInForce_vault (s : State) : (State.cfgInForce s).vault = s.vault := by unfold State.cfgInForce; simp [vault_fields]
@[simp] theorem State.portFrom_vault (s : State) (c : Chan) (k : CkptPort) : (State.portFrom s c k).vault = s.vault := by
  unfold State.portFrom; simp [vault_fields]
@[simp] theorem State.loadCkpt_vault (s : State) : (State.loadCkpt s).vault = s.vault := by
  unfold State.loadCkpt; dsimp only; (repeat' split) <;> simp [vault_fields]
@[simp] theorem State.reconcile_vault (s : State) (c : Chan) : (State.reconcile s c).vault = s.vault := by
  unfold State.reconcile; simp [vault_fields]
@[simp] theorem State.adoptKeptTrip_vault (s : State) (c : Chan) (held : Bool) (last : Nat) : (State.adoptKeptTrip s c held last).vault = s.vault := by
  unfold State.adoptKeptTrip; dsimp only; (repeat' split) <;> (try rw [foldl_vault _ (fun s e => by simp [vault_fields])]) <;> simp [vault_fields]
@[simp] theorem State.adoptTrip_vault (s : State) (c : Chan) (kept held : Bool) (last : Nat) : (State.adoptTrip s c kept held last).vault = s.vault := by
  unfold State.adoptTrip; simp [vault_fields]
@[simp] theorem State.adoptTimes_vault (s : State) (c : Chan) (kept : Bool) (tEnable0 : Nat) : (State.adoptTimes s c kept tEnable0).vault = s.vault := by
  unfold State.adoptTimes; simp [vault_fields]
@[simp] theorem State.adoptRemoval_vault (s : State) (c : Chan) : (State.adoptRemoval s c).vault = s.vault := by
  unfold State.adoptRemoval; simp [vault_fields]
@[simp] theorem State.adoptPod_vault (s : State) (c : Chan) : (State.adoptPod s c).vault = s.vault := by
  unfold State.adoptPod; simp [vault_fields]
@[simp] theorem State.adoptPods_vault (s : State) (l : List Chan) : (State.adoptPods s l).vault = s.vault := by
  unfold State.adoptPods; dsimp only; simp only [State.evalLines_vault]; rw [foldl_vault _ (fun s c => by simp [vault_fields]), foldl_vault _ (fun s b => by split <;> simp [vault_fields]), foldl_vault _ (fun s c => by simp [vault_fields])]
@[simp] theorem State.cameUp_vault (s : State) (h : HubState) : (State.cameUp s h).vault = s.vault := by
  unfold State.cameUp; simp [vault_fields]
@[simp] theorem State.bootEnd_vault (s : State) : (State.bootEnd s).vault = s.vault := by unfold State.bootEnd; simp [vault_fields]
theorem execAdopt_vault (s : State) : (stateOf s (execAdopt s)).vault = s.vault := by unfold execAdopt; simp [vault_fields]
theorem execPodAdoption_vault (c : Chan) (s : State) : (stateOf s (execPodAdoption c s)).vault = s.vault := by
  unfold execPodAdoption; simp [vault_fields]
theorem execPodSupplyCurrentLimit_vault (c : Chan) (s : State) : (stateOf s (execPodSupplyCurrentLimit c s)).vault = s.vault := by
  unfold execPodSupplyCurrentLimit; simp [vault_fields]
theorem execPodSupplyRetry_vault (c : Chan) (holds : Bool) (s : State) : (stateOf s (execPodSupplyRetry c holds s)).vault = s.vault := by
  unfold execPodSupplyRetry; (try dsimp only); (repeat' split) <;> simp [vault_fields]
@[simp] theorem State.podsupEn_vault (s : State) (mask : Nat) : (State.podsupEn s mask).1.vault = s.vault := by
  unfold State.podsupEn; simp [vault_fields]
@[simp] theorem State.clockMove_vault (s : State) (st : Nat) : (State.clockMove s st).vault = s.vault := by
  unfold State.clockMove; simp [vault_fields]
theorem execRingClockMove_vault (s : State) : (stateOf s (execRingClockMove s)).vault = s.vault := by
  unfold execRingClockMove; simp [vault_fields]
@[simp] theorem State.clockTick_vault (s : State) : (State.clockTick s).vault = s.vault := by unfold State.clockTick; simp [vault_fields]
theorem execXtalMeasure_vault (ppm : Int) (s : State) : (stateOf s (execXtalMeasure ppm s)).vault = s.vault := by
  unfold execXtalMeasure; simp [vault_fields]
@[simp] theorem State.hubSleep_vault (s : State) : (State.hubSleep s).1.vault = s.vault := by unfold State.hubSleep; simp [vault_fields]
theorem execPodWakeSignal_vault (c : Chan) (s : State) : (stateOf s (execPodWakeSignal c s)).vault = s.vault := by
  unfold execPodWakeSignal; (try dsimp only); (repeat' split) <;> simp [vault_fields]
@[simp] theorem State.cfgSave_vault (s : State) : (State.cfgSave s).1.vault = s.vault := by unfold State.cfgSave; simp [vault_fields]
@[simp] theorem State.cfgTick_vault (s : State) : (State.cfgTick s).vault = s.vault := by
  unfold State.cfgTick; (try dsimp only); (repeat' split) <;> simp [vault_fields]
@[simp] theorem State.cfgFail_vault (s : State) : (State.cfgFail s).vault = s.vault := by unfold State.cfgFail; simp [vault_fields]
theorem execCfgSaveComplete_vault (ok : Bool) (s : State) : (stateOf s (execCfgSaveComplete ok s)).vault = s.vault := by
  unfold execCfgSaveComplete; (try dsimp only); (repeat' split) <;> simp [vault_fields]
@[simp] theorem State.cfgDefaults_vault (s : State) : (State.cfgDefaults s).1.vault = s.vault := by
  unfold State.cfgDefaults; simp [vault_fields]
@[simp] theorem State.fwBegin_vault (s : State) : (State.fwBegin s).1.vault = s.vault := by unfold State.fwBegin; simp [vault_fields]
@[simp] theorem State.fwImage_vault (s : State) (off : Nat) (data : List Byte) : (State.fwImage s off data).1.vault = s.vault := by
  unfold State.fwImage; simp [vault_fields]
@[simp] theorem State.fwFinish_vault (s : State) : (State.fwFinish s).1.vault = s.vault := by unfold State.fwFinish; simp [vault_fields]
@[simp] theorem State.fwCancel_vault (s : State) : (State.fwCancel s).1.vault = s.vault := by unfold State.fwCancel; simp [vault_fields]
theorem execFwCheckDone_vault (s : State) : (stateOf s (execFwCheckDone s)).vault = s.vault := by
  unfold execFwCheckDone; simp [vault_fields]
@[simp] theorem State.fwConfirm_vault (s : State) : (State.fwConfirm s).1.vault = s.vault := by unfold State.fwConfirm; simp [vault_fields]
theorem execPfwN_vault (s : State) : (stateOf s (execPfwN s)).vault = s.vault := by unfold execPfwN; simp [vault_fields]
theorem execPowerWarningEnd_vault (s : State) : (stateOf s (execPowerWarningEnd s)).vault = s.vault := by
  unfold execPowerWarningEnd; (try dsimp only); (repeat' split) <;> simp [vault_fields]
theorem execRoleLockEnd_vault (s : State) : (stateOf s (execRoleLockEnd s)).vault = s.vault := by
  unfold execRoleLockEnd; simp [vault_fields]
@[simp] theorem State.mirror_vault (s : State) (index sub off : Nat) (data : List Byte) : (State.mirror s index sub off data).vault = s.vault := by
  unfold State.mirror; simp [vault_fields]
@[simp] theorem State.mirrorUnit_vault (s : State) (u : CUnit) : (State.mirrorUnit s u).vault = s.vault := by
  unfold State.mirrorUnit; simp [vault_fields]
theorem execMirroringComplete_vault (s : State) : (stateOf s (execMirroringComplete s)).vault = s.vault := by
  unfold execMirroringComplete; simp [vault_fields]
@[simp] theorem State.releaseGroup_vault (s : State) (c : Chan) : (State.releaseGroup s c).vault = s.vault := by
  unfold State.releaseGroup; (try dsimp only); (repeat' split) <;> simp [vault_fields]
@[simp] theorem State.pxMove_vault (s : State) (mask : Nat) : (State.pxMove s mask).1.vault = s.vault := by
  unfold State.pxMove; simp [vault_fields]
@[simp] theorem State.putRw_vault (s : State) (key : Nat) (v : Int) : (State.putRw s key v).vault = s.vault := by
  unfold State.putRw; (try dsimp only); (repeat' split) <;> simp [vault_fields]
@[simp] theorem State.writeRw_vault (s : State) (q : Req) (v : Int) : (State.writeRw s q v).1.vault = s.vault := by
  unfold State.writeRw; (try dsimp only); (repeat' split) <;> simp [vault_fields]
@[simp] theorem State.passOn_vault (s : State) (before : State) (q : Req) (r : ObjRow) (data : List Byte) (e : Option Err) : (State.passOn s before q r data e).vault = s.vault := by
  unfold State.passOn; simp [vault_fields]
@[simp] theorem State.sentDone_vault (s : State) (x : Sent) (bytes : List Byte) : (State.sentDone s x bytes).vault = s.vault := by
  unfold State.sentDone; simp [vault_fields]
theorem execOdResp_vault (k : KPort) (f : Frame) (s : State) : (stateOf s (execOdResp k f s)).vault = s.vault := by
  unfold execOdResp; rw [stateOf_next, State.take__vault]; intro s; (try dsimp only); (repeat' split) <;> simp [vault_fields]
theorem execRingRespTmo_vault (seq : Nat) (s : State) : (stateOf s (execRingRespTmo seq s)).vault = s.vault := by
  unfold execRingRespTmo; (try dsimp only); (repeat' split) <;> simp [vault_fields]
@[simp] theorem State.rwApply_vault (s : State) : (State.rwApply s).vault = s.vault := by unfold State.rwApply; simp [vault_fields]
theorem execControlTick_vault (s : State) : (stateOf s (execControlTick s)).vault = s.vault := by
  unfold execControlTick; simp [vault_fields]

end Sys2Proof.Machine
end

