-- ==== Sys2Proof/Laws/Conf.lean ====
section
/-! SUPPORT. The active and the shadow set, the writes that wait for the tick, the COMMITs that wait. -/

namespace Sys2Proof.Machine

set_option linter.unusedSimpArgs false

/-- What is configured: the active and the shadow sets, the writes that wait for the tick, the COMMITs that wait. -/
def State.conf (s : State) : Store × Store × (List (Nat × Int)) × List Pend := (s.active, s.shadow, s.rwNext, s.pend)

@[simp] theorem conf_mk (now : _) (fresh : _) (pending : _) (active : _) (shadow : _) (status : _) (pods : _) (ports : _) (buses : _) (pre : _) (dis : _) (jnl : _) (pwm : _) (cells : _) (rdyLost : _) (hub : _) (flto : _) (flti : _) (lines : _) (out : _) (ringUp : _) (str : _) (snap : _) (snapLatched : _) (hkAt : _) (hkFrom : _) (hkPos : _) (ckpt : _) (pfw : _) (pend : _) (resp : _) (sessions : _) (locks : _) (seals : _) (sealing : _) (cfg : _) (ring : _) (spi : _) (power : _) (fw : _) (rwNext : _) (pxReady : _) :
    State.conf (State.mk now fresh pending active shadow status pods ports buses pre dis jnl pwm cells rdyLost hub flto flti lines out ringUp str snap snapLatched hkAt hkFrom hkPos ckpt pfw pend resp sessions locks seals sealing cfg ring spi power fw rwNext pxReady) = (active, shadow, rwNext, pend) := rfl

theorem conf_fields (s : State) : s.active = s.conf.1 ∧ s.shadow = s.conf.2.1 ∧ s.rwNext = s.conf.2.2.1 ∧ s.pend = s.conf.2.2.2 :=
  ⟨rfl, rfl, rfl, rfl⟩

@[simp] theorem ite_conf (c : Prop) [Decidable c] (a b : State) : (if c then a else b).conf = if c then a.conf else b.conf := by split <;> rfl

@[simp] theorem foldl_conf {α : Type} (f : State → α → State) (h : ∀ s x, (f s x).conf = s.conf) (l : List α) (s : State) :
    (l.foldl f s).conf = s.conf := by
  induction l generalizing s with
  | nil => rfl
  | cons x r ih => simp only [List.foldl]; rw [ih, h]

theorem foldl_fst_conf {α β : Type} (f : State × β → α → State × β) (h : ∀ r x, (f r x).1.conf = r.1.conf) (l : List α) (r : State × β) :
    (l.foldl f r).1.conf = r.1.conf := by
  induction l generalizing r with
  | nil => rfl
  | cons x l ih => simp only [List.foldl]; rw [ih, h]

theorem foldl_snd_conf {α β : Type} (f : β × State → α → β × State) (h : ∀ r x, (f r x).2.conf = r.2.conf) (l : List α) (r : β × State) :
    (l.foldl f r).2.conf = r.2.conf := by
  induction l generalizing r with
  | nil => rfl
  | cons x l ih => simp only [List.foldl]; rw [ih, h]

@[simp] theorem State.updPod_conf (s : State) (c : Chan) (f : Pod → Pod) : (State.updPod s c f).conf = s.conf := by
  unfold State.updPod; simp [conf_fields]
@[simp] theorem State.updPort_conf (s : State) (c : Chan) (f : Port → Port) : (State.updPort s c f).conf = s.conf := by
  unfold State.updPort; simp [conf_fields]
@[simp] theorem State.updBus_conf (s : State) (b : BusId) (f : Bus → Bus) : (State.updBus s b f).conf = s.conf := by
  unfold State.updBus; simp [conf_fields]
@[simp] theorem State.updPre_conf (s : State) (p : Quad) (f : Pre → Pre) : (State.updPre s p f).conf = s.conf := by
  unfold State.updPre; simp [conf_fields]
@[simp] theorem State.updDis_conf (s : State) (d : Quad) (f : Dis → Dis) : (State.updDis s d f).conf = s.conf := by
  unfold State.updDis; simp [conf_fields]
@[simp] theorem State.forChans_conf (s : State) (l : List Chan) (f : State → Chan → State) (h : ∀ s x, (f s x).conf = s.conf) : (State.forChans s l f).conf = s.conf := by
  unfold State.forChans; exact foldl_conf f h l s
@[simp] theorem State.at_conf (s : State) (t : Nat) : (State.at s t).conf = s.conf := by unfold State.at; simp [conf_fields]
@[simp] theorem State.podEvent_conf (s : State) (c : Chan) (t : Nat) (ok : Pod → Nat → Bool) (f : Pod → Nat → Pod) : (State.podEvent s c t ok f).conf = s.conf := by
  unfold State.podEvent; simp [conf_fields]
@[simp] theorem State.set_conf (s : State) (o : Obj) (i : Nat) (v : Int) (k : Nat) : (State.set s o i v k).conf = s.conf := by
  unfold State.set; simp [conf_fields]
@[simp] theorem State.count_conf (s : State) (o : Obj) (i : Nat) (n : Nat) (k : Nat) : (State.count s o i n k).conf = s.conf := by
  unfold State.count; simp [conf_fields]
@[simp] theorem State.count64_conf (s : State) (o : Obj) (i : Nat) (n : Nat) : (State.count64 s o i n).conf = s.conf := by
  unfold State.count64; simp [conf_fields]
@[simp] theorem State.take_conf (s : State) : (State.take s).2.conf = s.conf := by unfold State.take; simp [conf_fields]
@[simp] theorem State.irq_conf (s : State) (bit : Nat) : (State.irq s bit).conf = s.conf := by unfold State.irq; simp [conf_fields]
@[simp] theorem State.push_conf (s : State) (x : Item) : (State.push s x).conf = s.conf := by unfold State.push; simp [conf_fields]
@[simp] theorem State.pushOrDrop_conf (s : State) (x : Item) : (State.pushOrDrop s x).conf = s.conf := by
  unfold State.pushOrDrop; simp [conf_fields]
@[simp] theorem State.sendOn_conf (s : State) (f : Frame) (ports : Nat) : (State.sendOn s f ports).conf = s.conf := by
  unfold State.sendOn; simp [conf_fields]
@[simp] theorem State.sendOwn_conf (s : State) (type seq dst : Nat) (payload : List Byte) : (State.sendOwn s type seq dst payload).conf = s.conf := by
  unfold State.sendOwn; simp [conf_fields]
@[simp] theorem State.nextSeq_conf (s : State) : (State.nextSeq s).conf = s.conf := by unfold State.nextSeq; simp [conf_fields]
@[simp] theorem State.sendEvent_conf (s : State) (r : JRec) : (State.sendEvent s r).conf = s.conf := by
  unfold State.sendEvent; simp [conf_fields]
@[simp] theorem State.journalAt_conf (s : State) (t kind : Nat) (src : JSrc) (code : Nat) (data : List (Nat × Nat)) (held : Bool) (clean : Bool) : (State.journalAt s t kind src code data held clean).conf = s.conf := by
  unfold State.journalAt; simp [conf_fields]
@[simp] theorem State.journal_conf (s : State) (kind : Nat) (src : JSrc) (code : Nat) (data : List (Nat × Nat)) : (State.journal s kind src code data).conf = s.conf := by
  unfold State.journal; simp [conf_fields]
@[simp] theorem State.warn_conf (s : State) (src : JSrc) (code : Nat) (data : List (Nat × Nat)) : (State.warn s src code data).conf = s.conf := by
  unfold State.warn; simp [conf_fields]
theorem execUvloAssert_conf (c : Chan) (vneg : Bool) (mv : Int) (since : Nat) (t : Nat) (s : State) : (stateOf s (execUvloAssert c vneg mv since t s)).conf = s.conf := by
  unfold execUvloAssert; simp [conf_fields]
theorem execUvloClear_conf (c : Chan) (vneg : Bool) (mv : Int) (since : Nat) (t : Nat) (s : State) : (stateOf s (execUvloClear c vneg mv since t s)).conf = s.conf := by
  unfold execUvloClear; simp [conf_fields]
theorem execStackTurnOn_conf (c : Chan) (ic vc : List Raw) (t : Nat) (s : State) : (stateOf s (execStackTurnOn c ic vc t s)).conf = s.conf := by
  unfold execStackTurnOn; simp [conf_fields]
theorem execTurnOnAfterClamp_conf (c : Chan) (ic vc : List Raw) (t : Nat) (s : State) : (stateOf s (execTurnOnAfterClamp c ic vc t s)).conf = s.conf := by
  unfold execTurnOnAfterClamp; simp [conf_fields]
theorem execGateLevelReached_conf (c : Chan) (side : Side) (mv : Int) (t : Nat) (s : State) : (stateOf s (execGateLevelReached c side mv t s)).conf = s.conf := by
  unfold execGateLevelReached; simp [conf_fields]
theorem execStrongHoldEnd_conf (c : Chan) (side : Side) (t : Nat) (s : State) : (stateOf s (execStrongHoldEnd c side t s)).conf = s.conf := by
  unfold execStrongHoldEnd; simp [conf_fields]
theorem execStrongClampEnd_conf (c : Chan) (side : Side) (t : Nat) (s : State) : (stateOf s (execStrongClampEnd c side t s)).conf = s.conf := by
  unfold execStrongClampEnd; simp [conf_fields]
theorem execBoostTimeLimit_conf (c : Chan) (side : Side) (t : Nat) (s : State) : (stateOf s (execBoostTimeLimit c side t s)).conf = s.conf := by
  unfold execBoostTimeLimit; simp [conf_fields]
theorem execSlewLimitExpired_conf (c : Chan) (side : Side) (t : Nat) (s : State) : (stateOf s (execSlewLimitExpired c side t s)).conf = s.conf := by
  unfold execSlewLimitExpired; simp [conf_fields]
theorem execForcedClamp_conf (c : Chan) (side : Side) (t : Nat) (s : State) : (stateOf s (execForcedClamp c side t s)).conf = s.conf := by
  unfold execForcedClamp; simp [conf_fields]
theorem execClampGateFault_conf (c : Chan) (side : Side) (t : Nat) (s : State) : (stateOf s (execClampGateFault c side t s)).conf = s.conf := by
  unfold execClampGateFault; simp [conf_fields]
theorem execBarrierSignalLoss_conf (c : Chan) (t : Nat) (s : State) : (stateOf s (execBarrierSignalLoss c t s)).conf = s.conf := by
  unfold execBarrierSignalLoss; simp [conf_fields]
theorem execHvPowerUp_conf (c : Chan) (vpos vneg : Int) (mid : Nat) (t : Nat) (s : State) : (stateOf s (execHvPowerUp c vpos vneg mid t s)).conf = s.conf := by
  unfold execHvPowerUp; simp [conf_fields]
theorem execHvPowerDown_conf (c : Chan) (t : Nat) (s : State) : (stateOf s (execHvPowerDown c t s)).conf = s.conf := by
  unfold execHvPowerDown; simp [conf_fields]
theorem execSc2Trip_conf (c : Chan) (t : Nat) (s : State) : (stateOf s (execSc2Trip c t s)).conf = s.conf := by
  unfold execSc2Trip; simp [conf_fields]
theorem execSc1Trip_conf (c : Chan) (memberB : Bool) (since : Nat) (t : Nat) (s : State) : (stateOf s (execSc1Trip c memberB since t s)).conf = s.conf := by
  unfold execSc1Trip; simp [conf_fields]
theorem execReverseTrip_conf (c : Chan) (since : Nat) (t : Nat) (s : State) : (stateOf s (execReverseTrip c since t s)).conf = s.conf := by
  unfold execReverseTrip; simp [conf_fields]
theorem execDesatTrip_conf (c : Chan) (side : Side) (since : Nat) (t : Nat) (s : State) : (stateOf s (execDesatTrip c side since t s)).conf = s.conf := by
  unfold execDesatTrip; simp [conf_fields]
theorem execDesatBlankingEnd_conf (c : Chan) (side : Side) (t : Nat) (s : State) : (stateOf s (execDesatBlankingEnd c side t s)).conf = s.conf := by
  unfold execDesatBlankingEnd; simp [conf_fields]
theorem execBusOvTrip_conf (c : Chan) (since : Nat) (t : Nat) (s : State) : (stateOf s (execBusOvTrip c since t s)).conf = s.conf := by
  unfold execBusOvTrip; simp [conf_fields]
theorem execBusUvTrip_conf (c : Chan) (since : Nat) (t : Nat) (s : State) : (stateOf s (execBusUvTrip c since t s)).conf = s.conf := by
  unfold execBusUvTrip; simp [conf_fields]
theorem execCurrentLimitEntry_conf (c : Chan) (memberB : Bool) (negative : Bool) (t : Nat) (s : State) : (stateOf s (execCurrentLimitEntry c memberB negative t s)).conf = s.conf := by
  unfold execCurrentLimitEntry; simp [conf_fields]
theorem execCurrentLimitExit_conf (c : Chan) (t : Nat) (s : State) : (stateOf s (execCurrentLimitExit c t s)).conf = s.conf := by
  unfold execCurrentLimitExit; simp [conf_fields]
theorem execFaultTimerPeriodEnd_conf (c : Chan) (ic vc : List Raw) (t : Nat) (s : State) : (stateOf s (execFaultTimerPeriodEnd c ic vc t s)).conf = s.conf := by
  unfold execFaultTimerPeriodEnd; simp [conf_fields]
theorem execThermalEvaluation_conf (c : Chan) (s : State) : (stateOf s (execThermalEvaluation c s)).conf = s.conf := by
  unfold execThermalEvaluation; simp [conf_fields]
theorem execDieOverTemperature_conf (c : Chan) (t : Nat) (s : State) : (stateOf s (execDieOverTemperature c t s)).conf = s.conf := by
  unfold execDieOverTemperature; simp [conf_fields]
theorem execOutputPresent_conf (c : Chan) (ic vc : List Raw) (t : Nat) (s : State) : (stateOf s (execOutputPresent c ic vc t s)).conf = s.conf := by
  unfold execOutputPresent; simp [conf_fields]
theorem execStackTest_conf (c : Chan) (t : Nat) (s : State) : (stateOf s (execStackTest c t s)).conf = s.conf := by
  unfold execStackTest; simp [conf_fields]
theorem execTieTest_conf (c : Chan) (cmp : PodCmp) (pass : Bool) (t : Nat) (s : State) : (stateOf s (execTieTest c cmp pass t s)).conf = s.conf := by
  unfold execTieTest; simp [conf_fields]
theorem execSuspectConfirmation_conf (c : Chan) (t : Nat) (s : State) : (stateOf s (execSuspectConfirmation c t s)).conf = s.conf := by
  unfold execSuspectConfirmation; simp [conf_fields]
theorem execConfirmationEvaluation_conf (c : Chan) (t : Nat) (s : State) : (stateOf s (execConfirmationEvaluation c t s)).conf = s.conf := by
  unfold execConfirmationEvaluation; simp [conf_fields]
theorem execOnlineSelftestRound_conf (c : Chan) (t : Nat) (s : State) : (stateOf s (execOnlineSelftestRound c t s)).conf = s.conf := by
  unfold execOnlineSelftestRound; simp [conf_fields]
theorem execMemberTestEnd_conf (c : Chan) (cmp : PodCmp) (result : TestResult) (t : Nat) (s : State) : (stateOf s (execMemberTestEnd c cmp result t s)).conf = s.conf := by
  unfold execMemberTestEnd; simp [conf_fields]
theorem execStartEnergyExceeded_conf (c : Chan) (ic vc : List Raw) (t : Nat) (s : State) : (stateOf s (execStartEnergyExceeded c ic vc t s)).conf = s.conf := by
  unfold execStartEnergyExceeded; simp [conf_fields]
theorem execOrphan_conf (c : Chan) (s : State) : (stateOf s (execOrphan c s)).conf = s.conf := by unfold execOrphan; simp [conf_fields]
theorem execHoldWindowEnd_conf (c : Chan) (s : State) : (stateOf s (execHoldWindowEnd c s)).conf = s.conf := by
  unfold execHoldWindowEnd; simp [conf_fields]
theorem execOringReverseBlock_conf (c : Chan) (since : Nat) (t : Nat) (s : State) : (stateOf s (execOringReverseBlock c since t s)).conf = s.conf := by
  unfold execOringReverseBlock; simp [conf_fields]
theorem execOringReverseTrip_conf (c : Chan) (t : Nat) (s : State) : (stateOf s (execOringReverseTrip c t s)).conf = s.conf := by
  unfold execOringReverseTrip; simp [conf_fields]
theorem execOringReentry_conf (c : Chan) (t : Nat) (s : State) : (stateOf s (execOringReentry c t s)).conf = s.conf := by
  unfold execOringReentry; simp [conf_fields]
@[simp] theorem State.updGen_conf (s : State) (n : Oct) (f : Pwm → Pwm) : (State.updGen s n f).conf = s.conf := by
  unfold State.updGen; simp [conf_fields]
@[simp] theorem State.updCell_conf (s : State) (n : Oct) (f : Cell → Cell) : (State.updCell s n f).conf = s.conf := by
  unfold State.updCell; simp [conf_fields]
@[simp] theorem State.pwmStop_conf (s : State) (n : Oct) : (State.pwmStop s n).conf = s.conf := by unfold State.pwmStop; simp [conf_fields]
@[simp] theorem State.uncount_conf (s : State) (o : Obj) (i : Nat) : (State.uncount s o i).conf = s.conf := by
  unfold State.uncount; simp [conf_fields]
@[simp] theorem State.untermed_conf (s : State) (n : Oct) (t : Nat) : (State.untermed s n t).conf = s.conf := by
  unfold State.untermed; (try dsimp only); (repeat' split) <;> simp [conf_fields]
@[simp] theorem State.pwmFault_conf (s : State) (n : Oct) : (State.pwmFault s n).conf = s.conf := by
  unfold State.pwmFault; simp [conf_fields]
@[simp] theorem State.faultSee_conf (s : State) (n : Oct) : (State.faultSee s n).conf = s.conf := by
  unfold State.faultSee; simp [conf_fields]
@[simp] theorem State.pwmFaults_conf (s : State) : (State.pwmFaults s).conf = s.conf := by unfold State.pwmFaults; simp [conf_fields]
@[simp] theorem State.mainEnds_conf (s : State) (n : Oct) (t : Nat) : (State.mainEnds s n t).conf = s.conf := by
  unfold State.mainEnds; simp [conf_fields]
@[simp] theorem State.mainStarts_conf (s : State) (n : Oct) (t on p : Nat) (clipped : Bool) : (State.mainStarts s n t on p clipped).conf = s.conf := by
  unfold State.mainStarts; simp [conf_fields]
@[simp] theorem State.period_conf (s : State) (n : Oct) (t : Nat) (emit skip : State → State) (h1 : ∀ s, (emit s).conf = s.conf) (h2 : ∀ s, (skip s).conf = s.conf) : (State.period s n t emit skip).conf = s.conf := by
  unfold State.period; dsimp only; (repeat' split) <;> simp [conf_fields, h1, h2]
@[simp] theorem State.pwmBoundary_conf (s : State) (n : Oct) (t : Nat) (emit skip : State → State) (h1 : ∀ s, (emit s).conf = s.conf) (h2 : ∀ s, (skip s).conf = s.conf) : (State.pwmBoundary s n t emit skip).conf = s.conf := by
  unfold State.pwmBoundary; dsimp only; (repeat' split) <;> simp [conf_fields, h1, h2]
@[simp] theorem State.pwmMid_conf (s : State) (n : Oct) : (State.pwmMid s n).conf = s.conf := by
  unfold State.pwmMid; dsimp only; (repeat' split) <;> simp [conf_fields]
@[simp] theorem State.pwmTerminate_conf (s : State) (n : Oct) (t : Nat) : (State.pwmTerminate s n t).conf = s.conf := by
  unfold State.pwmTerminate; (try dsimp only); (repeat' split) <;> simp [conf_fields]
@[simp] theorem State.cellOff_conf (s : State) (n : Oct) : (State.cellOff s n).conf = s.conf := by unfold State.cellOff; simp [conf_fields]
@[simp] theorem State.cmpCapture_conf (s : State) (n : Oct) (active : Bool) (t : Nat) : (State.cmpCapture s n active t).conf = s.conf := by
  unfold State.cmpCapture; simp [conf_fields]
@[simp] theorem State.cmpEvent_conf (s : State) (n : Oct) (active : Bool) (t : Nat) : (State.cmpEvent s n active t).conf = s.conf := by
  unfold State.cmpEvent; simp [conf_fields]
@[simp] theorem State.slowRoutes_conf (s : State) (n : Oct) (active : Bool) (t : Nat) : (State.slowRoutes s n active t).conf = s.conf := by
  unfold State.slowRoutes; simp [conf_fields]
@[simp] theorem State.termRoute_conf (s : State) (n : Oct) (t : Nat) : (State.termRoute s n t).conf = s.conf := by
  unfold State.termRoute; simp [conf_fields]
@[simp] theorem State.filtEdge_conf (s : State) (n : Oct) (active : Bool) (t : Nat) : (State.filtEdge s n active t).conf = s.conf := by
  unfold State.filtEdge; simp [conf_fields]
@[simp] theorem State.cellFilter_conf (s : State) (n : Oct) (t : Nat) : (State.cellFilter s n t).conf = s.conf := by
  unfold State.cellFilter; (try dsimp only); (repeat' split) <;> simp [conf_fields]
@[simp] theorem State.routesAct_conf (s old : State) (t : Nat) : (State.routesAct s old t).conf = s.conf := by
  unfold State.routesAct; simp [conf_fields]
@[simp] theorem State.cellOut_conf (s : State) (n : Oct) (active : Bool) (t : Nat) : (State.cellOut s n active t).conf = s.conf := by
  unfold State.cellOut; simp [conf_fields]
@[simp] theorem State.cellEdge_conf (s : State) (n : Oct) (active : Bool) (t : Nat) : (State.cellEdge s n active t).conf = s.conf := by
  unfold State.cellEdge; simp [conf_fields]
@[simp] theorem State.cellAt_conf (s : State) (n : Oct) (active : Bool) (t : Nat) : (State.cellAt s n active t).conf = s.conf := by
  unfold State.cellAt; simp [conf_fields]
theorem execHubCmpEdge_conf (n : Oct) (active : Bool) (mid : Bool) (t : Nat) (s : State) : (stateOf s (execHubCmpEdge n active mid t s)).conf = s.conf := by
  unfold execHubCmpEdge; simp [conf_fields]
@[simp] theorem State.testBegin_conf (s : State) (n : Oct) (swap : Bool) : (State.testBegin s n swap).conf = s.conf := by
  unfold State.testBegin; simp [conf_fields]
@[simp] theorem State.holdEnd_conf (s : State) (n : Oct) (active : Bool) (t : Nat) : (State.holdEnd s n active t).conf = s.conf := by
  unfold State.holdEnd; dsimp only; (repeat' split) <;> simp [conf_fields]
theorem execSpeedHoldEnd_conf (cell : CellId) (active : Bool) (s : State) : (stateOf s (execSpeedHoldEnd cell active s)).conf = s.conf := by
  unfold execSpeedHoldEnd; (try dsimp only); (repeat' split) <;> simp [conf_fields]
@[simp] theorem State.testFail_conf (s : State) (n : Oct) : (State.testFail s n).conf = s.conf := by
  unfold State.testFail; simp [conf_fields]
@[simp] theorem State.testEnd_conf (s : State) (n : Oct) (r : TestResult) : (State.testEnd s n r).conf = s.conf := by
  unfold State.testEnd; (try dsimp only); (repeat' split) <;> simp [conf_fields]
theorem execCmpTestDone_conf (n : Oct) (result : TestResult) (s : State) : (stateOf s (execCmpTestDone n result s)).conf = s.conf := by
  unfold execCmpTestDone; simp [conf_fields]
@[simp] theorem State.selfMask_conf (s : State) (n : Oct) : (State.selfMask s n).conf = s.conf := by
  unfold State.selfMask; simp [conf_fields]
@[simp] theorem State.selfUnmask_conf (s : State) (n : Oct) : (State.selfUnmask s n).conf = s.conf := by
  unfold State.selfUnmask; (try dsimp only); (repeat' split) <;> simp [conf_fields]
@[simp] theorem State.testAbort_conf (s : State) (n : Oct) : (State.testAbort s n).conf = s.conf := by
  unfold State.testAbort; simp [conf_fields]
@[simp] theorem State.down_conf (s : State) (c : Chan) (f : CmdFrame → CmdFrame) : (State.down s c f).conf = s.conf := by
  unfold State.down; simp [conf_fields]
@[simp] theorem State.tripBy_conf (s : State) (c : Chan) (k : Cause) : (State.tripBy s c k).conf = s.conf := by
  unfold State.tripBy; simp [conf_fields]
@[simp] theorem State.offBy_conf (s : State) (c : Chan) : (State.offBy s c).conf = s.conf := by unfold State.offBy; simp [conf_fields]
@[simp] theorem State.podNow_conf (s : State) (c : Chan) (f : Pod → Pod) : (State.podNow s c f).conf = s.conf := by
  unfold State.podNow; simp [conf_fields]
@[simp] theorem State.preRun_conf (s : State) (p : Quad) : (State.preRun s p).conf = s.conf := by unfold State.preRun; simp [conf_fields]
@[simp] theorem State.preQuiet_conf (s : State) (p : Quad) : (State.preQuiet s p).conf = s.conf := by
  unfold State.preQuiet; simp [conf_fields]
@[simp] theorem State.preFeedActs_conf (s : State) (p : Quad) (ev : PreStatus) : (State.preFeedActs s p ev).conf = s.conf := by
  unfold State.preFeedActs; (try dsimp only); (repeat' split) <;> simp [conf_fields]
@[simp] theorem State.preStop_conf (s : State) (p : Quad) (ev : PreStatus) : (State.preStop s p ev).conf = s.conf := by
  unfold State.preStop; simp [conf_fields]
@[simp] theorem State.preStopOn_conf (s : State) (p : Quad) (ev : List PreStatus) : (State.preStopOn s p ev).conf = s.conf := by
  unfold State.preStopOn; (try dsimp only); (repeat' split) <;> simp [conf_fields]
@[simp] theorem State.preSelftest_conf (s : State) (p : Quad) : (State.preSelftest s p).conf = s.conf := by
  unfold State.preSelftest; simp [conf_fields]
@[simp] theorem State.preCharge_conf (s : State) (p : Quad) : (State.preCharge s p).conf = s.conf := by
  unfold State.preCharge; simp [conf_fields]
@[simp] theorem State.preQualify_conf (s : State) (p : Quad) : (State.preQualify s p).conf = s.conf := by
  unfold State.preQualify; simp [conf_fields]
@[simp] theorem State.preBegin_conf (s : State) (p : Quad) : (State.preBegin s p).conf = s.conf := by
  unfold State.preBegin; simp [conf_fields]
@[simp] theorem State.prePause_conf (s : State) (p : Quad) : (State.prePause s p).conf = s.conf := by
  unfold State.prePause; simp [conf_fields]
@[simp] theorem State.preFeedOn_conf (s : State) (c : Chan) : (State.preFeedOn s c).conf = s.conf := by
  unfold State.preFeedOn; simp [conf_fields]
@[simp] theorem State.preWindow_conf (s : State) (p : Quad) : (State.preWindow s p).conf = s.conf := by
  unfold State.preWindow; simp [conf_fields]
theorem execPrechargeStart_conf (p : Quad) (s : State) : (stateOf s (execPrechargeStart p s)).conf = s.conf := by
  unfold execPrechargeStart; (try dsimp only); (repeat' split) <;> simp [conf_fields]
theorem execPrechargeSelftestDone_conf (p : Quad) (passed : Bool) (ready : Bool) (s : State) : (stateOf s (execPrechargeSelftestDone p passed ready s)).conf = s.conf := by
  unfold execPrechargeSelftestDone; simp [conf_fields]
theorem execPrechargeResume_conf (p : Quad) (s : State) : (stateOf s (execPrechargeResume p s)).conf = s.conf := by
  unfold execPrechargeResume; simp [conf_fields]
theorem execPauseLimit_conf (p : Quad) (s : State) : (stateOf s (execPauseLimit p s)).conf = s.conf := by
  unfold execPauseLimit; simp [conf_fields]
@[simp] theorem State.preHandover_conf (s : State) (p : Quad) : (State.preHandover s p).conf = s.conf := by
  unfold State.preHandover; (try dsimp only); (repeat' split) <;> simp [conf_fields]
theorem execPrechargeClose_conf (p : Quad) (s : State) : (stateOf s (execPrechargeClose p s)).conf = s.conf := by
  unfold execPrechargeClose; simp [conf_fields]
theorem execNoProgress_conf (p : Quad) (s : State) : (stateOf s (execNoProgress p s)).conf = s.conf := by
  unfold execNoProgress; simp [conf_fields]
theorem execPrechargeTimeLimit_conf (p : Quad) (s : State) : (stateOf s (execPrechargeTimeLimit p s)).conf = s.conf := by
  unfold execPrechargeTimeLimit; simp [conf_fields]
theorem execCloseLimit_conf (p : Quad) (s : State) : (stateOf s (execCloseLimit p s)).conf = s.conf := by
  unfold execCloseLimit; simp [conf_fields]
@[simp] theorem State.preEmit_conf (s : State) (n : Oct) : (State.preEmit s n).conf = s.conf := by
  unfold State.preEmit; (try dsimp only); (repeat' split) <;> simp [conf_fields]
@[simp] theorem State.preSkip_conf (s : State) (n : Oct) : (State.preSkip s n).conf = s.conf := by
  unfold State.preSkip; (try dsimp only); (repeat' split) <;> simp [conf_fields]
@[simp] theorem State.refresh_conf (s : State) (n : Oct) (t : Nat) : (State.refresh s n t).conf = s.conf := by
  unfold State.refresh; simp [conf_fields]
theorem execPwmPeriodBoundary_conf (n : Oct) (rdy : Nat) (s : State) : (stateOf s (execPwmPeriodBoundary n rdy s)).conf = s.conf := by
  unfold execPwmPeriodBoundary; dsimp only; (repeat' split) <;> simp [conf_fields]
theorem execPwmMidperiodReload_conf (n : Oct) (s : State) : (stateOf s (execPwmMidperiodReload n s)).conf = s.conf := by
  unfold execPwmMidperiodReload; simp [conf_fields]
@[simp] theorem State.missedTrip_conf (s : State) (n : Oct) : (State.missedTrip s n).conf = s.conf := by
  unfold State.missedTrip; (try dsimp only); (repeat' split) <;> simp [conf_fields]
theorem execPwmPulseEnd_conf (n : Oct) (s : State) : (stateOf s (execPwmPulseEnd n s)).conf = s.conf := by
  unfold execPwmPulseEnd; dsimp only; (repeat' split) <;> simp [conf_fields]
theorem execPwmDeadTimeEnd_conf (n : Oct) (s : State) : (stateOf s (execPwmDeadTimeEnd n s)).conf = s.conf := by
  unfold execPwmDeadTimeEnd; (try dsimp only); (repeat' split) <;> simp [conf_fields]
@[simp] theorem State.disDuty_conf (s : State) (d : Quad) (v : Int) : (State.disDuty s d v).conf = s.conf := by
  unfold State.disDuty; simp [conf_fields]
@[simp] theorem State.disQuiet_conf (s : State) (d : Quad) : (State.disQuiet s d).conf = s.conf := by
  unfold State.disQuiet; simp [conf_fields]
@[simp] theorem State.disWait_conf (s : State) (d : Quad) (r : DisStatus) : (State.disWait s d r).conf = s.conf := by
  unfold State.disWait; simp [conf_fields]
@[simp] theorem State.disStop_conf (s : State) (d : Quad) (r : DisStatus) : (State.disStop s d r).conf = s.conf := by
  unfold State.disStop; simp [conf_fields]
theorem execDischargeRun_conf (d : Quad) (s : State) : (stateOf s (execDischargeRun d s)).conf = s.conf := by
  unfold execDischargeRun; (try dsimp only); (repeat' split) <;> simp [conf_fields]
theorem execChopperResume_conf (d : Quad) (s : State) : (stateOf s (execChopperResume d s)).conf = s.conf := by
  unfold execChopperResume; simp [conf_fields]
theorem execDischargeDone_conf (d : Quad) (s : State) : (stateOf s (execDischargeDone d s)).conf = s.conf := by
  unfold execDischargeDone; (try dsimp only); (repeat' split) <;> simp [conf_fields]
theorem execEnergyLimit_conf (d : Quad) (s : State) : (stateOf s (execEnergyLimit d s)).conf = s.conf := by
  unfold execEnergyLimit; simp [conf_fields]
theorem execDischargeTimeLimit_conf (d : Quad) (s : State) : (stateOf s (execDischargeTimeLimit d s)).conf = s.conf := by
  unfold execDischargeTimeLimit; (try dsimp only); (repeat' split) <;> simp [conf_fields]
@[simp] theorem State.readyLoss_conf (s : State) (n : Oct) : (State.readyLoss s n).conf = s.conf := by
  unfold State.readyLoss; dsimp only; (repeat' split) <;> simp [conf_fields]
theorem execDriverReadyLoss_conf (n : Oct) (back : Bool) (s : State) : (stateOf s (execDriverReadyLoss n back s)).conf = s.conf := by
  unfold execDriverReadyLoss; simp [conf_fields]
@[simp] theorem State.xferEnd_conf (s : State) (b : BusId) : (State.xferEnd s b).conf = s.conf := by
  unfold State.xferEnd; simp [conf_fields]
@[simp] theorem State.xferFailed_conf (s : State) (b : BusId) : (State.xferFailed s b).conf = s.conf := by
  unfold State.xferFailed; simp [conf_fields]
@[simp] theorem State.branchesOff_conf (s : State) (b : BusId) : (State.branchesOff s b).conf = s.conf := by
  unfold State.branchesOff; simp [conf_fields]
@[simp] theorem State.xferChoose_conf (s : State) (b : BusId) (new : Chan) : (State.xferChoose s b new).conf = s.conf := by
  unfold State.xferChoose; simp [conf_fields]
@[simp] theorem State.xferKeep_conf (s : State) (b : BusId) : (State.xferKeep s b).conf = s.conf := by
  unfold State.xferKeep; simp [conf_fields]
@[simp] theorem State.xferStart_conf (s : State) (b : BusId) (old : Chan) (dest : Option Chan) : (State.xferStart s b old dest).conf = s.conf := by
  unfold State.xferStart; dsimp only; (repeat' split) <;> simp [conf_fields]
@[simp] theorem State.xferNext_conf (s : State) (b : BusId) : (State.xferNext s b).conf = s.conf := by
  unfold State.xferNext; dsimp only; (repeat' split) <;> simp [conf_fields]
@[simp] theorem State.xferComplete_conf (s : State) (b : BusId) : (State.xferComplete s b).conf = s.conf := by
  unfold State.xferComplete; simp [conf_fields]
@[simp] theorem State.feedOn_conf (s : State) (c : Chan) : (State.feedOn s c).conf = s.conf := by unfold State.feedOn; simp [conf_fields]
@[simp] theorem State.noFeed_conf (s : State) (b : BusId) : (State.noFeed s b).conf = s.conf := by unfold State.noFeed; simp [conf_fields]
theorem execSourceLoss_conf (b : BusId) (s : State) : (stateOf s (execSourceLoss b s)).conf = s.conf := by
  unfold execSourceLoss; (try dsimp only); (repeat' split) <;> simp [conf_fields]
theorem execRevertDue_conf (b : BusId) (s : State) : (stateOf s (execRevertDue b s)).conf = s.conf := by
  unfold execRevertDue; (try dsimp only); (repeat' split) <;> simp [conf_fields]
theorem execTransferMake_conf (b : BusId) (s : State) : (stateOf s (execTransferMake b s)).conf = s.conf := by
  unfold execTransferMake; (try dsimp only); (repeat' split) <;> simp [conf_fields]
theorem execTransferTimeout_conf (b : BusId) (s : State) : (stateOf s (execTransferTimeout b s)).conf = s.conf := by
  unfold execTransferTimeout; (try dsimp only); (repeat' split) <;> simp [conf_fields]
@[simp] theorem State.xferScan_conf (s : State) (c : Chan) (l : List Fed) : (State.xferScan s c l).conf = s.conf := by
  unfold State.xferScan; (repeat' split)
  · rfl
  · exact foldl_conf _ (fun s x => by (repeat' split) <;> simp [conf_fields]) _ _
  · rfl
@[simp] theorem State.updFlto_conf (s : State) (x : AB) (f : Flto → Flto) : (State.updFlto s x f).conf = s.conf := by
  unfold State.updFlto; simp [conf_fields]
@[simp] theorem State.updLine_conf (s : State) (l : Quad) (f : RLine → RLine) : (State.updLine s l f).conf = s.conf := by
  unfold State.updLine; simp [conf_fields]
@[simp] theorem State.fltoOne_conf (s : State) (x : AB) : (State.fltoOne s x).conf = s.conf := by unfold State.fltoOne; simp [conf_fields]
@[simp] theorem State.fltoEval_conf (s : State) : (State.fltoEval s).conf = s.conf := by unfold State.fltoEval; simp [conf_fields]
theorem execFltoMinWidthEnd_conf (x : AB) (s : State) : (stateOf s (execFltoMinWidthEnd x s)).conf = s.conf := by
  unfold execFltoMinWidthEnd; simp [conf_fields]
@[simp] theorem State.sendToken_conf (s : State) (l : Quad) (hops but t : Nat) : (State.sendToken s l hops but t).conf = s.conf := by
  unfold State.sendToken; simp [conf_fields]
@[simp] theorem State.ownToken_conf (s : State) (l : Quad) : (State.ownToken s l).conf = s.conf := by
  unfold State.ownToken; simp [conf_fields]
@[simp] theorem State.lineSeen_conf (s : State) (l : Quad) (t : Nat) : (State.lineSeen s l t).conf = s.conf := by
  unfold State.lineSeen; simp [conf_fields]
@[simp] theorem State.sendFault_conf (s : State) (l : Quad) (start : Bool) : (State.sendFault s l start).conf = s.conf := by
  unfold State.sendFault; simp [conf_fields]
@[simp] theorem State.lineStart_conf (s : State) (l : Quad) : (State.lineStart s l).conf = s.conf := by
  unfold State.lineStart; simp [conf_fields]
@[simp] theorem State.lineStop_conf (s : State) (l : Quad) : (State.lineStop s l).conf = s.conf := by
  unfold State.lineStop; simp [conf_fields]
@[simp] theorem State.lineEval_conf (s : State) : (State.lineEval s).conf = s.conf := by unfold State.lineEval; simp [conf_fields]
@[simp] theorem State.linePulse_conf (s : State) (l : Quad) : (State.linePulse s l).conf = s.conf := by
  unfold State.linePulse; simp [conf_fields]
@[simp] theorem State.pulses_conf (s : State) (hit : State → Quad → Bool) : (State.pulses s hit).conf = s.conf := by
  unfold State.pulses; simp [conf_fields]
@[simp] theorem State.pulseTrip_conf (s : State) (c : Chan) (set : Nat) : (State.pulseTrip s c set).conf = s.conf := by
  unfold State.pulseTrip; simp [conf_fields]
@[simp] theorem State.evalLines_conf (s : State) : (State.evalLines s).conf = s.conf := by unfold State.evalLines; simp [conf_fields]
theorem execFaultTokenRepeat_conf (l : Quad) (s : State) : (stateOf s (execFaultTokenRepeat l s)).conf = s.conf := by
  unfold execFaultTokenRepeat; (try dsimp only); (repeat' split) <;> simp [conf_fields]
theorem execFaultPulseEnd_conf (l : Quad) (s : State) : (stateOf s (execFaultPulseEnd l s)).conf = s.conf := by
  unfold execFaultPulseEnd; (try dsimp only); (repeat' split) <;> simp [conf_fields]
theorem execFaultViewRelease_conf (l : Quad) (s : State) : (stateOf s (execFaultViewRelease l s)).conf = s.conf := by
  unfold execFaultViewRelease; simp [conf_fields]
theorem execFaultToken_conf (k : KPort) (b : Byte) (t : Nat) (s : State) : (stateOf s (execFaultToken k b t s)).conf = s.conf := by
  unfold execFaultToken; dsimp only; (repeat' split) <;> simp [conf_fields]
theorem execFltiAssert_conf (x : AB) (since : Nat) (t : Nat) (s : State) : (stateOf s (execFltiAssert x since t s)).conf = s.conf := by
  unfold execFltiAssert; simp [conf_fields]
theorem execFltiRelease_conf (x : AB) (s : State) : (stateOf s (execFltiRelease x s)).conf = s.conf := by
  unfold execFltiRelease; simp [conf_fields]
@[simp] theorem State.armRetry_conf (s : State) (c : Chan) : (State.armRetry s c).conf = s.conf := by
  unfold State.armRetry; simp [conf_fields]
@[simp] theorem State.tripNew_conf (s : State) (c : Chan) (r : PodTrip) (ch : ChState) (held : Bool) : (State.tripNew s c r ch held).conf = s.conf := by
  unfold State.tripNew; simp [conf_fields]
@[simp] theorem State.tripMore_conf (s : State) (c : Chan) (r : PodTrip) (ch : ChState) : (State.tripMore s c r ch).conf = s.conf := by
  unfold State.tripMore; simp [conf_fields]
@[simp] theorem State.noteSeen_conf (s : State) (c : Chan) (v : PodStatus) (held : Bool) : (State.noteSeen s c v held).conf = s.conf := by
  unfold State.noteSeen; exact foldl_conf _ (fun s e => by simp [conf_fields]) _ _
@[simp] theorem State.tripSeen_conf (s : State) (c : Chan) (v : PodStatus) (held : Bool) : (State.tripSeen s c v held).conf = s.conf := by
  unfold State.tripSeen; simp [conf_fields]
@[simp] theorem State.release_conf (s : State) (c : Chan) : (State.release s c).conf = s.conf := by unfold State.release; simp [conf_fields]
@[simp] theorem State.releaseNow_conf (s : State) (c : Chan) : (State.releaseNow s c).conf = s.conf := by
  unfold State.releaseNow; simp [conf_fields]
@[simp] theorem State.retry_conf (s : State) (c : Chan) : (State.retry s c).conf = s.conf := by unfold State.retry; simp [conf_fields]
theorem execRetryDue_conf (c : Chan) (s : State) : (stateOf s (execRetryDue c s)).conf = s.conf := by
  unfold execRetryDue; simp [conf_fields]
theorem execRetryReleased_conf (c : Chan) (s : State) : (stateOf s (execRetryReleased c s)).conf = s.conf := by
  unfold execRetryReleased; simp [conf_fields]
theorem execRetryCountReset_conf (c : Chan) (s : State) : (stateOf s (execRetryCountReset c s)).conf = s.conf := by
  unfold execRetryCountReset; dsimp only; (repeat' split) <;> simp [conf_fields]
@[simp] theorem State.clearPod_conf (s : State) (c : Chan) : (State.clearPod s c).conf = s.conf := by
  unfold State.clearPod; simp [conf_fields]
@[simp] theorem State.activatePod_conf (s : State) (c : Chan) : (State.activatePod s c).conf = s.conf := by
  unfold State.activatePod; simp [conf_fields]
@[simp] theorem State.latchGone_conf (s : State) (c : Chan) : (State.latchGone s c).conf = s.conf := by
  unfold State.latchGone; simp [conf_fields]
@[simp] theorem State.latchCleared_conf (s : State) (c : Chan) (way : Nat) : (State.latchCleared s c way).conf = s.conf := by
  unfold State.latchCleared; simp [conf_fields]
@[simp] theorem State.disable_conf (s : State) (c : Chan) : (State.disable s c).conf = s.conf := by unfold State.disable; simp [conf_fields]
theorem execCoolDownEnd_conf (c : Chan) (s : State) : (stateOf s (execCoolDownEnd c s)).conf = s.conf := by
  unfold execCoolDownEnd; (try dsimp only); (repeat' split) <;> simp [conf_fields]
@[simp] theorem State.testsPassed_conf (s : State) (c : Chan) : (State.testsPassed s c).conf = s.conf := by
  unfold State.testsPassed; simp [conf_fields]
theorem execSelftestToggleDone_conf (c : Chan) (failMask : Nat) (t : Nat) (s : State) : (stateOf s (execSelftestToggleDone c failMask t s)).conf = s.conf := by
  unfold execSelftestToggleDone; simp [conf_fields]
@[simp] theorem State.unheard_conf (s : State) (c : Chan) : (State.unheard s c).conf = s.conf := by unfold State.unheard; simp [conf_fields]
@[simp] theorem State.seatTimer_conf (s : State) (c : Chan) (t : Nat) : (State.seatTimer s c t).conf = s.conf := by
  unfold State.seatTimer; simp [conf_fields]
@[simp] theorem State.removed_conf (s : State) (c : Chan) : (State.removed s c).conf = s.conf := by unfold State.removed; simp [conf_fields]
theorem execRemovalConfirmed_conf (c : Chan) (s : State) : (stateOf s (execRemovalConfirmed c s)).conf = s.conf := by
  unfold execRemovalConfirmed; (try dsimp only); (repeat' split) <;> simp [conf_fields]
theorem execReseatGuardExpiry_conf (c : Chan) (s : State) : (stateOf s (execReseatGuardExpiry c s)).conf = s.conf := by
  unfold execReseatGuardExpiry; dsimp only; (repeat' split) <;> simp [conf_fields]
@[simp] theorem State.busFault_conf (s : State) (b : BusId) (first : Chan) : (State.busFault s b first).conf = s.conf := by
  unfold State.busFault; simp [conf_fields]
theorem execBusFaultClassify_conf (b : BusId) (s : State) : (stateOf s (execBusFaultClassify b s)).conf = s.conf := by
  unfold execBusFaultClassify; (try dsimp only); (repeat' split) <;> simp [conf_fields]
@[simp] theorem State.rebuildBus_conf (s : State) (b : BusId) : (State.rebuildBus s b).conf = s.conf := by
  unfold State.rebuildBus; simp [conf_fields]
@[simp] theorem State.rebuildPre_conf (s : State) (c : Chan) : (State.rebuildPre s c).conf = s.conf := by
  unfold State.rebuildPre; simp [conf_fields]
@[simp] theorem State.rebuild_conf (s : State) (c : Chan) : (State.rebuild s c).conf = s.conf := by
  unfold State.rebuild; (try dsimp only); (repeat' split) <;> simp [conf_fields]
@[simp] theorem State.ownership_conf (s : State) (c : Chan) (code epoch : Nat) : (State.ownership s c code epoch).conf = s.conf := by
  unfold State.ownership; simp [conf_fields]
@[simp] theorem State.claim_conf (s : State) (c : Chan) (epoch : Nat) : (State.claim s c epoch).conf = s.conf := by
  unfold State.claim; simp [conf_fields]
@[simp] theorem State.claimHeld_conf (s : State) (c : Chan) (epoch : Nat) : (State.claimHeld s c epoch).conf = s.conf := by
  unfold State.claimHeld; simp [conf_fields]
@[simp] theorem State.claimGroup_conf (s : State) (c : Chan) (epoch : Nat) : (State.claimGroup s c epoch).conf = s.conf := by
  unfold State.claimGroup; (try dsimp only); (repeat' split) <;> simp [conf_fields]
@[simp] theorem State.standby_conf (s : State) (c : Chan) : (State.standby s c).conf = s.conf := by unfold State.standby; simp [conf_fields]
@[simp] theorem State.standbyGroup_conf (s : State) (c : Chan) : (State.standbyGroup s c).conf = s.conf := by
  unfold State.standbyGroup; dsimp only; (repeat' split) <;> simp [conf_fields]
@[simp] theorem State.yield_conf (s : State) (c : Chan) (epoch : Nat) : (State.yield s c epoch).conf = s.conf := by
  unfold State.yield; simp [conf_fields]
@[simp] theorem State.ownSeen_conf (s : State) (c : Chan) (old v : PodStatus) : (State.ownSeen s c old v).conf = s.conf := by
  unfold State.ownSeen; simp [conf_fields]
theorem execOwnerlessClaim_conf (c : Chan) (s : State) : (stateOf s (execOwnerlessClaim c s)).conf = s.conf := by
  unfold execOwnerlessClaim; (try dsimp only); (repeat' split) <;> simp [conf_fields]
theorem execMoveReclaim_conf (s : State) : (stateOf s (execMoveReclaim s)).conf = s.conf := by
  unfold execMoveReclaim; rw [stateOf_next]; exact foldl_conf _ (fun s x => by (repeat' split) <;> simp [conf_fields]) _ _
@[simp] theorem State.addRise_conf (s : State) (o : Obj) (i old new : Nat) : (State.addRise s o i old new).conf = s.conf := by
  unfold State.addRise; simp [conf_fields]
@[simp] theorem State.countsSeen_conf (s : State) (c : Chan) (a b : PodCounts) : (State.countsSeen s c a b).conf = s.conf := by
  unfold State.countsSeen; dsimp only; (repeat' split) <;> simp [conf_fields]
@[simp] theorem State.warningsSeen_conf (s : State) (c : Chan) (old v : PodStatus) : (State.warningsSeen s c old v).conf = s.conf := by
  unfold State.warningsSeen; simp [conf_fields]
@[simp] theorem State.tells_conf (s : State) (c : Chan) (old v : PodStatus) : (State.tells s c old v).conf = s.conf := by
  unfold State.tells; simp [conf_fields]
@[simp] theorem State.seatSeen_conf (s : State) (c : Chan) (old v : PodStatus) : (State.seatSeen s c old v).conf = s.conf := by
  unfold State.seatSeen; dsimp only; (repeat' split) <;> simp [conf_fields]
@[simp] theorem State.tripOver_conf (s : State) (c : Chan) (v : PodStatus) : (State.tripOver s c v).conf = s.conf := by
  unfold State.tripOver; simp [conf_fields]
@[simp] theorem State.statusIn_conf (s : State) (c : Chan) (v : PodStatus) : (State.statusIn s c v).conf = s.conf := by
  unfold State.statusIn; simp [conf_fields]
theorem execStatusFrameReceived_conf (c : Chan) (crcOk : Bool) (s : State) : (stateOf s (execStatusFrameReceived c crcOk s)).conf = s.conf := by
  unfold execStatusFrameReceived; simp [conf_fields]
theorem execCommandFrameReceived_conf (c : Chan) (rx : RxFrame) (s : State) : (stateOf s (execCommandFrameReceived c rx s)).conf = s.conf := by
  unfold execCommandFrameReceived; simp [conf_fields]
@[simp] theorem State.podTell_conf (s : State) (c : Chan) (f : Pod → Pod) : (State.podTell s c f).conf = s.conf := by
  unfold State.podTell; simp [conf_fields]
theorem execSeatPairSeated_conf (c : Chan) (t : Nat) (s : State) : (stateOf s (execSeatPairSeated c t s)).conf = s.conf := by
  unfold execSeatPairSeated; simp [conf_fields]
theorem execSeatingAbort_conf (c : Chan) (s1 : Bool) (s2 : Bool) (t : Nat) (s : State) : (stateOf s (execSeatingAbort c s1 s2 t s)).conf = s.conf := by
  unfold execSeatingAbort; simp [conf_fields]
theorem execSeatDebounceComplete_conf (c : Chan) (t : Nat) (s : State) : (stateOf s (execSeatDebounceComplete c t s)).conf = s.conf := by
  unfold execSeatDebounceComplete; dsimp only; (repeat' split) <;> simp [conf_fields]
theorem execSeatLoss_conf (c : Chan) (s1 : Bool) (s2 : Bool) (tFirst : Nat) (t : Nat) (s : State) : (stateOf s (execSeatLoss c s1 s2 tFirst t s)).conf = s.conf := by
  unfold execSeatLoss; simp [conf_fields]
theorem execChannelStart_conf (c : Chan) (t : Nat) (s : State) : (stateOf s (execChannelStart c t s)).conf = s.conf := by
  unfold execChannelStart; simp [conf_fields]
theorem execPowerGoodAssert_conf (c : Chan) (s : State) : (stateOf s (execPowerGoodAssert c s)).conf = s.conf := by
  unfold execPowerGoodAssert; simp [conf_fields]
@[simp] theorem State.feedA_conf (s : State) (c : Chan) : (State.feedA s c).conf = s.conf := by unfold State.feedA; simp [conf_fields]
theorem execPodPowerUp_conf (c : Chan) (kind : PodKind) (rev : Nat) (uid : Nat) (a : Bool) (b : Bool) (s : State) : (stateOf s (execPodPowerUp c kind rev uid a b s)).conf = s.conf := by
  unfold execPodPowerUp; simp [conf_fields]
@[simp] theorem State.linkLost_conf (s : State) (c : Chan) : (State.linkLost s c).conf = s.conf := by
  unfold State.linkLost; simp [conf_fields]
theorem execPodSupplyLoss_conf (c : Chan) (t : Nat) (s : State) : (stateOf s (execPodSupplyLoss c t s)).conf = s.conf := by
  unfold execPodSupplyLoss; simp [conf_fields]
@[simp] theorem State.missed_conf (s : State) (c : Chan) : (State.missed s c).conf = s.conf := by unfold State.missed; simp [conf_fields]
theorem execPodLinkDown_conf (c : Chan) (s : State) : (stateOf s (execPodLinkDown c s)).conf = s.conf := by
  unfold execPodLinkDown; simp [conf_fields]
@[simp] theorem State.podWarn_conf (s : State) (c : Chan) (code : Nat) (data : List (Nat × Nat)) : (State.podWarn s c code data).conf = s.conf := by
  unfold State.podWarn; simp [conf_fields]
@[simp] theorem State.healthSeen_conf (s : State) (c : Chan) (old new : Nat) (mean : Int) : (State.healthSeen s c old new mean).conf = s.conf := by
  unfold State.healthSeen; simp [conf_fields]
theorem execIntDwellComplete_conf (c : Chan) (s : State) : (stateOf s (execIntDwellComplete c s)).conf = s.conf := by
  unfold execIntDwellComplete; (try dsimp only); (repeat' split) <;> simp [conf_fields]
theorem execUrgentConversionDone_conf (c : Chan) (codes : List Raw) (t : Nat) (s : State) : (stateOf s (execUrgentConversionDone c codes t s)).conf = s.conf := by
  unfold execUrgentConversionDone; (try dsimp only); (repeat' split) <;> simp [conf_fields]
theorem execPairedWindowStart_conf (c : Chan) (trig : Option PodCmp) (t : Nat) (s : State) : (stateOf s (execPairedWindowStart c trig t s)).conf = s.conf := by
  unfold execPairedWindowStart; simp [conf_fields]
@[simp] theorem State.queueWindows_conf (s : State) (c : Chan) : (State.queueWindows s c).conf = s.conf := by
  unfold State.queueWindows; simp [conf_fields]
@[simp] theorem State.sendCaptures_conf (s : State) (c : Chan) : (State.sendCaptures s c).conf = s.conf := by
  unfold State.sendCaptures; simp [conf_fields]
theorem execPairedWindowEnd_conf (c : Chan) (t : Nat) (s : State) : (stateOf s (execPairedWindowEnd c t s)).conf = s.conf := by
  unfold execPairedWindowEnd; (try dsimp only); (repeat' split) <;> simp [conf_fields]
theorem execPodTickBoundary_conf (c : Chan) (smp : TickSamples) (s : State) : (stateOf s (execPodTickBoundary c smp s)).conf = s.conf := by
  unfold execPodTickBoundary; simp [conf_fields]
@[simp] theorem State.calFailed_conf (s : State) (c : Chan) (kind : Nat) (bad : Nat × Nat × Int) : (State.calFailed s c kind bad).conf = s.conf := by
  unfold State.calFailed; simp [conf_fields]
theorem execCalComplete_conf (c : Chan) (icF vcF feF : List Int) (t : Nat) (s : State) : (stateOf s (execCalComplete c icF vcF feF t s)).conf = s.conf := by
  unfold execCalComplete; dsimp only; (repeat' split) <;> simp [conf_fields]
theorem execRecalComplete_conf (c : Chan) (factors : List Int) (t : Nat) (s : State) : (stateOf s (execRecalComplete c factors t s)).conf = s.conf := by
  unfold execRecalComplete; dsimp only; (repeat' split) <;> simp [conf_fields]
theorem execRecalCoverEnd_conf (c : Chan) (s : State) : (stateOf s (execRecalCoverEnd c s)).conf = s.conf := by
  unfold execRecalCoverEnd; (try dsimp only); (repeat' split) <;> simp [conf_fields]
theorem execParkedBurst_conf (c : Chan) (smp : TickSamples) (s : State) : (stateOf s (execParkedBurst c smp s)).conf = s.conf := by
  unfold execParkedBurst; simp [conf_fields]
@[simp] theorem State.hkPut_conf (s : State) (i sum : Nat) : (State.hkPut s i sum).conf = s.conf := by
  unfold State.hkPut; simp [conf_fields]
@[simp] theorem State.hkMean_conf (s : State) (i : Nat) (codes : List Raw) : (State.hkMean s i codes).conf = s.conf := by
  unfold State.hkMean; simp [conf_fields]
theorem execHkMeanUpdate_conf (inp : Nat) (codes : List Raw) (s : State) : (stateOf s (execHkMeanUpdate inp codes s)).conf = s.conf := by
  unfold execHkMeanUpdate; simp [conf_fields]
theorem execHkSleepBurst_conf (codes : List (List Raw)) (s : State) : (stateOf s (execHkSleepBurst codes s)).conf = s.conf := by
  unfold execHkSleepBurst; dsimp only; split
  · simp only [stateOf_next]; rw [foldl_conf _ (fun s x => by simp [conf_fields])]; simp [conf_fields]
  · rfl
@[simp] theorem State.emit_conf (s : State) (r : StrRec) : (State.emit s r).conf = s.conf := by unfold State.emit; simp [conf_fields]
@[simp] theorem State.engineering_conf (s : State) (c : Chan) : (State.engineering s c).conf = s.conf := by
  unfold State.engineering; simp [conf_fields]
@[simp] theorem State.avgRecord_conf (s : State) (c : Chan) (d : AvgDone) (word : Nat) : (State.avgRecord s c d word).conf = s.conf := by
  unfold State.avgRecord; simp [conf_fields]
@[simp] theorem State.averageIn_conf (s : State) (c : Chan) (d : AvgDone) : (State.averageIn s c d).conf = s.conf := by
  simp only [State.averageIn, State.avgRecord_conf, State.engineering_conf, State.set_conf, State.updPort_conf]
theorem execAverageComplete_conf (c : Chan) (src : Source) (s : State) : (stateOf s (execAverageComplete c src s)).conf = s.conf := by
  unfold execAverageComplete; dsimp only; (repeat' split) <;> simp [conf_fields]
theorem execMeteringTransfer_conf (c : Chan) (s : State) : (stateOf s (execMeteringTransfer c s)).conf = s.conf := by
  unfold execMeteringTransfer; simp [conf_fields]
theorem execMeteringTransferReceived_conf (c : Chan) (crcOk : Bool) (s : State) : (stateOf s (execMeteringTransferReceived c crcOk s)).conf = s.conf := by
  unfold execMeteringTransferReceived; simp [conf_fields]
@[simp] theorem State.publish_conf (s : State) (c : Chan) (k : Trackers) (flags t : Nat) : (State.publish s c k flags t).conf = s.conf := by
  unfold State.publish; simp [conf_fields]
@[simp] theorem State.freshTrackers_conf (s : State) (c : Chan) (part : Bool) : (State.freshTrackers s c part).conf = s.conf := by
  unfold State.freshTrackers; simp [conf_fields]
@[simp] theorem State.windowEnds_conf (s : State) (c : Chan) : (State.windowEnds s c).conf = s.conf := by
  unfold State.windowEnds; simp [conf_fields]
@[simp] theorem State.snapAt_conf (s : State) (T : Nat) (c : Chan) : (State.snapAt s T c).conf = s.conf := by
  unfold State.snapAt; simp [conf_fields]
@[simp] theorem State.snapNow_conf (s : State) : (State.snapNow s).conf = s.conf := by
  unfold State.snapNow; (try dsimp only); (repeat' split) <;> simp [conf_fields]
theorem execSnapshotTick_conf (s : State) : (stateOf s (execSnapshotTick s)).conf = s.conf := by
  unfold execSnapshotTick; (try dsimp only); (repeat' split) <;> simp [conf_fields]
@[simp] theorem State.windowsNow_conf (s : State) : (State.windowsNow s).conf = s.conf := by unfold State.windowsNow; simp [conf_fields]
theorem execMinmaxWindowEnd_conf (s : State) : (stateOf s (execMinmaxWindowEnd s)).conf = s.conf := by
  unfold execMinmaxWindowEnd; simp [conf_fields]
@[simp] theorem State.snapBlock_conf (s : State) (c : Chan) : (State.snapBlock s c).conf = s.conf := by
  unfold State.snapBlock; simp [conf_fields]
theorem execSnapshotDone_conf (s : State) : (stateOf s (execSnapshotDone s)).conf = s.conf := by
  unfold execSnapshotDone; dsimp only; (repeat' split) <;> simp [conf_fields]
@[simp] theorem State.latch_conf (s : State) : (State.latch s).conf = s.conf := by unfold State.latch; simp [conf_fields]
@[simp] theorem State.clearsDone_conf (s : State) : (State.clearsDone s).conf = s.conf := by unfold State.clearsDone; simp [conf_fields]
@[simp] theorem State.sealed_conf (s : State) : (State.sealed s).conf = s.conf := by unfold State.sealed; simp [conf_fields]
theorem execCheckpointWritten_conf (ok : Bool) (s : State) : (stateOf s (execCheckpointWritten ok s)).conf = s.conf := by
  unfold execCheckpointWritten; dsimp only; (repeat' split) <;> simp [conf_fields]
@[simp] theorem State.clearNow_conf (s : State) (c : Chan) : (State.clearNow s c).conf = s.conf := by
  unfold State.clearNow; simp [conf_fields]
@[simp] theorem State.clearsNow_conf (s : State) : (State.clearsNow s).conf = s.conf := by unfold State.clearsNow; simp [conf_fields]
theorem execMeteringClearApply_conf (c : Chan) (s : State) : (stateOf s (execMeteringClearApply c s)).conf = s.conf := by
  unfold execMeteringClearApply; simp [conf_fields]
theorem execCheckpoint_conf (s : State) : (stateOf s (execCheckpoint s)).conf = s.conf := by unfold execCheckpoint; simp [conf_fields]
@[simp] theorem State.shareStep_conf (s : State) (b : BusId) (x y : Chan) (ix iy : Int) : (State.shareStep s b x y ix iy).conf = s.conf := by
  unfold State.shareStep; simp [conf_fields]
theorem execOringShareStep_conf (b : BusId) (s : State) : (stateOf s (execOringShareStep b s)).conf = s.conf := by
  unfold execOringShareStep; (try dsimp only); (repeat' split) <;> simp [conf_fields]
theorem execOringBlocked_conf (b : BusId) (s : State) : (stateOf s (execOringBlocked b s)).conf = s.conf := by
  unfold execOringBlocked; (try dsimp only); (repeat' split) <;> simp [conf_fields]
@[simp] theorem State.codeErrs_conf (s : State) (n : Nat) : (State.codeErrs s n).conf = s.conf := by
  unfold State.codeErrs; simp [conf_fields]
@[simp] theorem State.take__conf (s : State) (k : KPort) (f : Frame) (act : State → State) (h : ∀ s, (act s).conf = s.conf) : (State.take_ s k f act).conf = s.conf := by
  unfold State.take_; (repeat' split) <;> simp [conf_fields, h]
theorem execCutThroughForward_conf (k : KPort) (f : Frame) (t : Nat) (residence : Nat) (s : State) : (stateOf s (execCutThroughForward k f t residence s)).conf = s.conf := by
  unfold execCutThroughForward; simp [conf_fields]
@[simp] theorem State.report_conf (s : State) (reason : Nat) : (State.report s reason).conf = s.conf := by
  unfold State.report; simp [conf_fields]
@[simp] theorem State.enumerate_conf (s : State) : (State.enumerate s).conf = s.conf := by unfold State.enumerate; simp [conf_fields]
theorem execDiscover_conf (k : KPort) (f : Frame) (s : State) : (stateOf s (execDiscover k f s)).conf = s.conf := by
  unfold execDiscover; rw [stateOf_next, State.take__conf]; intro s; (try dsimp only); (repeat' split) <;> simp [conf_fields]
@[simp] theorem State.giveAddr_conf (s : State) (uid : Nat) : (State.giveAddr s uid).2.conf = s.conf := by
  unfold State.giveAddr; dsimp only; (repeat' split) <;> simp [conf_fields]
@[simp] theorem State.assign_conf (s : State) (uid : Nat) : (State.assign s uid).conf = s.conf := by unfold State.assign; simp [conf_fields]
@[simp] theorem State.reported_conf (s : State) (e : MapEntry) : (State.reported s e).conf = s.conf := by
  unfold State.reported; dsimp only; (repeat' split) <;> simp [conf_fields]
theorem execReport_conf (k : KPort) (f : Frame) (s : State) : (stateOf s (execReport k f s)).conf = s.conf := by
  unfold execReport; rw [stateOf_next, State.take__conf]; intro s; (try dsimp only); (repeat' split) <;> simp [conf_fields]
theorem execAssign_conf (k : KPort) (f : Frame) (s : State) : (stateOf s (execAssign k f s)).conf = s.conf := by
  unfold execAssign; rw [stateOf_next, State.take__conf]; intro s; (try dsimp only); (repeat' split) <;> simp [conf_fields]
theorem execDone_conf (k : KPort) (f : Frame) (s : State) : (stateOf s (execDone k f s)).conf = s.conf := by
  unfold execDone; rw [stateOf_next, State.take__conf]; intro s; (try dsimp only); (repeat' split) <;> simp [conf_fields]
@[simp] theorem State.sendRehome_conf (s : State) (k : KPort) (hops : Nat) : (State.sendRehome s k hops).conf = s.conf := by
  unfold State.sendRehome; simp [conf_fields]
@[simp] theorem State.rehome_conf (s : State) (k : KPort) (hops : Nat) : (State.rehome s k hops).conf = s.conf := by
  unfold State.rehome; simp [conf_fields]
@[simp] theorem State.linkChange_conf (s : State) (k : KPort) (up : Bool) : (State.linkChange s k up).conf = s.conf := by
  unfold State.linkChange; simp [conf_fields]
theorem execRingLinkDown_conf (k : KPort) (violations : Nat) (s : State) : (stateOf s (execRingLinkDown k violations s)).conf = s.conf := by
  unfold execRingLinkDown; simp [conf_fields]
@[simp] theorem State.broken_conf (s : State) : (State.broken s).conf = s.conf := by unfold State.broken; simp [conf_fields]
theorem execRehome_conf (k : KPort) (b : Byte) (s : State) : (stateOf s (execRehome k b s)).conf = s.conf := by
  unfold execRehome; simp [conf_fields]
theorem execEventFrame_conf (k : KPort) (f : Frame) (s : State) : (stateOf s (execEventFrame k f s)).conf = s.conf := by
  unfold execEventFrame; rw [stateOf_next, State.take__conf]; intro s; (try dsimp only); (repeat' split) <;> simp [conf_fields]
theorem execFaultFrame_conf (k : KPort) (f : Frame) (s : State) : (stateOf s (execFaultFrame k f s)).conf = s.conf := by
  unfold execFaultFrame; rw [stateOf_next, State.take__conf]; intro s; (try dsimp only); (repeat' split) <;> simp [conf_fields]
@[simp] theorem State.timeState_conf (s : State) (v : Nat) : (State.timeState s v).conf = s.conf := by
  unfold State.timeState; simp [conf_fields]
@[simp] theorem State.stepTime_conf (s : State) (master : Nat) : (State.stepTime s master).conf = s.conf := by
  unfold State.stepTime; simp [conf_fields]
@[simp] theorem State.offset_conf (s : State) (ps : Int) : (State.offset s ps).conf = s.conf := by unfold State.offset; simp [conf_fields]
theorem execSyncTime_conf (k : KPort) (f : Frame) (t : Nat) (s : State) : (stateOf s (execSyncTime k f t s)).conf = s.conf := by
  unfold execSyncTime; rw [stateOf_next, State.take__conf]; intro s; (try dsimp only); (repeat' split) <;> simp [conf_fields]
theorem execSyncPeriod_conf (s : State) : (stateOf s (execSyncPeriod s)).conf = s.conf := by unfold execSyncPeriod; simp [conf_fields]
theorem execTimeHoldover_conf (s : State) : (stateOf s (execTimeHoldover s)).conf = s.conf := by unfold execTimeHoldover; simp [conf_fields]
@[simp] theorem State.sendLocal_conf (s : State) (k : KPort) (payload : List Byte) : (State.sendLocal s k payload).conf = s.conf := by
  unfold State.sendLocal; simp [conf_fields]
theorem execDelayReq_conf (k : KPort) (f : Frame) (turn : Nat) (s : State) : (stateOf s (execDelayReq k f turn s)).conf = s.conf := by
  unfold execDelayReq; rw [stateOf_next, State.take__conf]; intro s; (try dsimp only); (repeat' split) <;> simp [conf_fields]
theorem execDelayResp_conf (k : KPort) (f : Frame) (t : Nat) (s : State) : (stateOf s (execDelayResp k f t s)).conf = s.conf := by
  unfold execDelayResp; rw [stateOf_next, State.take__conf]; intro s; (try dsimp only); (repeat' split) <;> simp [conf_fields]
theorem execDelayExchangePeriod_conf (s : State) : (stateOf s (execDelayExchangePeriod s)).conf = s.conf := by
  unfold execDelayExchangePeriod; simp [conf_fields]
@[simp] theorem State.answer_conf (s : State) (q : Req) (a : Answer) : (State.answer s q a).conf = s.conf := by
  unfold State.answer; dsimp only; (repeat' split) <;> simp [conf_fields]
@[simp] theorem State.enqueue_conf (s : State) (r : StrRec) : (State.enqueue s r).conf = s.conf := by
  unfold State.enqueue; simp [conf_fields]
@[simp] theorem State.dropRecord_conf (s : State) (r : StrRec) : (State.dropRecord s r).conf = s.conf := by
  unfold State.dropRecord; simp [conf_fields]
theorem execStreamRecord_conf (s : State) : (stateOf s (execStreamRecord s)).conf = s.conf := by
  unfold execStreamRecord; dsimp only; (repeat' split) <;> simp [conf_fields]
theorem execBlockSend_conf (s : State) : (stateOf s (execBlockSend s)).conf = s.conf := by unfold execBlockSend; simp [conf_fields]
theorem execStreamFlush_conf (s : State) : (stateOf s (execStreamFlush s)).conf = s.conf := by
  unfold execStreamFlush; dsimp only; (repeat' split) <;> simp [conf_fields]
theorem execReadyHighEnd_conf (ns : Nat) (s : State) : (stateOf s (execReadyHighEnd ns s)).conf = s.conf := by
  unfold execReadyHighEnd; simp [conf_fields]
@[simp] theorem State.strHalt_conf (s : State) : (State.strHalt s).conf = s.conf := by unfold State.strHalt; simp [conf_fields]
theorem execJournalExportRecord_conf (s : State) : (stateOf s (execJournalExportRecord s)).conf = s.conf := by
  unfold execJournalExportRecord; dsimp only; (repeat' split) <;> simp [conf_fields]
@[simp] theorem State.sealSlot_conf (s : State) (i : Nat) (value : List Byte) (ok : Bool) : (State.sealSlot s i value ok).conf = s.conf := by
  unfold State.sealSlot; split <;> simp [conf_fields]
@[simp] theorem State.strapped_conf (s : State) (strap : Nat) : (State.strapped s strap).conf = s.conf := by
  unfold State.strapped; simp [conf_fields]
theorem execResetRelease_conf (strap : Nat) (s : State) : (stateOf s (execResetRelease strap s)).conf = s.conf := by
  unfold execResetRelease; simp [conf_fields]
theorem execPodSupplyCurrentLimit_conf (c : Chan) (s : State) : (stateOf s (execPodSupplyCurrentLimit c s)).conf = s.conf := by
  unfold execPodSupplyCurrentLimit; simp [conf_fields]
theorem execPodSupplyRetry_conf (c : Chan) (holds : Bool) (s : State) : (stateOf s (execPodSupplyRetry c holds s)).conf = s.conf := by
  unfold execPodSupplyRetry; (try dsimp only); (repeat' split) <;> simp [conf_fields]
@[simp] theorem State.clockMove_conf (s : State) (st : Nat) : (State.clockMove s st).conf = s.conf := by
  unfold State.clockMove; simp [conf_fields]
theorem execRingClockMove_conf (s : State) : (stateOf s (execRingClockMove s)).conf = s.conf := by
  unfold execRingClockMove; simp [conf_fields]
theorem execXtalMeasure_conf (ppm : Int) (s : State) : (stateOf s (execXtalMeasure ppm s)).conf = s.conf := by
  unfold execXtalMeasure; simp [conf_fields]
theorem execSleepEntered_conf (s : State) : (stateOf s (execSleepEntered s)).conf = s.conf := by
  unfold execSleepEntered; dsimp only; (repeat' split) <;> simp [conf_fields]
theorem execPodWakeSignal_conf (c : Chan) (s : State) : (stateOf s (execPodWakeSignal c s)).conf = s.conf := by
  unfold execPodWakeSignal; (try dsimp only); (repeat' split) <;> simp [conf_fields]
@[simp] theorem State.cfgFail_conf (s : State) : (State.cfgFail s).conf = s.conf := by unfold State.cfgFail; simp [conf_fields]
theorem execCfgSaveComplete_conf (ok : Bool) (s : State) : (stateOf s (execCfgSaveComplete ok s)).conf = s.conf := by
  unfold execCfgSaveComplete; (try dsimp only); (repeat' split) <;> simp [conf_fields]
theorem execSealProgramDone_conf (ok : Bool) (s : State) : (stateOf s (execSealProgramDone ok s)).conf = s.conf := by
  unfold execSealProgramDone; split
  · rw [stateOf_next, State.journal_conf, State.sealSlot_conf]; rfl
  · rfl
theorem execFwCheckDone_conf (s : State) : (stateOf s (execFwCheckDone s)).conf = s.conf := by unfold execFwCheckDone; simp [conf_fields]
theorem execPfwN_conf (s : State) : (stateOf s (execPfwN s)).conf = s.conf := by unfold execPfwN; simp [conf_fields]
theorem execPowerWarningEnd_conf (s : State) : (stateOf s (execPowerWarningEnd s)).conf = s.conf := by
  unfold execPowerWarningEnd; (try dsimp only); (repeat' split) <;> simp [conf_fields]
@[simp] theorem State.updSession_conf (s : State) (h : Nat) (f : Session → Session) : (State.updSession s h f).conf = s.conf := by
  unfold State.updSession; simp [conf_fields]
@[simp] theorem State.endSession_conf (s : State) (h : Nat) : (State.endSession s h).conf = s.conf := by
  unfold State.endSession; simp [conf_fields]
@[simp] theorem State.readChallenge_conf (s : State) (src : Nat) : (State.readChallenge s src).conf = s.conf := by
  unfold State.readChallenge; (try dsimp only); (repeat' split) <;> simp [conf_fields]
theorem execChallengeLapse_conf (s : State) : (stateOf s (execChallengeLapse s)).conf = s.conf := by
  unfold execChallengeLapse; simp [conf_fields]
theorem execRoleLockEnd_conf (s : State) : (stateOf s (execRoleLockEnd s)).conf = s.conf := by unfold execRoleLockEnd; simp [conf_fields]
theorem execSesTimeout_conf (h : Nat) (s : State) : (stateOf s (execSesTimeout h s)).conf = s.conf := by
  unfold execSesTimeout; (try dsimp only); (repeat' split) <;> simp [conf_fields]
@[simp] theorem State.mirror_conf (s : State) (index sub off : Nat) (data : List Byte) : (State.mirror s index sub off data).conf = s.conf := by
  unfold State.mirror; simp [conf_fields]
@[simp] theorem State.mirrorUnit_conf (s : State) (u : CUnit) : (State.mirrorUnit s u).conf = s.conf := by
  unfold State.mirrorUnit; simp [conf_fields]
theorem execMirroringComplete_conf (s : State) : (stateOf s (execMirroringComplete s)).conf = s.conf := by
  unfold execMirroringComplete; simp [conf_fields]
@[simp] theorem State.touch_conf (s : State) (q : Req) : (State.touch s q).conf = s.conf := by
  unfold State.touch; (try dsimp only); (repeat' split) <;> simp [conf_fields]
@[simp] theorem State.read_conf (s : State) (q : Req) (len : Nat) : (State.read s q len).1.conf = s.conf := by
  unfold State.read; (try dsimp only); (repeat' split) <;> simp [conf_fields]
@[simp] theorem State.doRead_conf (s : State) (q : Req) (len : Nat) : (State.doRead s q len).conf = s.conf := by
  unfold State.doRead; simp [conf_fields]
@[simp] theorem State.sentDone_conf (s : State) (x : Sent) (bytes : List Byte) : (State.sentDone s x bytes).conf = s.conf := by
  unfold State.sentDone; simp [conf_fields]
theorem execOdResp_conf (k : KPort) (f : Frame) (s : State) : (stateOf s (execOdResp k f s)).conf = s.conf := by
  unfold execOdResp; rw [stateOf_next, State.take__conf]; intro s; (try dsimp only); (repeat' split) <;> simp [conf_fields]
theorem execRingRespTmo_conf (seq : Nat) (s : State) : (stateOf s (execRingRespTmo seq s)).conf = s.conf := by
  unfold execRingRespTmo; (try dsimp only); (repeat' split) <;> simp [conf_fields]
@[simp] theorem State.transfer_conf (s : State) (op : Nat) (body : List Byte) (crc : Nat) (data : List Byte) (act : State → State × Bool) (h : ∀ s, (act s).1.conf = s.conf) : (State.transfer s op body crc data act).conf = s.conf := by
  unfold State.transfer; (try dsimp only); (repeat' split) <;> simp [conf_fields, h]
theorem execFetch_conf (crc : Nat) (full : Bool) (s : State) : (stateOf s (execFetch crc full s)).conf = s.conf := by
  unfold execFetch; rw [stateOf_next, State.transfer_conf]; intro s; (repeat' split) <;> simp [conf_fields]
theorem execRefetch_conf (crc : Nat) (s : State) : (stateOf s (execRefetch crc s)).conf = s.conf := by
  unfold execRefetch; rw [stateOf_next, State.transfer_conf]; intro s; rfl
theorem execStatus_conf (crc : Nat) (s : State) : (stateOf s (execStatus crc s)).conf = s.conf := by
  unfold execStatus; rw [stateOf_next, State.transfer_conf]; intro s; rfl
theorem execIrqAck_conf (mask : Nat) (crc : Nat) (s : State) : (stateOf s (execIrqAck mask crc s)).conf = s.conf := by
  unfold execIrqAck; rw [stateOf_next, State.transfer_conf]; intro s; simp [conf_fields]
theorem execSesChallenge_conf (src : Nat) (s : State) : (stateOf s (execSesChallenge src s)).conf = s.conf := by
  unfold execSesChallenge State.doRead; (try dsimp only); (repeat' split) <;> simp [conf_fields]

end Sys2Proof.Machine
end

