-- ==== Sys2Proof/Laws/Engines.lean ====
section
/-! SUPPORT. Buses, converters, choppers, PWM generators, comparators, fault lines. -/

namespace Sys2Proof.Machine

set_option linter.unusedSimpArgs false

/-- The units of the hub: what leaves them as they are. -/
def State.engines (s : State) : Bank Bus 8 × Bank Pre 4 × Bank Dis 4 × Bank Pwm 8 × Bank Cell 8 × Bank Flto 2 × Nat × Bank RLine 4 := (s.buses, s.pre, s.dis, s.pwm, s.cells, s.flto, s.flti, s.lines)

@[simp] theorem engines_mk (now : _) (fresh : _) (pending : _) (active : _) (shadow : _) (status : _) (pods : _) (ports : _) (buses : _) (pre : _) (dis : _) (jnl : _) (pwm : _) (cells : _) (rdyLost : _) (hub : _) (flto : _) (flti : _) (lines : _) (out : _) (ringUp : _) (str : _) (snap : _) (snapLatched : _) (hkAt : _) (hkFrom : _) (hkPos : _) (ckpt : _) (pfw : _) (pend : _) (resp : _) (sessions : _) (locks : _) (seals : _) (sealing : _) (cfg : _) (ring : _) (spi : _) (power : _) (fw : _) (rwNext : _) (pxReady : _) :
    State.engines (State.mk now fresh pending active shadow status pods ports buses pre dis jnl pwm cells rdyLost hub flto flti lines out ringUp str snap snapLatched hkAt hkFrom hkPos ckpt pfw pend resp sessions locks seals sealing cfg ring spi power fw rwNext pxReady) = (buses, pre, dis, pwm, cells, flto, flti, lines) := rfl

theorem engines_fields (s : State) : s.buses = s.engines.1 ∧ s.pre = s.engines.2.1 ∧ s.dis = s.engines.2.2.1 ∧ s.pwm = s.engines.2.2.2.1 ∧ s.cells = s.engines.2.2.2.2.1 ∧ s.flto = s.engines.2.2.2.2.2.1 ∧ s.flti = s.engines.2.2.2.2.2.2.1 ∧ s.lines = s.engines.2.2.2.2.2.2.2 :=
  ⟨rfl, rfl, rfl, rfl, rfl, rfl, rfl, rfl⟩

@[simp] theorem ite_engines (c : Prop) [Decidable c] (a b : State) : (if c then a else b).engines = if c then a.engines else b.engines := by split <;> rfl

@[simp] theorem foldl_engines {α : Type} (f : State → α → State) (h : ∀ s x, (f s x).engines = s.engines) (l : List α) (s : State) :
    (l.foldl f s).engines = s.engines := by
  induction l generalizing s with
  | nil => rfl
  | cons x r ih => simp only [List.foldl]; rw [ih, h]

theorem foldl_fst_engines {α β : Type} (f : State × β → α → State × β) (h : ∀ r x, (f r x).1.engines = r.1.engines) (l : List α) (r : State × β) :
    (l.foldl f r).1.engines = r.1.engines := by
  induction l generalizing r with
  | nil => rfl
  | cons x l ih => simp only [List.foldl]; rw [ih, h]

theorem foldl_snd_engines {α β : Type} (f : β × State → α → β × State) (h : ∀ r x, (f r x).2.engines = r.2.engines) (l : List α) (r : β × State) :
    (l.foldl f r).2.engines = r.2.engines := by
  induction l generalizing r with
  | nil => rfl
  | cons x l ih => simp only [List.foldl]; rw [ih, h]

@[simp] theorem State.updPod_engines (s : State) (c : Chan) (f : Pod → Pod) : (State.updPod s c f).engines = s.engines := by
  unfold State.updPod; simp [engines_fields]
@[simp] theorem State.updPort_engines (s : State) (c : Chan) (f : Port → Port) : (State.updPort s c f).engines = s.engines := by
  unfold State.updPort; simp [engines_fields]
@[simp] theorem State.forChans_engines (s : State) (l : List Chan) (f : State → Chan → State) (h : ∀ s x, (f s x).engines = s.engines) : (State.forChans s l f).engines = s.engines := by
  unfold State.forChans; exact foldl_engines f h l s
@[simp] theorem State.at_engines (s : State) (t : Nat) : (State.at s t).engines = s.engines := by unfold State.at; simp [engines_fields]
@[simp] theorem State.podEvent_engines (s : State) (c : Chan) (t : Nat) (ok : Pod → Nat → Bool) (f : Pod → Nat → Pod) : (State.podEvent s c t ok f).engines = s.engines := by
  unfold State.podEvent; simp [engines_fields]
@[simp] theorem State.set_engines (s : State) (o : Obj) (i : Nat) (v : Int) (k : Nat) : (State.set s o i v k).engines = s.engines := by
  unfold State.set; simp [engines_fields]
@[simp] theorem State.count_engines (s : State) (o : Obj) (i : Nat) (n : Nat) (k : Nat) : (State.count s o i n k).engines = s.engines := by
  unfold State.count; simp [engines_fields]
@[simp] theorem State.count64_engines (s : State) (o : Obj) (i : Nat) (n : Nat) : (State.count64 s o i n).engines = s.engines := by
  unfold State.count64; simp [engines_fields]
@[simp] theorem State.take_engines (s : State) : (State.take s).2.engines = s.engines := by unfold State.take; simp [engines_fields]
@[simp] theorem State.irq_engines (s : State) (bit : Nat) : (State.irq s bit).engines = s.engines := by
  unfold State.irq; simp [engines_fields]
@[simp] theorem State.push_engines (s : State) (x : Item) : (State.push s x).engines = s.engines := by
  unfold State.push; simp [engines_fields]
@[simp] theorem State.pushOrDrop_engines (s : State) (x : Item) : (State.pushOrDrop s x).engines = s.engines := by
  unfold State.pushOrDrop; simp [engines_fields]
@[simp] theorem State.sendOn_engines (s : State) (f : Frame) (ports : Nat) : (State.sendOn s f ports).engines = s.engines := by
  unfold State.sendOn; simp [engines_fields]
@[simp] theorem State.sendOwn_engines (s : State) (type seq dst : Nat) (payload : List Byte) : (State.sendOwn s type seq dst payload).engines = s.engines := by
  unfold State.sendOwn; simp [engines_fields]
@[simp] theorem State.nextSeq_engines (s : State) : (State.nextSeq s).engines = s.engines := by unfold State.nextSeq; simp [engines_fields]
@[simp] theorem State.sendEvent_engines (s : State) (r : JRec) : (State.sendEvent s r).engines = s.engines := by
  unfold State.sendEvent; simp [engines_fields]
@[simp] theorem State.journalAt_engines (s : State) (t kind : Nat) (src : JSrc) (code : Nat) (data : List (Nat × Nat)) (held : Bool) (clean : Bool) : (State.journalAt s t kind src code data held clean).engines = s.engines := by
  unfold State.journalAt; simp [engines_fields]
@[simp] theorem State.journal_engines (s : State) (kind : Nat) (src : JSrc) (code : Nat) (data : List (Nat × Nat)) : (State.journal s kind src code data).engines = s.engines := by
  unfold State.journal; simp [engines_fields]
@[simp] theorem State.warn_engines (s : State) (src : JSrc) (code : Nat) (data : List (Nat × Nat)) : (State.warn s src code data).engines = s.engines := by
  unfold State.warn; simp [engines_fields]
theorem execUvloAssert_engines (c : Chan) (vneg : Bool) (mv : Int) (since : Nat) (t : Nat) (s : State) : (stateOf s (execUvloAssert c vneg mv since t s)).engines = s.engines := by
  unfold execUvloAssert; simp [engines_fields]
theorem execUvloClear_engines (c : Chan) (vneg : Bool) (mv : Int) (since : Nat) (t : Nat) (s : State) : (stateOf s (execUvloClear c vneg mv since t s)).engines = s.engines := by
  unfold execUvloClear; simp [engines_fields]
theorem execStackTurnOn_engines (c : Chan) (ic vc : List Raw) (t : Nat) (s : State) : (stateOf s (execStackTurnOn c ic vc t s)).engines = s.engines := by
  unfold execStackTurnOn; simp [engines_fields]
theorem execTurnOnAfterClamp_engines (c : Chan) (ic vc : List Raw) (t : Nat) (s : State) : (stateOf s (execTurnOnAfterClamp c ic vc t s)).engines = s.engines := by
  unfold execTurnOnAfterClamp; simp [engines_fields]
theorem execGateLevelReached_engines (c : Chan) (side : Side) (mv : Int) (t : Nat) (s : State) : (stateOf s (execGateLevelReached c side mv t s)).engines = s.engines := by
  unfold execGateLevelReached; simp [engines_fields]
theorem execStrongHoldEnd_engines (c : Chan) (side : Side) (t : Nat) (s : State) : (stateOf s (execStrongHoldEnd c side t s)).engines = s.engines := by
  unfold execStrongHoldEnd; simp [engines_fields]
theorem execStrongClampEnd_engines (c : Chan) (side : Side) (t : Nat) (s : State) : (stateOf s (execStrongClampEnd c side t s)).engines = s.engines := by
  unfold execStrongClampEnd; simp [engines_fields]
theorem execBoostTimeLimit_engines (c : Chan) (side : Side) (t : Nat) (s : State) : (stateOf s (execBoostTimeLimit c side t s)).engines = s.engines := by
  unfold execBoostTimeLimit; simp [engines_fields]
theorem execSlewLimitExpired_engines (c : Chan) (side : Side) (t : Nat) (s : State) : (stateOf s (execSlewLimitExpired c side t s)).engines = s.engines := by
  unfold execSlewLimitExpired; simp [engines_fields]
theorem execForcedClamp_engines (c : Chan) (side : Side) (t : Nat) (s : State) : (stateOf s (execForcedClamp c side t s)).engines = s.engines := by
  unfold execForcedClamp; simp [engines_fields]
theorem execClampGateFault_engines (c : Chan) (side : Side) (t : Nat) (s : State) : (stateOf s (execClampGateFault c side t s)).engines = s.engines := by
  unfold execClampGateFault; simp [engines_fields]
theorem execBarrierSignalLoss_engines (c : Chan) (t : Nat) (s : State) : (stateOf s (execBarrierSignalLoss c t s)).engines = s.engines := by
  unfold execBarrierSignalLoss; simp [engines_fields]
theorem execHvPowerUp_engines (c : Chan) (vpos vneg : Int) (mid : Nat) (t : Nat) (s : State) : (stateOf s (execHvPowerUp c vpos vneg mid t s)).engines = s.engines := by
  unfold execHvPowerUp; simp [engines_fields]
theorem execHvPowerDown_engines (c : Chan) (t : Nat) (s : State) : (stateOf s (execHvPowerDown c t s)).engines = s.engines := by
  unfold execHvPowerDown; simp [engines_fields]
theorem execSc2Trip_engines (c : Chan) (t : Nat) (s : State) : (stateOf s (execSc2Trip c t s)).engines = s.engines := by
  unfold execSc2Trip; simp [engines_fields]
theorem execSc1Trip_engines (c : Chan) (memberB : Bool) (since : Nat) (t : Nat) (s : State) : (stateOf s (execSc1Trip c memberB since t s)).engines = s.engines := by
  unfold execSc1Trip; simp [engines_fields]
theorem execReverseTrip_engines (c : Chan) (since : Nat) (t : Nat) (s : State) : (stateOf s (execReverseTrip c since t s)).engines = s.engines := by
  unfold execReverseTrip; simp [engines_fields]
theorem execDesatTrip_engines (c : Chan) (side : Side) (since : Nat) (t : Nat) (s : State) : (stateOf s (execDesatTrip c side since t s)).engines = s.engines := by
  unfold execDesatTrip; simp [engines_fields]
theorem execDesatBlankingEnd_engines (c : Chan) (side : Side) (t : Nat) (s : State) : (stateOf s (execDesatBlankingEnd c side t s)).engines = s.engines := by
  unfold execDesatBlankingEnd; simp [engines_fields]
theorem execBusOvTrip_engines (c : Chan) (since : Nat) (t : Nat) (s : State) : (stateOf s (execBusOvTrip c since t s)).engines = s.engines := by
  unfold execBusOvTrip; simp [engines_fields]
theorem execBusUvTrip_engines (c : Chan) (since : Nat) (t : Nat) (s : State) : (stateOf s (execBusUvTrip c since t s)).engines = s.engines := by
  unfold execBusUvTrip; simp [engines_fields]
theorem execCurrentLimitEntry_engines (c : Chan) (memberB : Bool) (negative : Bool) (t : Nat) (s : State) : (stateOf s (execCurrentLimitEntry c memberB negative t s)).engines = s.engines := by
  unfold execCurrentLimitEntry; simp [engines_fields]
theorem execCurrentLimitExit_engines (c : Chan) (t : Nat) (s : State) : (stateOf s (execCurrentLimitExit c t s)).engines = s.engines := by
  unfold execCurrentLimitExit; simp [engines_fields]
theorem execFaultTimerPeriodEnd_engines (c : Chan) (ic vc : List Raw) (t : Nat) (s : State) : (stateOf s (execFaultTimerPeriodEnd c ic vc t s)).engines = s.engines := by
  unfold execFaultTimerPeriodEnd; simp [engines_fields]
theorem execThermalEvaluation_engines (c : Chan) (s : State) : (stateOf s (execThermalEvaluation c s)).engines = s.engines := by
  unfold execThermalEvaluation; simp [engines_fields]
theorem execDieOverTemperature_engines (c : Chan) (t : Nat) (s : State) : (stateOf s (execDieOverTemperature c t s)).engines = s.engines := by
  unfold execDieOverTemperature; simp [engines_fields]
theorem execOutputPresent_engines (c : Chan) (ic vc : List Raw) (t : Nat) (s : State) : (stateOf s (execOutputPresent c ic vc t s)).engines = s.engines := by
  unfold execOutputPresent; simp [engines_fields]
theorem execStackTest_engines (c : Chan) (t : Nat) (s : State) : (stateOf s (execStackTest c t s)).engines = s.engines := by
  unfold execStackTest; simp [engines_fields]
theorem execTieTest_engines (c : Chan) (cmp : PodCmp) (pass : Bool) (t : Nat) (s : State) : (stateOf s (execTieTest c cmp pass t s)).engines = s.engines := by
  unfold execTieTest; simp [engines_fields]
theorem execSuspectConfirmation_engines (c : Chan) (t : Nat) (s : State) : (stateOf s (execSuspectConfirmation c t s)).engines = s.engines := by
  unfold execSuspectConfirmation; simp [engines_fields]
theorem execConfirmationEvaluation_engines (c : Chan) (t : Nat) (s : State) : (stateOf s (execConfirmationEvaluation c t s)).engines = s.engines := by
  unfold execConfirmationEvaluation; simp [engines_fields]
theorem execOnlineSelftestRound_engines (c : Chan) (t : Nat) (s : State) : (stateOf s (execOnlineSelftestRound c t s)).engines = s.engines := by
  unfold execOnlineSelftestRound; simp [engines_fields]
theorem execMemberTestEnd_engines (c : Chan) (cmp : PodCmp) (result : TestResult) (t : Nat) (s : State) : (stateOf s (execMemberTestEnd c cmp result t s)).engines = s.engines := by
  unfold execMemberTestEnd; simp [engines_fields]
theorem execStartEnergyExceeded_engines (c : Chan) (ic vc : List Raw) (t : Nat) (s : State) : (stateOf s (execStartEnergyExceeded c ic vc t s)).engines = s.engines := by
  unfold execStartEnergyExceeded; simp [engines_fields]
theorem execOrphan_engines (c : Chan) (s : State) : (stateOf s (execOrphan c s)).engines = s.engines := by
  unfold execOrphan; simp [engines_fields]
theorem execHoldWindowEnd_engines (c : Chan) (s : State) : (stateOf s (execHoldWindowEnd c s)).engines = s.engines := by
  unfold execHoldWindowEnd; simp [engines_fields]
theorem execOringReverseBlock_engines (c : Chan) (since : Nat) (t : Nat) (s : State) : (stateOf s (execOringReverseBlock c since t s)).engines = s.engines := by
  unfold execOringReverseBlock; simp [engines_fields]
theorem execOringReverseTrip_engines (c : Chan) (t : Nat) (s : State) : (stateOf s (execOringReverseTrip c t s)).engines = s.engines := by
  unfold execOringReverseTrip; simp [engines_fields]
theorem execOringReentry_engines (c : Chan) (t : Nat) (s : State) : (stateOf s (execOringReentry c t s)).engines = s.engines := by
  unfold execOringReentry; simp [engines_fields]
@[simp] theorem State.down_engines (s : State) (c : Chan) (f : CmdFrame → CmdFrame) : (State.down s c f).engines = s.engines := by
  unfold State.down; simp [engines_fields]
@[simp] theorem State.podNow_engines (s : State) (c : Chan) (f : Pod → Pod) : (State.podNow s c f).engines = s.engines := by
  unfold State.podNow; simp [engines_fields]
theorem execRetryCountReset_engines (c : Chan) (s : State) : (stateOf s (execRetryCountReset c s)).engines = s.engines := by
  unfold execRetryCountReset; dsimp only; (repeat' split) <;> simp [engines_fields]
@[simp] theorem State.activatePod_engines (s : State) (c : Chan) : (State.activatePod s c).engines = s.engines := by
  unfold State.activatePod; simp [engines_fields]
theorem execCoolDownEnd_engines (c : Chan) (s : State) : (stateOf s (execCoolDownEnd c s)).engines = s.engines := by
  unfold execCoolDownEnd; (try dsimp only); (repeat' split) <;> simp [engines_fields]
theorem execReseatGuardExpiry_engines (c : Chan) (s : State) : (stateOf s (execReseatGuardExpiry c s)).engines = s.engines := by
  unfold execReseatGuardExpiry; dsimp only; (repeat' split) <;> simp [engines_fields]
@[simp] theorem State.claim_engines (s : State) (c : Chan) (epoch : Nat) : (State.claim s c epoch).engines = s.engines := by
  unfold State.claim; simp [engines_fields]
@[simp] theorem State.claimHeld_engines (s : State) (c : Chan) (epoch : Nat) : (State.claimHeld s c epoch).engines = s.engines := by
  unfold State.claimHeld; simp [engines_fields]
theorem execOwnerlessClaim_engines (c : Chan) (s : State) : (stateOf s (execOwnerlessClaim c s)).engines = s.engines := by
  unfold execOwnerlessClaim; (try dsimp only); (repeat' split) <;> simp [engines_fields]
theorem execMoveReclaim_engines (s : State) : (stateOf s (execMoveReclaim s)).engines = s.engines := by
  unfold execMoveReclaim; rw [stateOf_next]; exact foldl_engines _ (fun s x => by (repeat' split) <;> simp [engines_fields]) _ _
theorem execCommandFrameReceived_engines (c : Chan) (rx : RxFrame) (s : State) : (stateOf s (execCommandFrameReceived c rx s)).engines = s.engines := by
  unfold execCommandFrameReceived; simp [engines_fields]
@[simp] theorem State.podTell_engines (s : State) (c : Chan) (f : Pod → Pod) : (State.podTell s c f).engines = s.engines := by
  unfold State.podTell; simp [engines_fields]
theorem execSeatPairSeated_engines (c : Chan) (t : Nat) (s : State) : (stateOf s (execSeatPairSeated c t s)).engines = s.engines := by
  unfold execSeatPairSeated; simp [engines_fields]
theorem execSeatingAbort_engines (c : Chan) (s1 : Bool) (s2 : Bool) (t : Nat) (s : State) : (stateOf s (execSeatingAbort c s1 s2 t s)).engines = s.engines := by
  unfold execSeatingAbort; simp [engines_fields]
theorem execSeatDebounceComplete_engines (c : Chan) (t : Nat) (s : State) : (stateOf s (execSeatDebounceComplete c t s)).engines = s.engines := by
  unfold execSeatDebounceComplete; dsimp only; (repeat' split) <;> simp [engines_fields]
theorem execChannelStart_engines (c : Chan) (t : Nat) (s : State) : (stateOf s (execChannelStart c t s)).engines = s.engines := by
  unfold execChannelStart; simp [engines_fields]
@[simp] theorem State.feedA_engines (s : State) (c : Chan) : (State.feedA s c).engines = s.engines := by
  unfold State.feedA; simp [engines_fields]
theorem execPodPowerUp_engines (c : Chan) (kind : PodKind) (rev : Nat) (uid : Nat) (a : Bool) (b : Bool) (s : State) : (stateOf s (execPodPowerUp c kind rev uid a b s)).engines = s.engines := by
  unfold execPodPowerUp; simp [engines_fields]
@[simp] theorem State.linkLost_engines (s : State) (c : Chan) : (State.linkLost s c).engines = s.engines := by
  unfold State.linkLost; simp [engines_fields]
theorem execPodSupplyLoss_engines (c : Chan) (t : Nat) (s : State) : (stateOf s (execPodSupplyLoss c t s)).engines = s.engines := by
  unfold execPodSupplyLoss; simp [engines_fields]
theorem execPodLinkDown_engines (c : Chan) (s : State) : (stateOf s (execPodLinkDown c s)).engines = s.engines := by
  unfold execPodLinkDown; simp [engines_fields]
@[simp] theorem State.podWarn_engines (s : State) (c : Chan) (code : Nat) (data : List (Nat × Nat)) : (State.podWarn s c code data).engines = s.engines := by
  unfold State.podWarn; simp [engines_fields]
@[simp] theorem State.healthSeen_engines (s : State) (c : Chan) (old new : Nat) (mean : Int) : (State.healthSeen s c old new mean).engines = s.engines := by
  unfold State.healthSeen; simp [engines_fields]
theorem execIntDwellComplete_engines (c : Chan) (s : State) : (stateOf s (execIntDwellComplete c s)).engines = s.engines := by
  unfold execIntDwellComplete; (try dsimp only); (repeat' split) <;> simp [engines_fields]
theorem execUrgentConversionDone_engines (c : Chan) (codes : List Raw) (t : Nat) (s : State) : (stateOf s (execUrgentConversionDone c codes t s)).engines = s.engines := by
  unfold execUrgentConversionDone; (try dsimp only); (repeat' split) <;> simp [engines_fields]
theorem execPairedWindowStart_engines (c : Chan) (trig : Option PodCmp) (t : Nat) (s : State) : (stateOf s (execPairedWindowStart c trig t s)).engines = s.engines := by
  unfold execPairedWindowStart; simp [engines_fields]
@[simp] theorem State.queueWindows_engines (s : State) (c : Chan) : (State.queueWindows s c).engines = s.engines := by
  unfold State.queueWindows; simp [engines_fields]
@[simp] theorem State.sendCaptures_engines (s : State) (c : Chan) : (State.sendCaptures s c).engines = s.engines := by
  unfold State.sendCaptures; simp [engines_fields]
theorem execPairedWindowEnd_engines (c : Chan) (t : Nat) (s : State) : (stateOf s (execPairedWindowEnd c t s)).engines = s.engines := by
  unfold execPairedWindowEnd; (try dsimp only); (repeat' split) <;> simp [engines_fields]
@[simp] theorem State.calFailed_engines (s : State) (c : Chan) (kind : Nat) (bad : Nat × Nat × Int) : (State.calFailed s c kind bad).engines = s.engines := by
  unfold State.calFailed; simp [engines_fields]
theorem execCalComplete_engines (c : Chan) (icF vcF feF : List Int) (t : Nat) (s : State) : (stateOf s (execCalComplete c icF vcF feF t s)).engines = s.engines := by
  unfold execCalComplete; dsimp only; (repeat' split) <;> simp [engines_fields]
theorem execRecalComplete_engines (c : Chan) (factors : List Int) (t : Nat) (s : State) : (stateOf s (execRecalComplete c factors t s)).engines = s.engines := by
  unfold execRecalComplete; dsimp only; (repeat' split) <;> simp [engines_fields]
theorem execRecalCoverEnd_engines (c : Chan) (s : State) : (stateOf s (execRecalCoverEnd c s)).engines = s.engines := by
  unfold execRecalCoverEnd; (try dsimp only); (repeat' split) <;> simp [engines_fields]
theorem execParkedBurst_engines (c : Chan) (smp : TickSamples) (s : State) : (stateOf s (execParkedBurst c smp s)).engines = s.engines := by
  unfold execParkedBurst; simp [engines_fields]
@[simp] theorem State.hkPut_engines (s : State) (i sum : Nat) : (State.hkPut s i sum).engines = s.engines := by
  unfold State.hkPut; simp [engines_fields]
@[simp] theorem State.hkMean_engines (s : State) (i : Nat) (codes : List Raw) : (State.hkMean s i codes).engines = s.engines := by
  unfold State.hkMean; simp [engines_fields]
theorem execHkMeanUpdate_engines (inp : Nat) (codes : List Raw) (s : State) : (stateOf s (execHkMeanUpdate inp codes s)).engines = s.engines := by
  unfold execHkMeanUpdate; simp [engines_fields]
theorem execHkSleepBurst_engines (codes : List (List Raw)) (s : State) : (stateOf s (execHkSleepBurst codes s)).engines = s.engines := by
  unfold execHkSleepBurst; dsimp only; split
  · simp only [stateOf_next]; rw [foldl_engines _ (fun s x => by simp [engines_fields])]; simp [engines_fields]
  · rfl
@[simp] theorem State.emit_engines (s : State) (r : StrRec) : (State.emit s r).engines = s.engines := by
  unfold State.emit; simp [engines_fields]
@[simp] theorem State.engineering_engines (s : State) (c : Chan) : (State.engineering s c).engines = s.engines := by
  unfold State.engineering; simp [engines_fields]
@[simp] theorem State.avgRecord_engines (s : State) (c : Chan) (d : AvgDone) (word : Nat) : (State.avgRecord s c d word).engines = s.engines := by
  unfold State.avgRecord; simp [engines_fields]
@[simp] theorem State.averageIn_engines (s : State) (c : Chan) (d : AvgDone) : (State.averageIn s c d).engines = s.engines := by
  simp only [State.averageIn, State.avgRecord_engines, State.engineering_engines, State.set_engines, State.updPort_engines]
theorem execAverageComplete_engines (c : Chan) (src : Source) (s : State) : (stateOf s (execAverageComplete c src s)).engines = s.engines := by
  unfold execAverageComplete; dsimp only; (repeat' split) <;> simp [engines_fields]
theorem execMeteringTransfer_engines (c : Chan) (s : State) : (stateOf s (execMeteringTransfer c s)).engines = s.engines := by
  unfold execMeteringTransfer; simp [engines_fields]
theorem execMeteringTransferReceived_engines (c : Chan) (crcOk : Bool) (s : State) : (stateOf s (execMeteringTransferReceived c crcOk s)).engines = s.engines := by
  unfold execMeteringTransferReceived; simp [engines_fields]
@[simp] theorem State.publish_engines (s : State) (c : Chan) (k : Trackers) (flags t : Nat) : (State.publish s c k flags t).engines = s.engines := by
  unfold State.publish; simp [engines_fields]
@[simp] theorem State.freshTrackers_engines (s : State) (c : Chan) (part : Bool) : (State.freshTrackers s c part).engines = s.engines := by
  unfold State.freshTrackers; simp [engines_fields]
@[simp] theorem State.windowEnds_engines (s : State) (c : Chan) : (State.windowEnds s c).engines = s.engines := by
  unfold State.windowEnds; simp [engines_fields]
@[simp] theorem State.snapAt_engines (s : State) (T : Nat) (c : Chan) : (State.snapAt s T c).engines = s.engines := by
  unfold State.snapAt; simp [engines_fields]
@[simp] theorem State.snapNow_engines (s : State) : (State.snapNow s).engines = s.engines := by
  unfold State.snapNow; (try dsimp only); (repeat' split) <;> simp [engines_fields]
theorem execSnapshotTick_engines (s : State) : (stateOf s (execSnapshotTick s)).engines = s.engines := by
  unfold execSnapshotTick; (try dsimp only); (repeat' split) <;> simp [engines_fields]
@[simp] theorem State.windowsNow_engines (s : State) : (State.windowsNow s).engines = s.engines := by
  unfold State.windowsNow; simp [engines_fields]
theorem execMinmaxWindowEnd_engines (s : State) : (stateOf s (execMinmaxWindowEnd s)).engines = s.engines := by
  unfold execMinmaxWindowEnd; simp [engines_fields]
@[simp] theorem State.snapBlock_engines (s : State) (c : Chan) : (State.snapBlock s c).engines = s.engines := by
  unfold State.snapBlock; simp [engines_fields]
theorem execSnapshotDone_engines (s : State) : (stateOf s (execSnapshotDone s)).engines = s.engines := by
  unfold execSnapshotDone; dsimp only; (repeat' split) <;> simp [engines_fields]
@[simp] theorem State.latch_engines (s : State) : (State.latch s).engines = s.engines := by unfold State.latch; simp [engines_fields]
@[simp] theorem State.clearsDone_engines (s : State) : (State.clearsDone s).engines = s.engines := by
  unfold State.clearsDone; simp [engines_fields]
@[simp] theorem State.sealed_engines (s : State) : (State.sealed s).engines = s.engines := by unfold State.sealed; simp [engines_fields]
theorem execCheckpointWritten_engines (ok : Bool) (s : State) : (stateOf s (execCheckpointWritten ok s)).engines = s.engines := by
  unfold execCheckpointWritten; dsimp only; (repeat' split) <;> simp [engines_fields]
@[simp] theorem State.clearNow_engines (s : State) (c : Chan) : (State.clearNow s c).engines = s.engines := by
  unfold State.clearNow; simp [engines_fields]
@[simp] theorem State.clearsNow_engines (s : State) : (State.clearsNow s).engines = s.engines := by
  unfold State.clearsNow; simp [engines_fields]
theorem execMeteringClearApply_engines (c : Chan) (s : State) : (stateOf s (execMeteringClearApply c s)).engines = s.engines := by
  unfold execMeteringClearApply; simp [engines_fields]
theorem execCheckpoint_engines (s : State) : (stateOf s (execCheckpoint s)).engines = s.engines := by
  unfold execCheckpoint; simp [engines_fields]
@[simp] theorem State.codeErrs_engines (s : State) (n : Nat) : (State.codeErrs s n).engines = s.engines := by
  unfold State.codeErrs; simp [engines_fields]
@[simp] theorem State.take__engines (s : State) (k : KPort) (f : Frame) (act : State → State) (h : ∀ s, (act s).engines = s.engines) : (State.take_ s k f act).engines = s.engines := by
  unfold State.take_; (repeat' split) <;> simp [engines_fields, h]
theorem execCutThroughForward_engines (k : KPort) (f : Frame) (t : Nat) (residence : Nat) (s : State) : (stateOf s (execCutThroughForward k f t residence s)).engines = s.engines := by
  unfold execCutThroughForward; simp [engines_fields]
@[simp] theorem State.report_engines (s : State) (reason : Nat) : (State.report s reason).engines = s.engines := by
  unfold State.report; simp [engines_fields]
@[simp] theorem State.enumerate_engines (s : State) : (State.enumerate s).engines = s.engines := by
  unfold State.enumerate; simp [engines_fields]
theorem execDiscover_engines (k : KPort) (f : Frame) (s : State) : (stateOf s (execDiscover k f s)).engines = s.engines := by
  unfold execDiscover; rw [stateOf_next, State.take__engines]; intro s; (try dsimp only); (repeat' split) <;> simp [engines_fields]
@[simp] theorem State.giveAddr_engines (s : State) (uid : Nat) : (State.giveAddr s uid).2.engines = s.engines := by
  unfold State.giveAddr; dsimp only; (repeat' split) <;> simp [engines_fields]
@[simp] theorem State.assign_engines (s : State) (uid : Nat) : (State.assign s uid).engines = s.engines := by
  unfold State.assign; simp [engines_fields]
@[simp] theorem State.reported_engines (s : State) (e : MapEntry) : (State.reported s e).engines = s.engines := by
  unfold State.reported; dsimp only; (repeat' split) <;> simp [engines_fields]
theorem execReport_engines (k : KPort) (f : Frame) (s : State) : (stateOf s (execReport k f s)).engines = s.engines := by
  unfold execReport; rw [stateOf_next, State.take__engines]; intro s; (try dsimp only); (repeat' split) <;> simp [engines_fields]
theorem execAssign_engines (k : KPort) (f : Frame) (s : State) : (stateOf s (execAssign k f s)).engines = s.engines := by
  unfold execAssign; rw [stateOf_next, State.take__engines]; intro s; (try dsimp only); (repeat' split) <;> simp [engines_fields]
theorem execDone_engines (k : KPort) (f : Frame) (s : State) : (stateOf s (execDone k f s)).engines = s.engines := by
  unfold execDone; rw [stateOf_next, State.take__engines]; intro s; (try dsimp only); (repeat' split) <;> simp [engines_fields]
@[simp] theorem State.sendRehome_engines (s : State) (k : KPort) (hops : Nat) : (State.sendRehome s k hops).engines = s.engines := by
  unfold State.sendRehome; simp [engines_fields]
@[simp] theorem State.rehome_engines (s : State) (k : KPort) (hops : Nat) : (State.rehome s k hops).engines = s.engines := by
  unfold State.rehome; simp [engines_fields]
@[simp] theorem State.linkChange_engines (s : State) (k : KPort) (up : Bool) : (State.linkChange s k up).engines = s.engines := by
  unfold State.linkChange; simp [engines_fields]
theorem execRingLinkDown_engines (k : KPort) (violations : Nat) (s : State) : (stateOf s (execRingLinkDown k violations s)).engines = s.engines := by
  unfold execRingLinkDown; simp [engines_fields]
@[simp] theorem State.broken_engines (s : State) : (State.broken s).engines = s.engines := by unfold State.broken; simp [engines_fields]
theorem execRehome_engines (k : KPort) (b : Byte) (s : State) : (stateOf s (execRehome k b s)).engines = s.engines := by
  unfold execRehome; simp [engines_fields]
theorem execEventFrame_engines (k : KPort) (f : Frame) (s : State) : (stateOf s (execEventFrame k f s)).engines = s.engines := by
  unfold execEventFrame; rw [stateOf_next, State.take__engines]; intro s; (try dsimp only); (repeat' split) <;> simp [engines_fields]
@[simp] theorem State.timeState_engines (s : State) (v : Nat) : (State.timeState s v).engines = s.engines := by
  unfold State.timeState; simp [engines_fields]
@[simp] theorem State.stepTime_engines (s : State) (master : Nat) : (State.stepTime s master).engines = s.engines := by
  unfold State.stepTime; simp [engines_fields]
@[simp] theorem State.offset_engines (s : State) (ps : Int) : (State.offset s ps).engines = s.engines := by
  unfold State.offset; simp [engines_fields]
theorem execSyncTime_engines (k : KPort) (f : Frame) (t : Nat) (s : State) : (stateOf s (execSyncTime k f t s)).engines = s.engines := by
  unfold execSyncTime; rw [stateOf_next, State.take__engines]; intro s; (try dsimp only); (repeat' split) <;> simp [engines_fields]
theorem execSyncPeriod_engines (s : State) : (stateOf s (execSyncPeriod s)).engines = s.engines := by
  unfold execSyncPeriod; simp [engines_fields]
theorem execTimeHoldover_engines (s : State) : (stateOf s (execTimeHoldover s)).engines = s.engines := by
  unfold execTimeHoldover; simp [engines_fields]
@[simp] theorem State.sendLocal_engines (s : State) (k : KPort) (payload : List Byte) : (State.sendLocal s k payload).engines = s.engines := by
  unfold State.sendLocal; simp [engines_fields]
theorem execDelayReq_engines (k : KPort) (f : Frame) (turn : Nat) (s : State) : (stateOf s (execDelayReq k f turn s)).engines = s.engines := by
  unfold execDelayReq; rw [stateOf_next, State.take__engines]; intro s; (try dsimp only); (repeat' split) <;> simp [engines_fields]
theorem execDelayResp_engines (k : KPort) (f : Frame) (t : Nat) (s : State) : (stateOf s (execDelayResp k f t s)).engines = s.engines := by
  unfold execDelayResp; rw [stateOf_next, State.take__engines]; intro s; (try dsimp only); (repeat' split) <;> simp [engines_fields]
theorem execDelayExchangePeriod_engines (s : State) : (stateOf s (execDelayExchangePeriod s)).engines = s.engines := by
  unfold execDelayExchangePeriod; simp [engines_fields]
@[simp] theorem State.answer_engines (s : State) (q : Req) (a : Answer) : (State.answer s q a).engines = s.engines := by
  unfold State.answer; dsimp only; (repeat' split) <;> simp [engines_fields]
@[simp] theorem State.enqueue_engines (s : State) (r : StrRec) : (State.enqueue s r).engines = s.engines := by
  unfold State.enqueue; simp [engines_fields]
@[simp] theorem State.dropRecord_engines (s : State) (r : StrRec) : (State.dropRecord s r).engines = s.engines := by
  unfold State.dropRecord; simp [engines_fields]
theorem execStreamRecord_engines (s : State) : (stateOf s (execStreamRecord s)).engines = s.engines := by
  unfold execStreamRecord; dsimp only; (repeat' split) <;> simp [engines_fields]
theorem execBlockSend_engines (s : State) : (stateOf s (execBlockSend s)).engines = s.engines := by
  unfold execBlockSend; simp [engines_fields]
theorem execStreamFlush_engines (s : State) : (stateOf s (execStreamFlush s)).engines = s.engines := by
  unfold execStreamFlush; dsimp only; (repeat' split) <;> simp [engines_fields]
theorem execReadyHighEnd_engines (ns : Nat) (s : State) : (stateOf s (execReadyHighEnd ns s)).engines = s.engines := by
  unfold execReadyHighEnd; simp [engines_fields]
theorem execJournalExportRecord_engines (s : State) : (stateOf s (execJournalExportRecord s)).engines = s.engines := by
  unfold execJournalExportRecord; dsimp only; (repeat' split) <;> simp [engines_fields]
@[simp] theorem State.sealSlot_engines (s : State) (i : Nat) (value : List Byte) (ok : Bool) : (State.sealSlot s i value ok).engines = s.engines := by
  unfold State.sealSlot; split <;> simp [engines_fields]
@[simp] theorem State.strapped_engines (s : State) (strap : Nat) : (State.strapped s strap).engines = s.engines := by
  unfold State.strapped; simp [engines_fields]
theorem execResetRelease_engines (strap : Nat) (s : State) : (stateOf s (execResetRelease strap s)).engines = s.engines := by
  unfold execResetRelease; simp [engines_fields]
theorem execPodSupplyCurrentLimit_engines (c : Chan) (s : State) : (stateOf s (execPodSupplyCurrentLimit c s)).engines = s.engines := by
  unfold execPodSupplyCurrentLimit; simp [engines_fields]
theorem execPodSupplyRetry_engines (c : Chan) (holds : Bool) (s : State) : (stateOf s (execPodSupplyRetry c holds s)).engines = s.engines := by
  unfold execPodSupplyRetry; (try dsimp only); (repeat' split) <;> simp [engines_fields]
@[simp] theorem State.clockMove_engines (s : State) (st : Nat) : (State.clockMove s st).engines = s.engines := by
  unfold State.clockMove; simp [engines_fields]
theorem execRingClockMove_engines (s : State) : (stateOf s (execRingClockMove s)).engines = s.engines := by
  unfold execRingClockMove; simp [engines_fields]
theorem execXtalMeasure_engines (ppm : Int) (s : State) : (stateOf s (execXtalMeasure ppm s)).engines = s.engines := by
  unfold execXtalMeasure; simp [engines_fields]
theorem execPodWakeSignal_engines (c : Chan) (s : State) : (stateOf s (execPodWakeSignal c s)).engines = s.engines := by
  unfold execPodWakeSignal; (try dsimp only); (repeat' split) <;> simp [engines_fields]
@[simp] theorem State.cfgFail_engines (s : State) : (State.cfgFail s).engines = s.engines := by unfold State.cfgFail; simp [engines_fields]
theorem execCfgSaveComplete_engines (ok : Bool) (s : State) : (stateOf s (execCfgSaveComplete ok s)).engines = s.engines := by
  unfold execCfgSaveComplete; (try dsimp only); (repeat' split) <;> simp [engines_fields]
theorem execSealProgramDone_engines (ok : Bool) (s : State) : (stateOf s (execSealProgramDone ok s)).engines = s.engines := by
  unfold execSealProgramDone; split
  · rw [stateOf_next, State.journal_engines, State.sealSlot_engines]; rfl
  · rfl
theorem execFwCheckDone_engines (s : State) : (stateOf s (execFwCheckDone s)).engines = s.engines := by
  unfold execFwCheckDone; simp [engines_fields]
theorem execPfwN_engines (s : State) : (stateOf s (execPfwN s)).engines = s.engines := by unfold execPfwN; simp [engines_fields]
theorem execPowerWarningEnd_engines (s : State) : (stateOf s (execPowerWarningEnd s)).engines = s.engines := by
  unfold execPowerWarningEnd; (try dsimp only); (repeat' split) <;> simp [engines_fields]
@[simp] theorem State.updSession_engines (s : State) (h : Nat) (f : Session → Session) : (State.updSession s h f).engines = s.engines := by
  unfold State.updSession; simp [engines_fields]
@[simp] theorem State.endSession_engines (s : State) (h : Nat) : (State.endSession s h).engines = s.engines := by
  unfold State.endSession; simp [engines_fields]
@[simp] theorem State.readChallenge_engines (s : State) (src : Nat) : (State.readChallenge s src).engines = s.engines := by
  unfold State.readChallenge; (try dsimp only); (repeat' split) <;> simp [engines_fields]
theorem execChallengeLapse_engines (s : State) : (stateOf s (execChallengeLapse s)).engines = s.engines := by
  unfold execChallengeLapse; simp [engines_fields]
theorem execRoleLockEnd_engines (s : State) : (stateOf s (execRoleLockEnd s)).engines = s.engines := by
  unfold execRoleLockEnd; simp [engines_fields]
theorem execSesTimeout_engines (h : Nat) (s : State) : (stateOf s (execSesTimeout h s)).engines = s.engines := by
  unfold execSesTimeout; (try dsimp only); (repeat' split) <;> simp [engines_fields]
@[simp] theorem State.mirror_engines (s : State) (index sub off : Nat) (data : List Byte) : (State.mirror s index sub off data).engines = s.engines := by
  unfold State.mirror; simp [engines_fields]
@[simp] theorem State.mirrorUnit_engines (s : State) (u : CUnit) : (State.mirrorUnit s u).engines = s.engines := by
  unfold State.mirrorUnit; simp [engines_fields]
theorem execMirroringComplete_engines (s : State) : (stateOf s (execMirroringComplete s)).engines = s.engines := by
  unfold execMirroringComplete; simp [engines_fields]
@[simp] theorem State.touch_engines (s : State) (q : Req) : (State.touch s q).engines = s.engines := by
  unfold State.touch; (try dsimp only); (repeat' split) <;> simp [engines_fields]
@[simp] theorem State.read_engines (s : State) (q : Req) (len : Nat) : (State.read s q len).1.engines = s.engines := by
  unfold State.read; (try dsimp only); (repeat' split) <;> simp [engines_fields]
@[simp] theorem State.doRead_engines (s : State) (q : Req) (len : Nat) : (State.doRead s q len).engines = s.engines := by
  unfold State.doRead; simp [engines_fields]
@[simp] theorem State.sentDone_engines (s : State) (x : Sent) (bytes : List Byte) : (State.sentDone s x bytes).engines = s.engines := by
  unfold State.sentDone; simp [engines_fields]
theorem execOdResp_engines (k : KPort) (f : Frame) (s : State) : (stateOf s (execOdResp k f s)).engines = s.engines := by
  unfold execOdResp; rw [stateOf_next, State.take__engines]; intro s; (try dsimp only); (repeat' split) <;> simp [engines_fields]
theorem execRingRespTmo_engines (seq : Nat) (s : State) : (stateOf s (execRingRespTmo seq s)).engines = s.engines := by
  unfold execRingRespTmo; (try dsimp only); (repeat' split) <;> simp [engines_fields]
@[simp] theorem State.transfer_engines (s : State) (op : Nat) (body : List Byte) (crc : Nat) (data : List Byte) (act : State → State × Bool) (h : ∀ s, (act s).1.engines = s.engines) : (State.transfer s op body crc data act).engines = s.engines := by
  unfold State.transfer; (try dsimp only); (repeat' split) <;> simp [engines_fields, h]
theorem execFetch_engines (crc : Nat) (full : Bool) (s : State) : (stateOf s (execFetch crc full s)).engines = s.engines := by
  unfold execFetch; rw [stateOf_next, State.transfer_engines]; intro s; (repeat' split) <;> simp [engines_fields]
theorem execRefetch_engines (crc : Nat) (s : State) : (stateOf s (execRefetch crc s)).engines = s.engines := by
  unfold execRefetch; rw [stateOf_next, State.transfer_engines]; intro s; rfl
theorem execStatus_engines (crc : Nat) (s : State) : (stateOf s (execStatus crc s)).engines = s.engines := by
  unfold execStatus; rw [stateOf_next, State.transfer_engines]; intro s; rfl
theorem execIrqAck_engines (mask : Nat) (crc : Nat) (s : State) : (stateOf s (execIrqAck mask crc s)).engines = s.engines := by
  unfold execIrqAck; rw [stateOf_next, State.transfer_engines]; intro s; simp [engines_fields]
theorem execSesChallenge_engines (src : Nat) (s : State) : (stateOf s (execSesChallenge src s)).engines = s.engines := by
  unfold execSesChallenge State.doRead; (try dsimp only); (repeat' split) <;> simp [engines_fields]

end Sys2Proof.Machine
end

