-- ==== Sys2Proof/Laws/Pod.lean ====
section
/-! SUPPORT. The part of a pod that gate drive and trips leave alone. -/

namespace Sys2Proof.Machine

/-- What turn-on, turn-off and trips of a stack leave as it was: identity, parameters, held frame, supplies, converters, metering, and of
the status the pod state, seat, `CH_GSTAT`, measurements, ownership. -/
def Pod.still (p : Pod) := ((p.kind, p.rev, p.uid, p.up, p.params, p.held, p.vpos, p.vneg, p.adc, p.mtr, p.orTarget, p.barrierLost),
  (p.st.pod, p.st.seat, p.st.gstat, p.st.meas, p.st.own, p.st.adc, p.st.hvOn, p.st.lvA, p.st.lvB, p.st.refused, p.st.holds, p.st.holdFrom))

@[simp] theorem still_mk (kind : _) (rev : _) (uid : _) (st : _) (up : _) (params : _) (past : _) (held : _) (holdOutp : _) (holdUv : _) (holdOv : _) (midCmp : _) (vpos : _) (vneg : _) (seatFrom : _) (waitOn : _) (turnOff : _) (coll : _) (acked : _) (pgCount : _) (pgSince : _) (slewing : _) (energy : _) (tOnStart : _) (onSides : _) (limitFull : _) (oclSafe : _) (limitExit : _) (limitEnds : _) (periodFrom : _) (periodAt : _) (limited : _) (limitCut : _) (absentDue : _) (cmds : _) (blankIn : _) (blankOut : _) (dsArmed : _) (tests : _) (adc : _) (mtr : _) (vdsHigh : _) (vonLow : _) (tickAt : _) (misses : _) (gotFrame : _) (lastFrame : _) (barrierLost : _) (orTarget : _) (tLatch : _) (tEnable0 : _) (enable : _) (rest : _) (wakeAt : _) :
    Pod.still (Pod.mk kind rev uid st up params past held holdOutp holdUv holdOv midCmp vpos vneg seatFrom waitOn turnOff coll acked pgCount pgSince slewing energy tOnStart onSides limitFull oclSafe limitExit limitEnds periodFrom periodAt limited limitCut absentDue cmds blankIn blankOut dsArmed tests adc mtr vdsHigh vonLow tickAt misses gotFrame lastFrame barrierLost orTarget tLatch tEnable0 enable rest wakeAt) = ((kind, rev, uid, up, params, held, vpos, vneg, adc, mtr, orTarget, barrierLost),
      (st.pod, st.seat, st.gstat, st.meas, st.own, st.adc, st.hvOn, st.lvA, st.lvB, st.refused, st.holds, st.holdFrom)) := rfl

theorem still_fields (p : Pod) : p.kind = p.still.1.1 ∧ p.rev = p.still.1.2.1 ∧ p.uid = p.still.1.2.2.1 ∧ p.up = p.still.1.2.2.2.1 ∧
    p.params = p.still.1.2.2.2.2.1 ∧ p.held = p.still.1.2.2.2.2.2.1 ∧ p.vpos = p.still.1.2.2.2.2.2.2.1 ∧ p.vneg = p.still.1.2.2.2.2.2.2.2.1 ∧
    p.adc = p.still.1.2.2.2.2.2.2.2.2.1 ∧ p.mtr = p.still.1.2.2.2.2.2.2.2.2.2.1 ∧ p.orTarget = p.still.1.2.2.2.2.2.2.2.2.2.2.1 ∧ p.barrierLost = p.still.1.2.2.2.2.2.2.2.2.2.2.2 ∧
    p.st.pod = p.still.2.1 ∧ p.st.seat = p.still.2.2.1 ∧ p.st.gstat = p.still.2.2.2.1 ∧ p.st.meas = p.still.2.2.2.2.1 ∧
    p.st.own = p.still.2.2.2.2.2.1 ∧ p.st.adc = p.still.2.2.2.2.2.2.1 ∧ p.st.hvOn = p.still.2.2.2.2.2.2.2.1 ∧ p.st.lvA = p.still.2.2.2.2.2.2.2.2.1 ∧
    p.st.lvB = p.still.2.2.2.2.2.2.2.2.2.1 ∧ p.st.refused = p.still.2.2.2.2.2.2.2.2.2.2.1 ∧ p.st.holds = p.still.2.2.2.2.2.2.2.2.2.2.2.1 ∧ p.st.holdFrom = p.still.2.2.2.2.2.2.2.2.2.2.2.2 := by
  simp [Pod.still]

@[simp] theorem ite_still (c : Prop) [Decidable c] (a b : Pod) : (if c then a else b).still = if c then a.still else b.still := by split <;> rfl

@[simp] theorem Pod.setGate_still (p : Pod) (x : Side) (g : Gate) : (Pod.setGate p x g).still = p.still := by
  unfold Pod.setGate; (try dsimp only); (repeat' split) <;> simp [still_fields]
@[simp] theorem Pod.startBlank_still (p : Pod) (x : Side) (t : Nat) : (Pod.startBlank p x t).still = p.still := by
  unfold Pod.startBlank; (try dsimp only); (repeat' split) <;> simp [still_fields]
@[simp] theorem Pod.endBlank_still (p : Pod) (x : Side) : (Pod.endBlank p x).still = p.still := by
  unfold Pod.endBlank; (try dsimp only); (repeat' split) <;> simp [still_fields]
@[simp] theorem Pod.strongHold_still (p : Pod) (x : Side) (t : Nat) : (Pod.strongHold p x t).still = p.still := by
  unfold Pod.strongHold; simp [still_fields]
@[simp] theorem Pod.slewOn_still (p : Pod) (x : Side) (t : Nat) : (Pod.slewOn p x t).still = p.still := by
  unfold Pod.slewOn; simp [still_fields]
@[simp] theorem Pod.afterBoost_still (p : Pod) (x : Side) (t : Nat) : (Pod.afterBoost p x t).still = p.still := by
  unfold Pod.afterBoost; simp [still_fields]
@[simp] theorem Pod.boost_still (p : Pod) (x : Side) (lead : Bool) (t : Nat) : (Pod.boost p x lead t).still = p.still := by
  unfold Pod.boost; simp [still_fields]
@[simp] theorem Pod.strongClamp_still (p : Pod) (x : Side) (t : Nat) : (Pod.strongClamp p x t).still = p.still := by
  unfold Pod.strongClamp; simp [still_fields]
@[simp] theorem Pod.slewOff_still (p : Pod) (x : Side) (t : Nat) (limit : Option Nat) (ma : Nat) : (Pod.slewOff p x t limit ma).still = p.still := by
  unfold Pod.slewOff; simp [still_fields]
@[simp] theorem Pod.afterDump_still (p : Pod) (x : Side) (t : Nat) : (Pod.afterDump p x t).still = p.still := by
  unfold Pod.afterDump; simp [still_fields]
@[simp] theorem Pod.dump_still (p : Pod) (x : Side) (t : Nat) (limit : Option Nat) : (Pod.dump p x t limit).still = p.still := by
  unfold Pod.dump; simp [still_fields]
@[simp] theorem Pod.sideOff_still (p : Pod) (x : Side) (prof : Profile) (t : Nat) : (Pod.sideOff p x prof t).still = p.still := by
  unfold Pod.sideOff; (try dsimp only); (repeat' split) <;> simp [still_fields]
@[simp] theorem Pod.pgLost_still (p : Pod) : (Pod.pgLost p).still = p.still := by unfold Pod.pgLost; simp [still_fields]
@[simp] theorem Pod.endStart_still (p : Pod) : (Pod.endStart p).still = p.still := by unfold Pod.endStart; simp [still_fields]
@[simp] theorem Pod.restOff_still (p : Pod) (x : Side) (prof : Profile) (t : Nat) : (Pod.restOff p x prof t).still = p.still := by
  unfold Pod.restOff; simp [still_fields]
@[simp] theorem Pod.cutLimit_still (p : Pod) (t : Nat) : (Pod.cutLimit p t).still = p.still := by unfold Pod.cutLimit; simp [still_fields]
@[simp] theorem Pod.off_still (p : Pod) (prof : Profile) (t : Nat) : (Pod.off p prof t).still = p.still := by
  unfold Pod.off; (try dsimp only); (repeat' split) <;> simp [still_fields]
@[simp] theorem Pod.offSide_still (p : Pod) (x : Side) (t : Nat) : (Pod.offSide p x t).still = p.still := by
  unfold Pod.offSide; simp [still_fields]
@[simp] theorem Pod.clampEntered_still (p : Pod) (x : Side) (t : Nat) : (Pod.clampEntered p x t).still = p.still := by
  unfold Pod.clampEntered; simp [still_fields]
@[simp] theorem Pod.startSlewing_still (p : Pod) (x : Side) (t : Nat) : (Pod.startSlewing p x t).still = p.still := by
  unfold Pod.startSlewing; simp [still_fields]
@[simp] theorem Pod.turnOnWhole_still (p : Pod) (t : Nat) : (Pod.turnOnWhole p t).still = p.still := by
  unfold Pod.turnOnWhole; simp [still_fields]
@[simp] theorem Pod.turnOnSide_still (p : Pod) (x : Side) (t : Nat) : (Pod.turnOnSide p x t).still = p.still := by
  unfold Pod.turnOnSide; simp [still_fields]
@[simp] theorem Pod.turnOn_still (p : Pod) (a : OnAsk) (t : Nat) : (Pod.turnOn p a t).still = p.still := by
  unfold Pod.turnOn; (try dsimp only); (repeat' split) <;> simp [still_fields]
@[simp] theorem Pod.askOn_still (p : Pod) (a : OnAsk) (t : Nat) : (Pod.askOn p a t).still = p.still := by
  unfold Pod.askOn; (try dsimp only); (repeat' split) <;> simp [still_fields]
@[simp] theorem Pod.exitRule_still (p : Pod) : (Pod.exitRule p).still = p.still := by unfold Pod.exitRule; simp [still_fields]
@[simp] theorem Pod.level_still (p : Pod) (x : Side) (mv : Int) (t : Nat) : (Pod.level p x mv t).still = p.still := by
  unfold Pod.level; (try dsimp only); (repeat' split) <;> simp [still_fields]
@[simp] theorem Pod.toStaticHold_still (p : Pod) (x : Side) (t : Nat) : (Pod.toStaticHold p x t).still = p.still := by
  unfold Pod.toStaticHold; simp [still_fields]
@[simp] theorem Pod.joinTrip_still (p : Pod) (k : Cause) (prof : Profile) (t : Nat) : (Pod.joinTrip p k prof t).still = p.still := by
  unfold Pod.joinTrip; simp [still_fields]
@[simp] theorem Pod.trigger_still (p : Pod) (prof : Profile) (t : Nat) : (Pod.trigger p prof t).still = p.still := by
  unfold Pod.trigger; simp [still_fields]
@[simp] theorem Pod.tripAway_still (p : Pod) (k : Cause) (prof : Profile) (t : Nat) : (Pod.tripAway p k prof t).still = p.still := by
  unfold Pod.tripAway; (repeat' split) <;> simp [still_fields]
@[simp] theorem Pod.trip_still (p : Pod) (k : Cause) (prof : Profile) (t : Nat) : (Pod.trip p k prof t).still = p.still := by
  unfold Pod.trip; (repeat' split) <;> simp [still_fields]
@[simp] theorem Pod.closeTrip_still (p : Pod) : (Pod.closeTrip p).still = p.still := by unfold Pod.closeTrip; simp [still_fields]
@[simp] theorem Pod.settleAbsent_still (p : Pod) : (Pod.settleAbsent p).still = p.still := by unfold Pod.settleAbsent; simp [still_fields]
@[simp] theorem Pod.fltqRule_still (p : Pod) : (Pod.fltqRule p).still = p.still := by unfold Pod.fltqRule; simp [still_fields]
@[simp] theorem Pod.toState_still (p : Pod) (ch : ChState) : (Pod.toState p ch).still = p.still := by
  unfold Pod.toState; simp [still_fields]
@[simp] theorem Pod.commandOff_still (p : Pod) (t : Nat) : (Pod.commandOff p t).still = p.still := by
  unfold Pod.commandOff; simp [still_fields]
@[simp] theorem Pod.settleOff_still (p : Pod) : (Pod.settleOff p).still = p.still := by unfold Pod.settleOff; simp [still_fields]

end Sys2Proof.Machine
end

