-- ==== Sys2Proof/Laws/TestPart.lean ====
section
/-! SUPPORT. The tests of a pod, which gate drive and trips leave alone. -/

namespace Sys2Proof.Machine

set_option linter.unusedSimpArgs false

/-- What turn-on, turn-off and trips leave of the tests and checks of a pod: the stack and tie tests, the confirmation, the
findings, and the counts that the tests keep. -/
def Pod.testPart (p : Pod) :=
  ((p.tests.stackRun, p.tests.tieLeft, p.tests.confirmSide, p.tests.toggle, p.tests.onlineAt),
   (p.st.prot.suspect, p.st.prot.detail, p.st.prot.selftestFail, p.st.prot.tieRun, p.st.prot.confirmDue, p.st.prot.cmpOut, p.st.prot.cmpCapt),
   (p.st.counts.urgents, p.st.counts.rounds, p.st.counts.stackTests, p.st.counts.warns, p.st.counts.orBlocks, p.st.counts.limits))

@[simp] theorem Pod.setGate_testPart (p : Pod) (x : Side) (g : Gate) : (p.setGate x g).testPart = p.testPart := by cases x <;> rfl
@[simp] theorem Pod.gbit_testPart (p : Pod) (i : Nat) (b : Bool) : (p.gbit i b).testPart = p.testPart := rfl
@[simp] theorem Pod.startBlank_testPart (p : Pod) (x : Side) (t : Nat) : (p.startBlank x t).testPart = p.testPart := by cases x <;> rfl
@[simp] theorem Pod.endBlank_testPart (p : Pod) (x : Side) : (p.endBlank x).testPart = p.testPart := by cases x <;> rfl
@[simp] theorem Pod.strongHold_testPart (p : Pod) (x : Side) (t : Nat) : (p.strongHold x t).testPart = p.testPart := by
  simp [Pod.strongHold]
@[simp] theorem Pod.slewOn_testPart (p : Pod) (x : Side) (t : Nat) : (p.slewOn x t).testPart = p.testPart := by
  unfold Pod.slewOn; dsimp only; split <;> simp
@[simp] theorem Pod.afterBoost_testPart (p : Pod) (x : Side) (t : Nat) : (p.afterBoost x t).testPart = p.testPart := by
  unfold Pod.afterBoost; dsimp only; (repeat' split) <;> simp
@[simp] theorem Pod.boost_testPart (p : Pod) (x : Side) (l : Bool) (t : Nat) : (p.boost x l t).testPart = p.testPart := by
  unfold Pod.boost; dsimp only; split <;> simp
@[simp] theorem Pod.strongClamp_testPart (p : Pod) (x : Side) (t : Nat) : (p.strongClamp x t).testPart = p.testPart := by
  simp [Pod.strongClamp]
@[simp] theorem Pod.slewOff_testPart (p : Pod) (x : Side) (t : Nat) (l : Option Nat) (ma : Nat) :
    (p.slewOff x t l ma).testPart = p.testPart := by
  unfold Pod.slewOff; dsimp only; split <;> simp
@[simp] theorem Pod.afterDump_testPart (p : Pod) (x : Side) (t : Nat) : (p.afterDump x t).testPart = p.testPart := by
  unfold Pod.afterDump; split <;> simp
@[simp] theorem Pod.dump_testPart (p : Pod) (x : Side) (t : Nat) (l : Option Nat) : (p.dump x t l).testPart = p.testPart := by
  unfold Pod.dump; dsimp only; split <;> simp
@[simp] theorem Pod.sideOff_testPart (p : Pod) (x : Side) (f : Profile) (t : Nat) : (p.sideOff x f t).testPart = p.testPart := by
  unfold Pod.sideOff; split
  · rfl
  · cases f <;> dsimp only <;> split <;> simp
@[simp] theorem Pod.pgLost_testPart (p : Pod) : p.pgLost.testPart = p.testPart := rfl
@[simp] theorem Pod.endStart_testPart (p : Pod) : p.endStart.testPart = p.testPart := by unfold Pod.endStart; split <;> rfl
@[simp] theorem Pod.turnOnSide_testPart (p : Pod) (x : Side) (t : Nat) : (p.turnOnSide x t).testPart = p.testPart := by
  unfold Pod.turnOnSide; simp; rfl

@[simp] theorem Pod.restOff_testPart (p : Pod) (x : Side) (f : Profile) (t : Nat) : (p.restOff x f t).testPart = p.testPart := by
  unfold Pod.restOff; split
  · rfl
  · simp
@[simp] theorem Pod.cutLimit_testPart (p : Pod) (t : Nat) : (p.cutLimit t).testPart = p.testPart := rfl
theorem Pod.off_testPart (p : Pod) (f : Profile) (t : Nat) : (p.off f t).testPart = p.testPart := by
  unfold Pod.off Pod.cutLimit Pod.endStart
  dsimp only
  repeat' split
  all_goals first
    | rfl
    | (simp only [Pod.sideOff_testPart]; rfl)
    | (simp only [Pod.restOff_testPart]; rfl)

@[simp] theorem Pod.offSide_testPart (p : Pod) (x : Side) (t : Nat) : (p.offSide x t).testPart = p.testPart := by
  unfold Pod.offSide
  split
  · rfl
  · dsimp only
    rw [Pod.sideOff_testPart]
    split
    · rw [← Pod.strongHold_testPart p x.other t]; rfl
    · rfl

theorem Pod.joinTrip_testPart (p : Pod) (k : Cause) (f : Profile) (t : Nat) : (p.joinTrip k f t).testPart = p.testPart := by
  unfold Pod.joinTrip; rw [Pod.off_testPart]; rfl

theorem Pod.trigger_testPart (p : Pod) (f : Profile) (t : Nat) : (p.trigger f t).testPart = p.testPart := by
  unfold Pod.trigger
  split
  · rfl
  · rw [Pod.off_testPart]

theorem Pod.tripAway_testPart (p : Pod) (k : Cause) (f : Profile) (t : Nat) : (p.tripAway k f t).testPart = p.testPart := by
  unfold Pod.tripAway
  split
  · split
    · rw [Pod.off_testPart]
    · split
      · rw [Pod.joinTrip_testPart]
      · rw [Pod.off_testPart]; rfl
  · rw [Pod.trigger_testPart]

/-- A trip notes at most its count of notes and its own record: the tests stay. -/
theorem Pod.trip_testPart (p : Pod) (k : Cause) (f : Profile) (t : Nat) : (p.trip k f t).testPart = p.testPart := by
  unfold Pod.trip
  split
  · rw [Pod.tripAway_testPart]
  · split
    · rw [Pod.joinTrip_testPart]
    · split
      · split
        · rw [Pod.trigger_testPart]; rfl
        · rw [Pod.trigger_testPart]
      · split
        · rw [Pod.off_testPart]; rfl
        · rw [Pod.trigger_testPart]

end Sys2Proof.Machine
end

