-- ==== Sys2Proof/Laws/TripPart.lean ====
section
/-! SUPPORT. The channel state and trip of a pod, which gate drive leaves alone. -/

namespace Sys2Proof.Machine

/-- What turn-on and turn-off of a stack leave as it was: collection and record of a trip, channel state, FLTQ_N. -/
def Pod.tripPart (p : Pod) := ((p.acked, p.coll, p.tLatch, p.enable, p.tEnable0, p.wakeAt),
  (p.st.ch, p.st.kept, p.st.trip, p.st.fltq, p.st.notes, p.st.startAt, p.st.startEnergy, p.st.ignored))

@[simp] theorem tripPart_mk (kind : _) (rev : _) (uid : _) (st : _) (up : _) (params : _) (past : _) (held : _) (holdOutp : _) (holdUv : _) (holdOv : _) (midCmp : _) (vpos : _) (vneg : _) (seatFrom : _) (waitOn : _) (turnOff : _) (coll : _) (acked : _) (pgCount : _) (pgSince : _) (slewing : _) (energy : _) (tOnStart : _) (onSides : _) (limitFull : _) (oclSafe : _) (limitExit : _) (limitEnds : _) (periodFrom : _) (periodAt : _) (limited : _) (limitCut : _) (absentDue : _) (cmds : _) (blankIn : _) (blankOut : _) (dsArmed : _) (tests : _) (adc : _) (mtr : _) (vdsHigh : _) (vonLow : _) (tickAt : _) (misses : _) (gotFrame : _) (lastFrame : _) (barrierLost : _) (orTarget : _) (tLatch : _) (tEnable0 : _) (enable : _) (rest : _) (wakeAt : _) :
    Pod.tripPart (Pod.mk kind rev uid st up params past held holdOutp holdUv holdOv midCmp vpos vneg seatFrom waitOn turnOff coll acked pgCount pgSince slewing energy tOnStart onSides limitFull oclSafe limitExit limitEnds periodFrom periodAt limited limitCut absentDue cmds blankIn blankOut dsArmed tests adc mtr vdsHigh vonLow tickAt misses gotFrame lastFrame barrierLost orTarget tLatch tEnable0 enable rest wakeAt) = ((acked, coll, tLatch, enable, tEnable0, wakeAt),
      (st.ch, st.kept, st.trip, st.fltq, st.notes, st.startAt, st.startEnergy, st.ignored)) := rfl

theorem tripPart_fields (p : Pod) : p.acked = p.tripPart.1.1 ∧ p.coll = p.tripPart.1.2.1 ∧ p.tLatch = p.tripPart.1.2.2.1 ∧ p.enable = p.tripPart.1.2.2.2.1 ∧
    p.tEnable0 = p.tripPart.1.2.2.2.2.1 ∧ p.wakeAt = p.tripPart.1.2.2.2.2.2 ∧ p.st.ch = p.tripPart.2.1 ∧ p.st.kept = p.tripPart.2.2.1 ∧
    p.st.trip = p.tripPart.2.2.2.1 ∧ p.st.fltq = p.tripPart.2.2.2.2.1 ∧ p.st.notes = p.tripPart.2.2.2.2.2.1 ∧ p.st.startAt = p.tripPart.2.2.2.2.2.2.1 ∧
    p.st.startEnergy = p.tripPart.2.2.2.2.2.2.2.1 ∧ p.st.ignored = p.tripPart.2.2.2.2.2.2.2.2 := by
  simp [Pod.tripPart]

@[simp] theorem ite_tripPart (c : Prop) [Decidable c] (a b : Pod) : (if c then a else b).tripPart = if c then a.tripPart else b.tripPart := by split <;> rfl

@[simp] theorem Pod.setGate_tripPart (p : Pod) (x : Side) (g : Gate) : (Pod.setGate p x g).tripPart = p.tripPart := by
  unfold Pod.setGate; (try dsimp only); (repeat' split) <;> simp [tripPart_fields]
@[simp] theorem Pod.gbit_tripPart (p : Pod) (i : Nat) (b : Bool) : (Pod.gbit p i b).tripPart = p.tripPart := by
  unfold Pod.gbit; simp [tripPart_fields]
@[simp] theorem Pod.startBlank_tripPart (p : Pod) (x : Side) (t : Nat) : (Pod.startBlank p x t).tripPart = p.tripPart := by
  unfold Pod.startBlank; (try dsimp only); (repeat' split) <;> simp [tripPart_fields]
@[simp] theorem Pod.endBlank_tripPart (p : Pod) (x : Side) : (Pod.endBlank p x).tripPart = p.tripPart := by
  unfold Pod.endBlank; (try dsimp only); (repeat' split) <;> simp [tripPart_fields]
@[simp] theorem Pod.strongHold_tripPart (p : Pod) (x : Side) (t : Nat) : (Pod.strongHold p x t).tripPart = p.tripPart := by
  unfold Pod.strongHold; simp [tripPart_fields]
@[simp] theorem Pod.slewOn_tripPart (p : Pod) (x : Side) (t : Nat) : (Pod.slewOn p x t).tripPart = p.tripPart := by
  unfold Pod.slewOn; simp [tripPart_fields]
@[simp] theorem Pod.afterBoost_tripPart (p : Pod) (x : Side) (t : Nat) : (Pod.afterBoost p x t).tripPart = p.tripPart := by
  unfold Pod.afterBoost; simp [tripPart_fields]
@[simp] theorem Pod.boost_tripPart (p : Pod) (x : Side) (lead : Bool) (t : Nat) : (Pod.boost p x lead t).tripPart = p.tripPart := by
  unfold Pod.boost; simp [tripPart_fields]
@[simp] theorem Pod.strongClamp_tripPart (p : Pod) (x : Side) (t : Nat) : (Pod.strongClamp p x t).tripPart = p.tripPart := by
  unfold Pod.strongClamp; simp [tripPart_fields]
@[simp] theorem Pod.slewOff_tripPart (p : Pod) (x : Side) (t : Nat) (limit : Option Nat) (ma : Nat) : (Pod.slewOff p x t limit ma).tripPart = p.tripPart := by
  unfold Pod.slewOff; simp [tripPart_fields]
@[simp] theorem Pod.afterDump_tripPart (p : Pod) (x : Side) (t : Nat) : (Pod.afterDump p x t).tripPart = p.tripPart := by
  unfold Pod.afterDump; simp [tripPart_fields]
@[simp] theorem Pod.dump_tripPart (p : Pod) (x : Side) (t : Nat) (limit : Option Nat) : (Pod.dump p x t limit).tripPart = p.tripPart := by
  unfold Pod.dump; simp [tripPart_fields]
@[simp] theorem Pod.sideOff_tripPart (p : Pod) (x : Side) (prof : Profile) (t : Nat) : (Pod.sideOff p x prof t).tripPart = p.tripPart := by
  unfold Pod.sideOff; (try dsimp only); (repeat' split) <;> simp [tripPart_fields]
@[simp] theorem Pod.pgLost_tripPart (p : Pod) : (Pod.pgLost p).tripPart = p.tripPart := by unfold Pod.pgLost; simp [tripPart_fields]
@[simp] theorem Pod.endStart_tripPart (p : Pod) : (Pod.endStart p).tripPart = p.tripPart := by
  unfold Pod.endStart; (try dsimp only); (repeat' split) <;> simp [tripPart_fields]
@[simp] theorem Pod.restOff_tripPart (p : Pod) (x : Side) (prof : Profile) (t : Nat) : (Pod.restOff p x prof t).tripPart = p.tripPart := by
  unfold Pod.restOff; simp [tripPart_fields]
@[simp] theorem Pod.cutLimit_tripPart (p : Pod) (t : Nat) : (Pod.cutLimit p t).tripPart = p.tripPart := by
  unfold Pod.cutLimit; simp [tripPart_fields]
@[simp] theorem Pod.off_tripPart (p : Pod) (prof : Profile) (t : Nat) : (Pod.off p prof t).tripPart = p.tripPart := by
  unfold Pod.off; (try dsimp only); (repeat' split) <;> simp [tripPart_fields]
@[simp] theorem Pod.offSide_tripPart (p : Pod) (x : Side) (t : Nat) : (Pod.offSide p x t).tripPart = p.tripPart := by
  unfold Pod.offSide; simp [tripPart_fields]
@[simp] theorem Pod.startSlewing_tripPart (p : Pod) (x : Side) (t : Nat) : (Pod.startSlewing p x t).tripPart = p.tripPart := by
  unfold Pod.startSlewing; simp [tripPart_fields]
@[simp] theorem Pod.turnOnWhole_tripPart (p : Pod) (t : Nat) : (Pod.turnOnWhole p t).tripPart = p.tripPart := by
  unfold Pod.turnOnWhole; simp [tripPart_fields]
@[simp] theorem Pod.turnOnSide_tripPart (p : Pod) (x : Side) (t : Nat) : (Pod.turnOnSide p x t).tripPart = p.tripPart := by
  unfold Pod.turnOnSide; simp [tripPart_fields]
@[simp] theorem Pod.turnOn_tripPart (p : Pod) (a : OnAsk) (t : Nat) : (Pod.turnOn p a t).tripPart = p.tripPart := by
  unfold Pod.turnOn; (try dsimp only); (repeat' split) <;> simp [tripPart_fields]
@[simp] theorem Pod.askOn_tripPart (p : Pod) (a : OnAsk) (t : Nat) : (Pod.askOn p a t).tripPart = p.tripPart := by
  unfold Pod.askOn; (try dsimp only); (repeat' split) <;> simp [tripPart_fields]
@[simp] theorem Pod.exitRule_tripPart (p : Pod) : (Pod.exitRule p).tripPart = p.tripPart := by unfold Pod.exitRule; simp [tripPart_fields]
@[simp] theorem Pod.level_tripPart (p : Pod) (x : Side) (mv : Int) (t : Nat) : (Pod.level p x mv t).tripPart = p.tripPart := by
  unfold Pod.level; (try dsimp only); (repeat' split) <;> simp [tripPart_fields]
@[simp] theorem Pod.toStaticHold_tripPart (p : Pod) (x : Side) (t : Nat) : (Pod.toStaticHold p x t).tripPart = p.tripPart := by
  unfold Pod.toStaticHold; simp [tripPart_fields]
@[simp] theorem Pod.trigger_tripPart (p : Pod) (prof : Profile) (t : Nat) : (Pod.trigger p prof t).tripPart = p.tripPart := by
  unfold Pod.trigger; (try dsimp only); (repeat' split) <;> simp [tripPart_fields]

end Sys2Proof.Machine
end

