-- ==== Sys2Proof/Laws/Events.lean ====
section
/-! SUPPORT. Events at pods, and what trips and turn-offs leave alone, field by field. -/

namespace Sys2Proof.Machine

/-- An event that comes about changes its pod by its function, at its time. -/
theorem State.podEvent_next (s : State) (c : Chan) (t : Nat) (ok : Pod → Nat → Bool) (f : Pod → Nat → Pod)
    (h : ok (s.pod c) (max s.now t) = true) : s.podEvent c t ok f = (s.at t).updPod c (fun p => f p (max s.now t)) := by
  simp [State.podEvent, h]

/-- An event that does not come about changes nothing. -/
theorem State.podEvent_same (s : State) (c : Chan) (t : Nat) (ok : Pod → Nat → Bool) (f : Pod → Nat → Pod)
    (h : ok (s.pod c) (max s.now t) = false) : s.podEvent c t ok f = s := by
  simp [State.podEvent, h]

/-- The pod after an event that comes about. -/
theorem State.podEvent_pod (s : State) (c : Chan) (t : Nat) (ok : Pod → Nat → Bool) (f : Pod → Nat → Pod)
    (h : ok (s.pod c) (max s.now t) = true) : (s.podEvent c t ok f).pod c = f (s.pod c) (max s.now t) := by
  simp [State.podEvent, h]

/-- An event at a pod leaves every other pod alone. -/
theorem State.podEvent_other (s : State) (c k : Chan) (t : Nat) (ok : Pod → Nat → Bool) (f : Pod → Nat → Pod) (h : c ≠ k) :
    (s.podEvent c t ok f).pod k = s.pod k := by
  unfold State.podEvent
  split
  · rw [State.updPod_pod_other _ _ _ _ h]; rfl
  · rfl

/-- An event at a pod touches nothing but the time and the pods. -/
theorem State.podEvent_frame (s : State) (c : Chan) (t : Nat) (ok : Pod → Nat → Bool) (f : Pod → Nat → Pod) :
    s.podEvent c t ok f = { s with now := (s.podEvent c t ok f).now, pods := (s.podEvent c t ok f).pods } := by
  unfold State.podEvent
  split <;> rfl

/-! ## Bits -/

theorem testBit_setBit_self (m i : Nat) (b : Bool) : (setBit m i b).testBit i = b := by
  unfold setBit
  split
  · assumption
  · rename_i h
    cases b with
    | false =>
      have h1 : m.testBit i = true := by simpa using h
      have h2 : 2 ^ i ≤ m := Nat.ge_two_pow_of_testBit h1
      have : (m - 2 ^ i + 2 ^ i).testBit i = true := by rw [Nat.sub_add_cancel h2]; exact h1
      rw [Nat.add_comm, Nat.testBit_two_pow_add_eq] at this
      simpa using this
    | true =>
      have h1 : m.testBit i = false := by simpa using h
      simp only [if_true]
      rw [Nat.add_comm, Nat.testBit_two_pow_add_eq, h1]; rfl

@[simp] theorem Pod.gbit_self (p : Pod) (i : Nat) (b : Bool) : (p.gbit i b).st.gstat.testBit i = b := testBit_setBit_self _ _ _

/-! ## Trips and turn-offs -/

theorem Pod.trip_gstat (p : Pod) (k : Cause) (prof : Profile) (t : Nat) : (p.trip k prof t).st.gstat = p.st.gstat :=
  congrArg (fun x => x.2.2.2.1) (Pod.trip_still p k prof t)

theorem Pod.trip_hvOn (p : Pod) (k : Cause) (prof : Profile) (t : Nat) : (p.trip k prof t).st.hvOn = p.st.hvOn :=
  congrArg (fun x => x.2.2.2.2.2.2.2.1) (Pod.trip_still p k prof t)

/-- A trip that the state permits, with no collection open and no latch set: record, FLTQ_N, acknowledgement owed (R226, R227). -/
theorem Pod.trip_new (p : Pod) (k : Cause) (prof : Profile) (t : Nat) (hw : p.absentDue = false) (hc : p.coll.isOpen = false)
    (hl : p.st.ch ≠ .latched) (hr : raisedIn k p.st.ch = true) :
    (p.trip k prof t).st.trip = p.st.trip.fresh k t ∧ (p.trip k prof t).st.fltq = true ∧ (p.trip k prof t).acked = false ∧
    (p.trip k prof t).st.ch = p.st.ch ∧ (p.trip k prof t).coll.due = true := by
  have e : p.trip k prof t = Pod.off { p with coll := { isOpen := true, gate := !p.bothClamped, due := true }, acked := false, st := { p.st with trip := p.st.trip.fresh k t, fltq := true } } prof t := by
    have ha : p.st.ch ≠ .absent := by intro e; rw [e] at hr; cases k <;> simp [raisedIn, ChState.running] at hr
    have hs : p.st.ch ≠ .seating := by intro e; rw [e] at hr; cases k <;> simp [raisedIn, ChState.running] at hr
    simp [Pod.trip, ha, hs, hw, hc, hl, hr]
  have h := Pod.off_tripPart { p with coll := { isOpen := true, gate := !p.bothClamped, due := true }, acked := false, st := { p.st with trip := p.st.trip.fresh k t, fltq := true } } prof t
  rw [e]
  simp only [Pod.tripPart, Prod.mk.injEq] at h
  obtain ⟨⟨ha, hb, _⟩, hch, _, htr, hfl, _⟩ := h
  exact ⟨htr, hfl, ha, hch, by rw [hb]⟩

/-! ## Turn-on and the ends of its phases -/

/-- What a running turn-on keeps of its start. -/
def Pod.onPart (p : Pod) := (p.waitOn, p.tOnStart, p.onSides, p.slewing)
theorem Pod.setGate_onPart (p : Pod) (x : Side) (g : Gate) : (p.setGate x g).onPart = p.onPart := by cases x <;> rfl
theorem Pod.strongHold_onPart (p : Pod) (x : Side) (t) : (p.strongHold x t).onPart = p.onPart := by cases x <;> rfl
theorem Pod.slewOn_onPart (p : Pod) (x : Side) (t) : (p.slewOn x t).onPart = p.onPart := by
  unfold Pod.slewOn; dsimp only; split
  · exact Pod.strongHold_onPart ..
  · exact Pod.setGate_onPart ..
theorem Pod.afterBoost_onPart (p : Pod) (x : Side) (t) : (p.afterBoost x t).onPart = p.onPart := by
  unfold Pod.afterBoost; dsimp only; repeat' split
  · exact Pod.setGate_onPart ..
  · exact Pod.strongHold_onPart ..
  · exact Pod.slewOn_onPart ..
theorem Pod.boost_onPart (p : Pod) (x : Side) (l t) : (p.boost x l t).onPart = p.onPart := by
  unfold Pod.boost; dsimp only; split
  · rw [Pod.afterBoost_onPart, Pod.setGate_onPart]
  · rw [Pod.setGate_onPart, Pod.setGate_onPart]
theorem Pod.startSlewing_onPart (p : Pod) (x : Side) (t) : (p.startSlewing x t).onPart = p.onPart := by
  unfold Pod.startSlewing; split
  · exact Pod.boost_onPart ..
  · rfl
theorem Pod.turnOnWhole_onPart (p : Pod) (t) : (p.turnOnWhole t).onPart = (none, t, 3, p.slews) := by
  unfold Pod.turnOnWhole; dsimp only
  repeat' split
  all_goals simp only [Pod.startSlewing_onPart, Pod.boost_onPart, Pod.setGate_onPart]; rfl

/-- The whole stack starts to turn on: nothing waits, the start is now, both sides take part (R77, R78). -/
theorem Pod.turnOn_waitOn (p : Pod) (a : OnAsk) (t : Nat) : (p.turnOn a t).waitOn = none ∧ (p.turnOn a t).tOnStart = t := by
  cases a with
  | whole =>
    have h := Pod.turnOnWhole_onPart p t
    simp only [Pod.onPart, Prod.mk.injEq] at h
    exact ⟨h.1, h.2.1⟩
  | side x =>
    have e : (p.turnOnSide x t).onPart = (none, t, (if x = .inS then 1 else 2), (x == .inS, x == .outS)) := by
      unfold Pod.turnOnSide; dsimp only; rw [Pod.boost_onPart]; rfl
    simp only [Pod.onPart, Prod.mk.injEq] at e
    exact ⟨e.1, e.2.1⟩

theorem Pod.toStaticHold_gate (p : Pod) (x : Side) (t : Nat) :
    (p.toStaticHold x t).gate x = Gate.enter { p.gate x with mv := p.vpos } .staticHold t := by
  unfold Pod.toStaticHold; dsimp only; cases x <;> split <;> rfl

theorem Pod.clampEntered_gate (p : Pod) (x : Side) (t : Nat) :
    (p.clampEntered x t).gate x = Gate.enter { p.gate x with lead := false, mv := p.vneg } .staticClamp t := by
  unfold Pod.clampEntered; dsimp only; cases x <;> (repeat' split) <;> rfl

@[simp] theorem Pod.startRun_gstat (p : Pod) (u : Urgent) (t : Nat) : (p.startRun u t).st.gstat = p.st.gstat := by
  unfold Pod.startRun; dsimp only; (repeat' split) <;> rfl

@[simp] theorem Pod.startWaiting_gstat (p : Pod) (t : Nat) : (p.startWaiting t).st.gstat = p.st.gstat := by
  unfold Pod.startWaiting
  generalize p.adc.waiting = l
  have h : ∀ (q : Pod), (l.foldl (fun p u => p.startRun u t) q).st.gstat = q.st.gstat := by
    induction l with
    | nil => intro q; rfl
    | cons u r ih => intro q; simp only [List.foldl]; rw [ih, Pod.startRun_gstat]
  exact h _

@[simp] theorem Pod.abortCal_gstat (p : Pod) (t : Nat) : (p.abortCal t).st.gstat = p.st.gstat := by
  unfold Pod.abortCal
  split
  · rw [Pod.startWaiting_gstat]; rfl
  · split <;> rfl

/-! ## New trips -/

theorem Pod.canTrip_iff (p : Pod) : p.canTrip = true ↔ (p.absentDue = false ∧ p.coll.isOpen = false) ∧ p.st.ch.running = true := by simp [Pod.canTrip]

theorem ChState.running_not_latched {ch : ChState} (h : ch.running = true) : ch ≠ .latched := by
  intro e; subst e; exact absurd h (by decide)

/-- A pod `q` with the trip, the collection and the channel state of `p` trips as `p` can (R226, R227). -/
theorem Pod.trip_newTrip (p q : Pod) (k : Cause) (f : Profile) (t : Nat) (hq : q.coll = p.coll) (hc : q.st.ch = p.st.ch)
    (hw : q.absentDue = false) (ht : q.st.trip = p.st.trip) (ho : p.coll.isOpen = false) (hl : p.st.ch ≠ .latched) (hr : raisedIn k p.st.ch = true) :
    newTrip p (q.trip k f t) k t := by
  have h := Pod.trip_new q k f t hw (by rw [hq]; exact ho) (by rw [hc]; exact hl) (by rw [hc]; exact hr)
  exact ⟨ht ▸ h.1, h.2.1, h.2.2.1, h.2.2.2.2⟩

/-- The trip of the fault timer follows the entry into LIMITING (R190, R191). -/
theorem Pod.limit_newTrip (p q : Pod) (t : Nat) (hq : q.coll = p.coll) (hw : q.absentDue = false) (ht : q.st.trip = p.st.trip)
    (ho : p.coll.isOpen = false) : newTrip p ((q.toState .limiting).trip .limitTimeout .normal t) .limitTimeout t := by
  have h := Pod.trip_new (q.toState .limiting) .limitTimeout .normal t (by exact hw) (by rw [← hq] at ho; exact ho) (by simp [Pod.toState, Pod.fltqRule])
    (by simp [Pod.toState, Pod.fltqRule, raisedIn])
  exact ⟨ht ▸ h.1, h.2.1, h.2.2.1, h.2.2.2.2⟩

end Sys2Proof.Machine
end

