-- ==== Sys2Proof/Laws/Host.lean ====
section
/-! SUPPORT. Stream port, stored configuration, firmware slots, checkpoint, state and power of the hub. -/

namespace Sys2Proof.Machine

set_option linter.unusedSimpArgs false

/-- The stream port, the stored configuration, the firmware slots, the checkpoint, the hub's state and power: what leaves them as they are. -/
def State.host (s : State) : Stream × CfgRegion × Fw × CkptRegion × HubState × Power := (s.str, s.cfg, s.fw, s.ckpt, s.hub, s.power)

@[simp] theorem host_mk (now : _) (fresh : _) (pending : _) (active : _) (shadow : _) (status : _) (pods : _) (ports : _) (buses : _) (pre : _) (dis : _) (jnl : _) (pwm : _) (cells : _) (rdyLost : _) (hub : _) (flto : _) (flti : _) (lines : _) (out : _) (ringUp : _) (str : _) (snap : _) (snapLatched : _) (hkAt : _) (hkFrom : _) (hkPos : _) (ckpt : _) (pfw : _) (pend : _) (resp : _) (sessions : _) (locks : _) (seals : _) (sealing : _) (cfg : _) (ring : _) (spi : _) (power : _) (fw : _) (rwNext : _) (pxReady : _) :
    State.host (State.mk now fresh pending active shadow status pods ports buses pre dis jnl pwm cells rdyLost hub flto flti lines out ringUp str snap snapLatched hkAt hkFrom hkPos ckpt pfw pend resp sessions locks seals sealing cfg ring spi power fw rwNext pxReady) = (str, cfg, fw, ckpt, hub, power) := rfl

theorem host_fields (s : State) : s.str = s.host.1 ∧ s.cfg = s.host.2.1 ∧ s.fw = s.host.2.2.1 ∧ s.ckpt = s.host.2.2.2.1 ∧ s.hub = s.host.2.2.2.2.1 ∧ s.power = s.host.2.2.2.2.2 :=
  ⟨rfl, rfl, rfl, rfl, rfl, rfl⟩

@[simp] theorem ite_host (c : Prop) [Decidable c] (a b : State) : (if c then a else b).host = if c then a.host else b.host := by split <;> rfl

@[simp] theorem foldl_host {α : Type} (f : State → α → State) (h : ∀ s x, (f s x).host = s.host) (l : List α) (s : State) :
    (l.foldl f s).host = s.host := by
  induction l generalizing s with
  | nil => rfl
  | cons x r ih => simp only [List.foldl]; rw [ih, h]

theorem foldl_fst_host {α β : Type} (f : State × β → α → State × β) (h : ∀ r x, (f r x).1.host = r.1.host) (l : List α) (r : State × β) :
    (l.foldl f r).1.host = r.1.host := by
  induction l generalizing r with
  | nil => rfl
  | cons x l ih => simp only [List.foldl]; rw [ih, h]

theorem foldl_snd_host {α β : Type} (f : β × State → α → β × State) (h : ∀ r x, (f r x).2.host = r.2.host) (l : List α) (r : β × State) :
    (l.foldl f r).2.host = r.2.host := by
  induction l generalizing r with
  | nil => rfl
  | cons x l ih => simp only [List.foldl]; rw [ih, h]

@[simp] theorem State.updPod_host (s : State) (c : Chan) (f : Pod → Pod) : (State.updPod s c f).host = s.host := by
  unfold State.updPod; simp [host_fields]
@[simp] theorem State.updPort_host (s : State) (c : Chan) (f : Port → Port) : (State.updPort s c f).host = s.host := by
  unfold State.updPort; simp [host_fields]
@[simp] theorem State.updBus_host (s : State) (b : BusId) (f : Bus → Bus) : (State.updBus s b f).host = s.host := by
  unfold State.updBus; simp [host_fields]
@[simp] theorem State.updPre_host (s : State) (p : Quad) (f : Pre → Pre) : (State.updPre s p f).host = s.host := by
  unfold State.updPre; simp [host_fields]
@[simp] theorem State.updDis_host (s : State) (d : Quad) (f : Dis → Dis) : (State.updDis s d f).host = s.host := by
  unfold State.updDis; simp [host_fields]
@[simp] theorem State.forChans_host (s : State) (l : List Chan) (f : State → Chan → State) (h : ∀ s x, (f s x).host = s.host) : (State.forChans s l f).host = s.host := by
  unfold State.forChans; exact foldl_host f h l s
@[simp] theorem State.at_host (s : State) (t : Nat) : (State.at s t).host = s.host := by unfold State.at; simp [host_fields]
@[simp] theorem State.podEvent_host (s : State) (c : Chan) (t : Nat) (ok : Pod → Nat → Bool) (f : Pod → Nat → Pod) : (State.podEvent s c t ok f).host = s.host := by
  unfold State.podEvent; simp [host_fields]
@[simp] theorem State.set_host (s : State) (o : Obj) (i : Nat) (v : Int) (k : Nat) : (State.set s o i v k).host = s.host := by
  unfold State.set; simp [host_fields]
@[simp] theorem State.count_host (s : State) (o : Obj) (i : Nat) (n : Nat) (k : Nat) : (State.count s o i n k).host = s.host := by
  unfold State.count; simp [host_fields]
@[simp] theorem State.count64_host (s : State) (o : Obj) (i : Nat) (n : Nat) : (State.count64 s o i n).host = s.host := by
  unfold State.count64; simp [host_fields]
@[simp] theorem State.take_host (s : State) : (State.take s).2.host = s.host := by unfold State.take; simp [host_fields]
@[simp] theorem State.irq_host (s : State) (bit : Nat) : (State.irq s bit).host = s.host := by unfold State.irq; simp [host_fields]
@[simp] theorem State.push_host (s : State) (x : Item) : (State.push s x).host = s.host := by unfold State.push; simp [host_fields]
@[simp] theorem State.pushOrDrop_host (s : State) (x : Item) : (State.pushOrDrop s x).host = s.host := by
  unfold State.pushOrDrop; simp [host_fields]
@[simp] theorem State.sendOn_host (s : State) (f : Frame) (ports : Nat) : (State.sendOn s f ports).host = s.host := by
  unfold State.sendOn; simp [host_fields]
@[simp] theorem State.sendOwn_host (s : State) (type seq dst : Nat) (payload : List Byte) : (State.sendOwn s type seq dst payload).host = s.host := by
  unfold State.sendOwn; simp [host_fields]
@[simp] theorem State.nextSeq_host (s : State) : (State.nextSeq s).host = s.host := by unfold State.nextSeq; simp [host_fields]
@[simp] theorem State.sendEvent_host (s : State) (r : JRec) : (State.sendEvent s r).host = s.host := by
  unfold State.sendEvent; simp [host_fields]
@[simp] theorem State.journalAt_host (s : State) (t kind : Nat) (src : JSrc) (code : Nat) (data : List (Nat × Nat)) (held : Bool) (clean : Bool) : (State.journalAt s t kind src code data held clean).host = s.host := by
  unfold State.journalAt; simp [host_fields]
@[simp] theorem State.journal_host (s : State) (kind : Nat) (src : JSrc) (code : Nat) (data : List (Nat × Nat)) : (State.journal s kind src code data).host = s.host := by
  unfold State.journal; simp [host_fields]
@[simp] theorem State.warn_host (s : State) (src : JSrc) (code : Nat) (data : List (Nat × Nat)) : (State.warn s src code data).host = s.host := by
  unfold State.warn; simp [host_fields]
theorem execUvloAssert_host (c : Chan) (vneg : Bool) (mv : Int) (since : Nat) (t : Nat) (s : State) : (stateOf s (execUvloAssert c vneg mv since t s)).host = s.host := by
  unfold execUvloAssert; simp [host_fields]
theorem execUvloClear_host (c : Chan) (vneg : Bool) (mv : Int) (since : Nat) (t : Nat) (s : State) : (stateOf s (execUvloClear c vneg mv since t s)).host = s.host := by
  unfold execUvloClear; simp [host_fields]
theorem execStackTurnOn_host (c : Chan) (ic vc : List Raw) (t : Nat) (s : State) : (stateOf s (execStackTurnOn c ic vc t s)).host = s.host := by
  unfold execStackTurnOn; simp [host_fields]
theorem execTurnOnAfterClamp_host (c : Chan) (ic vc : List Raw) (t : Nat) (s : State) : (stateOf s (execTurnOnAfterClamp c ic vc t s)).host = s.host := by
  unfold execTurnOnAfterClamp; simp [host_fields]
theorem execGateLevelReached_host (c : Chan) (side : Side) (mv : Int) (t : Nat) (s : State) : (stateOf s (execGateLevelReached c side mv t s)).host = s.host := by
  unfold execGateLevelReached; simp [host_fields]
theorem execStrongHoldEnd_host (c : Chan) (side : Side) (t : Nat) (s : State) : (stateOf s (execStrongHoldEnd c side t s)).host = s.host := by
  unfold execStrongHoldEnd; simp [host_fields]
theorem execStrongClampEnd_host (c : Chan) (side : Side) (t : Nat) (s : State) : (stateOf s (execStrongClampEnd c side t s)).host = s.host := by
  unfold execStrongClampEnd; simp [host_fields]
theorem execBoostTimeLimit_host (c : Chan) (side : Side) (t : Nat) (s : State) : (stateOf s (execBoostTimeLimit c side t s)).host = s.host := by
  unfold execBoostTimeLimit; simp [host_fields]
theorem execSlewLimitExpired_host (c : Chan) (side : Side) (t : Nat) (s : State) : (stateOf s (execSlewLimitExpired c side t s)).host = s.host := by
  unfold execSlewLimitExpired; simp [host_fields]
theorem execForcedClamp_host (c : Chan) (side : Side) (t : Nat) (s : State) : (stateOf s (execForcedClamp c side t s)).host = s.host := by
  unfold execForcedClamp; simp [host_fields]
theorem execClampGateFault_host (c : Chan) (side : Side) (t : Nat) (s : State) : (stateOf s (execClampGateFault c side t s)).host = s.host := by
  unfold execClampGateFault; simp [host_fields]
theorem execBarrierSignalLoss_host (c : Chan) (t : Nat) (s : State) : (stateOf s (execBarrierSignalLoss c t s)).host = s.host := by
  unfold execBarrierSignalLoss; simp [host_fields]
theorem execHvPowerUp_host (c : Chan) (vpos vneg : Int) (mid : Nat) (t : Nat) (s : State) : (stateOf s (execHvPowerUp c vpos vneg mid t s)).host = s.host := by
  unfold execHvPowerUp; simp [host_fields]
theorem execHvPowerDown_host (c : Chan) (t : Nat) (s : State) : (stateOf s (execHvPowerDown c t s)).host = s.host := by
  unfold execHvPowerDown; simp [host_fields]
theorem execSc2Trip_host (c : Chan) (t : Nat) (s : State) : (stateOf s (execSc2Trip c t s)).host = s.host := by
  unfold execSc2Trip; simp [host_fields]
theorem execSc1Trip_host (c : Chan) (memberB : Bool) (since : Nat) (t : Nat) (s : State) : (stateOf s (execSc1Trip c memberB since t s)).host = s.host := by
  unfold execSc1Trip; simp [host_fields]
theorem execReverseTrip_host (c : Chan) (since : Nat) (t : Nat) (s : State) : (stateOf s (execReverseTrip c since t s)).host = s.host := by
  unfold execReverseTrip; simp [host_fields]
theorem execDesatTrip_host (c : Chan) (side : Side) (since : Nat) (t : Nat) (s : State) : (stateOf s (execDesatTrip c side since t s)).host = s.host := by
  unfold execDesatTrip; simp [host_fields]
theorem execDesatBlankingEnd_host (c : Chan) (side : Side) (t : Nat) (s : State) : (stateOf s (execDesatBlankingEnd c side t s)).host = s.host := by
  unfold execDesatBlankingEnd; simp [host_fields]
theorem execBusOvTrip_host (c : Chan) (since : Nat) (t : Nat) (s : State) : (stateOf s (execBusOvTrip c since t s)).host = s.host := by
  unfold execBusOvTrip; simp [host_fields]
theorem execBusUvTrip_host (c : Chan) (since : Nat) (t : Nat) (s : State) : (stateOf s (execBusUvTrip c since t s)).host = s.host := by
  unfold execBusUvTrip; simp [host_fields]
theorem execCurrentLimitEntry_host (c : Chan) (memberB : Bool) (negative : Bool) (t : Nat) (s : State) : (stateOf s (execCurrentLimitEntry c memberB negative t s)).host = s.host := by
  unfold execCurrentLimitEntry; simp [host_fields]
theorem execCurrentLimitExit_host (c : Chan) (t : Nat) (s : State) : (stateOf s (execCurrentLimitExit c t s)).host = s.host := by
  unfold execCurrentLimitExit; simp [host_fields]
theorem execFaultTimerPeriodEnd_host (c : Chan) (ic vc : List Raw) (t : Nat) (s : State) : (stateOf s (execFaultTimerPeriodEnd c ic vc t s)).host = s.host := by
  unfold execFaultTimerPeriodEnd; simp [host_fields]
theorem execThermalEvaluation_host (c : Chan) (s : State) : (stateOf s (execThermalEvaluation c s)).host = s.host := by
  unfold execThermalEvaluation; simp [host_fields]
theorem execDieOverTemperature_host (c : Chan) (t : Nat) (s : State) : (stateOf s (execDieOverTemperature c t s)).host = s.host := by
  unfold execDieOverTemperature; simp [host_fields]
theorem execOutputPresent_host (c : Chan) (ic vc : List Raw) (t : Nat) (s : State) : (stateOf s (execOutputPresent c ic vc t s)).host = s.host := by
  unfold execOutputPresent; simp [host_fields]
theorem execStackTest_host (c : Chan) (t : Nat) (s : State) : (stateOf s (execStackTest c t s)).host = s.host := by
  unfold execStackTest; simp [host_fields]
theorem execTieTest_host (c : Chan) (cmp : PodCmp) (pass : Bool) (t : Nat) (s : State) : (stateOf s (execTieTest c cmp pass t s)).host = s.host := by
  unfold execTieTest; simp [host_fields]
theorem execSuspectConfirmation_host (c : Chan) (t : Nat) (s : State) : (stateOf s (execSuspectConfirmation c t s)).host = s.host := by
  unfold execSuspectConfirmation; simp [host_fields]
theorem execConfirmationEvaluation_host (c : Chan) (t : Nat) (s : State) : (stateOf s (execConfirmationEvaluation c t s)).host = s.host := by
  unfold execConfirmationEvaluation; simp [host_fields]
theorem execOnlineSelftestRound_host (c : Chan) (t : Nat) (s : State) : (stateOf s (execOnlineSelftestRound c t s)).host = s.host := by
  unfold execOnlineSelftestRound; simp [host_fields]
theorem execMemberTestEnd_host (c : Chan) (cmp : PodCmp) (result : TestResult) (t : Nat) (s : State) : (stateOf s (execMemberTestEnd c cmp result t s)).host = s.host := by
  unfold execMemberTestEnd; simp [host_fields]
theorem execStartEnergyExceeded_host (c : Chan) (ic vc : List Raw) (t : Nat) (s : State) : (stateOf s (execStartEnergyExceeded c ic vc t s)).host = s.host := by
  unfold execStartEnergyExceeded; simp [host_fields]
theorem execOrphan_host (c : Chan) (s : State) : (stateOf s (execOrphan c s)).host = s.host := by unfold execOrphan; simp [host_fields]
theorem execHoldWindowEnd_host (c : Chan) (s : State) : (stateOf s (execHoldWindowEnd c s)).host = s.host := by
  unfold execHoldWindowEnd; simp [host_fields]
theorem execOringReverseBlock_host (c : Chan) (since : Nat) (t : Nat) (s : State) : (stateOf s (execOringReverseBlock c since t s)).host = s.host := by
  unfold execOringReverseBlock; simp [host_fields]
theorem execOringReverseTrip_host (c : Chan) (t : Nat) (s : State) : (stateOf s (execOringReverseTrip c t s)).host = s.host := by
  unfold execOringReverseTrip; simp [host_fields]
theorem execOringReentry_host (c : Chan) (t : Nat) (s : State) : (stateOf s (execOringReentry c t s)).host = s.host := by
  unfold execOringReentry; simp [host_fields]
@[simp] theorem State.updGen_host (s : State) (n : Oct) (f : Pwm → Pwm) : (State.updGen s n f).host = s.host := by
  unfold State.updGen; simp [host_fields]
@[simp] theorem State.updCell_host (s : State) (n : Oct) (f : Cell → Cell) : (State.updCell s n f).host = s.host := by
  unfold State.updCell; simp [host_fields]
@[simp] theorem State.pwmStop_host (s : State) (n : Oct) : (State.pwmStop s n).host = s.host := by unfold State.pwmStop; simp [host_fields]
@[simp] theorem State.uncount_host (s : State) (o : Obj) (i : Nat) : (State.uncount s o i).host = s.host := by
  unfold State.uncount; simp [host_fields]
@[simp] theorem State.untermed_host (s : State) (n : Oct) (t : Nat) : (State.untermed s n t).host = s.host := by
  unfold State.untermed; (try dsimp only); (repeat' split) <;> simp [host_fields]
@[simp] theorem State.pwmFault_host (s : State) (n : Oct) : (State.pwmFault s n).host = s.host := by
  unfold State.pwmFault; simp [host_fields]
@[simp] theorem State.faultSee_host (s : State) (n : Oct) : (State.faultSee s n).host = s.host := by
  unfold State.faultSee; simp [host_fields]
@[simp] theorem State.pwmFaults_host (s : State) : (State.pwmFaults s).host = s.host := by unfold State.pwmFaults; simp [host_fields]
@[simp] theorem State.mainEnds_host (s : State) (n : Oct) (t : Nat) : (State.mainEnds s n t).host = s.host := by
  unfold State.mainEnds; simp [host_fields]
@[simp] theorem State.mainStarts_host (s : State) (n : Oct) (t on p : Nat) (clipped : Bool) : (State.mainStarts s n t on p clipped).host = s.host := by
  unfold State.mainStarts; simp [host_fields]
@[simp] theorem State.period_host (s : State) (n : Oct) (t : Nat) (emit skip : State → State) (h1 : ∀ s, (emit s).host = s.host) (h2 : ∀ s, (skip s).host = s.host) : (State.period s n t emit skip).host = s.host := by
  unfold State.period; dsimp only; (repeat' split) <;> simp [host_fields, h1, h2]
@[simp] theorem State.pwmBoundary_host (s : State) (n : Oct) (t : Nat) (emit skip : State → State) (h1 : ∀ s, (emit s).host = s.host) (h2 : ∀ s, (skip s).host = s.host) : (State.pwmBoundary s n t emit skip).host = s.host := by
  unfold State.pwmBoundary; dsimp only; (repeat' split) <;> simp [host_fields, h1, h2]
@[simp] theorem State.pwmMid_host (s : State) (n : Oct) : (State.pwmMid s n).host = s.host := by
  unfold State.pwmMid; dsimp only; (repeat' split) <;> simp [host_fields]
@[simp] theorem State.pwmTerminate_host (s : State) (n : Oct) (t : Nat) : (State.pwmTerminate s n t).host = s.host := by
  unfold State.pwmTerminate; (try dsimp only); (repeat' split) <;> simp [host_fields]
@[simp] theorem State.pwmRelease_host (s : State) (n : Oct) : (State.pwmRelease s n).host = s.host := by
  unfold State.pwmRelease; simp [host_fields]
@[simp] theorem State.cellInit_host (s : State) (n : Oct) : (State.cellInit s n).host = s.host := by
  unfold State.cellInit; simp [host_fields]
@[simp] theorem State.cellOff_host (s : State) (n : Oct) : (State.cellOff s n).host = s.host := by unfold State.cellOff; simp [host_fields]
@[simp] theorem State.cellsPower_host (s : State) : (State.cellsPower s).host = s.host := by unfold State.cellsPower; simp [host_fields]
@[simp] theorem State.cmpCapture_host (s : State) (n : Oct) (active : Bool) (t : Nat) : (State.cmpCapture s n active t).host = s.host := by
  unfold State.cmpCapture; simp [host_fields]
@[simp] theorem State.cmpEvent_host (s : State) (n : Oct) (active : Bool) (t : Nat) : (State.cmpEvent s n active t).host = s.host := by
  unfold State.cmpEvent; simp [host_fields]
@[simp] theorem State.slowRoutes_host (s : State) (n : Oct) (active : Bool) (t : Nat) : (State.slowRoutes s n active t).host = s.host := by
  unfold State.slowRoutes; simp [host_fields]
@[simp] theorem State.termRoute_host (s : State) (n : Oct) (t : Nat) : (State.termRoute s n t).host = s.host := by
  unfold State.termRoute; simp [host_fields]
@[simp] theorem State.filtEdge_host (s : State) (n : Oct) (active : Bool) (t : Nat) : (State.filtEdge s n active t).host = s.host := by
  unfold State.filtEdge; simp [host_fields]
@[simp] theorem State.cellFilter_host (s : State) (n : Oct) (t : Nat) : (State.cellFilter s n t).host = s.host := by
  unfold State.cellFilter; (try dsimp only); (repeat' split) <;> simp [host_fields]
@[simp] theorem State.routesAct_host (s old : State) (t : Nat) : (State.routesAct s old t).host = s.host := by
  unfold State.routesAct; simp [host_fields]
@[simp] theorem State.cellOut_host (s : State) (n : Oct) (active : Bool) (t : Nat) : (State.cellOut s n active t).host = s.host := by
  unfold State.cellOut; simp [host_fields]
@[simp] theorem State.cellEdge_host (s : State) (n : Oct) (active : Bool) (t : Nat) : (State.cellEdge s n active t).host = s.host := by
  unfold State.cellEdge; simp [host_fields]
@[simp] theorem State.cellAt_host (s : State) (n : Oct) (active : Bool) (t : Nat) : (State.cellAt s n active t).host = s.host := by
  unfold State.cellAt; simp [host_fields]
theorem execHubCmpEdge_host (n : Oct) (active : Bool) (mid : Bool) (t : Nat) (s : State) : (stateOf s (execHubCmpEdge n active mid t s)).host = s.host := by
  unfold execHubCmpEdge; simp [host_fields]
@[simp] theorem State.testBegin_host (s : State) (n : Oct) (swap : Bool) : (State.testBegin s n swap).host = s.host := by
  unfold State.testBegin; simp [host_fields]
@[simp] theorem State.holdEnd_host (s : State) (n : Oct) (active : Bool) (t : Nat) : (State.holdEnd s n active t).host = s.host := by
  unfold State.holdEnd; dsimp only; (repeat' split) <;> simp [host_fields]
theorem execSpeedHoldEnd_host (cell : CellId) (active : Bool) (s : State) : (stateOf s (execSpeedHoldEnd cell active s)).host = s.host := by
  unfold execSpeedHoldEnd; (try dsimp only); (repeat' split) <;> simp [host_fields]
@[simp] theorem State.testFail_host (s : State) (n : Oct) : (State.testFail s n).host = s.host := by
  unfold State.testFail; simp [host_fields]
@[simp] theorem State.testEnd_host (s : State) (n : Oct) (r : TestResult) : (State.testEnd s n r).host = s.host := by
  unfold State.testEnd; (try dsimp only); (repeat' split) <;> simp [host_fields]
theorem execCmpTestDone_host (n : Oct) (result : TestResult) (s : State) : (stateOf s (execCmpTestDone n result s)).host = s.host := by
  unfold execCmpTestDone; simp [host_fields]
@[simp] theorem State.selfMask_host (s : State) (n : Oct) : (State.selfMask s n).host = s.host := by
  unfold State.selfMask; simp [host_fields]
@[simp] theorem State.selfUnmask_host (s : State) (n : Oct) : (State.selfUnmask s n).host = s.host := by
  unfold State.selfUnmask; (try dsimp only); (repeat' split) <;> simp [host_fields]
@[simp] theorem State.down_host (s : State) (c : Chan) (f : CmdFrame → CmdFrame) : (State.down s c f).host = s.host := by
  unfold State.down; simp [host_fields]
@[simp] theorem State.tripBy_host (s : State) (c : Chan) (k : Cause) : (State.tripBy s c k).host = s.host := by
  unfold State.tripBy; simp [host_fields]
@[simp] theorem State.offBy_host (s : State) (c : Chan) : (State.offBy s c).host = s.host := by unfold State.offBy; simp [host_fields]
@[simp] theorem State.podNow_host (s : State) (c : Chan) (f : Pod → Pod) : (State.podNow s c f).host = s.host := by
  unfold State.podNow; simp [host_fields]
@[simp] theorem State.preRun_host (s : State) (p : Quad) : (State.preRun s p).host = s.host := by unfold State.preRun; simp [host_fields]
@[simp] theorem State.preQuiet_host (s : State) (p : Quad) : (State.preQuiet s p).host = s.host := by
  unfold State.preQuiet; simp [host_fields]
@[simp] theorem State.preFeedActs_host (s : State) (p : Quad) (ev : PreStatus) : (State.preFeedActs s p ev).host = s.host := by
  unfold State.preFeedActs; (try dsimp only); (repeat' split) <;> simp [host_fields]
@[simp] theorem State.preStop_host (s : State) (p : Quad) (ev : PreStatus) : (State.preStop s p ev).host = s.host := by
  unfold State.preStop; simp [host_fields]
@[simp] theorem State.preStopOn_host (s : State) (p : Quad) (ev : List PreStatus) : (State.preStopOn s p ev).host = s.host := by
  unfold State.preStopOn; (try dsimp only); (repeat' split) <;> simp [host_fields]
@[simp] theorem State.preSelftest_host (s : State) (p : Quad) : (State.preSelftest s p).host = s.host := by
  unfold State.preSelftest; simp [host_fields]
@[simp] theorem State.preCharge_host (s : State) (p : Quad) : (State.preCharge s p).host = s.host := by
  unfold State.preCharge; simp [host_fields]
@[simp] theorem State.preQualify_host (s : State) (p : Quad) : (State.preQualify s p).host = s.host := by
  unfold State.preQualify; simp [host_fields]
@[simp] theorem State.preBegin_host (s : State) (p : Quad) : (State.preBegin s p).host = s.host := by
  unfold State.preBegin; simp [host_fields]
@[simp] theorem State.prePause_host (s : State) (p : Quad) : (State.prePause s p).host = s.host := by
  unfold State.prePause; simp [host_fields]
@[simp] theorem State.preFeedOn_host (s : State) (c : Chan) : (State.preFeedOn s c).host = s.host := by
  unfold State.preFeedOn; simp [host_fields]
@[simp] theorem State.preWindow_host (s : State) (p : Quad) : (State.preWindow s p).host = s.host := by
  unfold State.preWindow; simp [host_fields]
theorem execPrechargeStart_host (p : Quad) (s : State) : (stateOf s (execPrechargeStart p s)).host = s.host := by
  unfold execPrechargeStart; (try dsimp only); (repeat' split) <;> simp [host_fields]
theorem execPrechargeSelftestDone_host (p : Quad) (passed : Bool) (ready : Bool) (s : State) : (stateOf s (execPrechargeSelftestDone p passed ready s)).host = s.host := by
  unfold execPrechargeSelftestDone; simp [host_fields]
theorem execPrechargeResume_host (p : Quad) (s : State) : (stateOf s (execPrechargeResume p s)).host = s.host := by
  unfold execPrechargeResume; simp [host_fields]
theorem execPauseLimit_host (p : Quad) (s : State) : (stateOf s (execPauseLimit p s)).host = s.host := by
  unfold execPauseLimit; simp [host_fields]
@[simp] theorem State.preHandover_host (s : State) (p : Quad) : (State.preHandover s p).host = s.host := by
  unfold State.preHandover; (try dsimp only); (repeat' split) <;> simp [host_fields]
theorem execPrechargeClose_host (p : Quad) (s : State) : (stateOf s (execPrechargeClose p s)).host = s.host := by
  unfold execPrechargeClose; simp [host_fields]
theorem execNoProgress_host (p : Quad) (s : State) : (stateOf s (execNoProgress p s)).host = s.host := by
  unfold execNoProgress; simp [host_fields]
theorem execPrechargeTimeLimit_host (p : Quad) (s : State) : (stateOf s (execPrechargeTimeLimit p s)).host = s.host := by
  unfold execPrechargeTimeLimit; simp [host_fields]
theorem execCloseLimit_host (p : Quad) (s : State) : (stateOf s (execCloseLimit p s)).host = s.host := by
  unfold execCloseLimit; simp [host_fields]
@[simp] theorem State.preEmit_host (s : State) (n : Oct) : (State.preEmit s n).host = s.host := by
  unfold State.preEmit; (try dsimp only); (repeat' split) <;> simp [host_fields]
@[simp] theorem State.preSkip_host (s : State) (n : Oct) : (State.preSkip s n).host = s.host := by
  unfold State.preSkip; (try dsimp only); (repeat' split) <;> simp [host_fields]
@[simp] theorem State.refresh_host (s : State) (n : Oct) (t : Nat) : (State.refresh s n t).host = s.host := by
  unfold State.refresh; simp [host_fields]
theorem execPwmPeriodBoundary_host (n : Oct) (rdy : Nat) (s : State) : (stateOf s (execPwmPeriodBoundary n rdy s)).host = s.host := by
  unfold execPwmPeriodBoundary; dsimp only; (repeat' split) <;> simp [host_fields]
theorem execPwmMidperiodReload_host (n : Oct) (s : State) : (stateOf s (execPwmMidperiodReload n s)).host = s.host := by
  unfold execPwmMidperiodReload; simp [host_fields]
@[simp] theorem State.missedTrip_host (s : State) (n : Oct) : (State.missedTrip s n).host = s.host := by
  unfold State.missedTrip; (try dsimp only); (repeat' split) <;> simp [host_fields]
theorem execPwmPulseEnd_host (n : Oct) (s : State) : (stateOf s (execPwmPulseEnd n s)).host = s.host := by
  unfold execPwmPulseEnd; dsimp only; (repeat' split) <;> simp [host_fields]
theorem execPwmDeadTimeEnd_host (n : Oct) (s : State) : (stateOf s (execPwmDeadTimeEnd n s)).host = s.host := by
  unfold execPwmDeadTimeEnd; (try dsimp only); (repeat' split) <;> simp [host_fields]
@[simp] theorem State.disDuty_host (s : State) (d : Quad) (v : Int) : (State.disDuty s d v).host = s.host := by
  unfold State.disDuty; simp [host_fields]
@[simp] theorem State.disQuiet_host (s : State) (d : Quad) : (State.disQuiet s d).host = s.host := by
  unfold State.disQuiet; simp [host_fields]
@[simp] theorem State.disWait_host (s : State) (d : Quad) (r : DisStatus) : (State.disWait s d r).host = s.host := by
  unfold State.disWait; simp [host_fields]
@[simp] theorem State.disStop_host (s : State) (d : Quad) (r : DisStatus) : (State.disStop s d r).host = s.host := by
  unfold State.disStop; simp [host_fields]
theorem execDischargeRun_host (d : Quad) (s : State) : (stateOf s (execDischargeRun d s)).host = s.host := by
  unfold execDischargeRun; (try dsimp only); (repeat' split) <;> simp [host_fields]
theorem execChopperResume_host (d : Quad) (s : State) : (stateOf s (execChopperResume d s)).host = s.host := by
  unfold execChopperResume; simp [host_fields]
theorem execDischargeDone_host (d : Quad) (s : State) : (stateOf s (execDischargeDone d s)).host = s.host := by
  unfold execDischargeDone; (try dsimp only); (repeat' split) <;> simp [host_fields]
theorem execEnergyLimit_host (d : Quad) (s : State) : (stateOf s (execEnergyLimit d s)).host = s.host := by
  unfold execEnergyLimit; simp [host_fields]
theorem execDischargeTimeLimit_host (d : Quad) (s : State) : (stateOf s (execDischargeTimeLimit d s)).host = s.host := by
  unfold execDischargeTimeLimit; (try dsimp only); (repeat' split) <;> simp [host_fields]
@[simp] theorem State.readyLoss_host (s : State) (n : Oct) : (State.readyLoss s n).host = s.host := by
  unfold State.readyLoss; dsimp only; (repeat' split) <;> simp [host_fields]
theorem execDriverReadyLoss_host (n : Oct) (back : Bool) (s : State) : (stateOf s (execDriverReadyLoss n back s)).host = s.host := by
  unfold execDriverReadyLoss; simp [host_fields]
@[simp] theorem State.xferEnd_host (s : State) (b : BusId) : (State.xferEnd s b).host = s.host := by
  unfold State.xferEnd; simp [host_fields]
@[simp] theorem State.xferFailed_host (s : State) (b : BusId) : (State.xferFailed s b).host = s.host := by
  unfold State.xferFailed; simp [host_fields]
@[simp] theorem State.branchesOff_host (s : State) (b : BusId) : (State.branchesOff s b).host = s.host := by
  unfold State.branchesOff; simp [host_fields]
@[simp] theorem State.xferChoose_host (s : State) (b : BusId) (new : Chan) : (State.xferChoose s b new).host = s.host := by
  unfold State.xferChoose; simp [host_fields]
@[simp] theorem State.xferKeep_host (s : State) (b : BusId) : (State.xferKeep s b).host = s.host := by
  unfold State.xferKeep; simp [host_fields]
@[simp] theorem State.xferStart_host (s : State) (b : BusId) (old : Chan) (dest : Option Chan) : (State.xferStart s b old dest).host = s.host := by
  unfold State.xferStart; dsimp only; (repeat' split) <;> simp [host_fields]
@[simp] theorem State.xferNext_host (s : State) (b : BusId) : (State.xferNext s b).host = s.host := by
  unfold State.xferNext; dsimp only; (repeat' split) <;> simp [host_fields]
@[simp] theorem State.xferComplete_host (s : State) (b : BusId) : (State.xferComplete s b).host = s.host := by
  unfold State.xferComplete; simp [host_fields]
@[simp] theorem State.feedOn_host (s : State) (c : Chan) : (State.feedOn s c).host = s.host := by unfold State.feedOn; simp [host_fields]
@[simp] theorem State.eligibleTick_host (s : State) (b : BusId) : (State.eligibleTick s b).host = s.host := by
  unfold State.eligibleTick; simp [host_fields]
@[simp] theorem State.noFeed_host (s : State) (b : BusId) : (State.noFeed s b).host = s.host := by unfold State.noFeed; simp [host_fields]
theorem execSourceLoss_host (b : BusId) (s : State) : (stateOf s (execSourceLoss b s)).host = s.host := by
  unfold execSourceLoss; (try dsimp only); (repeat' split) <;> simp [host_fields]
theorem execRevertDue_host (b : BusId) (s : State) : (stateOf s (execRevertDue b s)).host = s.host := by
  unfold execRevertDue; (try dsimp only); (repeat' split) <;> simp [host_fields]
theorem execTransferMake_host (b : BusId) (s : State) : (stateOf s (execTransferMake b s)).host = s.host := by
  unfold execTransferMake; (try dsimp only); (repeat' split) <;> simp [host_fields]
theorem execTransferTimeout_host (b : BusId) (s : State) : (stateOf s (execTransferTimeout b s)).host = s.host := by
  unfold execTransferTimeout; (try dsimp only); (repeat' split) <;> simp [host_fields]
@[simp] theorem State.xferScan_host (s : State) (c : Chan) (l : List Fed) : (State.xferScan s c l).host = s.host := by
  unfold State.xferScan; (repeat' split)
  · rfl
  · exact foldl_host _ (fun s x => by (repeat' split) <;> simp [host_fields]) _ _
  · rfl
@[simp] theorem State.updFlto_host (s : State) (x : AB) (f : Flto → Flto) : (State.updFlto s x f).host = s.host := by
  unfold State.updFlto; simp [host_fields]
@[simp] theorem State.updLine_host (s : State) (l : Quad) (f : RLine → RLine) : (State.updLine s l f).host = s.host := by
  unfold State.updLine; simp [host_fields]
@[simp] theorem State.fltoOne_host (s : State) (x : AB) : (State.fltoOne s x).host = s.host := by unfold State.fltoOne; simp [host_fields]
@[simp] theorem State.fltoEval_host (s : State) : (State.fltoEval s).host = s.host := by unfold State.fltoEval; simp [host_fields]
theorem execFltoMinWidthEnd_host (x : AB) (s : State) : (stateOf s (execFltoMinWidthEnd x s)).host = s.host := by
  unfold execFltoMinWidthEnd; simp [host_fields]
@[simp] theorem State.sendToken_host (s : State) (l : Quad) (hops but t : Nat) : (State.sendToken s l hops but t).host = s.host := by
  unfold State.sendToken; simp [host_fields]
@[simp] theorem State.ownToken_host (s : State) (l : Quad) : (State.ownToken s l).host = s.host := by
  unfold State.ownToken; simp [host_fields]
@[simp] theorem State.lineSeen_host (s : State) (l : Quad) (t : Nat) : (State.lineSeen s l t).host = s.host := by
  unfold State.lineSeen; simp [host_fields]
@[simp] theorem State.sendFault_host (s : State) (l : Quad) (start : Bool) : (State.sendFault s l start).host = s.host := by
  unfold State.sendFault; simp [host_fields]
@[simp] theorem State.lineStart_host (s : State) (l : Quad) : (State.lineStart s l).host = s.host := by
  unfold State.lineStart; simp [host_fields]
@[simp] theorem State.lineStop_host (s : State) (l : Quad) : (State.lineStop s l).host = s.host := by
  unfold State.lineStop; simp [host_fields]
@[simp] theorem State.lineEval_host (s : State) : (State.lineEval s).host = s.host := by unfold State.lineEval; simp [host_fields]
@[simp] theorem State.linePulse_host (s : State) (l : Quad) : (State.linePulse s l).host = s.host := by
  unfold State.linePulse; simp [host_fields]
@[simp] theorem State.pulses_host (s : State) (hit : State → Quad → Bool) : (State.pulses s hit).host = s.host := by
  unfold State.pulses; simp [host_fields]
@[simp] theorem State.pulseTrip_host (s : State) (c : Chan) (set : Nat) : (State.pulseTrip s c set).host = s.host := by
  unfold State.pulseTrip; simp [host_fields]
@[simp] theorem State.evalLines_host (s : State) : (State.evalLines s).host = s.host := by unfold State.evalLines; simp [host_fields]
theorem execFaultTokenRepeat_host (l : Quad) (s : State) : (stateOf s (execFaultTokenRepeat l s)).host = s.host := by
  unfold execFaultTokenRepeat; (try dsimp only); (repeat' split) <;> simp [host_fields]
theorem execFaultPulseEnd_host (l : Quad) (s : State) : (stateOf s (execFaultPulseEnd l s)).host = s.host := by
  unfold execFaultPulseEnd; (try dsimp only); (repeat' split) <;> simp [host_fields]
theorem execFaultViewRelease_host (l : Quad) (s : State) : (stateOf s (execFaultViewRelease l s)).host = s.host := by
  unfold execFaultViewRelease; simp [host_fields]
theorem execFaultToken_host (k : KPort) (b : Byte) (t : Nat) (s : State) : (stateOf s (execFaultToken k b t s)).host = s.host := by
  unfold execFaultToken; dsimp only; (repeat' split) <;> simp [host_fields]
theorem execFltiAssert_host (x : AB) (since : Nat) (t : Nat) (s : State) : (stateOf s (execFltiAssert x since t s)).host = s.host := by
  unfold execFltiAssert; simp [host_fields]
theorem execFltiRelease_host (x : AB) (s : State) : (stateOf s (execFltiRelease x s)).host = s.host := by
  unfold execFltiRelease; simp [host_fields]
@[simp] theorem State.armRetry_host (s : State) (c : Chan) : (State.armRetry s c).host = s.host := by
  unfold State.armRetry; simp [host_fields]
@[simp] theorem State.tripNew_host (s : State) (c : Chan) (r : PodTrip) (ch : ChState) (held : Bool) : (State.tripNew s c r ch held).host = s.host := by
  unfold State.tripNew; simp [host_fields]
@[simp] theorem State.tripMore_host (s : State) (c : Chan) (r : PodTrip) (ch : ChState) : (State.tripMore s c r ch).host = s.host := by
  unfold State.tripMore; simp [host_fields]
@[simp] theorem State.noteSeen_host (s : State) (c : Chan) (v : PodStatus) (held : Bool) : (State.noteSeen s c v held).host = s.host := by
  unfold State.noteSeen; exact foldl_host _ (fun s e => by simp [host_fields]) _ _
@[simp] theorem State.tripSeen_host (s : State) (c : Chan) (v : PodStatus) (held : Bool) : (State.tripSeen s c v held).host = s.host := by
  unfold State.tripSeen; simp [host_fields]
@[simp] theorem State.release_host (s : State) (c : Chan) : (State.release s c).host = s.host := by unfold State.release; simp [host_fields]
@[simp] theorem State.releaseNow_host (s : State) (c : Chan) : (State.releaseNow s c).host = s.host := by
  unfold State.releaseNow; simp [host_fields]
@[simp] theorem State.retry_host (s : State) (c : Chan) : (State.retry s c).host = s.host := by unfold State.retry; simp [host_fields]
theorem execRetryDue_host (c : Chan) (s : State) : (stateOf s (execRetryDue c s)).host = s.host := by
  unfold execRetryDue; simp [host_fields]
theorem execRetryReleased_host (c : Chan) (s : State) : (stateOf s (execRetryReleased c s)).host = s.host := by
  unfold execRetryReleased; simp [host_fields]
theorem execRetryCountReset_host (c : Chan) (s : State) : (stateOf s (execRetryCountReset c s)).host = s.host := by
  unfold execRetryCountReset; dsimp only; (repeat' split) <;> simp [host_fields]
@[simp] theorem State.clearPod_host (s : State) (c : Chan) : (State.clearPod s c).host = s.host := by
  unfold State.clearPod; simp [host_fields]
@[simp] theorem State.activatePod_host (s : State) (c : Chan) : (State.activatePod s c).host = s.host := by
  unfold State.activatePod; simp [host_fields]
@[simp] theorem State.latchGone_host (s : State) (c : Chan) : (State.latchGone s c).host = s.host := by
  unfold State.latchGone; simp [host_fields]
@[simp] theorem State.latchCleared_host (s : State) (c : Chan) (way : Nat) : (State.latchCleared s c way).host = s.host := by
  unfold State.latchCleared; simp [host_fields]
@[simp] theorem State.disable_host (s : State) (c : Chan) : (State.disable s c).host = s.host := by unfold State.disable; simp [host_fields]
theorem execCoolDownEnd_host (c : Chan) (s : State) : (stateOf s (execCoolDownEnd c s)).host = s.host := by
  unfold execCoolDownEnd; (try dsimp only); (repeat' split) <;> simp [host_fields]
@[simp] theorem State.testsPassed_host (s : State) (c : Chan) : (State.testsPassed s c).host = s.host := by
  unfold State.testsPassed; simp [host_fields]
theorem execSelftestToggleDone_host (c : Chan) (failMask : Nat) (t : Nat) (s : State) : (stateOf s (execSelftestToggleDone c failMask t s)).host = s.host := by
  unfold execSelftestToggleDone; simp [host_fields]
@[simp] theorem State.unheard_host (s : State) (c : Chan) : (State.unheard s c).host = s.host := by unfold State.unheard; simp [host_fields]
@[simp] theorem State.seatTimer_host (s : State) (c : Chan) (t : Nat) : (State.seatTimer s c t).host = s.host := by
  unfold State.seatTimer; simp [host_fields]
@[simp] theorem State.removed_host (s : State) (c : Chan) : (State.removed s c).host = s.host := by unfold State.removed; simp [host_fields]
theorem execRemovalConfirmed_host (c : Chan) (s : State) : (stateOf s (execRemovalConfirmed c s)).host = s.host := by
  unfold execRemovalConfirmed; (try dsimp only); (repeat' split) <;> simp [host_fields]
theorem execReseatGuardExpiry_host (c : Chan) (s : State) : (stateOf s (execReseatGuardExpiry c s)).host = s.host := by
  unfold execReseatGuardExpiry; dsimp only; (repeat' split) <;> simp [host_fields]
@[simp] theorem State.busFault_host (s : State) (b : BusId) (first : Chan) : (State.busFault s b first).host = s.host := by
  unfold State.busFault; simp [host_fields]
theorem execBusFaultClassify_host (b : BusId) (s : State) : (stateOf s (execBusFaultClassify b s)).host = s.host := by
  unfold execBusFaultClassify; (try dsimp only); (repeat' split) <;> simp [host_fields]
@[simp] theorem State.resumeXfer_host (s : State) (b : BusId) (k : Option (Chan × Option Chan)) : (State.resumeXfer s b k).host = s.host := by
  unfold State.resumeXfer; (try dsimp only); (repeat' split) <;> simp [host_fields]
@[simp] theorem State.rebuildBus_host (s : State) (b : BusId) : (State.rebuildBus s b).host = s.host := by
  unfold State.rebuildBus; simp [host_fields]
@[simp] theorem State.rebuildPre_host (s : State) (c : Chan) : (State.rebuildPre s c).host = s.host := by
  unfold State.rebuildPre; simp [host_fields]
@[simp] theorem State.rebuild_host (s : State) (c : Chan) : (State.rebuild s c).host = s.host := by
  unfold State.rebuild; (try dsimp only); (repeat' split) <;> simp [host_fields]
@[simp] theorem State.ownership_host (s : State) (c : Chan) (code epoch : Nat) : (State.ownership s c code epoch).host = s.host := by
  unfold State.ownership; simp [host_fields]
@[simp] theorem State.claim_host (s : State) (c : Chan) (epoch : Nat) : (State.claim s c epoch).host = s.host := by
  unfold State.claim; simp [host_fields]
@[simp] theorem State.claimHeld_host (s : State) (c : Chan) (epoch : Nat) : (State.claimHeld s c epoch).host = s.host := by
  unfold State.claimHeld; simp [host_fields]
@[simp] theorem State.claimGroup_host (s : State) (c : Chan) (epoch : Nat) : (State.claimGroup s c epoch).host = s.host := by
  unfold State.claimGroup; (try dsimp only); (repeat' split) <;> simp [host_fields]
@[simp] theorem State.standby_host (s : State) (c : Chan) : (State.standby s c).host = s.host := by unfold State.standby; simp [host_fields]
@[simp] theorem State.standbyGroup_host (s : State) (c : Chan) : (State.standbyGroup s c).host = s.host := by
  unfold State.standbyGroup; dsimp only; (repeat' split) <;> simp [host_fields]
@[simp] theorem State.yield_host (s : State) (c : Chan) (epoch : Nat) : (State.yield s c epoch).host = s.host := by
  unfold State.yield; simp [host_fields]
@[simp] theorem State.ownSeen_host (s : State) (c : Chan) (old v : PodStatus) : (State.ownSeen s c old v).host = s.host := by
  unfold State.ownSeen; simp [host_fields]
theorem execOwnerlessClaim_host (c : Chan) (s : State) : (stateOf s (execOwnerlessClaim c s)).host = s.host := by
  unfold execOwnerlessClaim; (try dsimp only); (repeat' split) <;> simp [host_fields]
theorem execMoveReclaim_host (s : State) : (stateOf s (execMoveReclaim s)).host = s.host := by
  unfold execMoveReclaim; rw [stateOf_next]; exact foldl_host _ (fun s x => by (repeat' split) <;> simp [host_fields]) _ _
@[simp] theorem State.addRise_host (s : State) (o : Obj) (i old new : Nat) : (State.addRise s o i old new).host = s.host := by
  unfold State.addRise; simp [host_fields]
@[simp] theorem State.countsSeen_host (s : State) (c : Chan) (a b : PodCounts) : (State.countsSeen s c a b).host = s.host := by
  unfold State.countsSeen; dsimp only; (repeat' split) <;> simp [host_fields]
@[simp] theorem State.warningsSeen_host (s : State) (c : Chan) (old v : PodStatus) : (State.warningsSeen s c old v).host = s.host := by
  unfold State.warningsSeen; simp [host_fields]
@[simp] theorem State.tells_host (s : State) (c : Chan) (old v : PodStatus) : (State.tells s c old v).host = s.host := by
  unfold State.tells; simp [host_fields]
@[simp] theorem State.seatSeen_host (s : State) (c : Chan) (old v : PodStatus) : (State.seatSeen s c old v).host = s.host := by
  unfold State.seatSeen; dsimp only; (repeat' split) <;> simp [host_fields]
@[simp] theorem State.tripOver_host (s : State) (c : Chan) (v : PodStatus) : (State.tripOver s c v).host = s.host := by
  unfold State.tripOver; simp [host_fields]
@[simp] theorem State.statusIn_host (s : State) (c : Chan) (v : PodStatus) : (State.statusIn s c v).host = s.host := by
  unfold State.statusIn; simp [host_fields]
theorem execStatusFrameReceived_host (c : Chan) (crcOk : Bool) (s : State) : (stateOf s (execStatusFrameReceived c crcOk s)).host = s.host := by
  unfold execStatusFrameReceived; simp [host_fields]
theorem execCommandFrameReceived_host (c : Chan) (rx : RxFrame) (s : State) : (stateOf s (execCommandFrameReceived c rx s)).host = s.host := by
  unfold execCommandFrameReceived; simp [host_fields]
@[simp] theorem State.podTell_host (s : State) (c : Chan) (f : Pod → Pod) : (State.podTell s c f).host = s.host := by
  unfold State.podTell; simp [host_fields]
theorem execSeatPairSeated_host (c : Chan) (t : Nat) (s : State) : (stateOf s (execSeatPairSeated c t s)).host = s.host := by
  unfold execSeatPairSeated; simp [host_fields]
theorem execSeatingAbort_host (c : Chan) (s1 : Bool) (s2 : Bool) (t : Nat) (s : State) : (stateOf s (execSeatingAbort c s1 s2 t s)).host = s.host := by
  unfold execSeatingAbort; simp [host_fields]
theorem execSeatDebounceComplete_host (c : Chan) (t : Nat) (s : State) : (stateOf s (execSeatDebounceComplete c t s)).host = s.host := by
  unfold execSeatDebounceComplete; dsimp only; (repeat' split) <;> simp [host_fields]
theorem execSeatLoss_host (c : Chan) (s1 : Bool) (s2 : Bool) (tFirst : Nat) (t : Nat) (s : State) : (stateOf s (execSeatLoss c s1 s2 tFirst t s)).host = s.host := by
  unfold execSeatLoss; simp [host_fields]
theorem execChannelStart_host (c : Chan) (t : Nat) (s : State) : (stateOf s (execChannelStart c t s)).host = s.host := by
  unfold execChannelStart; simp [host_fields]
theorem execPowerGoodAssert_host (c : Chan) (s : State) : (stateOf s (execPowerGoodAssert c s)).host = s.host := by
  unfold execPowerGoodAssert; simp [host_fields]
@[simp] theorem State.feedA_host (s : State) (c : Chan) : (State.feedA s c).host = s.host := by unfold State.feedA; simp [host_fields]
theorem execPodPowerUp_host (c : Chan) (kind : PodKind) (rev : Nat) (uid : Nat) (a : Bool) (b : Bool) (s : State) : (stateOf s (execPodPowerUp c kind rev uid a b s)).host = s.host := by
  unfold execPodPowerUp; simp [host_fields]
@[simp] theorem State.linkLost_host (s : State) (c : Chan) : (State.linkLost s c).host = s.host := by
  unfold State.linkLost; simp [host_fields]
theorem execPodSupplyLoss_host (c : Chan) (t : Nat) (s : State) : (stateOf s (execPodSupplyLoss c t s)).host = s.host := by
  unfold execPodSupplyLoss; simp [host_fields]
@[simp] theorem State.missed_host (s : State) (c : Chan) : (State.missed s c).host = s.host := by unfold State.missed; simp [host_fields]
theorem execPodLinkDown_host (c : Chan) (s : State) : (stateOf s (execPodLinkDown c s)).host = s.host := by
  unfold execPodLinkDown; simp [host_fields]
@[simp] theorem State.podWarn_host (s : State) (c : Chan) (code : Nat) (data : List (Nat × Nat)) : (State.podWarn s c code data).host = s.host := by
  unfold State.podWarn; simp [host_fields]
@[simp] theorem State.healthSeen_host (s : State) (c : Chan) (old new : Nat) (mean : Int) : (State.healthSeen s c old new mean).host = s.host := by
  unfold State.healthSeen; simp [host_fields]
theorem execIntDwellComplete_host (c : Chan) (s : State) : (stateOf s (execIntDwellComplete c s)).host = s.host := by
  unfold execIntDwellComplete; (try dsimp only); (repeat' split) <;> simp [host_fields]
theorem execUrgentConversionDone_host (c : Chan) (codes : List Raw) (t : Nat) (s : State) : (stateOf s (execUrgentConversionDone c codes t s)).host = s.host := by
  unfold execUrgentConversionDone; (try dsimp only); (repeat' split) <;> simp [host_fields]
theorem execPairedWindowStart_host (c : Chan) (trig : Option PodCmp) (t : Nat) (s : State) : (stateOf s (execPairedWindowStart c trig t s)).host = s.host := by
  unfold execPairedWindowStart; simp [host_fields]
@[simp] theorem State.queueWindows_host (s : State) (c : Chan) : (State.queueWindows s c).host = s.host := by
  unfold State.queueWindows; simp [host_fields]
theorem execPodTickBoundary_host (c : Chan) (smp : TickSamples) (s : State) : (stateOf s (execPodTickBoundary c smp s)).host = s.host := by
  unfold execPodTickBoundary; simp [host_fields]
@[simp] theorem State.calFailed_host (s : State) (c : Chan) (kind : Nat) (bad : Nat × Nat × Int) : (State.calFailed s c kind bad).host = s.host := by
  unfold State.calFailed; simp [host_fields]
theorem execCalComplete_host (c : Chan) (icF vcF feF : List Int) (t : Nat) (s : State) : (stateOf s (execCalComplete c icF vcF feF t s)).host = s.host := by
  unfold execCalComplete; dsimp only; (repeat' split) <;> simp [host_fields]
theorem execRecalComplete_host (c : Chan) (factors : List Int) (t : Nat) (s : State) : (stateOf s (execRecalComplete c factors t s)).host = s.host := by
  unfold execRecalComplete; dsimp only; (repeat' split) <;> simp [host_fields]
theorem execRecalCoverEnd_host (c : Chan) (s : State) : (stateOf s (execRecalCoverEnd c s)).host = s.host := by
  unfold execRecalCoverEnd; (try dsimp only); (repeat' split) <;> simp [host_fields]
theorem execParkedBurst_host (c : Chan) (smp : TickSamples) (s : State) : (stateOf s (execParkedBurst c smp s)).host = s.host := by
  unfold execParkedBurst; simp [host_fields]
theorem execMeteringTransfer_host (c : Chan) (s : State) : (stateOf s (execMeteringTransfer c s)).host = s.host := by
  unfold execMeteringTransfer; simp [host_fields]
theorem execMeteringTransferReceived_host (c : Chan) (crcOk : Bool) (s : State) : (stateOf s (execMeteringTransferReceived c crcOk s)).host = s.host := by
  unfold execMeteringTransferReceived; simp [host_fields]
@[simp] theorem State.freshTrackers_host (s : State) (c : Chan) (part : Bool) : (State.freshTrackers s c part).host = s.host := by
  unfold State.freshTrackers; simp [host_fields]
@[simp] theorem State.snapAt_host (s : State) (T : Nat) (c : Chan) : (State.snapAt s T c).host = s.host := by
  unfold State.snapAt; simp [host_fields]
@[simp] theorem State.snapNow_host (s : State) : (State.snapNow s).host = s.host := by
  unfold State.snapNow; (try dsimp only); (repeat' split) <;> simp [host_fields]
theorem execSnapshotTick_host (s : State) : (stateOf s (execSnapshotTick s)).host = s.host := by
  unfold execSnapshotTick; (try dsimp only); (repeat' split) <;> simp [host_fields]
@[simp] theorem State.snapBlock_host (s : State) (c : Chan) : (State.snapBlock s c).host = s.host := by
  unfold State.snapBlock; simp [host_fields]
theorem execSnapshotDone_host (s : State) : (stateOf s (execSnapshotDone s)).host = s.host := by
  unfold execSnapshotDone; dsimp only; (repeat' split) <;> simp [host_fields]
@[simp] theorem State.shareStep_host (s : State) (b : BusId) (x y : Chan) (ix iy : Int) : (State.shareStep s b x y ix iy).host = s.host := by
  unfold State.shareStep; simp [host_fields]
theorem execOringShareStep_host (b : BusId) (s : State) : (stateOf s (execOringShareStep b s)).host = s.host := by
  unfold execOringShareStep; (try dsimp only); (repeat' split) <;> simp [host_fields]
@[simp] theorem State.orTargets_host (s : State) (b : BusId) : (State.orTargets s b).host = s.host := by
  unfold State.orTargets; simp [host_fields]
theorem execOringBlocked_host (b : BusId) (s : State) : (stateOf s (execOringBlocked b s)).host = s.host := by
  unfold execOringBlocked; (try dsimp only); (repeat' split) <;> simp [host_fields]
@[simp] theorem State.codeErrs_host (s : State) (n : Nat) : (State.codeErrs s n).host = s.host := by
  unfold State.codeErrs; simp [host_fields]
@[simp] theorem State.take__host (s : State) (k : KPort) (f : Frame) (act : State → State) (h : ∀ s, (act s).host = s.host) : (State.take_ s k f act).host = s.host := by
  unfold State.take_; (repeat' split) <;> simp [host_fields, h]
theorem execCutThroughForward_host (k : KPort) (f : Frame) (t : Nat) (residence : Nat) (s : State) : (stateOf s (execCutThroughForward k f t residence s)).host = s.host := by
  unfold execCutThroughForward; simp [host_fields]
@[simp] theorem State.report_host (s : State) (reason : Nat) : (State.report s reason).host = s.host := by
  unfold State.report; simp [host_fields]
@[simp] theorem State.enumerate_host (s : State) : (State.enumerate s).host = s.host := by unfold State.enumerate; simp [host_fields]
theorem execDiscover_host (k : KPort) (f : Frame) (s : State) : (stateOf s (execDiscover k f s)).host = s.host := by
  unfold execDiscover; rw [stateOf_next, State.take__host]; intro s; (try dsimp only); (repeat' split) <;> simp [host_fields]
@[simp] theorem State.giveAddr_host (s : State) (uid : Nat) : (State.giveAddr s uid).2.host = s.host := by
  unfold State.giveAddr; dsimp only; (repeat' split) <;> simp [host_fields]
@[simp] theorem State.assign_host (s : State) (uid : Nat) : (State.assign s uid).host = s.host := by unfold State.assign; simp [host_fields]
@[simp] theorem State.reported_host (s : State) (e : MapEntry) : (State.reported s e).host = s.host := by
  unfold State.reported; dsimp only; (repeat' split) <;> simp [host_fields]
theorem execReport_host (k : KPort) (f : Frame) (s : State) : (stateOf s (execReport k f s)).host = s.host := by
  unfold execReport; rw [stateOf_next, State.take__host]; intro s; (try dsimp only); (repeat' split) <;> simp [host_fields]
theorem execAssign_host (k : KPort) (f : Frame) (s : State) : (stateOf s (execAssign k f s)).host = s.host := by
  unfold execAssign; rw [stateOf_next, State.take__host]; intro s; (try dsimp only); (repeat' split) <;> simp [host_fields]
theorem execDone_host (k : KPort) (f : Frame) (s : State) : (stateOf s (execDone k f s)).host = s.host := by
  unfold execDone; rw [stateOf_next, State.take__host]; intro s; (try dsimp only); (repeat' split) <;> simp [host_fields]
@[simp] theorem State.sendRehome_host (s : State) (k : KPort) (hops : Nat) : (State.sendRehome s k hops).host = s.host := by
  unfold State.sendRehome; simp [host_fields]
@[simp] theorem State.rehome_host (s : State) (k : KPort) (hops : Nat) : (State.rehome s k hops).host = s.host := by
  unfold State.rehome; simp [host_fields]
@[simp] theorem State.linkChange_host (s : State) (k : KPort) (up : Bool) : (State.linkChange s k up).host = s.host := by
  unfold State.linkChange; simp [host_fields]
theorem execRingLinkDown_host (k : KPort) (violations : Nat) (s : State) : (stateOf s (execRingLinkDown k violations s)).host = s.host := by
  unfold execRingLinkDown; simp [host_fields]
@[simp] theorem State.broken_host (s : State) : (State.broken s).host = s.host := by unfold State.broken; simp [host_fields]
theorem execRehome_host (k : KPort) (b : Byte) (s : State) : (stateOf s (execRehome k b s)).host = s.host := by
  unfold execRehome; simp [host_fields]
theorem execEventFrame_host (k : KPort) (f : Frame) (s : State) : (stateOf s (execEventFrame k f s)).host = s.host := by
  unfold execEventFrame; rw [stateOf_next, State.take__host]; intro s; (try dsimp only); (repeat' split) <;> simp [host_fields]
theorem execFaultFrame_host (k : KPort) (f : Frame) (s : State) : (stateOf s (execFaultFrame k f s)).host = s.host := by
  unfold execFaultFrame; rw [stateOf_next, State.take__host]; intro s; (try dsimp only); (repeat' split) <;> simp [host_fields]
@[simp] theorem State.timeState_host (s : State) (v : Nat) : (State.timeState s v).host = s.host := by
  unfold State.timeState; simp [host_fields]
theorem execSyncPeriod_host (s : State) : (stateOf s (execSyncPeriod s)).host = s.host := by unfold execSyncPeriod; simp [host_fields]
theorem execTimeHoldover_host (s : State) : (stateOf s (execTimeHoldover s)).host = s.host := by unfold execTimeHoldover; simp [host_fields]
@[simp] theorem State.sendLocal_host (s : State) (k : KPort) (payload : List Byte) : (State.sendLocal s k payload).host = s.host := by
  unfold State.sendLocal; simp [host_fields]
theorem execDelayReq_host (k : KPort) (f : Frame) (turn : Nat) (s : State) : (stateOf s (execDelayReq k f turn s)).host = s.host := by
  unfold execDelayReq; rw [stateOf_next, State.take__host]; intro s; (try dsimp only); (repeat' split) <;> simp [host_fields]
theorem execDelayResp_host (k : KPort) (f : Frame) (t : Nat) (s : State) : (stateOf s (execDelayResp k f t s)).host = s.host := by
  unfold execDelayResp; rw [stateOf_next, State.take__host]; intro s; (try dsimp only); (repeat' split) <;> simp [host_fields]
theorem execDelayExchangePeriod_host (s : State) : (stateOf s (execDelayExchangePeriod s)).host = s.host := by
  unfold execDelayExchangePeriod; simp [host_fields]
@[simp] theorem State.answer_host (s : State) (q : Req) (a : Answer) : (State.answer s q a).host = s.host := by
  unfold State.answer; dsimp only; (repeat' split) <;> simp [host_fields]
@[simp] theorem State.commitDone_host (s : State) (u : CUnit) (e : Err) (key : Nat) : (State.commitDone s u e key).host = s.host := by
  unfold State.commitDone; simp [host_fields]
@[simp] theorem State.chanEff_host (s : State) (c : Chan) : (State.chanEff s c).host = s.host := by unfold State.chanEff; simp [host_fields]
@[simp] theorem State.chanApplied_host (s : State) (c : Chan) (old : Store) : (State.chanApplied s c old).host = s.host := by
  unfold State.chanApplied; dsimp only; (repeat' split) <;> simp [host_fields]
@[simp] theorem State.orFrames_host (s : State) (b : BusId) : (State.orFrames s b).host = s.host := by
  unfold State.orFrames; simp [host_fields]
@[simp] theorem State.busApplied_host (s : State) (b : BusId) (old : Store) : (State.busApplied s b old).host = s.host := by
  unfold State.busApplied; simp [host_fields]
@[simp] theorem State.impose_host (s : State) (o : Obj) (i : Nat) (v : Int) : (State.impose s o i v).host = s.host := by
  unfold State.impose; simp [host_fields]
@[simp] theorem State.both_host (s : State) (o : Obj) (i : Nat) (v : Int) : (State.both s o i v).host = s.host := by
  unfold State.both; simp [host_fields]
@[simp] theorem State.preSenses_host (s : State) (p : Quad) : (State.preSenses s p).host = s.host := by
  unfold State.preSenses; simp [host_fields]
@[simp] theorem State.preLetsSecond_host (s : State) (p : Quad) (old : Store) : (State.preLetsSecond s p old).host = s.host := by
  unfold State.preLetsSecond; simp [host_fields]
@[simp] theorem State.preOwns_host (s : State) (p : Quad) (old : Store) : (State.preOwns s p old).host = s.host := by
  unfold State.preOwns; simp [host_fields]
@[simp] theorem State.preLets_host (s : State) (p : Quad) (old : Store) : (State.preLets s p old).host = s.host := by
  unfold State.preLets; simp [host_fields]
@[simp] theorem State.cmpApplied_host (s : State) (n : Oct) (old : Store) : (State.cmpApplied s n old).host = s.host := by
  unfold State.cmpApplied; simp [host_fields]
@[simp] theorem State.preApplied_host (s : State) (p : Quad) (old : Store) : (State.preApplied s p old).host = s.host := by
  unfold State.preApplied; simp [host_fields]
@[simp] theorem State.disApplied_host (s : State) (d : Quad) (old : Store) : (State.disApplied s d old).host = s.host := by
  unfold State.disApplied; simp [host_fields]
@[simp] theorem State.applySet_host (s : State) (u : CUnit) (set : Store) : (State.applySet s u set).host = s.host := by
  unfold State.applySet; dsimp only; (repeat' split) <;> simp [host_fields]
@[simp] theorem State.commitNow_host (s : State) (u : CUnit) (set : Store) : (State.commitNow s u set).1.host = s.host := by
  unfold State.commitNow; (try dsimp only); (repeat' split) <;> simp [host_fields]
theorem execCommitApply_host (u : CUnit) (s : State) : (stateOf s (execCommitApply u s)).host = s.host := by
  unfold execCommitApply; dsimp only; (repeat' split) <;> simp [host_fields]
@[simp] theorem State.sealSlot_host (s : State) (i : Nat) (value : List Byte) (ok : Bool) : (State.sealSlot s i value ok).host = s.host := by
  unfold State.sealSlot; split <;> simp [host_fields]
@[simp] theorem State.reconcile_host (s : State) (c : Chan) : (State.reconcile s c).host = s.host := by
  unfold State.reconcile; simp [host_fields]
@[simp] theorem State.adoptKeptTrip_host (s : State) (c : Chan) (held : Bool) (last : Nat) : (State.adoptKeptTrip s c held last).host = s.host := by
  unfold State.adoptKeptTrip; dsimp only; (repeat' split) <;> (try rw [foldl_host _ (fun s e => by simp [host_fields])]) <;> simp [host_fields]
@[simp] theorem State.adoptTrip_host (s : State) (c : Chan) (kept held : Bool) (last : Nat) : (State.adoptTrip s c kept held last).host = s.host := by
  unfold State.adoptTrip; simp [host_fields]
@[simp] theorem State.adoptTimes_host (s : State) (c : Chan) (kept : Bool) (tEnable0 : Nat) : (State.adoptTimes s c kept tEnable0).host = s.host := by
  unfold State.adoptTimes; simp [host_fields]
@[simp] theorem State.adoptRemoval_host (s : State) (c : Chan) : (State.adoptRemoval s c).host = s.host := by
  unfold State.adoptRemoval; simp [host_fields]
@[simp] theorem State.adoptPod_host (s : State) (c : Chan) : (State.adoptPod s c).host = s.host := by
  unfold State.adoptPod; simp [host_fields]
@[simp] theorem State.adoptPods_host (s : State) (l : List Chan) : (State.adoptPods s l).host = s.host := by
  unfold State.adoptPods; dsimp only; simp only [State.evalLines_host]; rw [foldl_host _ (fun s c => by simp [host_fields]), foldl_host _ (fun s b => by split <;> simp [host_fields]), foldl_host _ (fun s c => by simp [host_fields])]
theorem execPodAdoption_host (c : Chan) (s : State) : (stateOf s (execPodAdoption c s)).host = s.host := by
  unfold execPodAdoption; simp [host_fields]
theorem execPodSupplyCurrentLimit_host (c : Chan) (s : State) : (stateOf s (execPodSupplyCurrentLimit c s)).host = s.host := by
  unfold execPodSupplyCurrentLimit; simp [host_fields]
theorem execPodSupplyRetry_host (c : Chan) (holds : Bool) (s : State) : (stateOf s (execPodSupplyRetry c holds s)).host = s.host := by
  unfold execPodSupplyRetry; (try dsimp only); (repeat' split) <;> simp [host_fields]
theorem execPodWakeSignal_host (c : Chan) (s : State) : (stateOf s (execPodWakeSignal c s)).host = s.host := by
  unfold execPodWakeSignal; (try dsimp only); (repeat' split) <;> simp [host_fields]
theorem execSealProgramDone_host (ok : Bool) (s : State) : (stateOf s (execSealProgramDone ok s)).host = s.host := by
  unfold execSealProgramDone; split
  · rw [stateOf_next, State.journal_host, State.sealSlot_host]; rfl
  · rfl
theorem execPowerWarningEnd_host (s : State) : (stateOf s (execPowerWarningEnd s)).host = s.host := by
  unfold execPowerWarningEnd; (try dsimp only); (repeat' split) <;> simp [host_fields]
@[simp] theorem State.updSession_host (s : State) (h : Nat) (f : Session → Session) : (State.updSession s h f).host = s.host := by
  unfold State.updSession; simp [host_fields]
@[simp] theorem State.endSession_host (s : State) (h : Nat) : (State.endSession s h).host = s.host := by
  unfold State.endSession; simp [host_fields]
@[simp] theorem State.readChallenge_host (s : State) (src : Nat) : (State.readChallenge s src).host = s.host := by
  unfold State.readChallenge; (try dsimp only); (repeat' split) <;> simp [host_fields]
theorem execChallengeLapse_host (s : State) : (stateOf s (execChallengeLapse s)).host = s.host := by
  unfold execChallengeLapse; simp [host_fields]
theorem execRoleLockEnd_host (s : State) : (stateOf s (execRoleLockEnd s)).host = s.host := by unfold execRoleLockEnd; simp [host_fields]
theorem execSesTimeout_host (h : Nat) (s : State) : (stateOf s (execSesTimeout h s)).host = s.host := by
  unfold execSesTimeout; (try dsimp only); (repeat' split) <;> simp [host_fields]
@[simp] theorem State.mirror_host (s : State) (index sub off : Nat) (data : List Byte) : (State.mirror s index sub off data).host = s.host := by
  unfold State.mirror; simp [host_fields]
@[simp] theorem State.mirrorUnit_host (s : State) (u : CUnit) : (State.mirrorUnit s u).host = s.host := by
  unfold State.mirrorUnit; simp [host_fields]
theorem execMirroringComplete_host (s : State) : (stateOf s (execMirroringComplete s)).host = s.host := by
  unfold execMirroringComplete; simp [host_fields]
@[simp] theorem State.touch_host (s : State) (q : Req) : (State.touch s q).host = s.host := by
  unfold State.touch; (try dsimp only); (repeat' split) <;> simp [host_fields]
@[simp] theorem State.read_host (s : State) (q : Req) (len : Nat) : (State.read s q len).1.host = s.host := by
  unfold State.read; (try dsimp only); (repeat' split) <;> simp [host_fields]
@[simp] theorem State.doRead_host (s : State) (q : Req) (len : Nat) : (State.doRead s q len).host = s.host := by
  unfold State.doRead; simp [host_fields]
@[simp] theorem State.sentDone_host (s : State) (x : Sent) (bytes : List Byte) : (State.sentDone s x bytes).host = s.host := by
  unfold State.sentDone; simp [host_fields]
theorem execOdResp_host (k : KPort) (f : Frame) (s : State) : (stateOf s (execOdResp k f s)).host = s.host := by
  unfold execOdResp; rw [stateOf_next, State.take__host]; intro s; (try dsimp only); (repeat' split) <;> simp [host_fields]
theorem execRingRespTmo_host (seq : Nat) (s : State) : (stateOf s (execRingRespTmo seq s)).host = s.host := by
  unfold execRingRespTmo; (try dsimp only); (repeat' split) <;> simp [host_fields]
@[simp] theorem State.transfer_host (s : State) (op : Nat) (body : List Byte) (crc : Nat) (data : List Byte) (act : State → State × Bool) (h : ∀ s, (act s).1.host = s.host) : (State.transfer s op body crc data act).host = s.host := by
  unfold State.transfer; (try dsimp only); (repeat' split) <;> simp [host_fields, h]
theorem execFetch_host (crc : Nat) (full : Bool) (s : State) : (stateOf s (execFetch crc full s)).host = s.host := by
  unfold execFetch; rw [stateOf_next, State.transfer_host]; intro s; (repeat' split) <;> simp [host_fields]
theorem execRefetch_host (crc : Nat) (s : State) : (stateOf s (execRefetch crc s)).host = s.host := by
  unfold execRefetch; rw [stateOf_next, State.transfer_host]; intro s; rfl
theorem execStatus_host (crc : Nat) (s : State) : (stateOf s (execStatus crc s)).host = s.host := by
  unfold execStatus; rw [stateOf_next, State.transfer_host]; intro s; rfl
theorem execIrqAck_host (mask : Nat) (crc : Nat) (s : State) : (stateOf s (execIrqAck mask crc s)).host = s.host := by
  unfold execIrqAck; rw [stateOf_next, State.transfer_host]; intro s; simp [host_fields]
theorem execSesChallenge_host (src : Nat) (s : State) : (stateOf s (execSesChallenge src s)).host = s.host := by
  unfold execSesChallenge State.doRead; (try dsimp only); (repeat' split) <;> simp [host_fields]

end Sys2Proof.Machine
end

