-- ==== Sys2Proof/Laws/Orders.lean ====
section
/-! SUPPORT. What a command of the table that writes one object does once it is let through: the handle is touched, the command
of its row runs, the write may go to the partner, the answer is recorded. -/

namespace Sys2Proof.Machine

/-- A use of a handle changes the sessions only. -/
theorem State.touch_eq (s : State) (q : Req) : ∃ l, s.touch q = { s with sessions := l } := by
  unfold State.touch
  split
  · split
    · exact ⟨_, rfl⟩
    · exact ⟨s.sessions, rfl⟩
  · exact ⟨s.sessions, rfl⟩

/-- A frame changes what has been sent only. -/
theorem State.sendOn_eq (s : State) (f : Frame) (m : Nat) : ∃ l, s.sendOn f m = { s with out := l } := by
  unfold State.sendOn
  by_cases h : m &&& (s.ringUp % 8) = 0
  · rw [if_pos h]
    exact ⟨s.out, rfl⟩
  · rw [if_neg h]
    exact ⟨_, rfl⟩

/-- A frame of this hub's own changes what it has sent only. -/
theorem State.sendOwn_eq (s : State) (type seq dst : Nat) (b : List Byte) : ∃ l, s.sendOwn type seq dst b = { s with out := l } :=
  State.sendOn_eq s _ _

/-- Mirroring changes the sequence number of the ring and what has been sent only. -/
theorem State.passOn_eq (s before : State) (q : Req) (r : ObjRow) (d : List Byte) (e : Option Err) :
    ∃ n l, s.passOn before q r d e = { s with ring := { s.ring with seq := n }, out := l } := by
  unfold State.passOn
  split
  · obtain ⟨l, h⟩ := State.sendOwn_eq s.nextSeq 3 s.ring.seq (partnerAddr s)
      (leBytes 2 0xFFFF ++ leBytes 2 q.index ++ leBytes 1 q.sub ++ leBytes 2 q.off ++ leBytes 2 d.length ++ d)
    exact ⟨(s.ring.seq + 1) % 256, l, h⟩
  · exact ⟨s.ring.seq, s.out, rfl⟩

/-- An answer that goes nowhere is recorded. -/
theorem State.answer_direct (s : State) (q : Req) (a : Answer) (h : q.via = .direct) :
    s.answer q a = { s with resp := some (.direct, a) } := by
  unfold State.answer
  rw [h]

/-- The state after a write: `x` is what the operation gives. -/
def State.finish (x : State × Err) (before : State) (q : Req) (r : ObjRow) (d : List Byte) : State :=
  let y := x.1.passOn before q r d (some x.2)
  if y.hub = .reset then y else y.answer q { err := x.2 }

/-- What the end of a write leaves: the operation's state, but for the sequence number of the ring, what has been sent, and the
answer, which a hub that resets does not give. -/
theorem State.finish_eq (x : State × Err) (before : State) (q : Req) (r : ObjRow) (d : List Byte) (h : q.via = .direct) :
    ∃ n l a, State.finish x before q r d = { x.1 with ring := { x.1.ring with seq := n }, out := l, resp := a } ∧
      (x.1.hub ≠ .reset → a = some (.direct, { err := x.2 })) := by
  unfold State.finish
  obtain ⟨n, l, e⟩ := State.passOn_eq x.1 before q r d (some x.2)
  rw [e]
  dsimp only
  split
  · exact ⟨n, l, x.1.resp, rfl, fun k => absurd ‹_› k⟩
  · rw [State.answer_direct _ _ _ h]
    exact ⟨n, l, _, rfl, fun _ => rfl⟩

/-- What `admits` says. -/
theorem admits_iff {s : State} {q : Req} {d : List Byte} (h : admits s q d = true) :
    serves s q.index q.sub = true ∧ s.pfw.on = false ∧ ∃ role r, writeCheck s q d.length d = .ok (role, r) := by
  simp only [admits, Bool.and_eq_true, Bool.not_eq_true'] at h
  obtain ⟨⟨h1, h2⟩, h3⟩ := h
  refine ⟨h1, h2, ?_⟩
  split at h3
  · exact ⟨_, _, ‹_›⟩
  · cases h3

/-- The row that a passed check names is the row of the object. -/
theorem writeCheck_row {s : State} {q : Req} {n : Nat} {d : List Byte} {role : Role} {r : ObjRow}
    (h : writeCheck s q n d = .ok (role, r)) : objRow q.index q.sub = some r ∧ standing s q true = some role := by
  unfold writeCheck at h
  split at h
  · cases h
  · split at h
    · cases h
    · split at h
      · cases h
      · rename_i hr
        (repeat' split at h) <;> first | (cases h; done) | skip
        cases h
        exact ⟨hr, ‹_›⟩

/-- A write that is let through, of a row that answers at once, ends with what its operation gives. -/
theorem State.doWrite_eq {s : State} {q : Req} {d : List Byte} {row : ObjRow} (h : admits s q d = true)
    (hr : objRow q.index q.sub = some row) : ∃ role, standing s q true = some role ∧
      ∀ x : State × Err, (s.touch q).operate q role row d = (x.1, some x.2) → s.doWrite q d.length d = State.finish x s q row d := by
  obtain ⟨hs, _, role, r, hw⟩ := admits_iff h
  obtain ⟨h1, h2⟩ := writeCheck_row hw
  rw [hr] at h1
  cases h1
  refine ⟨role, h2, fun x hx => ?_⟩
  simp only [State.doWrite, hs, if_true, State.write, hw, hx]
  rfl

/-- The same for a row of a command object. -/
theorem State.order_eq {s : State} {rq : Requester} {o : Obj} {i : Nat} {v : Int} {row : ObjRow} {f : Command}
    (h : admitsOrder s rq o i v = true) (hr : objRow (orderOf rq o i).index o.sub = some row) (ha : row.access = .cmd)
    (hu : commitUnit (orderOf rq o i).index = none) (hf : findCommand row commands = some f) :
    ∃ role l, State.order s rq o i v = State.finish
      (f { s with sessions := l } (orderOf rq o i) role ((row.instanceOf (orderOf rq o i).index).getD 0)
        (valueOf row (objBytes (orderOf rq o i).index o.sub v)).toNat) s (orderOf rq o i) row (objBytes (orderOf rq o i).index o.sub v) := by
  obtain ⟨role, _, hx⟩ := State.doWrite_eq (h : admits s (orderOf rq o i) (objBytes (orderOf rq o i).index o.sub v) = true) hr
  obtain ⟨l, ht⟩ := State.touch_eq s (orderOf rq o i)
  refine ⟨role, l, hx _ ?_⟩
  obtain ⟨_, hp, _⟩ := admits_iff h
  rw [ht]
  simp only [State.operate, hp, Bool.false_eq_true, if_false, ha, State.command, hu, hf]
  rfl

end Sys2Proof.Machine
end

