-- ==== Sys2Proof/Laws/PodBank.lean ====
section
/-! SUPPORT. The pods. -/

namespace Sys2Proof.Machine

set_option linter.unusedSimpArgs false

/-- The pods: what leaves them as they are. -/
def State.podBank (s : State) : Bank Pod 16 := s.pods

@[simp] theorem podBank_mk (now : _) (fresh : _) (pending : _) (active : _) (shadow : _) (status : _) (pods : _) (ports : _) (buses : _) (pre : _) (dis : _) (jnl : _) (pwm : _) (cells : _) (rdyLost : _) (hub : _) (flto : _) (flti : _) (lines : _) (out : _) (ringUp : _) (str : _) (snap : _) (snapLatched : _) (hkAt : _) (hkFrom : _) (hkPos : _) (ckpt : _) (pfw : _) (pend : _) (resp : _) (sessions : _) (locks : _) (seals : _) (sealing : _) (cfg : _) (ring : _) (spi : _) (power : _) (fw : _) (rwNext : _) (pxReady : _) :
    State.podBank (State.mk now fresh pending active shadow status pods ports buses pre dis jnl pwm cells rdyLost hub flto flti lines out ringUp str snap snapLatched hkAt hkFrom hkPos ckpt pfw pend resp sessions locks seals sealing cfg ring spi power fw rwNext pxReady) = pods := rfl

theorem podBank_fields (s : State) : s.pods = s.podBank :=
  rfl

@[simp] theorem ite_podBank (c : Prop) [Decidable c] (a b : State) : (if c then a else b).podBank = if c then a.podBank else b.podBank := by split <;> rfl

@[simp] theorem foldl_podBank {α : Type} (f : State → α → State) (h : ∀ s x, (f s x).podBank = s.podBank) (l : List α) (s : State) :
    (l.foldl f s).podBank = s.podBank := by
  induction l generalizing s with
  | nil => rfl
  | cons x r ih => simp only [List.foldl]; rw [ih, h]

theorem foldl_fst_podBank {α β : Type} (f : State × β → α → State × β) (h : ∀ r x, (f r x).1.podBank = r.1.podBank) (l : List α) (r : State × β) :
    (l.foldl f r).1.podBank = r.1.podBank := by
  induction l generalizing r with
  | nil => rfl
  | cons x l ih => simp only [List.foldl]; rw [ih, h]

theorem foldl_snd_podBank {α β : Type} (f : β × State → α → β × State) (h : ∀ r x, (f r x).2.podBank = r.2.podBank) (l : List α) (r : β × State) :
    (l.foldl f r).2.podBank = r.2.podBank := by
  induction l generalizing r with
  | nil => rfl
  | cons x l ih => simp only [List.foldl]; rw [ih, h]

@[simp] theorem State.updPort_podBank (s : State) (c : Chan) (f : Port → Port) : (State.updPort s c f).podBank = s.podBank := by
  unfold State.updPort; simp [podBank_fields]
@[simp] theorem State.updBus_podBank (s : State) (b : BusId) (f : Bus → Bus) : (State.updBus s b f).podBank = s.podBank := by
  unfold State.updBus; simp [podBank_fields]
@[simp] theorem State.updPre_podBank (s : State) (p : Quad) (f : Pre → Pre) : (State.updPre s p f).podBank = s.podBank := by
  unfold State.updPre; simp [podBank_fields]
@[simp] theorem State.updDis_podBank (s : State) (d : Quad) (f : Dis → Dis) : (State.updDis s d f).podBank = s.podBank := by
  unfold State.updDis; simp [podBank_fields]
@[simp] theorem State.forChans_podBank (s : State) (l : List Chan) (f : State → Chan → State) (h : ∀ s x, (f s x).podBank = s.podBank) : (State.forChans s l f).podBank = s.podBank := by
  unfold State.forChans; exact foldl_podBank f h l s
@[simp] theorem State.at_podBank (s : State) (t : Nat) : (State.at s t).podBank = s.podBank := by unfold State.at; simp [podBank_fields]
@[simp] theorem State.set_podBank (s : State) (o : Obj) (i : Nat) (v : Int) (k : Nat) : (State.set s o i v k).podBank = s.podBank := by
  unfold State.set; simp [podBank_fields]
@[simp] theorem State.count_podBank (s : State) (o : Obj) (i : Nat) (n : Nat) (k : Nat) : (State.count s o i n k).podBank = s.podBank := by
  unfold State.count; simp [podBank_fields]
@[simp] theorem State.count64_podBank (s : State) (o : Obj) (i : Nat) (n : Nat) : (State.count64 s o i n).podBank = s.podBank := by
  unfold State.count64; simp [podBank_fields]
@[simp] theorem State.take_podBank (s : State) : (State.take s).2.podBank = s.podBank := by unfold State.take; simp [podBank_fields]
@[simp] theorem State.irq_podBank (s : State) (bit : Nat) : (State.irq s bit).podBank = s.podBank := by
  unfold State.irq; simp [podBank_fields]
@[simp] theorem State.push_podBank (s : State) (x : Item) : (State.push s x).podBank = s.podBank := by
  unfold State.push; simp [podBank_fields]
@[simp] theorem State.pushOrDrop_podBank (s : State) (x : Item) : (State.pushOrDrop s x).podBank = s.podBank := by
  unfold State.pushOrDrop; simp [podBank_fields]
@[simp] theorem State.sendOn_podBank (s : State) (f : Frame) (ports : Nat) : (State.sendOn s f ports).podBank = s.podBank := by
  unfold State.sendOn; simp [podBank_fields]
@[simp] theorem State.sendOwn_podBank (s : State) (type seq dst : Nat) (payload : List Byte) : (State.sendOwn s type seq dst payload).podBank = s.podBank := by
  unfold State.sendOwn; simp [podBank_fields]
@[simp] theorem State.nextSeq_podBank (s : State) : (State.nextSeq s).podBank = s.podBank := by unfold State.nextSeq; simp [podBank_fields]
@[simp] theorem State.sendEvent_podBank (s : State) (r : JRec) : (State.sendEvent s r).podBank = s.podBank := by
  unfold State.sendEvent; simp [podBank_fields]
@[simp] theorem State.journalAt_podBank (s : State) (t kind : Nat) (src : JSrc) (code : Nat) (data : List (Nat × Nat)) (held : Bool) (clean : Bool) : (State.journalAt s t kind src code data held clean).podBank = s.podBank := by
  unfold State.journalAt; simp [podBank_fields]
@[simp] theorem State.journal_podBank (s : State) (kind : Nat) (src : JSrc) (code : Nat) (data : List (Nat × Nat)) : (State.journal s kind src code data).podBank = s.podBank := by
  unfold State.journal; simp [podBank_fields]
@[simp] theorem State.warn_podBank (s : State) (src : JSrc) (code : Nat) (data : List (Nat × Nat)) : (State.warn s src code data).podBank = s.podBank := by
  unfold State.warn; simp [podBank_fields]
@[simp] theorem State.updGen_podBank (s : State) (n : Oct) (f : Pwm → Pwm) : (State.updGen s n f).podBank = s.podBank := by
  unfold State.updGen; simp [podBank_fields]
@[simp] theorem State.updCell_podBank (s : State) (n : Oct) (f : Cell → Cell) : (State.updCell s n f).podBank = s.podBank := by
  unfold State.updCell; simp [podBank_fields]
@[simp] theorem State.pwmStop_podBank (s : State) (n : Oct) : (State.pwmStop s n).podBank = s.podBank := by
  unfold State.pwmStop; simp [podBank_fields]
@[simp] theorem State.uncount_podBank (s : State) (o : Obj) (i : Nat) : (State.uncount s o i).podBank = s.podBank := by
  unfold State.uncount; simp [podBank_fields]
@[simp] theorem State.untermed_podBank (s : State) (n : Oct) (t : Nat) : (State.untermed s n t).podBank = s.podBank := by
  unfold State.untermed; (try dsimp only); (repeat' split) <;> simp [podBank_fields]
@[simp] theorem State.pwmFault_podBank (s : State) (n : Oct) : (State.pwmFault s n).podBank = s.podBank := by
  unfold State.pwmFault; simp [podBank_fields]
@[simp] theorem State.faultSee_podBank (s : State) (n : Oct) : (State.faultSee s n).podBank = s.podBank := by
  unfold State.faultSee; simp [podBank_fields]
@[simp] theorem State.pwmFaults_podBank (s : State) : (State.pwmFaults s).podBank = s.podBank := by
  unfold State.pwmFaults; simp [podBank_fields]
@[simp] theorem State.mainEnds_podBank (s : State) (n : Oct) (t : Nat) : (State.mainEnds s n t).podBank = s.podBank := by
  unfold State.mainEnds; simp [podBank_fields]
@[simp] theorem State.mainStarts_podBank (s : State) (n : Oct) (t on p : Nat) (clipped : Bool) : (State.mainStarts s n t on p clipped).podBank = s.podBank := by
  unfold State.mainStarts; simp [podBank_fields]
@[simp] theorem State.period_podBank (s : State) (n : Oct) (t : Nat) (emit skip : State → State) (h1 : ∀ s, (emit s).podBank = s.podBank) (h2 : ∀ s, (skip s).podBank = s.podBank) : (State.period s n t emit skip).podBank = s.podBank := by
  unfold State.period; dsimp only; (repeat' split) <;> simp [podBank_fields, h1, h2]
@[simp] theorem State.pwmBoundary_podBank (s : State) (n : Oct) (t : Nat) (emit skip : State → State) (h1 : ∀ s, (emit s).podBank = s.podBank) (h2 : ∀ s, (skip s).podBank = s.podBank) : (State.pwmBoundary s n t emit skip).podBank = s.podBank := by
  unfold State.pwmBoundary; dsimp only; (repeat' split) <;> simp [podBank_fields, h1, h2]
@[simp] theorem State.pwmMid_podBank (s : State) (n : Oct) : (State.pwmMid s n).podBank = s.podBank := by
  unfold State.pwmMid; dsimp only; (repeat' split) <;> simp [podBank_fields]
@[simp] theorem State.pwmTerminate_podBank (s : State) (n : Oct) (t : Nat) : (State.pwmTerminate s n t).podBank = s.podBank := by
  unfold State.pwmTerminate; (try dsimp only); (repeat' split) <;> simp [podBank_fields]
@[simp] theorem State.cellOff_podBank (s : State) (n : Oct) : (State.cellOff s n).podBank = s.podBank := by
  unfold State.cellOff; simp [podBank_fields]
@[simp] theorem State.cmpCapture_podBank (s : State) (n : Oct) (active : Bool) (t : Nat) : (State.cmpCapture s n active t).podBank = s.podBank := by
  unfold State.cmpCapture; simp [podBank_fields]
@[simp] theorem State.cmpEvent_podBank (s : State) (n : Oct) (active : Bool) (t : Nat) : (State.cmpEvent s n active t).podBank = s.podBank := by
  unfold State.cmpEvent; simp [podBank_fields]
@[simp] theorem State.slowRoutes_podBank (s : State) (n : Oct) (active : Bool) (t : Nat) : (State.slowRoutes s n active t).podBank = s.podBank := by
  unfold State.slowRoutes; simp [podBank_fields]
@[simp] theorem State.termRoute_podBank (s : State) (n : Oct) (t : Nat) : (State.termRoute s n t).podBank = s.podBank := by
  unfold State.termRoute; simp [podBank_fields]
@[simp] theorem State.filtEdge_podBank (s : State) (n : Oct) (active : Bool) (t : Nat) : (State.filtEdge s n active t).podBank = s.podBank := by
  unfold State.filtEdge; simp [podBank_fields]
@[simp] theorem State.cellFilter_podBank (s : State) (n : Oct) (t : Nat) : (State.cellFilter s n t).podBank = s.podBank := by
  unfold State.cellFilter; (try dsimp only); (repeat' split) <;> simp [podBank_fields]
@[simp] theorem State.routesAct_podBank (s old : State) (t : Nat) : (State.routesAct s old t).podBank = s.podBank := by
  unfold State.routesAct; simp [podBank_fields]
@[simp] theorem State.cellOut_podBank (s : State) (n : Oct) (active : Bool) (t : Nat) : (State.cellOut s n active t).podBank = s.podBank := by
  unfold State.cellOut; simp [podBank_fields]
@[simp] theorem State.cellEdge_podBank (s : State) (n : Oct) (active : Bool) (t : Nat) : (State.cellEdge s n active t).podBank = s.podBank := by
  unfold State.cellEdge; simp [podBank_fields]
@[simp] theorem State.cellAt_podBank (s : State) (n : Oct) (active : Bool) (t : Nat) : (State.cellAt s n active t).podBank = s.podBank := by
  unfold State.cellAt; simp [podBank_fields]
theorem execHubCmpEdge_podBank (n : Oct) (active : Bool) (mid : Bool) (t : Nat) (s : State) : (stateOf s (execHubCmpEdge n active mid t s)).podBank = s.podBank := by
  unfold execHubCmpEdge; simp [podBank_fields]
@[simp] theorem State.testFail_podBank (s : State) (n : Oct) : (State.testFail s n).podBank = s.podBank := by
  unfold State.testFail; simp [podBank_fields]
@[simp] theorem State.testEnd_podBank (s : State) (n : Oct) (r : TestResult) : (State.testEnd s n r).podBank = s.podBank := by
  unfold State.testEnd; (try dsimp only); (repeat' split) <;> simp [podBank_fields]
theorem execCmpTestDone_podBank (n : Oct) (result : TestResult) (s : State) : (stateOf s (execCmpTestDone n result s)).podBank = s.podBank := by
  unfold execCmpTestDone; simp [podBank_fields]
@[simp] theorem State.selfMask_podBank (s : State) (n : Oct) : (State.selfMask s n).podBank = s.podBank := by
  unfold State.selfMask; simp [podBank_fields]
@[simp] theorem State.selfUnmask_podBank (s : State) (n : Oct) : (State.selfUnmask s n).podBank = s.podBank := by
  unfold State.selfUnmask; (try dsimp only); (repeat' split) <;> simp [podBank_fields]
@[simp] theorem State.testAbort_podBank (s : State) (n : Oct) : (State.testAbort s n).podBank = s.podBank := by
  unfold State.testAbort; simp [podBank_fields]
@[simp] theorem State.down_podBank (s : State) (c : Chan) (f : CmdFrame → CmdFrame) : (State.down s c f).podBank = s.podBank := by
  unfold State.down; simp [podBank_fields]
@[simp] theorem State.tripBy_podBank (s : State) (c : Chan) (k : Cause) : (State.tripBy s c k).podBank = s.podBank := by
  unfold State.tripBy; simp [podBank_fields]
@[simp] theorem State.offBy_podBank (s : State) (c : Chan) : (State.offBy s c).podBank = s.podBank := by
  unfold State.offBy; simp [podBank_fields]
@[simp] theorem State.preRun_podBank (s : State) (p : Quad) : (State.preRun s p).podBank = s.podBank := by
  unfold State.preRun; simp [podBank_fields]
@[simp] theorem State.preQuiet_podBank (s : State) (p : Quad) : (State.preQuiet s p).podBank = s.podBank := by
  unfold State.preQuiet; simp [podBank_fields]
@[simp] theorem State.preFeedActs_podBank (s : State) (p : Quad) (ev : PreStatus) : (State.preFeedActs s p ev).podBank = s.podBank := by
  unfold State.preFeedActs; (try dsimp only); (repeat' split) <;> simp [podBank_fields]
@[simp] theorem State.preStop_podBank (s : State) (p : Quad) (ev : PreStatus) : (State.preStop s p ev).podBank = s.podBank := by
  unfold State.preStop; simp [podBank_fields]
@[simp] theorem State.preStopOn_podBank (s : State) (p : Quad) (ev : List PreStatus) : (State.preStopOn s p ev).podBank = s.podBank := by
  unfold State.preStopOn; (try dsimp only); (repeat' split) <;> simp [podBank_fields]
@[simp] theorem State.preSelftest_podBank (s : State) (p : Quad) : (State.preSelftest s p).podBank = s.podBank := by
  unfold State.preSelftest; simp [podBank_fields]
@[simp] theorem State.preCharge_podBank (s : State) (p : Quad) : (State.preCharge s p).podBank = s.podBank := by
  unfold State.preCharge; simp [podBank_fields]
@[simp] theorem State.preQualify_podBank (s : State) (p : Quad) : (State.preQualify s p).podBank = s.podBank := by
  unfold State.preQualify; simp [podBank_fields]
@[simp] theorem State.preBegin_podBank (s : State) (p : Quad) : (State.preBegin s p).podBank = s.podBank := by
  unfold State.preBegin; simp [podBank_fields]
@[simp] theorem State.prePause_podBank (s : State) (p : Quad) : (State.prePause s p).podBank = s.podBank := by
  unfold State.prePause; simp [podBank_fields]
@[simp] theorem State.preFeedOn_podBank (s : State) (c : Chan) : (State.preFeedOn s c).podBank = s.podBank := by
  unfold State.preFeedOn; simp [podBank_fields]
@[simp] theorem State.preWindow_podBank (s : State) (p : Quad) : (State.preWindow s p).podBank = s.podBank := by
  unfold State.preWindow; simp [podBank_fields]
theorem execPrechargeSelftestDone_podBank (p : Quad) (passed : Bool) (ready : Bool) (s : State) : (stateOf s (execPrechargeSelftestDone p passed ready s)).podBank = s.podBank := by
  unfold execPrechargeSelftestDone; simp [podBank_fields]
theorem execPrechargeResume_podBank (p : Quad) (s : State) : (stateOf s (execPrechargeResume p s)).podBank = s.podBank := by
  unfold execPrechargeResume; simp [podBank_fields]
theorem execPauseLimit_podBank (p : Quad) (s : State) : (stateOf s (execPauseLimit p s)).podBank = s.podBank := by
  unfold execPauseLimit; simp [podBank_fields]
@[simp] theorem State.preHandover_podBank (s : State) (p : Quad) : (State.preHandover s p).podBank = s.podBank := by
  unfold State.preHandover; (try dsimp only); (repeat' split) <;> simp [podBank_fields]
theorem execPrechargeClose_podBank (p : Quad) (s : State) : (stateOf s (execPrechargeClose p s)).podBank = s.podBank := by
  unfold execPrechargeClose; simp [podBank_fields]
theorem execNoProgress_podBank (p : Quad) (s : State) : (stateOf s (execNoProgress p s)).podBank = s.podBank := by
  unfold execNoProgress; simp [podBank_fields]
theorem execPrechargeTimeLimit_podBank (p : Quad) (s : State) : (stateOf s (execPrechargeTimeLimit p s)).podBank = s.podBank := by
  unfold execPrechargeTimeLimit; simp [podBank_fields]
theorem execCloseLimit_podBank (p : Quad) (s : State) : (stateOf s (execCloseLimit p s)).podBank = s.podBank := by
  unfold execCloseLimit; simp [podBank_fields]
@[simp] theorem State.preEmit_podBank (s : State) (n : Oct) : (State.preEmit s n).podBank = s.podBank := by
  unfold State.preEmit; (try dsimp only); (repeat' split) <;> simp [podBank_fields]
@[simp] theorem State.preSkip_podBank (s : State) (n : Oct) : (State.preSkip s n).podBank = s.podBank := by
  unfold State.preSkip; (try dsimp only); (repeat' split) <;> simp [podBank_fields]
@[simp] theorem State.refresh_podBank (s : State) (n : Oct) (t : Nat) : (State.refresh s n t).podBank = s.podBank := by
  unfold State.refresh; simp [podBank_fields]
theorem execPwmPeriodBoundary_podBank (n : Oct) (rdy : Nat) (s : State) : (stateOf s (execPwmPeriodBoundary n rdy s)).podBank = s.podBank := by
  unfold execPwmPeriodBoundary; dsimp only; (repeat' split) <;> simp [podBank_fields]
theorem execPwmMidperiodReload_podBank (n : Oct) (s : State) : (stateOf s (execPwmMidperiodReload n s)).podBank = s.podBank := by
  unfold execPwmMidperiodReload; simp [podBank_fields]
@[simp] theorem State.missedTrip_podBank (s : State) (n : Oct) : (State.missedTrip s n).podBank = s.podBank := by
  unfold State.missedTrip; (try dsimp only); (repeat' split) <;> simp [podBank_fields]
theorem execPwmPulseEnd_podBank (n : Oct) (s : State) : (stateOf s (execPwmPulseEnd n s)).podBank = s.podBank := by
  unfold execPwmPulseEnd; dsimp only; (repeat' split) <;> simp [podBank_fields]
theorem execPwmDeadTimeEnd_podBank (n : Oct) (s : State) : (stateOf s (execPwmDeadTimeEnd n s)).podBank = s.podBank := by
  unfold execPwmDeadTimeEnd; (try dsimp only); (repeat' split) <;> simp [podBank_fields]
@[simp] theorem State.disDuty_podBank (s : State) (d : Quad) (v : Int) : (State.disDuty s d v).podBank = s.podBank := by
  unfold State.disDuty; simp [podBank_fields]
@[simp] theorem State.disQuiet_podBank (s : State) (d : Quad) : (State.disQuiet s d).podBank = s.podBank := by
  unfold State.disQuiet; simp [podBank_fields]
@[simp] theorem State.disWait_podBank (s : State) (d : Quad) (r : DisStatus) : (State.disWait s d r).podBank = s.podBank := by
  unfold State.disWait; simp [podBank_fields]
@[simp] theorem State.disStop_podBank (s : State) (d : Quad) (r : DisStatus) : (State.disStop s d r).podBank = s.podBank := by
  unfold State.disStop; simp [podBank_fields]
theorem execDischargeRun_podBank (d : Quad) (s : State) : (stateOf s (execDischargeRun d s)).podBank = s.podBank := by
  unfold execDischargeRun; (try dsimp only); (repeat' split) <;> simp [podBank_fields]
theorem execChopperResume_podBank (d : Quad) (s : State) : (stateOf s (execChopperResume d s)).podBank = s.podBank := by
  unfold execChopperResume; simp [podBank_fields]
theorem execDischargeDone_podBank (d : Quad) (s : State) : (stateOf s (execDischargeDone d s)).podBank = s.podBank := by
  unfold execDischargeDone; (try dsimp only); (repeat' split) <;> simp [podBank_fields]
theorem execEnergyLimit_podBank (d : Quad) (s : State) : (stateOf s (execEnergyLimit d s)).podBank = s.podBank := by
  unfold execEnergyLimit; simp [podBank_fields]
theorem execDischargeTimeLimit_podBank (d : Quad) (s : State) : (stateOf s (execDischargeTimeLimit d s)).podBank = s.podBank := by
  unfold execDischargeTimeLimit; (try dsimp only); (repeat' split) <;> simp [podBank_fields]
@[simp] theorem State.readyLoss_podBank (s : State) (n : Oct) : (State.readyLoss s n).podBank = s.podBank := by
  unfold State.readyLoss; dsimp only; (repeat' split) <;> simp [podBank_fields]
theorem execDriverReadyLoss_podBank (n : Oct) (back : Bool) (s : State) : (stateOf s (execDriverReadyLoss n back s)).podBank = s.podBank := by
  unfold execDriverReadyLoss; simp [podBank_fields]
@[simp] theorem State.xferEnd_podBank (s : State) (b : BusId) : (State.xferEnd s b).podBank = s.podBank := by
  unfold State.xferEnd; simp [podBank_fields]
@[simp] theorem State.xferFailed_podBank (s : State) (b : BusId) : (State.xferFailed s b).podBank = s.podBank := by
  unfold State.xferFailed; simp [podBank_fields]
@[simp] theorem State.branchesOff_podBank (s : State) (b : BusId) : (State.branchesOff s b).podBank = s.podBank := by
  unfold State.branchesOff; simp [podBank_fields]
@[simp] theorem State.xferChoose_podBank (s : State) (b : BusId) (new : Chan) : (State.xferChoose s b new).podBank = s.podBank := by
  unfold State.xferChoose; simp [podBank_fields]
@[simp] theorem State.xferKeep_podBank (s : State) (b : BusId) : (State.xferKeep s b).podBank = s.podBank := by
  unfold State.xferKeep; simp [podBank_fields]
@[simp] theorem State.xferStart_podBank (s : State) (b : BusId) (old : Chan) (dest : Option Chan) : (State.xferStart s b old dest).podBank = s.podBank := by
  unfold State.xferStart; dsimp only; (repeat' split) <;> simp [podBank_fields]
@[simp] theorem State.xferNext_podBank (s : State) (b : BusId) : (State.xferNext s b).podBank = s.podBank := by
  unfold State.xferNext; dsimp only; (repeat' split) <;> simp [podBank_fields]
@[simp] theorem State.xferComplete_podBank (s : State) (b : BusId) : (State.xferComplete s b).podBank = s.podBank := by
  unfold State.xferComplete; simp [podBank_fields]
@[simp] theorem State.feedOn_podBank (s : State) (c : Chan) : (State.feedOn s c).podBank = s.podBank := by
  unfold State.feedOn; simp [podBank_fields]
@[simp] theorem State.noFeed_podBank (s : State) (b : BusId) : (State.noFeed s b).podBank = s.podBank := by
  unfold State.noFeed; simp [podBank_fields]
theorem execSourceLoss_podBank (b : BusId) (s : State) : (stateOf s (execSourceLoss b s)).podBank = s.podBank := by
  unfold execSourceLoss; (try dsimp only); (repeat' split) <;> simp [podBank_fields]
theorem execRevertDue_podBank (b : BusId) (s : State) : (stateOf s (execRevertDue b s)).podBank = s.podBank := by
  unfold execRevertDue; (try dsimp only); (repeat' split) <;> simp [podBank_fields]
theorem execTransferMake_podBank (b : BusId) (s : State) : (stateOf s (execTransferMake b s)).podBank = s.podBank := by
  unfold execTransferMake; (try dsimp only); (repeat' split) <;> simp [podBank_fields]
theorem execTransferTimeout_podBank (b : BusId) (s : State) : (stateOf s (execTransferTimeout b s)).podBank = s.podBank := by
  unfold execTransferTimeout; (try dsimp only); (repeat' split) <;> simp [podBank_fields]
@[simp] theorem State.updFlto_podBank (s : State) (x : AB) (f : Flto → Flto) : (State.updFlto s x f).podBank = s.podBank := by
  unfold State.updFlto; simp [podBank_fields]
@[simp] theorem State.updLine_podBank (s : State) (l : Quad) (f : RLine → RLine) : (State.updLine s l f).podBank = s.podBank := by
  unfold State.updLine; simp [podBank_fields]
@[simp] theorem State.fltoOne_podBank (s : State) (x : AB) : (State.fltoOne s x).podBank = s.podBank := by
  unfold State.fltoOne; simp [podBank_fields]
@[simp] theorem State.fltoEval_podBank (s : State) : (State.fltoEval s).podBank = s.podBank := by
  unfold State.fltoEval; simp [podBank_fields]
theorem execFltoMinWidthEnd_podBank (x : AB) (s : State) : (stateOf s (execFltoMinWidthEnd x s)).podBank = s.podBank := by
  unfold execFltoMinWidthEnd; simp [podBank_fields]
@[simp] theorem State.sendToken_podBank (s : State) (l : Quad) (hops but t : Nat) : (State.sendToken s l hops but t).podBank = s.podBank := by
  unfold State.sendToken; simp [podBank_fields]
@[simp] theorem State.ownToken_podBank (s : State) (l : Quad) : (State.ownToken s l).podBank = s.podBank := by
  unfold State.ownToken; simp [podBank_fields]
@[simp] theorem State.lineSeen_podBank (s : State) (l : Quad) (t : Nat) : (State.lineSeen s l t).podBank = s.podBank := by
  unfold State.lineSeen; simp [podBank_fields]
@[simp] theorem State.sendFault_podBank (s : State) (l : Quad) (start : Bool) : (State.sendFault s l start).podBank = s.podBank := by
  unfold State.sendFault; simp [podBank_fields]
@[simp] theorem State.lineStart_podBank (s : State) (l : Quad) : (State.lineStart s l).podBank = s.podBank := by
  unfold State.lineStart; simp [podBank_fields]
@[simp] theorem State.lineStop_podBank (s : State) (l : Quad) : (State.lineStop s l).podBank = s.podBank := by
  unfold State.lineStop; simp [podBank_fields]
@[simp] theorem State.lineEval_podBank (s : State) : (State.lineEval s).podBank = s.podBank := by
  unfold State.lineEval; simp [podBank_fields]
@[simp] theorem State.linePulse_podBank (s : State) (l : Quad) : (State.linePulse s l).podBank = s.podBank := by
  unfold State.linePulse; simp [podBank_fields]
@[simp] theorem State.pulses_podBank (s : State) (hit : State → Quad → Bool) : (State.pulses s hit).podBank = s.podBank := by
  unfold State.pulses; simp [podBank_fields]
@[simp] theorem State.pulseTrip_podBank (s : State) (c : Chan) (set : Nat) : (State.pulseTrip s c set).podBank = s.podBank := by
  unfold State.pulseTrip; simp [podBank_fields]
@[simp] theorem State.evalLines_podBank (s : State) : (State.evalLines s).podBank = s.podBank := by
  unfold State.evalLines; simp [podBank_fields]
theorem execFaultTokenRepeat_podBank (l : Quad) (s : State) : (stateOf s (execFaultTokenRepeat l s)).podBank = s.podBank := by
  unfold execFaultTokenRepeat; (try dsimp only); (repeat' split) <;> simp [podBank_fields]
theorem execFaultPulseEnd_podBank (l : Quad) (s : State) : (stateOf s (execFaultPulseEnd l s)).podBank = s.podBank := by
  unfold execFaultPulseEnd; (try dsimp only); (repeat' split) <;> simp [podBank_fields]
theorem execFaultViewRelease_podBank (l : Quad) (s : State) : (stateOf s (execFaultViewRelease l s)).podBank = s.podBank := by
  unfold execFaultViewRelease; simp [podBank_fields]
theorem execFaultToken_podBank (k : KPort) (b : Byte) (t : Nat) (s : State) : (stateOf s (execFaultToken k b t s)).podBank = s.podBank := by
  unfold execFaultToken; dsimp only; (repeat' split) <;> simp [podBank_fields]
theorem execFltiAssert_podBank (x : AB) (since : Nat) (t : Nat) (s : State) : (stateOf s (execFltiAssert x since t s)).podBank = s.podBank := by
  unfold execFltiAssert; simp [podBank_fields]
theorem execFltiRelease_podBank (x : AB) (s : State) : (stateOf s (execFltiRelease x s)).podBank = s.podBank := by
  unfold execFltiRelease; simp [podBank_fields]
@[simp] theorem State.armRetry_podBank (s : State) (c : Chan) : (State.armRetry s c).podBank = s.podBank := by
  unfold State.armRetry; simp [podBank_fields]
@[simp] theorem State.tripNew_podBank (s : State) (c : Chan) (r : PodTrip) (ch : ChState) (held : Bool) : (State.tripNew s c r ch held).podBank = s.podBank := by
  unfold State.tripNew; simp [podBank_fields]
@[simp] theorem State.tripMore_podBank (s : State) (c : Chan) (r : PodTrip) (ch : ChState) : (State.tripMore s c r ch).podBank = s.podBank := by
  unfold State.tripMore; simp [podBank_fields]
@[simp] theorem State.noteSeen_podBank (s : State) (c : Chan) (v : PodStatus) (held : Bool) : (State.noteSeen s c v held).podBank = s.podBank := by
  unfold State.noteSeen; exact foldl_podBank _ (fun s e => by simp [podBank_fields]) _ _
@[simp] theorem State.tripSeen_podBank (s : State) (c : Chan) (v : PodStatus) (held : Bool) : (State.tripSeen s c v held).podBank = s.podBank := by
  unfold State.tripSeen; simp [podBank_fields]
theorem execRetryCountReset_podBank (c : Chan) (s : State) : (stateOf s (execRetryCountReset c s)).podBank = s.podBank := by
  unfold execRetryCountReset; dsimp only; (repeat' split) <;> simp [podBank_fields]
@[simp] theorem State.latchGone_podBank (s : State) (c : Chan) : (State.latchGone s c).podBank = s.podBank := by
  unfold State.latchGone; simp [podBank_fields]
@[simp] theorem State.disable_podBank (s : State) (c : Chan) : (State.disable s c).podBank = s.podBank := by
  unfold State.disable; simp [podBank_fields]
theorem execCoolDownEnd_podBank (c : Chan) (s : State) : (stateOf s (execCoolDownEnd c s)).podBank = s.podBank := by
  unfold execCoolDownEnd; (try dsimp only); (repeat' split) <;> simp [podBank_fields]
@[simp] theorem State.unheard_podBank (s : State) (c : Chan) : (State.unheard s c).podBank = s.podBank := by
  unfold State.unheard; simp [podBank_fields]
@[simp] theorem State.seatTimer_podBank (s : State) (c : Chan) (t : Nat) : (State.seatTimer s c t).podBank = s.podBank := by
  unfold State.seatTimer; simp [podBank_fields]
@[simp] theorem State.removed_podBank (s : State) (c : Chan) : (State.removed s c).podBank = s.podBank := by
  unfold State.removed; simp [podBank_fields]
theorem execRemovalConfirmed_podBank (c : Chan) (s : State) : (stateOf s (execRemovalConfirmed c s)).podBank = s.podBank := by
  unfold execRemovalConfirmed; (try dsimp only); (repeat' split) <;> simp [podBank_fields]
theorem execReseatGuardExpiry_podBank (c : Chan) (s : State) : (stateOf s (execReseatGuardExpiry c s)).podBank = s.podBank := by
  unfold execReseatGuardExpiry; dsimp only; (repeat' split) <;> simp [podBank_fields]
@[simp] theorem State.busFault_podBank (s : State) (b : BusId) (first : Chan) : (State.busFault s b first).podBank = s.podBank := by
  unfold State.busFault; simp [podBank_fields]
theorem execBusFaultClassify_podBank (b : BusId) (s : State) : (stateOf s (execBusFaultClassify b s)).podBank = s.podBank := by
  unfold execBusFaultClassify; (try dsimp only); (repeat' split) <;> simp [podBank_fields]
@[simp] theorem State.rebuildBus_podBank (s : State) (b : BusId) : (State.rebuildBus s b).podBank = s.podBank := by
  unfold State.rebuildBus; simp [podBank_fields]
@[simp] theorem State.rebuildPre_podBank (s : State) (c : Chan) : (State.rebuildPre s c).podBank = s.podBank := by
  unfold State.rebuildPre; simp [podBank_fields]
@[simp] theorem State.rebuild_podBank (s : State) (c : Chan) : (State.rebuild s c).podBank = s.podBank := by
  unfold State.rebuild; (try dsimp only); (repeat' split) <;> simp [podBank_fields]
@[simp] theorem State.ownership_podBank (s : State) (c : Chan) (code epoch : Nat) : (State.ownership s c code epoch).podBank = s.podBank := by
  unfold State.ownership; simp [podBank_fields]
@[simp] theorem State.claim_podBank (s : State) (c : Chan) (epoch : Nat) : (State.claim s c epoch).podBank = s.podBank := by
  unfold State.claim; simp [podBank_fields]
@[simp] theorem State.claimHeld_podBank (s : State) (c : Chan) (epoch : Nat) : (State.claimHeld s c epoch).podBank = s.podBank := by
  unfold State.claimHeld; simp [podBank_fields]
@[simp] theorem State.claimGroup_podBank (s : State) (c : Chan) (epoch : Nat) : (State.claimGroup s c epoch).podBank = s.podBank := by
  unfold State.claimGroup; (try dsimp only); (repeat' split) <;> simp [podBank_fields]
@[simp] theorem State.standby_podBank (s : State) (c : Chan) : (State.standby s c).podBank = s.podBank := by
  unfold State.standby; simp [podBank_fields]
@[simp] theorem State.standbyGroup_podBank (s : State) (c : Chan) : (State.standbyGroup s c).podBank = s.podBank := by
  unfold State.standbyGroup; dsimp only; (repeat' split) <;> simp [podBank_fields]
@[simp] theorem State.yield_podBank (s : State) (c : Chan) (epoch : Nat) : (State.yield s c epoch).podBank = s.podBank := by
  unfold State.yield; simp [podBank_fields]
@[simp] theorem State.ownSeen_podBank (s : State) (c : Chan) (old v : PodStatus) : (State.ownSeen s c old v).podBank = s.podBank := by
  unfold State.ownSeen; simp [podBank_fields]
theorem execOwnerlessClaim_podBank (c : Chan) (s : State) : (stateOf s (execOwnerlessClaim c s)).podBank = s.podBank := by
  unfold execOwnerlessClaim; (try dsimp only); (repeat' split) <;> simp [podBank_fields]
theorem execMoveReclaim_podBank (s : State) : (stateOf s (execMoveReclaim s)).podBank = s.podBank := by
  unfold execMoveReclaim; rw [stateOf_next]; exact foldl_podBank _ (fun s x => by (repeat' split) <;> simp [podBank_fields]) _ _
@[simp] theorem State.addRise_podBank (s : State) (o : Obj) (i old new : Nat) : (State.addRise s o i old new).podBank = s.podBank := by
  unfold State.addRise; simp [podBank_fields]
@[simp] theorem State.countsSeen_podBank (s : State) (c : Chan) (a b : PodCounts) : (State.countsSeen s c a b).podBank = s.podBank := by
  unfold State.countsSeen; dsimp only; (repeat' split) <;> simp [podBank_fields]
@[simp] theorem State.warningsSeen_podBank (s : State) (c : Chan) (old v : PodStatus) : (State.warningsSeen s c old v).podBank = s.podBank := by
  unfold State.warningsSeen; simp [podBank_fields]
@[simp] theorem State.tells_podBank (s : State) (c : Chan) (old v : PodStatus) : (State.tells s c old v).podBank = s.podBank := by
  unfold State.tells; simp [podBank_fields]
@[simp] theorem State.seatSeen_podBank (s : State) (c : Chan) (old v : PodStatus) : (State.seatSeen s c old v).podBank = s.podBank := by
  unfold State.seatSeen; dsimp only; (repeat' split) <;> simp [podBank_fields]
@[simp] theorem State.tripOver_podBank (s : State) (c : Chan) (v : PodStatus) : (State.tripOver s c v).podBank = s.podBank := by
  unfold State.tripOver; simp [podBank_fields]
@[simp] theorem State.statusIn_podBank (s : State) (c : Chan) (v : PodStatus) : (State.statusIn s c v).podBank = s.podBank := by
  unfold State.statusIn; simp [podBank_fields]
theorem execStatusFrameReceived_podBank (c : Chan) (crcOk : Bool) (s : State) : (stateOf s (execStatusFrameReceived c crcOk s)).podBank = s.podBank := by
  unfold execStatusFrameReceived; simp [podBank_fields]
@[simp] theorem State.linkLost_podBank (s : State) (c : Chan) : (State.linkLost s c).podBank = s.podBank := by
  unfold State.linkLost; simp [podBank_fields]
@[simp] theorem State.missed_podBank (s : State) (c : Chan) : (State.missed s c).podBank = s.podBank := by
  unfold State.missed; simp [podBank_fields]
theorem execPodLinkDown_podBank (c : Chan) (s : State) : (stateOf s (execPodLinkDown c s)).podBank = s.podBank := by
  unfold execPodLinkDown; simp [podBank_fields]
@[simp] theorem State.hkPut_podBank (s : State) (i sum : Nat) : (State.hkPut s i sum).podBank = s.podBank := by
  unfold State.hkPut; simp [podBank_fields]
@[simp] theorem State.hkMean_podBank (s : State) (i : Nat) (codes : List Raw) : (State.hkMean s i codes).podBank = s.podBank := by
  unfold State.hkMean; simp [podBank_fields]
theorem execHkMeanUpdate_podBank (inp : Nat) (codes : List Raw) (s : State) : (stateOf s (execHkMeanUpdate inp codes s)).podBank = s.podBank := by
  unfold execHkMeanUpdate; simp [podBank_fields]
theorem execHkSleepBurst_podBank (codes : List (List Raw)) (s : State) : (stateOf s (execHkSleepBurst codes s)).podBank = s.podBank := by
  unfold execHkSleepBurst; dsimp only; split
  · simp only [stateOf_next]; rw [foldl_podBank _ (fun s x => by simp [podBank_fields])]; simp [podBank_fields]
  · rfl
theorem execMeteringTransferReceived_podBank (c : Chan) (crcOk : Bool) (s : State) : (stateOf s (execMeteringTransferReceived c crcOk s)).podBank = s.podBank := by
  unfold execMeteringTransferReceived; simp [podBank_fields]
@[simp] theorem State.snapBlock_podBank (s : State) (c : Chan) : (State.snapBlock s c).podBank = s.podBank := by
  unfold State.snapBlock; simp [podBank_fields]
theorem execSnapshotDone_podBank (s : State) : (stateOf s (execSnapshotDone s)).podBank = s.podBank := by
  unfold execSnapshotDone; dsimp only; (repeat' split) <;> simp [podBank_fields]
@[simp] theorem State.latch_podBank (s : State) : (State.latch s).podBank = s.podBank := by unfold State.latch; simp [podBank_fields]
@[simp] theorem State.clearsDone_podBank (s : State) : (State.clearsDone s).podBank = s.podBank := by
  unfold State.clearsDone; simp [podBank_fields]
@[simp] theorem State.sealed_podBank (s : State) : (State.sealed s).podBank = s.podBank := by unfold State.sealed; simp [podBank_fields]
theorem execCheckpointWritten_podBank (ok : Bool) (s : State) : (stateOf s (execCheckpointWritten ok s)).podBank = s.podBank := by
  unfold execCheckpointWritten; dsimp only; (repeat' split) <;> simp [podBank_fields]
@[simp] theorem State.shareStep_podBank (s : State) (b : BusId) (x y : Chan) (ix iy : Int) : (State.shareStep s b x y ix iy).podBank = s.podBank := by
  unfold State.shareStep; simp [podBank_fields]
theorem execOringShareStep_podBank (b : BusId) (s : State) : (stateOf s (execOringShareStep b s)).podBank = s.podBank := by
  unfold execOringShareStep; (try dsimp only); (repeat' split) <;> simp [podBank_fields]
theorem execOringBlocked_podBank (b : BusId) (s : State) : (stateOf s (execOringBlocked b s)).podBank = s.podBank := by
  unfold execOringBlocked; (try dsimp only); (repeat' split) <;> simp [podBank_fields]
@[simp] theorem State.codeErrs_podBank (s : State) (n : Nat) : (State.codeErrs s n).podBank = s.podBank := by
  unfold State.codeErrs; simp [podBank_fields]
@[simp] theorem State.take__podBank (s : State) (k : KPort) (f : Frame) (act : State → State) (h : ∀ s, (act s).podBank = s.podBank) : (State.take_ s k f act).podBank = s.podBank := by
  unfold State.take_; (repeat' split) <;> simp [podBank_fields, h]
theorem execCutThroughForward_podBank (k : KPort) (f : Frame) (t : Nat) (residence : Nat) (s : State) : (stateOf s (execCutThroughForward k f t residence s)).podBank = s.podBank := by
  unfold execCutThroughForward; simp [podBank_fields]
@[simp] theorem State.report_podBank (s : State) (reason : Nat) : (State.report s reason).podBank = s.podBank := by
  unfold State.report; simp [podBank_fields]
@[simp] theorem State.enumerate_podBank (s : State) : (State.enumerate s).podBank = s.podBank := by
  unfold State.enumerate; simp [podBank_fields]
theorem execDiscover_podBank (k : KPort) (f : Frame) (s : State) : (stateOf s (execDiscover k f s)).podBank = s.podBank := by
  unfold execDiscover; rw [stateOf_next, State.take__podBank]; intro s; (try dsimp only); (repeat' split) <;> simp [podBank_fields]
@[simp] theorem State.giveAddr_podBank (s : State) (uid : Nat) : (State.giveAddr s uid).2.podBank = s.podBank := by
  unfold State.giveAddr; dsimp only; (repeat' split) <;> simp [podBank_fields]
@[simp] theorem State.assign_podBank (s : State) (uid : Nat) : (State.assign s uid).podBank = s.podBank := by
  unfold State.assign; simp [podBank_fields]
@[simp] theorem State.reported_podBank (s : State) (e : MapEntry) : (State.reported s e).podBank = s.podBank := by
  unfold State.reported; dsimp only; (repeat' split) <;> simp [podBank_fields]
theorem execReport_podBank (k : KPort) (f : Frame) (s : State) : (stateOf s (execReport k f s)).podBank = s.podBank := by
  unfold execReport; rw [stateOf_next, State.take__podBank]; intro s; (try dsimp only); (repeat' split) <;> simp [podBank_fields]
theorem execAssign_podBank (k : KPort) (f : Frame) (s : State) : (stateOf s (execAssign k f s)).podBank = s.podBank := by
  unfold execAssign; rw [stateOf_next, State.take__podBank]; intro s; (try dsimp only); (repeat' split) <;> simp [podBank_fields]
theorem execDone_podBank (k : KPort) (f : Frame) (s : State) : (stateOf s (execDone k f s)).podBank = s.podBank := by
  unfold execDone; rw [stateOf_next, State.take__podBank]; intro s; (try dsimp only); (repeat' split) <;> simp [podBank_fields]
@[simp] theorem State.sendRehome_podBank (s : State) (k : KPort) (hops : Nat) : (State.sendRehome s k hops).podBank = s.podBank := by
  unfold State.sendRehome; simp [podBank_fields]
@[simp] theorem State.rehome_podBank (s : State) (k : KPort) (hops : Nat) : (State.rehome s k hops).podBank = s.podBank := by
  unfold State.rehome; simp [podBank_fields]
@[simp] theorem State.linkChange_podBank (s : State) (k : KPort) (up : Bool) : (State.linkChange s k up).podBank = s.podBank := by
  unfold State.linkChange; simp [podBank_fields]
theorem execRingLinkDown_podBank (k : KPort) (violations : Nat) (s : State) : (stateOf s (execRingLinkDown k violations s)).podBank = s.podBank := by
  unfold execRingLinkDown; simp [podBank_fields]
@[simp] theorem State.broken_podBank (s : State) : (State.broken s).podBank = s.podBank := by unfold State.broken; simp [podBank_fields]
theorem execRehome_podBank (k : KPort) (b : Byte) (s : State) : (stateOf s (execRehome k b s)).podBank = s.podBank := by
  unfold execRehome; simp [podBank_fields]
theorem execEventFrame_podBank (k : KPort) (f : Frame) (s : State) : (stateOf s (execEventFrame k f s)).podBank = s.podBank := by
  unfold execEventFrame; rw [stateOf_next, State.take__podBank]; intro s; (try dsimp only); (repeat' split) <;> simp [podBank_fields]
theorem execFaultFrame_podBank (k : KPort) (f : Frame) (s : State) : (stateOf s (execFaultFrame k f s)).podBank = s.podBank := by
  unfold execFaultFrame; rw [stateOf_next, State.take__podBank]; intro s; (try dsimp only); (repeat' split) <;> simp [podBank_fields]
@[simp] theorem State.timeState_podBank (s : State) (v : Nat) : (State.timeState s v).podBank = s.podBank := by
  unfold State.timeState; simp [podBank_fields]
theorem execSyncPeriod_podBank (s : State) : (stateOf s (execSyncPeriod s)).podBank = s.podBank := by
  unfold execSyncPeriod; simp [podBank_fields]
theorem execTimeHoldover_podBank (s : State) : (stateOf s (execTimeHoldover s)).podBank = s.podBank := by
  unfold execTimeHoldover; simp [podBank_fields]
@[simp] theorem State.sendLocal_podBank (s : State) (k : KPort) (payload : List Byte) : (State.sendLocal s k payload).podBank = s.podBank := by
  unfold State.sendLocal; simp [podBank_fields]
theorem execDelayReq_podBank (k : KPort) (f : Frame) (turn : Nat) (s : State) : (stateOf s (execDelayReq k f turn s)).podBank = s.podBank := by
  unfold execDelayReq; rw [stateOf_next, State.take__podBank]; intro s; (try dsimp only); (repeat' split) <;> simp [podBank_fields]
theorem execDelayResp_podBank (k : KPort) (f : Frame) (t : Nat) (s : State) : (stateOf s (execDelayResp k f t s)).podBank = s.podBank := by
  unfold execDelayResp; rw [stateOf_next, State.take__podBank]; intro s; (try dsimp only); (repeat' split) <;> simp [podBank_fields]
theorem execDelayExchangePeriod_podBank (s : State) : (stateOf s (execDelayExchangePeriod s)).podBank = s.podBank := by
  unfold execDelayExchangePeriod; simp [podBank_fields]
@[simp] theorem State.answer_podBank (s : State) (q : Req) (a : Answer) : (State.answer s q a).podBank = s.podBank := by
  unfold State.answer; dsimp only; (repeat' split) <;> simp [podBank_fields]
@[simp] theorem State.enqueue_podBank (s : State) (r : StrRec) : (State.enqueue s r).podBank = s.podBank := by
  unfold State.enqueue; simp [podBank_fields]
@[simp] theorem State.dropRecord_podBank (s : State) (r : StrRec) : (State.dropRecord s r).podBank = s.podBank := by
  unfold State.dropRecord; simp [podBank_fields]
theorem execStreamRecord_podBank (s : State) : (stateOf s (execStreamRecord s)).podBank = s.podBank := by
  unfold execStreamRecord; dsimp only; (repeat' split) <;> simp [podBank_fields]
theorem execBlockSend_podBank (s : State) : (stateOf s (execBlockSend s)).podBank = s.podBank := by
  unfold execBlockSend; simp [podBank_fields]
theorem execStreamFlush_podBank (s : State) : (stateOf s (execStreamFlush s)).podBank = s.podBank := by
  unfold execStreamFlush; dsimp only; (repeat' split) <;> simp [podBank_fields]
theorem execReadyHighEnd_podBank (ns : Nat) (s : State) : (stateOf s (execReadyHighEnd ns s)).podBank = s.podBank := by
  unfold execReadyHighEnd; simp [podBank_fields]
@[simp] theorem State.strHalt_podBank (s : State) : (State.strHalt s).podBank = s.podBank := by unfold State.strHalt; simp [podBank_fields]
theorem execJournalExportRecord_podBank (s : State) : (stateOf s (execJournalExportRecord s)).podBank = s.podBank := by
  unfold execJournalExportRecord; dsimp only; (repeat' split) <;> simp [podBank_fields]
@[simp] theorem State.sealSlot_podBank (s : State) (i : Nat) (value : List Byte) (ok : Bool) : (State.sealSlot s i value ok).podBank = s.podBank := by
  unfold State.sealSlot; split <;> simp [podBank_fields]
@[simp] theorem State.strapped_podBank (s : State) (strap : Nat) : (State.strapped s strap).podBank = s.podBank := by
  unfold State.strapped; simp [podBank_fields]
theorem execResetRelease_podBank (strap : Nat) (s : State) : (stateOf s (execResetRelease strap s)).podBank = s.podBank := by
  unfold execResetRelease; simp [podBank_fields]
@[simp] theorem State.clockMove_podBank (s : State) (st : Nat) : (State.clockMove s st).podBank = s.podBank := by
  unfold State.clockMove; simp [podBank_fields]
theorem execRingClockMove_podBank (s : State) : (stateOf s (execRingClockMove s)).podBank = s.podBank := by
  unfold execRingClockMove; simp [podBank_fields]
theorem execXtalMeasure_podBank (ppm : Int) (s : State) : (stateOf s (execXtalMeasure ppm s)).podBank = s.podBank := by
  unfold execXtalMeasure; simp [podBank_fields]
theorem execSleepEntered_podBank (s : State) : (stateOf s (execSleepEntered s)).podBank = s.podBank := by
  unfold execSleepEntered; dsimp only; (repeat' split) <;> simp [podBank_fields]
@[simp] theorem State.cfgFail_podBank (s : State) : (State.cfgFail s).podBank = s.podBank := by unfold State.cfgFail; simp [podBank_fields]
theorem execCfgSaveComplete_podBank (ok : Bool) (s : State) : (stateOf s (execCfgSaveComplete ok s)).podBank = s.podBank := by
  unfold execCfgSaveComplete; (try dsimp only); (repeat' split) <;> simp [podBank_fields]
theorem execSealProgramDone_podBank (ok : Bool) (s : State) : (stateOf s (execSealProgramDone ok s)).podBank = s.podBank := by
  unfold execSealProgramDone; split
  · rw [stateOf_next, State.journal_podBank, State.sealSlot_podBank]; rfl
  · rfl
theorem execFwCheckDone_podBank (s : State) : (stateOf s (execFwCheckDone s)).podBank = s.podBank := by
  unfold execFwCheckDone; simp [podBank_fields]
theorem execPfwN_podBank (s : State) : (stateOf s (execPfwN s)).podBank = s.podBank := by unfold execPfwN; simp [podBank_fields]
theorem execPowerWarningEnd_podBank (s : State) : (stateOf s (execPowerWarningEnd s)).podBank = s.podBank := by
  unfold execPowerWarningEnd; (try dsimp only); (repeat' split) <;> simp [podBank_fields]
@[simp] theorem State.updSession_podBank (s : State) (h : Nat) (f : Session → Session) : (State.updSession s h f).podBank = s.podBank := by
  unfold State.updSession; simp [podBank_fields]
@[simp] theorem State.endSession_podBank (s : State) (h : Nat) : (State.endSession s h).podBank = s.podBank := by
  unfold State.endSession; simp [podBank_fields]
@[simp] theorem State.readChallenge_podBank (s : State) (src : Nat) : (State.readChallenge s src).podBank = s.podBank := by
  unfold State.readChallenge; (try dsimp only); (repeat' split) <;> simp [podBank_fields]
theorem execChallengeLapse_podBank (s : State) : (stateOf s (execChallengeLapse s)).podBank = s.podBank := by
  unfold execChallengeLapse; simp [podBank_fields]
theorem execRoleLockEnd_podBank (s : State) : (stateOf s (execRoleLockEnd s)).podBank = s.podBank := by
  unfold execRoleLockEnd; simp [podBank_fields]
theorem execSesTimeout_podBank (h : Nat) (s : State) : (stateOf s (execSesTimeout h s)).podBank = s.podBank := by
  unfold execSesTimeout; (try dsimp only); (repeat' split) <;> simp [podBank_fields]
@[simp] theorem State.mirror_podBank (s : State) (index sub off : Nat) (data : List Byte) : (State.mirror s index sub off data).podBank = s.podBank := by
  unfold State.mirror; simp [podBank_fields]
@[simp] theorem State.mirrorUnit_podBank (s : State) (u : CUnit) : (State.mirrorUnit s u).podBank = s.podBank := by
  unfold State.mirrorUnit; simp [podBank_fields]
theorem execMirroringComplete_podBank (s : State) : (stateOf s (execMirroringComplete s)).podBank = s.podBank := by
  unfold execMirroringComplete; simp [podBank_fields]
@[simp] theorem State.touch_podBank (s : State) (q : Req) : (State.touch s q).podBank = s.podBank := by
  unfold State.touch; (try dsimp only); (repeat' split) <;> simp [podBank_fields]
@[simp] theorem State.read_podBank (s : State) (q : Req) (len : Nat) : (State.read s q len).1.podBank = s.podBank := by
  unfold State.read; (try dsimp only); (repeat' split) <;> simp [podBank_fields]
@[simp] theorem State.doRead_podBank (s : State) (q : Req) (len : Nat) : (State.doRead s q len).podBank = s.podBank := by
  unfold State.doRead; simp [podBank_fields]
@[simp] theorem State.sentDone_podBank (s : State) (x : Sent) (bytes : List Byte) : (State.sentDone s x bytes).podBank = s.podBank := by
  unfold State.sentDone; simp [podBank_fields]
theorem execOdResp_podBank (k : KPort) (f : Frame) (s : State) : (stateOf s (execOdResp k f s)).podBank = s.podBank := by
  unfold execOdResp; rw [stateOf_next, State.take__podBank]; intro s; (try dsimp only); (repeat' split) <;> simp [podBank_fields]
theorem execRingRespTmo_podBank (seq : Nat) (s : State) : (stateOf s (execRingRespTmo seq s)).podBank = s.podBank := by
  unfold execRingRespTmo; (try dsimp only); (repeat' split) <;> simp [podBank_fields]
@[simp] theorem State.transfer_podBank (s : State) (op : Nat) (body : List Byte) (crc : Nat) (data : List Byte) (act : State → State × Bool) (h : ∀ s, (act s).1.podBank = s.podBank) : (State.transfer s op body crc data act).podBank = s.podBank := by
  unfold State.transfer; (try dsimp only); (repeat' split) <;> simp [podBank_fields, h]
theorem execFetch_podBank (crc : Nat) (full : Bool) (s : State) : (stateOf s (execFetch crc full s)).podBank = s.podBank := by
  unfold execFetch; rw [stateOf_next, State.transfer_podBank]; intro s; (repeat' split) <;> simp [podBank_fields]
theorem execRefetch_podBank (crc : Nat) (s : State) : (stateOf s (execRefetch crc s)).podBank = s.podBank := by
  unfold execRefetch; rw [stateOf_next, State.transfer_podBank]; intro s; rfl
theorem execStatus_podBank (crc : Nat) (s : State) : (stateOf s (execStatus crc s)).podBank = s.podBank := by
  unfold execStatus; rw [stateOf_next, State.transfer_podBank]; intro s; rfl
theorem execIrqAck_podBank (mask : Nat) (crc : Nat) (s : State) : (stateOf s (execIrqAck mask crc s)).podBank = s.podBank := by
  unfold execIrqAck; rw [stateOf_next, State.transfer_podBank]; intro s; simp [podBank_fields]
theorem execSesChallenge_podBank (src : Nat) (s : State) : (stateOf s (execSesChallenge src s)).podBank = s.podBank := by
  unfold execSesChallenge State.doRead; (try dsimp only); (repeat' split) <;> simp [podBank_fields]

end Sys2Proof.Machine
end

