-- ==== Sys2Proof/Laws/Quiet.lean ====
section
/-! SUPPORT. What the journal, the fault lines and the sending on the ring leave alone: pods, ports, buses and every unit of the
block. -/

namespace Sys2Proof.Machine

/-- Time, sets, pods, ports, buses, converters, choppers, generators, comparators, hub state, inputs. -/
def State.units (s : State) :=
  ((s.now, s.fresh, s.active, s.shadow, s.pods, s.ports, s.buses, s.pre, s.dis, s.pwm, s.cells, s.rdyLost, s.hub, s.flti, s.ringUp),
   (s.str, s.snap, s.snapLatched, s.hkAt, s.hkFrom, s.hkPos, s.ckpt, s.pfw, s.pend, s.resp, s.locks, s.cfg, s.power, s.fw, s.rwNext, s.pxReady))

/-- What any operation on units sees of two states with equal units. -/
theorem State.units_fields {s t : State} (h : s.units = t.units) :
    s.now = t.now ∧ s.active = t.active ∧ s.pods = t.pods ∧ s.ports = t.ports ∧ s.buses = t.buses ∧ s.pre = t.pre ∧ s.dis = t.dis ∧
    s.pwm = t.pwm ∧ s.cells = t.cells ∧ s.hub = t.hub ∧ s.flti = t.flti ∧ s.power = t.power ∧ s.str = t.str ∧ s.fw = t.fw := by
  simp only [State.units, Prod.mk.injEq] at h
  obtain ⟨⟨h1, -, h2, -, h3, h4, h5, h6, h7, h8, h9, -, h10, h11, -⟩, h12, -, -, -, -, -, -, -, -, -, -, -, h13, h14, -, -⟩ := h
  exact ⟨h1, h2, h3, h4, h5, h6, h7, h8, h9, h10, h11, h13, h12, h14⟩

theorem foldl_units {α : Type} (f : State → α → State) (h : ∀ s x, (f s x).units = s.units) (l : List α) (s : State) :
    (l.foldl f s).units = s.units := by
  induction l generalizing s with
  | nil => rfl
  | cons x r ih => simp only [List.foldl]; rw [ih, h]

@[simp] theorem State.set_units (s : State) (o : Obj) (i : Nat) (v : Int) (k : Nat) : (s.set o i v k).units = s.units := rfl
@[simp] theorem State.count_units (s : State) (o : Obj) (i n k : Nat) : (s.count o i n k).units = s.units := rfl
@[simp] theorem State.irq_units (s : State) (b : Nat) : (s.irq b).units = s.units := rfl
@[simp] theorem State.push_units (s : State) (x : Item) : (s.push x).units = s.units := rfl
@[simp] theorem State.nextSeq_units (s : State) : s.nextSeq.units = s.units := rfl
@[simp] theorem State.pushOrDrop_units (s : State) (x : Item) : (s.pushOrDrop x).units = s.units := by
  unfold State.pushOrDrop; split <;> simp
@[simp] theorem State.sendOn_units (s : State) (f : Frame) (p : Nat) : (s.sendOn f p).units = s.units := by
  unfold State.sendOn; split <;> rfl
@[simp] theorem State.sendOwn_units (s : State) (a b c : Nat) (l : List Byte) : (s.sendOwn a b c l).units = s.units := by
  unfold State.sendOwn; simp
@[simp] theorem State.sendEvent_units (s : State) (r : JRec) : (s.sendEvent r).units = s.units := by
  unfold State.sendEvent; (repeat' split) <;> simp
@[simp] theorem State.journalAt_units (s : State) (t k : Nat) (src : JSrc) (c : Nat) (d : List (Nat × Nat)) (h cl : Bool) :
    (s.journalAt t k src c d h cl).units = s.units := by
  unfold State.journalAt; simp; rfl
@[simp] theorem State.journal_units (s : State) (k : Nat) (src : JSrc) (c : Nat) (d : List (Nat × Nat)) :
    (s.journal k src c d).units = s.units := by
  unfold State.journal; simp
@[simp] theorem State.warn_units (s : State) (src : JSrc) (c : Nat) (d : List (Nat × Nat)) : (s.warn src c d).units = s.units := by
  unfold State.warn; simp
@[simp] theorem State.updFlto_units (s : State) (x : AB) (f : Flto → Flto) : (s.updFlto x f).units = s.units := rfl
@[simp] theorem State.updLine_units (s : State) (l : Quad) (f : RLine → RLine) : (s.updLine l f).units = s.units := rfl
@[simp] theorem State.fltoOne_units (s : State) (x : AB) : (s.fltoOne x).units = s.units := rfl
@[simp] theorem State.fltoEval_units (s : State) : s.fltoEval.units = s.units := foldl_units _ State.fltoOne_units _ _
@[simp] theorem State.sendToken_units (s : State) (l : Quad) (h b t : Nat) : (s.sendToken l h b t).units = s.units := rfl
@[simp] theorem State.lineSeen_units (s : State) (l : Quad) (t : Nat) : (s.lineSeen l t).units = s.units := by
  unfold State.lineSeen; dsimp only; split <;> simp
@[simp] theorem State.ownToken_units (s : State) (l : Quad) : (s.ownToken l).units = s.units := by
  unfold State.ownToken; simp
@[simp] theorem State.sendFault_units (s : State) (l : Quad) (b : Bool) : (s.sendFault l b).units = s.units := by
  unfold State.sendFault; dsimp only; split <;> simp
@[simp] theorem State.lineStart_units (s : State) (l : Quad) : (s.lineStart l).units = s.units := by
  unfold State.lineStart; simp
@[simp] theorem State.lineStop_units (s : State) (l : Quad) : (s.lineStop l).units = s.units := by
  unfold State.lineStop; simp
@[simp] theorem State.lineEval_units (s : State) : s.lineEval.units = s.units := by
  unfold State.lineEval; refine foldl_units _ ?_ _ _
  intro s l; dsimp only; (repeat' split) <;> simp
@[simp] theorem State.linePulse_units (s : State) (l : Quad) : (s.linePulse l).units = s.units := by
  unfold State.linePulse; dsimp only; split <;> simp
@[simp] theorem State.pulses_units (s : State) (hit : State → Quad → Bool) : (s.pulses hit).units = s.units := by
  unfold State.pulses; refine foldl_units _ ?_ _ _
  intro s l; split <;> simp
@[simp] theorem State.pulseTrip_units (s : State) (c : Chan) (m : Nat) : (s.pulseTrip c m).units = s.units := by
  unfold State.pulseTrip; simp
@[simp] theorem State.pulseBus_units (s : State) (b : BusId) : (s.pulseBus b).units = s.units := by
  unfold State.pulseBus; simp
@[simp] theorem State.evalLines_units (s : State) : s.evalLines.units = s.units := by
  unfold State.evalLines; simp

theorem State.pod_units {s t : State} (h : s.units = t.units) (c : Chan) : s.pod c = t.pod c := by
  unfold State.pod; rw [(State.units_fields h).2.2.1]
theorem State.port_units {s t : State} (h : s.units = t.units) (c : Chan) : s.port c = t.port c := by
  unfold State.port; rw [(State.units_fields h).2.2.2.1]
theorem State.bus_units {s t : State} (h : s.units = t.units) (b : BusId) : s.bus b = t.bus b := by
  unfold State.bus; rw [(State.units_fields h).2.2.2.2.1]

@[simp] theorem State.evalLines_pod (s : State) (c : Chan) : s.evalLines.pod c = s.pod c := State.pod_units (by simp) c
@[simp] theorem State.evalLines_port (s : State) (c : Chan) : s.evalLines.port c = s.port c := State.port_units (by simp) c
@[simp] theorem State.evalLines_bus (s : State) (b : BusId) : s.evalLines.bus b = s.bus b := State.bus_units (by simp) b
@[simp] theorem State.journal_pod (s : State) (k : Nat) (src : JSrc) (x : Nat) (d : List (Nat × Nat)) (c : Chan) :
    (s.journal k src x d).pod c = s.pod c := State.pod_units (by simp) c
@[simp] theorem State.journal_port (s : State) (k : Nat) (src : JSrc) (x : Nat) (d : List (Nat × Nat)) (c : Chan) :
    (s.journal k src x d).port c = s.port c := State.port_units (by simp) c
@[simp] theorem State.journal_bus (s : State) (k : Nat) (src : JSrc) (x : Nat) (d : List (Nat × Nat)) (b : BusId) :
    (s.journal k src x d).bus b = s.bus b := State.bus_units (by simp) b

end Sys2Proof.Machine
end

