-- ==== Sys2Proof/WellFormed.lean ====
section
/-! DEFINITION. Well-formed commands: operands that the wire and the pins can carry. Operands of finite types need no check. -/

namespace Sys2Proof

/-- A value of an unsigned field of `n` bits. -/
def fits (n v : Nat) : Bool := decide (v < 2 ^ n)

/-- A code of a signed field of `n` bits. -/
def fitsInt (n : Nat) (v : Int) : Bool := decide (-(2 ^ (n - 1) : Int) ≤ v) && decide (v < (2 ^ (n - 1) : Int))

/-- A frame whose fields fit the header of R429; its CRC, its LEN and its reserved bits may be wrong (R431). -/
def Frame.wf (f : Frame) : Bool :=
  fits 8 f.type && fits 6 f.hops && fits 8 f.seq && fits 12 f.dst && fits 12 f.src && fits 16 f.len && decide (f.payload.length ≤ 256) &&
  fits 32 f.crc && fits 16 f.reserved && fits 32 f.violations

/-- A requester: a 12-bit source and a 16-bit handle (R430). -/
def Requester.wf (r : Requester) : Bool := fits 12 r.src && fits 16 r.session

/-- The downstream content of a frame (R31, R527). -/
def CmdFrame.wf (f : CmdFrame) : Bool := fits 16 f.epoch && fits 18 f.trips && decide (f.retryN ≤ 255)

def RxFrame.wf (r : RxFrame) : Bool := r.frame.wf

/-- What a slice finds: a code of 16 bits, or one beyond full scale (R280, R299). -/
def Raw.wf (r : Raw) : Bool := fitsInt 17 r.code

/-- What a housekeeping conversion finds: a code of 12 bits, or one beyond its span (R316, R318). -/
def Raw.hkWf (r : Raw) : Bool := fitsInt 14 r.code

/-- What a pod samples in a tick: eleven comparators, one IC conversion a slot, and of the VC at most one a slot and one a
half-slot point (R280, R290). -/
def TickSamples.wf (s : TickSamples) : Bool :=
  fits 11 s.cmp && fits 11 s.mid && s.ic.all Raw.wf && s.vc.all Raw.wf && decide (s.ic.length ≤ 20) && decide (s.vc.length ≤ 40)

/-- The operands of a command are ones that the hardware can meet. -/
def Instr.wf : Instr → Bool
  | .commandFrameReceived _ rx => rx.wf
  | .podTickBoundary _ smp => smp.wf
  | .parkedBurst _ smp => smp.wf
  | .hkMeanUpdate i codes => decide (i < 12) && codes.length == 16 && codes.all Raw.hkWf
  | .hkSleepBurst l => l.length == 12 && l.all fun codes => codes.length == 16 && codes.all Raw.hkWf
  | .urgentConversionDone _ codes _ => codes.length == 3 && codes.all Raw.wf
  | .hvPowerUp _ _ _ mid _ => fits 11 mid
  | .selftestToggleDone _ m _ => fits 11 m
  | .calComplete _ a b c _ => (a ++ b ++ c).all (fitsInt 16) && a.length == 12 && b.length == 12 && c.length == 4
  | .recalComplete _ l _ => l.all (fitsInt 16) && l.length == 12
  | .adcRecal _ kind rq => fits 8 kind && rq.wf
  | .mtrClear _ mask rq => fits 8 mask && rq.wf
  | .pwmWord _ v rq _ => fits 64 v && rq.wf
  | .pwmPeriodBoundary _ rdy => fits 8 rdy
  | .resetRelease strap => fits 7 strap
  | .hubPodsupEn m rq => fits 16 m && rq.wf
  | .wake src => fits 10 src
  | .ringWake m rq => fits 8 m && rq.wf
  | .odRead _ f | .odWrite _ f | .odResp _ f | .eventFrame _ f | .faultFrame _ f | .delayReq _ f _ | .discover _ f | .report _ f
  | .assign _ f | .done _ f | .syncTime _ f _ | .delayResp _ f _ | .cutThroughForward _ f _ _ => f.wf
  | .ringRespTmo seq => fits 8 seq
  | .submit ty tag dst p crc => fits 8 ty && fits 8 tag && fits 12 dst && decide (p.length ≤ 256) && fits 16 crc
  | .fetch crc _ | .refetch crc | .status crc => fits 16 crc
  | .irqAck m crc => fits 16 m && fits 16 crc
  | .ringLinkDown _ n => fits 32 n
  | .faultToken _ b _ => !tokenLink b
  | .rehome _ b => tokenLink b
  | .stackTurnOn _ ic vc _ | .turnOnAfterClamp _ ic vc _ | .startEnergyExceeded _ ic vc _ | .faultTimerPeriodEnd _ ic vc _
  | .outputPresent _ ic vc _ =>
    ic.all Raw.wf && vc.all Raw.wf && decide (ic.length ≤ 20) && decide (vc.length ≤ 40)
  | .objectWrite rq idx sub d => rq.wf && fits 16 idx && fits 8 sub && decide (d.length ≤ 247)
  | .sesOpen r rq => fits 8 r && rq.wf
  | .sesChallenge src => fits 12 src
  | .sesResponse rq d => rq.wf && decide (d.length ≤ 247)
  | .sesClose h rq => fits 16 h && rq.wf
  | .sesTimeout h => fits 16 h
  | .sesView v rq => fits 8 v && rq.wf
  | .sealWrite rq idx d => rq.wf && fits 16 idx && decide (d.length ≤ 247)
  | .strCapture m rq => fits 16 m && rq.wf
  | .strJnlExport n rq => fits 16 n && rq.wf
  | .hubPxMove m rq => fits 16 m && rq.wf
  | .fwImage rq off d => rq.wf && fits 16 off && decide (d.length ≤ 247)
  | .chEnableSet _ rq | .chEnableClear _ rq | .chDmgClear _ rq | .busBfClear _ rq | .busXferResume _ rq | .disReqSet _ rq
  | .disReqClear _ rq | .hubFltoAck _ rq | .adcCal _ rq | .mtrSnap rq | .cmpTieTest _ rq | .cmpSwapTest _ rq | .pwmRunStart _ rq
  | .pwmRunStop _ rq | .pwmFrel _ rq | .hubReset rq | .hubSleep rq | .ringEnum rq | .ringMapClear rq | .commit _ rq | .revert _ rq
  | .hubCfgSave rq | .hubCfgDefaults rq | .strEnSet rq | .strEnClear rq | .fwLoadBegin rq | .fwLoadFinish rq | .fwLoadCancel rq
  | .fwActivate rq | .fwConfirm rq => rq.wf
  | .controlTick | .statusFrameReceived _ _ | .orphan _ | .uvloAssert _ _ _ _ _ | .uvloClear _ _ _ _ _
  | .gateLevelReached _ _ _ _ | .strongHoldEnd _ _ _ | .strongClampEnd _ _ _
  | .boostTimeLimit _ _ _ | .slewLimitExpired _ _ _ | .forcedClamp _ _ _ | .clampGateFault _ _ _ | .barrierSignalLoss _ _
  | .hvPowerDown _ _ | .pairedWindowEnd _ _ | .seatPairSeated _ _ | .seatingAbort _ _ _ _ | .seatDebounceComplete _ _
  | .seatLoss _ _ _ _ _ | .removalConfirmed _ | .reseatGuardExpiry _ | .channelStart _ _ | .powerGoodAssert _
  | .coolDownEnd _ | .prechargeStart _ | .prechargeSelftestDone _ _ _ | .driverReadyLoss _ _
  | .prechargeResume _ | .pauseLimit _ | .prechargeClose _ | .noProgress _ | .prechargeTimeLimit _ | .closeLimit _
  | .dischargeRun _ | .chopperResume _ | .dischargeDone _ | .energyLimit _ | .dischargeTimeLimit _ | .sc2Trip _ _
  | .sc1Trip _ _ _ _ | .reverseTrip _ _ _ | .desatTrip _ _ _ _ | .desatBlankingEnd _ _ _ | .busOvTrip _ _ _ | .busUvTrip _ _ _
  | .currentLimitEntry _ _ _ _ | .currentLimitExit _ _ | .thermalEvaluation _
  | .dieOverTemperature _ _ | .stackTest _ _ | .suspectConfirmation _ _
  | .confirmationEvaluation _ _ | .tieTest _ _ _ _ | .onlineSelftestRound _ _ | .memberTestEnd _ _ _ _ | .retryDue _
  | .retryReleased _ | .retryCountReset _ | .busFaultClassify _ | .fltoMinWidthEnd _ | .fltiAssert _ _ _ | .fltiRelease _
  | .sourceLoss _ | .revertDue _ | .transferMake _ | .transferTimeout _ | .oringReverseBlock _ _ _ | .oringReverseTrip _ _
  | .oringReentry _ _ | .oringShareStep _ | .oringBlocked _ | .pairedWindowStart _ _ _ | .intDwellComplete _
  | .recalCoverEnd _ | .averageComplete _ _ | .meteringTransfer _
  | .meteringTransferReceived _ _ | .minmaxWindowEnd | .snapshotTick | .snapshotDone | .meteringClearApply _ | .checkpoint
  | .checkpointWritten _ | .speedHoldEnd _ _ | .hubCmpEdge _ _ _ _ | .cmpTestDone _ _ | .pwmMidperiodReload _
  | .pwmPulseEnd _ | .pwmDeadTimeEnd _ | .vdd33PowerOnReset | .coreSupplyReset | .alwaysOnPowerOnReset | .resetN
  | .lockstepMismatch | .watchdog | .crystalLost | .thermalReset | .bootComplete | .adopt | .podAdoption _
  | .podSupplyCurrentLimit _ | .podSupplyRetry _ _ | .ringClockMove | .ringClockLoss | .xtalMeasure _ | .sleepEntered
  | .podWakeSignal _ | .podPowerUp _ _ _ _ _ _ | .podSupplyLoss _ _ | .podLinkTrained _ | .podLinkDown _
  | .holdWindowEnd _ | .ringLinkUp _ | .syncPeriod | .delayExchangePeriod | .timeHoldover
  | .faultTokenRepeat _ | .faultViewRelease _ | .faultPulseEnd _
  | .challengeLapse | .roleLockEnd | .commitApply _ | .cfgSaveComplete _ | .sealProgramDone _
  | .readyHighEnd _ | .blockSend | .streamFlush | .streamRecord | .journalExportRecord | .moveReclaim | .ownerlessClaim _
  | .fwCheckDone | .fwTrialExpiry | .pfwN | .powerWarningEnd | .mirroringComplete => true

end Sys2Proof
end

