-- ==== Sys2Proof/Tests/Slice0.lean ====
section
/-! SUPPORT. Small tests of the model, and a state that meets the premises of each statement. -/

namespace Sys2Proof.Machine

set_option Elab.async false

/-- The status of a pod that conducts. -/
def liveSt : PodStatus :=
  { pod := .active, ch := .on, hvOn := true, own := { link := some true }, gIn := { phase := .staticHold, mv := 18000 },
    gOut := { phase := .staticHold, mv := 18000 }, adc := { routing := .normal }, seat := { s1 := true, s2 := true, debounced := true } }

/-- A hub in RUN on a ring, with an open session of SERVICE. -/
def base : State :=
  { State.reset with hub := .run, now := 10 ^ 12, ringUp := 7, sessions := [{ handle := 1, role := .service, src := 5, isOpen := true }] }

/-- The same with a linked pod at port 0: its status, the pod, the port, the state made from those of a conducting channel. -/
def wit (f : PodStatus → PodStatus := id) (p : Pod → Pod := id) (q : Port → Port := id) (h : State → State := id) : State :=
  let x := p { kind := .tm6422, st := f liveSt, vpos := 18000, vneg := -5000 }
  h ((base.updPod 0 fun _ => x).updPort 0 fun _ =>
    q { linked := true, noPod := false, own := true, seen := f liveSt, down := { claim := .own } })

/-- Active values. -/
def act (l : List (Obj × Nat × Int)) (s : State) : State := { s with active := l.foldl (fun m e => m.set e.1 e.2.1 e.2.2) s.active }

/-- Parameters of a pod. -/
def prm (l : List (Obj × Int)) (p : Pod) : Pod := { p with params := l.foldl (fun m e => m.set e.1 0 e.2) p.params }

/-- The row of `CH_THOLD` (chapter 18). -/
def rowThold : ObjRow :=
  { index := 0x4002, stride := 0x200, count := 16, first := 1, last := 1, type := .u16, access := .rws, dflt := 50, lo := 0,
    hi := 2000, role := .configure, unit := .chan, persist := true, ucode := 4, scale := -3, name := "CH_THOLD" }

/-! ## Helpers -/

theorem length_leBytes (n x : Nat) : (leBytes n x).length = n := by
  induction n generalizing x with
  | zero => rfl
  | succ n ih => simp [leBytes, ih]

theorem ofLe_leBytes (n x : Nat) : ofLe (leBytes n x) = x % 256 ^ n := by
  induction n generalizing x with
  | zero => simp [leBytes, ofLe, Nat.mod_one]
  | succ n ih =>
    rw [leBytes, ofLe, ih, BitVec.toNat_ofNat, show 256 ^ (n + 1) = 256 * 256 ^ n by rw [Nat.pow_succ, Nat.mul_comm], Nat.mod_mul]

theorem fieldAt_uid (a uid b : Nat) : fieldAt (leBytes 4 a ++ leBytes 8 uid ++ leBytes 2 b) 4 8 = uid % 2 ^ 64 := by
  have h : ((leBytes 4 a ++ leBytes 8 uid ++ leBytes 2 b).drop 4).take 8 = leBytes 8 uid := rfl
  rw [fieldAt, h, ofLe_leBytes, show (256 : Nat) ^ 8 = 2 ^ 64 by decide]

/-- A frame that its sender has signed passes the check of its CRC. -/
theorem heard_signed {s : State} {k : KPort} {f : Frame}
    (h : (hearsPort s k && !(f.len != f.payload.length || decide (256 < f.len) || f.reserved != 0) && !roundTrip s k f) = true) :
    heard s k f.signed = true := by
  have e : badFrame f.signed = (f.len != f.payload.length || decide (256 < f.len) || f.reserved != 0) := by
    rw [badFrame, show f.signed.crc = f.signed.crcOf from rfl, bne_self_eq_false, Bool.false_or]
    rfl
  rw [heard, e]
  exact h

/-- The error of a check that fails. -/
def failsWith {α : Type} (x : Except Err α) (e : Err) : Bool := match x with
  | .error k => decide (k = e)
  | .ok _ => false

theorem error_of {α : Type} {x : Except Err α} {e : Err} (h : failsWith x e = true) : x = .error e := by
  cases x with
  | error k => exact congrArg Except.error (of_decide_eq_true h)
  | ok a => cases h

/-- The answer of a check that passes. -/
def passesWith {α : Type} [DecidableEq α] (x : Except Err α) (a : α) : Bool := match x with
  | .error _ => false
  | .ok b => decide (b = a)

theorem ok_of {α : Type} [DecidableEq α] {x : Except Err α} {a : α} (h : passesWith x a = true) : x = .ok a := by
  cases x with
  | error k => cases h
  | ok b => exact congrArg Except.ok (of_decide_eq_true h)

/-- An OD_WRITE of 50 to `CH_THOLD` of channel 1, in session 1. -/
def writeThold : Frame :=
  Frame.signed { type := 3, dst := 9, src := 5, seq := 3, len := 11,
                 payload := leBytes 2 1 ++ leBytes 2 0x4002 ++ leBytes 1 1 ++ leBytes 2 0 ++ leBytes 2 2 ++ [50, 0] }

/-- A pending session, and a hub that waits for its response. -/
def pendingSes : Session := { handle := 9, role := .operate, src := 5, challenge := List.replicate 32 3 }
def answering : State :=
  wit (h := fun s => { s with sessions := [pendingSes], seals := s.seals.upd 0 fun b => b.add (List.replicate 32 7) true })

/-! ## The premises of the statements are met -/

/-- The premises of `GateSupplyEvents` are met. -/
theorem witness_GateSupplyEvents :
    (∃ (c : Chan) (vneg : Bool) (mv : Int) (since t : Nat) (s : State), (s.pod c).st.hvOn = true ∧ (if vneg then -1500 < mv
      else mv < 14500) ∧ since + 2000 ≤ max s.now t) ∧
    (∃ (c : Chan) (vneg : Bool) (mv : Int) (since t : Nat) (s : State), (s.pod c).st.hvOn = true ∧ (if vneg then mv < -2000
      else 15500 < mv) ∧ since + 2000 ≤ max s.now t) ∧
    (∃ (c : Chan) (s : State), (s.pod c).st.hvOn = true) ∧
    (∃ (c : Chan) (vp vn : Int) (s : State), (s.pod c).st.pod ≠ .unpowered ∧ (s.pod c).st.hvOn = false ∧ 10000 ≤ vp - vn) ∧
    (∃ (c : Chan) (s : State), (s.pod c).st.hvOn = true) :=
  ⟨⟨0, false, 14000, 0, 0, (wit id id id id), by decide +kernel⟩,
    ⟨0, false, 16000, 0, 0, (wit id id id id), by decide +kernel⟩,
    ⟨0, (wit id id id id), by decide +kernel⟩,
    ⟨0, 18000, -5000, (wit (fun v => { v with hvOn := false }) id id id), by decide +kernel⟩,
    ⟨0, (wit id id id id), by decide +kernel⟩⟩

/-- The premises of `TurnOnEvents` are met. -/
theorem witness_TurnOnEvents :
    (∃ (c : Chan) (t : Nat) (s : State), (s.pod c).st.hvOn = true ∧ (s.pod c).waitOn = some .whole ∧ (s.pod c).busyForStart =
      false ∧ (s.pod c).canTurnOn .whole (max s.now t) = true) ∧
    (∃ (c : Chan) (a : OnAsk) (t : Nat) (s : State), (s.pod c).st.hvOn = true ∧ (s.pod c).waitOn = some a ∧ (s.pod
      c).freeToTurnOn = true ∧ (s.pod c).canTurnOn a (max s.now t) = true) ∧
    (∃ (c : Chan) (x : Side) (t : Nat) (s : State), ((s.pod c).gate x).strongDone .strongHold (max s.now t) = true) ∧
    (∃ (c : Chan) (x : Side) (t : Nat) (s : State), (((s.pod c).gate x).phase = .boost ∨ ((s.pod c).gate x).phase =
      .strongHold) ∧ ((s.pod c).gate x).expired (max s.now t) = true ∧ (s.pod c).canTrip = true) ∧
    (∃ (c : Chan) (x : Side) (t : Nat) (s : State), ((s.pod c).gate x).phase = .slewOn ∧ ((s.pod c).gate x).expired (max
      s.now t) = true ∧ (s.pod c).canTrip = true) :=
  ⟨⟨0, 0, (wit (fun v => { v with ch := .starting, gIn := { phase := .staticClamp }, gOut := { phase := .staticClamp } })
      (fun p => { p with waitOn := some .whole }) id id), by decide +kernel⟩,
    ⟨0, .whole, 0, (wit (fun v =>
      { v with ch := .starting, gIn := { phase := .staticClamp }, gOut := { phase := .staticClamp } }) (fun p =>
      { p with waitOn := some .whole }) id id), by decide +kernel⟩,
    ⟨0, .inS, 0, (wit (fun v => { v with gIn := { phase := .strongHold, levelAt := some 0 } }) id id id), by decide +kernel⟩,
    ⟨0, .inS, 0, (wit (fun v => { v with gIn := { phase := .boost, limitAt := some 0 } }) id id id), by decide +kernel⟩,
    ⟨0, .inS, 0, (wit (fun v => { v with gIn := { phase := .slewOn, limitAt := some 0 } }) id id id), by decide +kernel⟩⟩

/-- The premises of `TurnOffEvents` are met. -/
theorem witness_TurnOffEvents :
    (∃ (c : Chan) (x : Side) (mv : Int) (s : State), (s.pod c).st.hvOn = true ∧ ((s.pod c).gate x).phase = .slewOn ∧ ((s.pod
      c).gate x).endMv ≤ mv) ∧
    (∃ (c : Chan) (x : Side) (mv : Int) (s : State), (s.pod c).st.hvOn = true ∧ ((s.pod c).gate x).phase = .slewOff ∧ mv ≤
      ((s.pod c).gate x).endMv) ∧
    (∃ (c : Chan) (x : Side) (mv : Int) (s : State), (s.pod c).st.hvOn = true ∧ ((s.pod c).gate x).phase = .staticHold ∧ mv <
      (s.pod c).fullOnMv) ∧
    (∃ (c : Chan) (x : Side) (t : Nat) (s : State), ((s.pod c).gate x).strongDone .strongClamp (max s.now t) = true) ∧
    (∃ (c : Chan) (x : Side) (t : Nat) (s : State), (((s.pod c).gate x).phase = .dump ∨ ((s.pod c).gate x).phase = .slewOff)
      ∧ ((s.pod c).gate x).expired (max s.now t) = true) ∧
    (∃ (c : Chan) (x : Side) (t : Nat) (s : State), ((s.pod c).gate x).phase = .strongClamp ∧ ((s.pod c).gate x).expired (max
      s.now t) = true) :=
  ⟨⟨0, .inS, 18000, (wit (fun v => { v with gIn := { phase := .slewOn, endMv := 15000 } }) id id id), by decide +kernel⟩,
    ⟨0, .inS, -4000, (wit (fun v => { v with gIn := { phase := .slewOff, endMv := -3000 } }) id id id), by decide +kernel⟩,
    ⟨0, .inS, 0, (wit id id id id), by decide +kernel⟩,
    ⟨0, .inS, 0, (wit (fun v => { v with gIn := { phase := .strongClamp, levelAt := some 0 } }) id id id),
      by decide +kernel⟩,
    ⟨0, .inS, 0, (wit (fun v => { v with gIn := { phase := .dump, limitAt := some 0 } }) id id id), by decide +kernel⟩,
    ⟨0, .inS, 0, (wit (fun v => { v with gIn := { phase := .strongClamp, limitAt := some 0 } }) id id id),
      by decide +kernel⟩⟩

/-- The premises of `FastTripsRecordTheirCause` are met. -/
theorem witness_FastTripsRecordTheirCause :
    (∃ (c : Chan) (t : Nat) (s : State), (s.pod c).st.hvOn = true ∧ (s.pod c).canTrip = true ∧ (s.pod c).masked .sc2 (max
      s.now t) = false) ∧
    (∃ (c : Chan) (b : Bool) (since t : Nat) (s : State), (s.pod c).st.hvOn = true ∧ (s.pod c).canTrip = true ∧ (s.pod
      c).masked (if b then .sc1b else .sc1a) since = false ∧ since + (s.pod c).prmSince since OD.CH_TSC1 * 5 ≤ max s.now t) ∧
    (∃ (c : Chan) (since t : Nat) (s : State), (s.pod c).st.hvOn = true ∧ (s.pod c).canTrip = true ∧ (s.pod c).prmB
      OD.CH_REV_EN = true ∧ (s.pod c).anyOut = true ∧ (s.pod c).orTarget = none ∧ (s.pod c).masked .rev since = false ∧ since
      + (s.pod c).prmSince since OD.CH_TREV * 5 ≤ max s.now t) ∧
    (∃ (c : Chan) (x : Side) (since t : Nat) (s : State), (s.pod c).st.hvOn = true ∧ (s.pod c).canTrip = true ∧ (s.pod
      c).dsArmed.testBit (dsBit x) = true ∧ ((s.pod c).gate x).phase.inHold = true ∧ since + 50 ≤ max s.now t) ∧
    (∃ (c : Chan) (since t : Nat) (s : State), (s.pod c).st.hvOn = true ∧ (s.pod c).canTrip = true ∧ ((s.pod c).holdOv = none
      ∨ (s.pod c).st.prot.cmpOut.testBit 10 = true) ∧ since + (s.pod c).prmSince since OD.CH_TBUSW * 1000 ≤ max s.now t) ∧
    (∃ (c : Chan) (since t : Nat) (s : State), (s.pod c).st.hvOn = true ∧ (s.pod c).canTrip = true ∧ (s.pod c).st.ch ≠
      .starting ∧ (s.pod c).held.uvHold = false ∧ ((s.pod c).holdUv = none ∨ (s.pod c).st.prot.cmpOut.testBit 9 = true) ∧
      since + (s.pod c).prmSince since OD.CH_TBUSW * 1000 ≤ max s.now t) ∧
    (∃ (c : Chan) (s : State), (s.pod c).st.hvOn = true ∧ (s.pod c).canTrip = true) ∧
    (∃ (c : Chan) (x : Side) (t b : Nat) (s : State), ((s.pod c).gate x).phase.inHold = true ∧ (s.pod c).blank x = some b ∧ b
      ≤ max s.now t) :=
  ⟨⟨0, 0, (wit id id id id), by decide +kernel⟩,
    ⟨0, false, 0, 0, (wit id id id id), by decide +kernel⟩,
    ⟨0, 0, 0, (wit id (fun p => prm [(OD.CH_REV_EN, 1)] (p)) id id), by decide +kernel⟩,
    ⟨0, .inS, 0, 0, (wit id (fun p => { p with dsArmed := 3 }) id id), by decide +kernel⟩,
    ⟨0, 0, 0, (wit id id id id), by decide +kernel⟩,
    ⟨0, 0, 0, (wit id id id id), by decide +kernel⟩,
    ⟨0, (wit id id id id), by decide +kernel⟩,
    ⟨0, .inS, 0, 5, (wit id (fun p => { p with blankIn := some 5 }) id id), by decide +kernel⟩⟩

/-- The premises of `CurrentLimitAndFaultTimer` are met. -/
theorem witness_CurrentLimitAndFaultTimer :
    (∃ (c : Chan) (b : Bool) (t : Nat) (s : State), (s.pod c).st.hvOn = true ∧ (s.pod c).masked (if b then .oclb else .ocla)
      (max s.now t) = false ∧ (s.pod c).limited = none ∧ (s.pod c).turnOff = none ∧ (oclArms (s.pod c).st.gIn.phase ||
      oclArms (s.pod c).st.gOut.phase) = true ∧ (s.pod c).prm OD.CH_FT_COUNT ≠ 0) ∧
    (∃ (c : Chan) (b : Bool) (t : Nat) (s : State), (s.pod c).st.hvOn = true ∧ (s.pod c).canTrip = true ∧ (s.pod c).masked
      (if b then .oclb else .ocla) (max s.now t) = false ∧ (s.pod c).limited = none ∧ (s.pod c).turnOff = none ∧ (oclArms
      (s.pod c).st.gIn.phase || oclArms (s.pod c).st.gOut.phase) = true ∧ (s.pod c).prm OD.CH_FT_COUNT = 0) ∧
    (∃ (c : Chan) (t f : Nat) (s : State), (s.pod c).limited.isSome = true ∧ (s.pod c).limitExit = some f ∧ f + (s.pod
      c).prmSince f OD.CH_TLIM_EXIT * 1000 ≤ max s.now t) ∧
    (∃ (c : Chan) (x : Side) (ic : List Raw) (vc : List Raw) (t w : Nat) (s : State), (s.pod c).limited = some x ∧ (s.pod
      c).periodAt ≤ max s.now t ∧ (s.pod c).st.ch.running = true ∧ (s.pod c).limitEnds = false ∧ w = (((s.pod c).upTo ic vc
      (max s.now t)).band x (s.pod c).periodFrom (max s.now t)).2 ∧ (s.pod c).st.prot.ftAcc + w < (s.pod c).prmSince (s.pod
      c).periodFrom OD.CH_FT_COUNT) ∧
    (∃ (c : Chan) (x : Side) (t : Nat) (s : State), (s.pod c).limited = some x ∧ (s.pod c).periodAt ≤ max s.now t ∧ (s.pod
      c).st.ch.running = false ∧ (s.pod c).limitEnds = false) ∧
    (∃ (c : Chan) (x : Side) (ic : List Raw) (vc : List Raw) (t w : Nat) (s : State), (s.pod c).limited = some x ∧ (s.pod
      c).periodAt ≤ max s.now t ∧ (s.pod c).canTrip = true ∧ w = (((s.pod c).upTo ic vc (max s.now t)).band x (s.pod
      c).periodFrom (max s.now t)).2 ∧ (s.pod c).prmSince (s.pod c).periodFrom OD.CH_FT_COUNT ≤ (s.pod c).st.prot.ftAcc + w)
      :=
  ⟨⟨0, false, 0, (wit id id id id), by decide +kernel⟩,
    ⟨0, false, 0, (wit id (fun p => prm [(OD.CH_FT_COUNT, 0)] (p)) id id), by decide +kernel⟩,
    ⟨0, 0, 0, (wit id (fun p => { p with limited := some .inS, limitExit := some 0 }) id id), by decide +kernel⟩,
    ⟨0, .inS, [], [], 0, 8, (wit id (fun p => { p with limited := some .inS }) id id), by decide +kernel⟩,
    ⟨0, .inS, 0, (wit (fun v => { v with ch := .off }) (fun p => { p with limited := some .inS }) id id), by decide +kernel⟩,
    ⟨0, .inS, [], [], 0, 8, (wit (fun v => { v with prot := { ftAcc := 999 } }) (fun p => { p with limited := some .inS }) id
      id), by decide +kernel⟩⟩

/-- The premises of `ThermalAndOutputPresent` are met. -/
theorem witness_ThermalAndOutputPresent :
    (∃ (c : Chan) (s : State), (s.pod c).st.hvOn = true ∧ 0 < (s.pod c).adc.ntcN ∧ s.now % 1000 = 0 ∧ (s.pod c).tests.thermAt
      + 1000000 ≤ s.now) ∧
    (∃ (c : Chan) (ic : List Raw) (vc : List Raw) (t f : Nat) (s : State), (s.pod c).st.prot.outpArmed = true ∧ (s.pod
      c).tests.outpDone = false ∧ (s.pod c).tests.outpFrom = some f ∧ f + 1000000 ≤ max s.now t ∧ ((s.pod c).upTo ic vc (max
      s.now t)).st.meas.vin < ((s.pod c).prm OD.CH_VOUTP : Int) * 100000) ∧
    (∃ (c : Chan) (ic : List Raw) (vc : List Raw) (t f : Nat) (s : State), (s.pod c).st.prot.outpArmed = true ∧ (s.pod
      c).tests.outpDone = false ∧ (s.pod c).tests.outpFrom = some f ∧ f + 1000000 ≤ max s.now t ∧ ((s.pod c).prm OD.CH_VOUTP
      : Int) * 100000 ≤ ((s.pod c).upTo ic vc (max s.now t)).st.meas.vin ∧ (s.pod c).coll.isOpen = false ∧ (s.pod c).st.ch =
      .off ∧ (s.pod c).absentDue = false) :=
  ⟨⟨0, (wit id (fun p => { p with adc := { p.adc with ntcN := 2, ntcSum := 8000 } }) id id), by decide +kernel⟩,
    ⟨0, [], [], 0, 0, (wit (fun v => { v with prot := { outpArmed := true } }) (fun p =>
      { p with tests := { p.tests with outpFrom := some 0 } }) id id), by decide +kernel⟩,
    ⟨0, [], [], 0, 0, (wit (fun v =>
      { v with prot := { outpArmed := true }, ch := .off, meas := { vdi := { v := 400000000, ok := true } } }) (fun p =>
      { p with tests := { p.tests with outpFrom := some 0 } }) id id), by decide +kernel⟩⟩

/-- The premises of `PodSelfTests` are met. -/
theorem witness_PodSelfTests :
    (∃ (c : Chan) (t : Nat) (s : State), (s.pod c).stackDue (max s.now t) = true) ∧
    (∃ (c : Chan) (k : PodCmp) (t : Nat) (s : State), (s.pod c).st.prot.tieRun = true ∧ (s.pod c).tests.tieLeft.head? = some
      k ∧ (s.pod c).bothClamped = true ∧ (s.pod c).tests.tieFrom + (s.pod c).tieLimit k ≤ max s.now t) ∧
    (∃ (c : Chan) (k : PodCmp) (t : Nat) (s : State), (s.pod c).st.prot.tieRun = true ∧ (s.pod c).tests.tieLeft.head? = some
      k ∧ (s.pod c).bothClamped = true ∧ (s.pod c).tests.tieFrom + 2 * (s.pod c).tieLimit k ≤ max s.now t) ∧
    (∃ (c : Chan) (x : Side) (s : State), (s.port c).linked = true ∧ (s.pod c).st.prot.confirmDue = true ∧ (s.pod
      c).st.prot.tieRun = false ∧ (s.pod c).st.pod = .active ∧ (s.pod c).st.hvOn = true ∧ (s.pod c).st.gIn.phase =
      .staticClamp ∧ (s.pod c).st.gOut.phase = .staticClamp ∧ (s.pod c).st.prot.suspect = some x) ∧
    (∃ (c : Chan) (o : Side) (vdi vdo : Int) (b : Bool) (s : State), (s.pod c).tests.confirmSide = some o ∧ (s.pod
      c).tests.confirmCodes = some (vdi, vdo) ∧ (s.pod c).nodeCheck vdi vdo = some (o.other, b) ∧ ((s.pod c).prm
      OD.CH_DMG_EN).testBit 1 = true ∧ ((s.pod c).gate o.other).phase = .staticClamp) ∧
    (∃ (c : Chan) (t : Nat) (s : State), (s.pod c).st.hvOn = true ∧ ((s.pod c).st.ch = .starting ∨ (s.pod c).st.ch = .on) ∧
      (s.pod c).tests.member = none ∧ (s.pod c).tests.onlineAt ≤ max s.now t) ∧
    (∃ (c : Chan) (k : PodCmp) (t : Nat) (s : State), (s.pod c).tests.member = some k ∧ (s.pod c).tests.memberAt + 4000 ≤ max
      s.now t ∧ (s.pod c).st.ch ≠ .limiting) ∧
    (∃ (c : Chan) (k : PodCmp) (t : Nat) (s : State), (s.pod c).tests.member = some k ∧ (s.pod c).tests.memberAt + 4000 ≤ max
      s.now t ∧ (s.pod c).canTrip = true ∧ (s.pod c).tests.partnerActed = false) :=
  ⟨⟨0, 0, (wit (fun v =>
      { v with ch := .off, gIn := { phase := .staticClamp }, gOut := { phase := .staticClamp }, prot := { cmpOut := 2 ^ 9 } })
      (fun p => { p with tests := { p.tests with stackAt := some 0 } }) id id), by decide +kernel⟩,
    ⟨0, .sc2, 0, (wit (fun v =>
      { v with ch := .off, gIn := { phase := .staticClamp }, gOut := { phase := .staticClamp }, prot := { tieRun := true } })
      (fun p => { p with tests := { p.tests with tieLeft := PodCmp.tied, stackRun := true } }) id id), by decide +kernel⟩,
    ⟨0, .sc2, 0, (wit (fun v =>
      { v with ch := .off, gIn := { phase := .staticClamp }, gOut := { phase := .staticClamp }, prot := { tieRun := true } })
      (fun p => { p with tests := { p.tests with tieLeft := PodCmp.tied, stackRun := true } }) id id), by decide +kernel⟩,
    ⟨0, .inS, (wit (fun v =>
      { v with ch := .off, gIn := { phase := .staticClamp }, gOut := { phase := .staticClamp }, prot := { confirmDue := true, suspect := some .inS } })
      id id id), by decide +kernel⟩,
    ⟨0, .outS, 30000, 0, false, (wit (fun v => { v with gIn := { phase := .staticClamp } }) (fun p => prm [(OD.CH_DMG_EN, 3)]
      (({ p with tests := { p.tests with confirmSide := some .outS, confirmCodes := some (30000, 0) } }))) id id),
      by decide +kernel⟩,
    ⟨0, 0, (wit id id id id), by decide +kernel⟩,
    ⟨0, .sc1a, 0, (wit id (fun p => { p with tests := { p.tests with member := some .sc1a } }) id id), by decide +kernel⟩,
    ⟨0, .sc1a, 0, (wit id (fun p => { p with tests := { p.tests with member := some .sc1a } }) id id), by decide +kernel⟩⟩

/-- The premises of `OringOfAFeed` are met. -/
theorem witness_OringOfAFeed :
    (∃ (c : Chan) (since t : Nat) (s : State), (s.pod c).st.hvOn = true ∧ (s.pod c).orTarget.isSome = true ∧ (s.pod
      c).turnOff = none ∧ ((s.pod c).st.oring = .conducting ∨ ((s.pod c).st.ch.running = true ∧ GPhase.conducts (s.pod
      c).st.gOut.phase = true)) ∧ since + (s.pod c).prmSince since OD.CH_TREV * 5 ≤ max s.now t) ∧
    (∃ (c : Chan) (t : Nat) (s : State), (s.pod c).st.oring = .blocking ∧ (s.pod c).clampedFor .outS (max s.now t) 1000 =
      true ∧ (s.pod c).st.prot.cmpOut.testBit 5 = true ∧ (s.pod c).tests.revStill = true ∧ (s.pod c).canTrip = true) ∧
    (∃ (c : Chan) (t f : Nat) (s : State), (s.pod c).st.oring = .blocking ∧ (s.pod c).st.gOut.phase = .staticClamp ∧ (s.pod
      c).tests.vonFrom = some f ∧ f + (s.pod c).held.orTon * 1000 ≤ max s.now t ∧ (s.pod c).st.gOut.mv < (s.pod c).prmI
      OD.CH_GPRE_ON ∧ (s.pod c).tickAt = max s.now t) :=
  ⟨⟨0, 0, 0, (wit (fun v => { v with oring := .conducting }) (fun p => { p with orTarget := some 40 }) id id),
      by decide +kernel⟩,
    ⟨0, 0, (wit (fun v => { v with oring := .blocking, gOut := { phase := .staticClamp }, prot := { cmpOut := 32 } }) (fun p
      => { p with orTarget := some 40, tests := { p.tests with revStill := true } }) id id), by decide +kernel⟩,
    ⟨0, 0, 0, (wit (fun v => { v with oring := .blocking, gOut := { phase := .staticClamp, mv := -5000 } }) (fun p =>
      { p with orTarget := some 40, tickAt := 10 ^ 12, tests := { p.tests with vonFrom := some 0 } }) id id),
      by decide +kernel⟩⟩

/-- The premises of `TickHoldAndSafe` are met. -/
theorem witness_TickHoldAndSafe :
    (∃ (c : Chan) (s : State), (s.pod c).st.pod ≠ .unpowered ∧ (s.pod c).st.pod ≠ .linking ∧ (s.pod c).tickAt < ceilTick
      s.now) ∧
    (∃ (c : Chan) (s : State), (s.pod c).st.pod = .active ∧ 20 ≤ (s.pod c).misses ∧ (s.pod c).prm OD.CH_THOLD ≠ 0) ∧
    (∃ (c : Chan) (s : State), (s.pod c).st.pod = .active ∧ 20 ≤ (s.pod c).misses ∧ (s.pod c).prm OD.CH_THOLD = 0) ∧
    (∃ (c : Chan) (f : Nat) (s : State), (s.pod c).st.pod = .hold ∧ (s.pod c).st.holdFrom = some f ∧ f + (s.pod c).prm
      OD.CH_THOLD * 1000000 ≤ s.now ∧ (s.pod c).canTrip = true) :=
  ⟨⟨0, (wit id id id id), by decide +kernel⟩,
    ⟨0, (wit id (fun p => { p with misses := 20 }) id id), by decide +kernel⟩,
    ⟨0, (wit id (fun p => prm [(OD.CH_THOLD, 0)] (({ p with misses := 20 }))) id id), by decide +kernel⟩,
    ⟨0, 0, (wit (fun v => { v with pod := .hold, holdFrom := some 0 }) id id id), by decide +kernel⟩⟩

/-- The premises of `SeatingAndRemoval` are met. -/
theorem witness_SeatingAndRemoval :
    (∃ (c : Chan) (s : State), (s.pod c).samplesSeat = true ∧ (s.pod c).st.ch = .absent) ∧
    (∃ (c : Chan) (s1 s2 : Bool) (s : State), (s.pod c).st.ch = .seating ∧ (s1 && s2) = false) ∧
    (∃ (c : Chan) (t f : Nat) (s : State), (s.pod c).seatFrom = some f ∧ (s.pod c).st.ch = .seating ∧ f + (s.pod c).prmSince
      f OD.CH_TSEAT * 100000 ≤ max s.now t ∧ (s.port c).linked = true ∧ s.hubUp = true ∧ (s.pod c).st.own.link = some true ∧
      (s.pod c).st.pod.holds = false) ∧
    (∃ (c : Chan) (t f : Nat) (s : State), (s.pod c).seatFrom = some f ∧ (s.pod c).st.ch = .seating ∧ f + (s.pod c).prmSince
      f OD.CH_TSEAT * 100000 ≤ max s.now t ∧ (s.port c).linked = false) ∧
    (∃ (c : Chan) (s1 s2 : Bool) (tf t : Nat) (s : State), (s.pod c).samplesSeat = true ∧ (s.pod c).st.ch ≠ .absent ∧ (s.pod
      c).st.ch ≠ .seating ∧ (s.pod c).absentDue = false ∧ (s1 && s2) = false ∧ tf + (s.pod c).prmSince tf OD.CH_TSEATLOSS *
      1000 ≤ max s.now t) ∧
    (∃ (c : Chan) (f : Nat) (s : State), (s.port c).seat.lossFrom = some f ∧ f + (s.port c).seat.lossFor ≤ s.now) ∧
    (∃ (c : Chan) (g : Nat) (s : State), (s.port c).seat.guardUntil = some g ∧ g ≤ s.now) :=
  ⟨⟨0, (wit (fun v => { v with ch := .absent }) id id id), by decide +kernel⟩,
    ⟨0, true, false, (wit (fun v => { v with ch := .seating }) id id id), by decide +kernel⟩,
    ⟨0, 0, 0, (wit (fun v => { v with ch := .seating }) (fun p => { p with seatFrom := some 0 }) id id), by decide +kernel⟩,
    ⟨0, 0, 0, (wit (fun v => { v with ch := .seating }) (fun p => { p with seatFrom := some 0 }) (fun q =>
      { q with linked := false }) id), by decide +kernel⟩,
    ⟨0, true, false, 5, 0, (wit id id id id), by decide +kernel⟩,
    ⟨0, 0, (wit id id (fun q => { q with seat := { q.seat with lossFrom := some 0 } }) id), by decide +kernel⟩,
    ⟨0, 7, (wit id id (fun q => { q with seat := { q.seat with guardUntil := some 7 } }) id), by decide +kernel⟩⟩

/-- The premises of `PodSupplyAndLink` are met. -/
theorem witness_PodSupplyAndLink :
    (∃ (c : Chan) (kind : PodKind) (a b : Bool) (s : State), (s.pod c).st.pod = .unpowered ∧ (a && supplyOn s c || b) = true
      ∧ kind ≠ .none) ∧
    (∃ (c : Chan) (s : State), (s.pod c).st.pod ≠ .unpowered) ∧
    (∃ (c : Chan) (s : State), (s.pod c).st.pod ≠ .unpowered ∧ (s.port c).linked = false ∧ s.hubUp = true) ∧
    (∃ (c : Chan) (s : State), (s.port c).linked = true) :=
  ⟨⟨0, .tm6421, true, false, (wit (fun v => { v with pod := .unpowered, hvOn := false }) id id id), by decide +kernel⟩,
    ⟨0, (wit id id id id), by decide +kernel⟩,
    ⟨0, (wit id id (fun q => { q with linked := false }) id), by decide +kernel⟩,
    ⟨0, (wit id id id id), by decide +kernel⟩⟩

/-- The premises of `PodFramesAndClaims` are met. -/
theorem witness_PodFramesAndClaims :
    (∃ (rx : RxFrame), rx.crcOk = false) ∧
    (∃ (c : Chan) (rx : RxFrame) (s : State), rx.crcOk = true ∧ rx.own = true ∧ (s.port c).linked = true ∧ s.hubUp = true ∧
      (s.pod c).st.pod ≠ .unpowered ∧ (s.pod c).st.own.link = some true ∧ (s.port c).down.claim = .own) ∧
    (∃ (c : Chan) (rx : RxFrame) (s : State), rx.crcOk = true ∧ rx.own = false ∧ (s.pod c).st.pod ≠ .unpowered ∧ (s.pod
      c).st.own.link = some true ∧ rx.frame.claim = .own ∧ (s.pod c).acceptsOwn rx.frame.epoch = false) ∧
    (∃ (c : Chan) (s : State), (s.port c).linked = true ∧ s.hubUp = true) ∧
    (∃ (c : Chan) (s : State), (s.port c).linked = true ∧ s.hubUp = true) ∧
    (∃ (c : Chan) (f : Nat) (s : State), (s.port c).releasing = some f ∧ f + 100000 ≤ s.now) ∧
    (∃ (c : Chan) (f : Nat) (s : State), (s.port c).ownerless = some f ∧ f + 100 * msNs ≤ s.now ∧ partnered s c = true ∧
      (s.port c).own = false ∧ (s.port c).linked = true) :=
  ⟨⟨{ own := true, crcOk := false }, by decide +kernel⟩,
    ⟨0, { own := true, crcOk := true }, (wit id id id id), by decide +kernel⟩,
    ⟨0, { own := false, crcOk := true, frame := { claim := .own } }, (wit id id id id), by decide +kernel⟩,
    ⟨0, (wit id id id id), by decide +kernel⟩,
    ⟨0, (wit id id id id), by decide +kernel⟩,
    ⟨0, 0, (wit id id (fun q => { q with releasing := some 0 }) id), by decide +kernel⟩,
    ⟨0, 0, (wit id id (fun q => { q with own := false, ownerless := some 0 }) (fun s => act [(OD.HUB_PX_PORTS, 0, 1)] (s))),
      by decide +kernel⟩⟩

/-- The premises of `StartOfAChannel` are met. -/
theorem witness_StartOfAChannel :
    (∃ (c : Chan) (t : Nat) (s : State), startReady s c = true ∧ reaches s c = true ∧ (s.pod c).acked = true ∧ max s.now t %
      1000 = 0 ∧ startsByIn s c = false ∧ (s.pod c).startBits = 0) ∧
    (∃ (c : Chan) (t : Nat) (s : State), startReady s c = true ∧ reaches s c = true ∧ (s.pod c).acked = true ∧ max s.now t %
      1000 = 0 ∧ (s.pod c).startBits ≠ 0) ∧
    (∃ (c : Chan) (ic : List Raw) (vc : List Raw) (t : Nat) (s : State), (s.pod c).st.ch = .starting ∧ (s.pod c).prm
      OD.CH_ESLEW_MAX * 10 ^ 18 < ((s.pod c).upTo ic vc (max s.now t)).energy ∧ (s.pod c).canTrip = true) ∧
    (∃ (c : Chan) (s : State), (s.pod c).tickAt = s.now ∧ (s.pod c).st.counting = true ∧ (s.pod c).st.pg = false ∧ (s.pod
      c).pgHolds = true ∧ (s.pod c).prm OD.CH_TPG ≤ (s.pod c).pgCount) :=
  ⟨⟨0, 0, (wit (fun v =>
      { v with ch := .off, gstat := 0, gIn := { phase := .staticClamp }, gOut := { phase := .staticClamp } }) (fun p => prm
      [(OD.CH_ROLE, 1)] (p)) (fun q => { q with enable := true }) (fun s => act [(OD.CH_ROLE, 0, 1)] (s))),
      by decide +kernel⟩,
    ⟨0, 0, (wit (fun v =>
      { v with ch := .off, gstat := 0, gIn := { phase := .staticClamp }, gOut := { phase := .staticClamp } }) (fun p =>
      { p with st := { p.st with gstat := 1 } }) (fun q => { q with enable := true, seen := { q.seen with gstat := 0 } })
      (fun s => act [(OD.CH_ROLE, 0, 1)] (s))), by decide +kernel⟩,
    ⟨0, [], [], 0, (wit (fun v => { v with ch := .starting }) (fun p =>
      { p with energy := 10 ^ 30, slewing := (true, false) }) id id), by decide +kernel⟩,
    ⟨0, (wit (fun v =>
      { v with ch := .starting, gstat := 12, counting := true, meas := { vdi := { ok := true }, vdo := { ok := true } } })
      (fun p => { p with pgCount := 10 ^ 6, tickAt := 10 ^ 12 }) id id), by decide +kernel⟩⟩

/-- The premises of `RetriesAndToggles` are met. -/
theorem witness_RetriesAndToggles :
    (∃ (c : Chan) (s : State), retryIsDue s c = true ∧ retryReady s c = true ∧ reaches s c = true ∧ (s.pod c).st.ch =
      .tripped ∧ (s.seen c).trip.n = (s.pod c).st.trip.n) ∧
    (∃ (c : Chan) (s : State), retryIsDue s c = true ∧ retryReady s c = true ∧ reaches s c = true ∧ (s.pod c).st.ch =
      .tripped ∧ (s.seen c).trip.n = (s.pod c).st.trip.n) ∧
    (∃ (c : Chan) (f : Nat) (s : State), (s.port c).cleanFrom = some f ∧ f + s.act OD.CH_RETRY_RESET c.val * msNs ≤ s.now) ∧
    (∃ (c : Chan) (s : State), coolEnd s c ≤ s.now ∧ (s.port c).enable = false) ∧
    (∃ (c : Chan) (t : Nat) (s : State), (s.port c).toggling = true ∧ (s.pod c).tests.toggle = true ∧ reaches s c = true ∧
      max s.now t % 1000 = 0 ∧ (s.pod c).st.ch = .latched ∧ (s.seen c).trip.n = (s.pod c).st.trip.n) ∧
    (∃ (c : Chan) (m t : Nat) (s : State), (s.port c).toggling = true ∧ (s.pod c).tests.toggle = true ∧ reaches s c = true ∧
      max s.now t % 1000 = 0 ∧ m % 2048 ≠ 0) :=
  ⟨⟨0, (wit (fun v => { v with ch := .tripped, gIn := { phase := .staticClamp }, gOut := { phase := .staticClamp } }) id (fun
      q => { q with trip := { q.trip with retryDue := some 0, state := .tripped }, enable := true }) id), by decide +kernel⟩,
    ⟨0, (wit (fun v => { v with ch := .tripped, gIn := { phase := .staticClamp }, gOut := { phase := .staticClamp } }) id
      (fun q => { q with trip := { q.trip with retryDue := some 0, state := .tripped }, enable := true }) id),
      by decide +kernel⟩,
    ⟨0, 0, (wit id id (fun q => { q with cleanFrom := some 0 }) id), by decide +kernel⟩,
    ⟨0, (wit id id id id), by decide +kernel⟩,
    ⟨0, 0, (wit (fun v => { v with ch := .latched, gIn := { phase := .staticClamp }, gOut := { phase := .staticClamp } })
      (fun p => { p with tests := { p.tests with toggle := true } }) (fun q => { q with toggling := true }) id),
      by decide +kernel⟩,
    ⟨0, 5, 0, (wit (fun v => { v with ch := .latched, gIn := { phase := .staticClamp }, gOut := { phase := .staticClamp } })
      (fun p => { p with tests := { p.tests with toggle := true } }) (fun q => { q with toggling := true }) id),
      by decide +kernel⟩⟩

/-- The premises of `BusFaultAndLines` are met. -/
theorem witness_BusFaultAndLines :
    (∃ (b : BusId) (c : Chan) (s : State), s.actB OD.BUS_BF_EN b.val = true ∧ (s.bus b).bf = false ∧ bfFirst s b = some c) ∧
    (∃ (x : AB) (s : State), s.hubUp = true ∧ fltoCond s x = false ∧ fltoHold s x = false ∧ (s.out_ x).since + s.act
      OD.HUB_FLTO_MINW x.val * usNs ≤ s.now) ∧
    (∃ (x : AB) (since t : Nat) (s : State), s.hubUp = true ∧ s.flti.testBit x.val = false ∧ since + s.act OD.HUB_FLTI_FILT
      x.val * 5 ≤ max s.now t) ∧
    (∃ (k : KPort) (b : Byte) (l : Quad) (s : State), hearsPort s k = true ∧ tokenLink b = false ∧ tokenLine b = l) ∧
    (∃ (l : Quad) (t : Nat) (s : State), (s.line l).asserting = true ∧ (s.line l).ownAt = some t ∧ t + 5000 ≤ s.now) ∧
    (∃ (l : Quad) (p : Nat) (s : State), (s.line l).pulseUntil = some p ∧ p ≤ s.now) ∧
    (∃ (l : Quad) (s : State), (s.line l).view = true ∧ (s.line l).lastToken + 12000 ≤ s.now) :=
  ⟨⟨0, 0, (wit (fun v => { v with ch := .tripped, startAt := some 0 }) id (fun q =>
      { q with trip := { q.trip with set := addCause 0 .sc2, cause := Cause.sc2.code, time := 10 ^ 12 - 100000, seenN := 1, state := .tripped } })
      (fun s => act [(OD.CH_ROLE, 0, 1), (OD.CH_BUS, 0, 0), (OD.CH_ROLE, 1, 1), (OD.CH_BUS, 1, 0)] (((s.updPort 1 fun _ =>
      s.port 0).updPod 1 fun _ => s.pod 0)))), by decide +kernel⟩,
    ⟨0, (wit id id id id), by decide +kernel⟩,
    ⟨0, 0, 0, (wit id id id id), by decide +kernel⟩,
    ⟨0, tokenByte false 1 3, 1, (wit id id id id), by decide +kernel⟩,
    ⟨2, 5, (wit id id id (fun s => s.updLine 2 fun x => { x with asserting := true, ownAt := some 5 })), by decide +kernel⟩,
    ⟨2, 5, (wit id id id (fun s => s.updLine 2 fun x => { x with asserting := true, pulseUntil := some 5 })),
      by decide +kernel⟩,
    ⟨2, (wit id id id (fun s => s.updLine 2 fun x => { x with view := true })), by decide +kernel⟩⟩

/-- The premises of `PrechargeSequence` are met. -/
theorem witness_PrechargeSequence :
    (∃ (p : Quad) (c : Chan) (s : State), feedOfPre s.active p = some c ∧ preCanStart s p = true ∧ reaches s c = true ∧
      (s.pod c).acked = true ∧ s.now % 1000 = 0) ∧
    (∃ (p : Quad) (s : State), (s.conv p).state = .selftest ∧ preDue s p = []) ∧
    (∃ (p : Quad) (s : State), (s.conv p).state = .selftest) ∧
    (∃ (n : Oct) (p : Quad) (s : State), preOwner s (mainOf n) = some p ∧ n.val < 4 ∧ (s.conv p).state = .charging) ∧
    (∃ (p : Quad) (s : State), (s.conv p).state = .paused ∧ pauseOver s p = false) ∧
    (∃ (p : Quad) (s : State), (s.conv p).state.busy = true ∧ (preDue s p).head? = some .pauseLimit) ∧
    (∃ (p : Quad) (c : Chan) (s : State), (s.conv p).state = .qualify ∧ (s.conv p).qualAt + s.act OD.PRE_TCLOSEQ p.val * usNs
      ≤ s.now ∧ preDue s p = [] ∧ feedOfPre s.active p = some c) ∧
    (∃ (p : Quad) (s : State), noProgress s p = false ∧ windowOver s p = true) ∧
    (∃ (p : Quad) (s : State), (s.conv p).state.busy = true ∧ (preDue s p).head? = some .noProgress) ∧
    (∃ (p : Quad) (s : State), (s.conv p).state.busy = true ∧ (preDue s p).head? = some .timeLimit) ∧
    (∃ (p : Quad) (s : State), (s.conv p).state.busy = true ∧ (preDue s p).head? = some .closeLimit) :=
  ⟨⟨0, 0, (wit (fun v =>
      { v with ch := .off, gstat := 0, gIn := { phase := .staticClamp }, gOut := { phase := .staticClamp } }) id (fun q =>
      { q with enable := true }) (fun s => act [(OD.PRE_BUS, 0, 0), (OD.PRE_FEED, 0, 0), (OD.CH_ROLE, 0, 1), (OD.CH_BUS, 0,
      0)] ((s.updBus 0 fun x => { x with sel := some 0 })))), by decide +kernel⟩,
    ⟨0, (wit (fun v => { v with ch := .starting, gIn := { phase := .staticClamp }, gOut := { phase := .staticClamp } }) id
      (fun q => { q with enable := true }) (fun s => act [(OD.PRE_BUS, 0, 0), (OD.PRE_FEED, 0, 0), (OD.CH_ROLE, 0, 1),
      (OD.CH_BUS, 0, 0)] ((s.updPre 0 fun x =>
      { x with state := .selftest, selfAt := s.now, winAt := s.now, qualAt := 0, closeAt := s.now, pauseAt := s.now })))),
      by decide +kernel⟩,
    ⟨0, (wit (fun v =>
      { v with ch := .off, gstat := 0, gIn := { phase := .staticClamp }, gOut := { phase := .staticClamp }, prot := { cmpOut := 2 ^ 9 } })
      id (fun q => { q with enable := true }) (fun s => act [(OD.PRE_BUS, 0, 0), (OD.PRE_FEED, 0, 0), (OD.CH_ROLE, 0, 1),
      (OD.CH_BUS, 0, 0)] ((s.updPre 0 fun x =>
      { x with state := .selftest, selfAt := s.now, winAt := s.now, qualAt := 0, closeAt := s.now, pauseAt := s.now })))),
      by decide +kernel⟩,
    ⟨0, 0, (wit (fun v =>
      { v with ch := .off, gstat := 0, gIn := { phase := .staticClamp }, gOut := { phase := .staticClamp }, prot := { cmpOut := 2 ^ 9 } })
      id (fun q => { q with enable := true }) (fun s => act [(OD.PRE_BUS, 0, 0), (OD.PRE_FEED, 0, 0), (OD.CH_ROLE, 0, 1),
      (OD.CH_BUS, 0, 0)] ((s.updPre 0 fun x =>
      { x with state := .charging, selfAt := s.now, winAt := s.now, qualAt := 0, closeAt := s.now, pauseAt := s.now })))),
      by decide +kernel⟩,
    ⟨0, (wit (fun v =>
      { v with ch := .off, gstat := 0, gIn := { phase := .staticClamp }, gOut := { phase := .staticClamp }, prot := { cmpOut := 2 ^ 9 } })
      id (fun q => { q with enable := true }) (fun s => act [(OD.PRE_BUS, 0, 0), (OD.PRE_FEED, 0, 0), (OD.CH_ROLE, 0, 1),
      (OD.CH_BUS, 0, 0)] ((s.updPre 0 fun x =>
      { x with state := .paused, selfAt := s.now, winAt := s.now, qualAt := 0, closeAt := s.now, pauseAt := s.now })))),
      by decide +kernel⟩,
    ⟨0, (wit (fun v =>
      { v with ch := .off, gstat := 0, gIn := { phase := .staticClamp }, gOut := { phase := .staticClamp }, prot := { cmpOut := 2 ^ 9 } })
      id (fun q => { q with enable := true }) (fun s => act [(OD.PRE_BUS, 0, 0), (OD.PRE_FEED, 0, 0), (OD.CH_ROLE, 0, 1),
      (OD.CH_BUS, 0, 0)] ((s.updPre 0 fun x =>
      { x with state := .paused, selfAt := s.now, winAt := s.now, qualAt := 0, closeAt := s.now, pauseAt := 0 })))),
      by decide +kernel⟩,
    ⟨0, 0, (wit (fun v => { v with ch := .starting, gIn := { phase := .staticClamp }, gOut := { phase := .staticClamp } }) id
      (fun q => { q with enable := true }) (fun s => act [(OD.PRE_BUS, 0, 0), (OD.PRE_FEED, 0, 0), (OD.CH_ROLE, 0, 1),
      (OD.CH_BUS, 0, 0)] ((s.updPre 0 fun x =>
      { x with state := .qualify, selfAt := s.now, winAt := s.now, qualAt := 0, closeAt := s.now, pauseAt := s.now })))),
      by decide +kernel⟩,
    ⟨0, (wit (fun v =>
      { v with ch := .off, gstat := 0, gIn := { phase := .staticClamp }, gOut := { phase := .staticClamp }, prot := { cmpOut := 2 ^ 9 } })
      id (fun q => { q with enable := true }) (fun s => act [(OD.PRE_BUS, 0, 0), (OD.PRE_FEED, 0, 0), (OD.CH_ROLE, 0, 1),
      (OD.CH_BUS, 0, 0)] ((s.updPre 0 fun x =>
      { x with state := .charging, selfAt := s.now, winAt := 0, qualAt := 0, closeAt := s.now, pauseAt := s.now })))),
      by decide +kernel⟩,
    ⟨0, (wit (fun v =>
      { v with ch := .off, gstat := 0, gIn := { phase := .staticClamp }, gOut := { phase := .staticClamp }, prot := { cmpOut := 2 ^ 9 } })
      id (fun q => { q with enable := true }) (fun s => act [(OD.PRE_BUS, 0, 0), (OD.PRE_FEED, 0, 0), (OD.CH_ROLE, 0, 1),
      (OD.CH_BUS, 0, 0)] ((s.updPre 0 fun x =>
      { x with state := .charging, selfAt := s.now, winAt := 0, qualAt := 0, closeAt := s.now, pauseAt := s.now, winVin := 10 ^ 9 })))),
      by decide +kernel⟩,
    ⟨0, (wit (fun v =>
      { v with ch := .off, gstat := 0, gIn := { phase := .staticClamp }, gOut := { phase := .staticClamp }, prot := { cmpOut := 2 ^ 9 } })
      id (fun q => { q with enable := true }) (fun s => act [(OD.PRE_BUS, 0, 0), (OD.PRE_FEED, 0, 0), (OD.CH_ROLE, 0, 1),
      (OD.CH_BUS, 0, 0)] ((s.updPre 0 fun x =>
      { x with state := .charging, selfAt := 0, winAt := s.now, qualAt := 0, closeAt := s.now, pauseAt := s.now })))),
      by decide +kernel⟩,
    ⟨0, (wit (fun v =>
      { v with ch := .off, gstat := 0, gIn := { phase := .staticClamp }, gOut := { phase := .staticClamp }, prot := { cmpOut := 2 ^ 9 } })
      id (fun q => { q with enable := true }) (fun s => act [(OD.PRE_BUS, 0, 0), (OD.PRE_FEED, 0, 0), (OD.CH_ROLE, 0, 1),
      (OD.CH_BUS, 0, 0)] ((s.updPre 0 fun x =>
      { x with state := .handover, selfAt := s.now, winAt := s.now, qualAt := 0, closeAt := 0, pauseAt := s.now })))),
      by decide +kernel⟩⟩

/-- The premises of `DischargeSequence` are met. -/
theorem witness_DischargeSequence :
    (∃ (d : Quad) (v : Int) (s : State), (s.chop d).state = .wait ∧ (s.chop d).req = true ∧ runsDis s d = true ∧ disReason s
      d = none ∧ disV s d = some v) ∧
    (∃ (d : Quad) (f : Nat) (s : State), (s.chop d).doneFrom = some f ∧ (s.chop d).state = .run ∧ f + s.act OD.DIS_TDONEQ
      d.val * usNs ≤ s.now) ∧
    (∃ (d : Quad) (s : State), ((s.chop d).state = .run ∨ (s.chop d).state = .done ∨ (s.chop d).state = .wait) ∧ (s.act
      OD.DIS_EMAX d.val : Int) * 1000000000 < (s.chop d).eacc) ∧
    (∃ (d : Quad) (r : Nat) (s : State), (s.chop d).runAt = some r ∧ ((s.chop d).state = .run ∨ (s.chop d).state = .wait) ∧
      (s.chop d).doneOnce = false ∧ r + s.act OD.DIS_TMAX d.val * msNs ≤ s.now) :=
  ⟨⟨0, 0, (wit (fun v =>
      { v with ch := .off, gIn := { phase := .staticClamp }, gOut := { phase := .staticClamp }, meas := { vdo := { ok := true }, vdn := { ok := true } } })
      id id (fun s => act [(OD.DIS_BUS, 0, 0), (OD.CH_ROLE, 0, 1), (OD.CH_BUS, 0, 0)] ((s.updDis 0 fun x =>
      { x with req := true, state := .wait }).updBus 0 (fun x => { x with vsrc := some 0 })))), by decide +kernel⟩,
    ⟨0, 0, (wit id id id (fun s => act [(OD.DIS_BUS, 0, 0)] ((s.updDis 0 fun x =>
      { x with state := .run, doneFrom := some 0 })))), by decide +kernel⟩,
    ⟨0, (wit id id id (fun s => act [(OD.DIS_BUS, 0, 0)] ((s.updDis 0 fun x => { x with state := .run, eacc := 10 ^ 20 })))),
      by decide +kernel⟩,
    ⟨0, 0, (wit id id id (fun s => act [(OD.DIS_BUS, 0, 0)] ((s.updDis 0 fun x =>
      { x with state := .run, runAt := some 0 })))), by decide +kernel⟩⟩

/-- The premises of `FeedTransfersAndSharing` are met. -/
theorem witness_FeedTransfersAndSharing :
    (∃ (b : BusId) (c : Chan) (f : Nat) (s : State), runsBus s b = true ∧ (s.bus b).sel = some c ∧ (s.bus b).xfer = .steady ∧
      s.act OD.BUS_FMODE b.val = 1 ∧ (hubCh s c).running = true ∧ (s.port c).feed.lossFrom = some f ∧ f + (s.port
      c).feed.lossFor * usNs ≤ s.now) ∧
    (∃ (b : BusId) (c k : Chan) (s : State), runsBus s b = true ∧ (s.bus b).sel = some c ∧ (s.bus b).xfer = .steady ∧ s.act
      OD.BUS_FMODE b.val = 1 ∧ s.actB OD.BUS_REVERT b.val = true ∧ (s.bus b).steadyFrom + s.act OD.BUS_TREVERT b.val * msNs ≤
      s.now ∧ (hubCh s c).running = true ∧ revertTo s b c = some k) ∧
    (∃ (b : BusId) (new : Chan) (t : Nat) (s : State), runsBus s b = true ∧ (s.bus b).xfer = .gap ∧ (s.bus b).tStatic = some
      t ∧ (s.bus b).xNew = some new ∧ t + (s.bus b).xTbbm * usNs ≤ s.now ∧ (s.bus b).xSent = false ∧ (s.pod new).busyForStart
      = false) ∧
    (∃ (b : BusId) (new : Chan) (t : Nat) (s : State), runsBus s b = true ∧ (s.bus b).xNew = some new ∧ makeFrom s b new =
      some t ∧ hubCh s new ≠ .on ∧ t + (s.bus b).xTmax * msNs ≤ s.now) ∧
    (∃ (b : BusId) (x y : Chan) (ix iy : Int) (s : State), runsBus s b = true ∧ engineFeeds s b = some (x, y) ∧ orLoop s b =
      true ∧ orOf s x = .conducting ∧ orOf s y = .conducting ∧ (s.bus b).shareAt + 100000 ≤ s.now ∧ (s.port x).mtr.meanI =
      some ix ∧ (s.port y).mtr.meanI = some iy) ∧
    (∃ (b : BusId) (f : Nat) (s : State), runsBus s b = true ∧ (s.bus b).blockedFrom = some f ∧ f + msNs ≤ s.now ∧ orBlocked
      s b = true) :=
  ⟨⟨0, 0, 0, (wit id id (fun q => { q with feed := { lossFrom := some 0 } }) (fun s => act [(OD.CH_ROLE, 0, 1), (OD.CH_BUS,
      0, 0), (OD.CH_ROLE, 1, 1), (OD.CH_BUS, 1, 0)] (((s.updPort 1 fun _ => s.port 0).updPod 1 fun _ => s.pod 0).updBus 0
      (fun x => { x with sel := some 0, eligible := 2 })))), by decide +kernel⟩,
    ⟨0, 1, 0, (wit id id (fun q => { q with feed := { eligibleFrom := some 0 } }) (fun s => act [(OD.CH_ROLE, 0, 1),
      (OD.CH_BUS, 0, 0), (OD.CH_ROLE, 1, 1), (OD.CH_BUS, 1, 0), (OD.BUS_REVERT, 0, 1)] (((s.updPort 1 fun _ => s.port
      0).updPod 1 fun _ => s.pod 0).updBus 0 (fun x => { x with sel := some 1 })))), by decide +kernel⟩,
    ⟨0, 1, 0, (wit id id id (fun s => act [(OD.CH_ROLE, 0, 1), (OD.CH_BUS, 0, 0), (OD.CH_ROLE, 1, 1), (OD.CH_BUS, 1, 0)]
      (((s.updPort 1 fun _ => s.port 0).updPod 1 fun _ => s.pod 0).updBus 0 (fun x =>
      { x with xfer := .gap, tStatic := some 0, xNew := some 1 })))), by decide +kernel⟩,
    ⟨0, 1, 5, (wit (fun v => { v with ch := .starting, startAt := some 5 }) id id (fun s => act [(OD.CH_ROLE, 0, 1),
      (OD.CH_BUS, 0, 0), (OD.CH_ROLE, 1, 1), (OD.CH_BUS, 1, 0)] (((s.updPort 1 fun _ => s.port 0).updPod 1 fun _ => s.pod
      0).updBus 0 (fun x => { x with xfer := .make, xNew := some 1, xFrom := 0 })))), by decide +kernel⟩,
    ⟨0, 0, 1, 100, 100, (wit (fun v => { v with oring := .conducting }) id (fun q => { q with mtr := { meanI := some 100 } })
      (fun s => act [(OD.CH_ROLE, 0, 1), (OD.CH_BUS, 0, 0), (OD.CH_ROLE, 1, 1), (OD.CH_BUS, 1, 0), (OD.BUS_FMODE, 0, 2),
      (OD.BUS_OR_SHARE, 0, 1)] (((s.updPort 1 fun _ => s.port 0).updPod 1 fun _ => s.pod 0).updBus 0 (fun x =>
      { x with shareAt := 0 })))), by decide +kernel⟩,
    ⟨0, 0, (wit (fun v => { v with oring := .blocking }) id id (fun s => act [(OD.CH_ROLE, 0, 1), (OD.CH_BUS, 0, 0),
      (OD.CH_ROLE, 1, 1), (OD.CH_BUS, 1, 0), (OD.BUS_FMODE, 0, 2)] (((s.updPort 1 fun _ => s.port 0).updPod 1 fun _ => s.pod
      0).updBus 0 (fun x => { x with blockedFrom := some 0 })))), by decide +kernel⟩⟩

/-- The premises of `NodesUrgentListsAndWindows` are met. -/
theorem witness_NodesUrgentListsAndWindows :
    (∃ (c : Chan) (d : Dwell) (l : List Dwell) (s : State), (s.pod c).adc.dwells = d :: l) ∧
    (∃ (c : Chan) (r : UrgRun) (t : Nat) (s : State), (s.pod c).st.hvOn = true ∧ (s.pod c).adc.openRun = some r ∧
      r.lastListed + 225 ≤ max s.now t) ∧
    (∃ (c : Chan) (r : UrgRun) (codes : List Raw) (x : Side) (t : Nat) (s : State), (s.pod c).st.hvOn = true ∧ (s.pod
      c).adc.openRun = some r ∧ r.lastListed + 225 ≤ max s.now t ∧ Urgent.stackTest ∈ r.causes ∧ (s.pod c).tests.stackRun =
      true ∧ (s.pod c).bothClamped = true ∧ (s.pod c).nodeCheck ((s.pod c).runCode (r.deliver codes) .vdi) ((s.pod c).runCode
      (r.deliver codes) .vdo) = some (x, true) ∧ ((s.pod c).prm OD.CH_DMG_EN).testBit 1 = true ∧ ((s.pod c).gate x).phase =
      .staticClamp) ∧
    (∃ (c : Chan) (k : PodCmp) (t : Nat) (s : State), (s.pod c).st.hvOn = true ∧ (s.pod c).prm OD.ADC_PAIR = 1 ∧ ((s.pod
      c).prm OD.ADC_PAIR_TRIG).testBit k.bit = true ∧ (s.pod c).masked k (max s.now t) = false ∧ (s.pod c).hold k = none ∧
      (s.pod c).adc.winFrom = none ∧ ((s.pod c).adc.winEnd = 0 ∨ (s.pod c).adc.winEnd + 1000 ≤ max s.now t) ∧ (s.pod
      c).adc.pending < 16 ∧ (s.pod c).st.adc.routing = .normal) ∧
    (∃ (c : Chan) (t : Nat) (s : State), (s.pod c).st.hvOn = true ∧ (s.pod c).prm OD.ADC_PAIR = 2 ∧ (s.pod c).adc.winFrom =
      none ∧ (s.pod c).st.adc.routing = .normal ∧ max s.now t % 1000 = 0 ∧ (max s.now t - (s.pod c).adc.altFrom) / 1000 % 2 =
      0) ∧
    (∃ (c : Chan) (k : PodCmp) (t : Nat) (s : State), (s.pod c).st.hvOn = true ∧ (s.pod c).prm OD.ADC_PAIR = 1 ∧ ((s.pod
      c).prm OD.ADC_PAIR_TRIG).testBit k.bit = true ∧ (s.pod c).masked k (max s.now t) = false ∧ (s.pod c).hold k = none ∧
      (s.pod c).adc.winFrom.isSome = true) ∧
    (∃ (c : Chan) (f t : Nat) (s : State), (s.pod c).adc.winFrom = some f ∧ f + 1000 ≤ max s.now t) :=
  ⟨⟨0, { node := 0, sum := 100, n := 8 }, [], (wit id (fun p =>
      { p with adc := { p.adc with dwells := [{ node := 0, sum := 100, n := 8 }] } }) id id), by decide +kernel⟩,
    ⟨0, { causes := [.snapshot], pts := [(10, .vdi), (60, .vdo), (110, .vdn)] }, 0, (wit id (fun p =>
      { p with adc := { p.adc with runs := [{ causes := [.snapshot], pts := [(10, .vdi), (60, .vdo), (110, .vdn)] }] } }) id
      id), by decide +kernel⟩,
    ⟨0, { causes := [.stackTest], pts := [(10, .vdi), (60, .vdo), (110, .vdn)] }, [{ code := 0 }, { code := -30000 },
      { code := 0 }], .inS, 0, (wit (fun v =>
      { v with ch := .off, gIn := { phase := .staticClamp }, gOut := { phase := .staticClamp } }) (fun p => prm
      [(OD.CH_DMG_EN, 3)]
      (({ p with adc := { p.adc with runs := [{ causes := [.stackTest], pts := [(10, .vdi), (60, .vdo), (110, .vdn)] }] }, tests := { p.tests with stackRun := true } })))
      id id), by decide +kernel⟩,
    ⟨0, .sc2, 0, (wit id (fun p => prm [(OD.ADC_PAIR, 1)] (p)) id id), by decide +kernel⟩,
    ⟨0, 0, (wit id (fun p => prm [(OD.ADC_PAIR, 2)] (p)) id id), by decide +kernel⟩,
    ⟨0, .sc2, 0, (wit id (fun p => prm [(OD.ADC_PAIR, 1)] (({ p with adc := { p.adc with winFrom := some 0 } }))) id id),
      by decide +kernel⟩,
    ⟨0, 0, 0, (wit id (fun p => { p with adc := { p.adc with winFrom := some 0 } }) id id), by decide +kernel⟩⟩

/-- The premises of `CalibrationAndBursts` are met. -/
theorem witness_CalibrationAndBursts :
    (∃ (p : Pod), p.st.hvOn = true) ∧
    (∃ (c : Chan) (a : List Int) (b : List Int) (d : List Int) (f t : Nat) (s : State), (s.pod c).adc.calFrom = some f ∧ f +
      3200000 ≤ max s.now t ∧ badOf [(0, sliceLimits, a), (1, sliceLimits, b), (2, feLimits, d)] = none) ∧
    (∃ (c : Chan) (a : List Int) (b : List Int) (d : List Int) (f t : Nat) (s : State), (s.pod c).adc.calFrom = some f ∧ f +
      3200000 ≤ max s.now t ∧ (badOf [(0, sliceLimits, a), (1, sliceLimits, b), (2, feLimits, d)]).isSome = true) ∧
    (∃ (c : Chan) (l : List Int) (f t : Nat) (s : State), (s.pod c).adc.recalFrom = some f ∧ (s.pod c).adc.coverFrom = none ∧
      f + 3200000 ≤ max s.now t ∧ (s.pod c).adc.recalKind = 1 ∧ badOf [(0, sliceLimits, l)] = none) ∧
    (∃ (c : Chan) (f : Nat) (s : State), (s.pod c).adc.coverFrom = some f ∧ ceilTick (f + 200) ≤ s.now) ∧
    (∃ (c : Chan) (s : State), ((s.pod c).st.pod = .parked ∨ (s.pod c).st.pod = .linking) ∧ (s.pod c).st.hvOn = true ∧ (s.pod
      c).st.adc.routing = .burst ∧ s.now % 1000 = 0 ∧ (s.pod c).tickAt < s.now ∧ (s.pod c).adc.burstAt + (s.pod c).prm
      OD.ADC_PARK_PER * msNs + 5000 ≤ s.now) ∧
    (∃ (i : Nat) (s : State), i < 8 ∧ (s.hubUp = true ∨ s.hub = .boot) ∧ (hkInputs (s.act OD.ADC_HK_EN))[s.hkPos]? = some i ∧
      s.hkFrom + (15 * (hkInputs (s.act OD.ADC_HK_EN)).length + s.hkPos + 1) * usNs ≤ s.now) ∧
    (∃ (s : State), s.hub = .sleep ∧ s.act OD.ADC_HK_SLEEP_PER ≠ 0 ∧ s.hkAt + s.act OD.ADC_HK_SLEEP_PER * msNs + hkBurstNs
      (hkInputs (s.act OD.ADC_HK_SLEEP_EN)).length ≤ s.now) :=
  ⟨⟨{ st := liveSt }, by decide +kernel⟩,
    ⟨0, (List.replicate 12 1), (List.replicate 12 1), [1, 1, 1, 1], 0, 0, (wit id (fun p =>
      { p with adc := { p.adc with calFrom := some 0 } }) id id), by decide +kernel⟩,
    ⟨0, [9999], (List.replicate 12 1), [1, 1, 1, 1], 0, 0, (wit id (fun p =>
      { p with adc := { p.adc with calFrom := some 0 } }) id id), by decide +kernel⟩,
    ⟨0, (List.replicate 12 1), 0, 0, (wit id (fun p => { p with adc := { p.adc with recalFrom := some 0, recalKind := 1 } })
      id id), by decide +kernel⟩,
    ⟨0, 0, (wit id (fun p => { p with adc := { p.adc with coverFrom := some 0 } }) id id), by decide +kernel⟩,
    ⟨0, (wit (fun v => { v with pod := .parked, adc := { routing := .burst } }) id id id), by decide +kernel⟩,
    ⟨3, (wit id id id (fun s => act [(OD.ADC_HK_EN, 0, 8)] (s))), by decide +kernel⟩,
    ⟨(wit id id id (fun s => act [(OD.ADC_HK_SLEEP_PER, 0, 10)] { s with hub := .sleep })), by decide +kernel⟩⟩

/-- The premises of `MeteringMovesTotals` are met. -/
theorem witness_MeteringMovesTotals :
    (∃ (c : Chan) (x : Source) (d : AvgDone) (r : List AvgDone) (s : State), takeAvg x (s.pod c).adc.ready = some (d, r) ∧
      hears s c = true ∧ (s.pod c).st.pod.holds = false ∧ d.src.idx < (s.port c).mtr.means.length) ∧
    (∃ (c : Chan) (s : State), (s.pod c).st.pod ≠ .unpowered ∧ (s.pod c).st.pod ≠ .linking ∧ s.now % tickNs = 0 ∧ (s.pod
      c).mtr.sentAt + 100000 ≤ s.now) ∧
    (∃ (c : Chan) (s : State), hears s c = true ∧ (s.pod c).mtr.txEpoch = (s.port c).mtr.baseEpoch ∧ (s.pod c).mtr.sentAt <
      (s.port c).mtr.baseAt) ∧
    (∃ (c : Chan) (s : State), hears s c = true ∧ (s.pod c).mtr.txEpoch = (s.port c).mtr.baseEpoch ∧ (s.port c).mtr.baseAt ≤
      (s.pod c).mtr.sentAt) ∧
    (∃ (c : Chan) (s : State), hears s c = true ∧ (s.pod c).mtr.txEpoch ≠ (s.port c).mtr.baseEpoch) ∧
    (∃ (c : Chan) (s : State), s.hubUp = true ∧ windowDue s c = true) ∧
    (∃ (c : Chan) (T : Nat) (s : State), s.snap = some T ∧ T ≤ s.now ∧ s.snapLatched = false ∧ owns s c = true ∧ (s.pod
      c).st.pod = .active) ∧
    (∃ (T : Nat) (s : State), s.snap = some T ∧ s.snapLatched = true) ∧
    (∃ (c : Chan) (s : State), (s.port c).mtr.clearMask.testBit 0 = true ∧ (s.port c).mtr.clearAt ≤ s.now ∧ canClear s =
      true) ∧
    (∃ (s : State), ckptDue s = true ∧ s.ckpt.writing.isSome = true) ∧
    (∃ (s : State), ckptDue s = true ∧ s.ckpt.writing = none) ∧
    (∃ (k : Ckpt) (s : State), s.ckpt.writing = some k) ∧
    (∃ (k : Ckpt) (s : State), s.ckpt.writing = some k) :=
  ⟨⟨0, .vdi, { src := .vdi, value := 5, k := 1, shift := 0, flags := 0, at_ := 9 }, [], (wit id (fun p =>
      { p with adc := { p.adc with ready := [{ src := .vdi, value := 5, k := 1, shift := 0, flags := 0, at_ := 9 }] } }) id
      id), by decide +kernel⟩,
    ⟨0, (wit id id id id), by decide +kernel⟩,
    ⟨0, (wit id id (fun q => { q with mtr := { q.mtr with baseAt := 5 } }) id), by decide +kernel⟩,
    ⟨0, (wit id id id id), by decide +kernel⟩,
    ⟨0, (wit id (fun p => { p with mtr := { p.mtr with txEpoch := 3 } }) id id), by decide +kernel⟩,
    ⟨0, (wit id id id id), by decide +kernel⟩,
    ⟨0, 0, (wit id id id (fun s => { s with snap := some 0 })), by decide +kernel⟩,
    ⟨0, (wit id id id (fun s => { s with snap := some 0, snapLatched := true })), by decide +kernel⟩,
    ⟨0, (wit id id (fun q => { q with mtr := { q.mtr with clearMask := 1 } }) id), by decide +kernel⟩,
    ⟨(wit id id id (fun s => { s with ckpt := { writing := some { seq := 4, at_ := 7 } } })), by decide +kernel⟩,
    ⟨(wit id id id id), by decide +kernel⟩,
    ⟨{ seq := 4, at_ := 7 }, (wit id id id (fun s => { s with ckpt := { writing := some { seq := 4, at_ := 7 } } })),
      by decide +kernel⟩,
    ⟨{ seq := 5, at_ := 7 }, (wit id id id (fun s => { s with ckpt := { writing := some { seq := 5, at_ := 7 } } })),
      by decide +kernel⟩⟩

/-- The premises of `ComparatorEvents` are met. -/
theorem witness_ComparatorEvents :
    (∃ (n : Oct) (s : State), (s.cell n).sees = true ∧ (s.cell n).out = false) ∧
    (∃ (n : Oct) (s : State), (s.cell n).sees = true ∧ (s.cell n).out = true) ∧
    (∃ (n : Oct) (s : State), (s.cell n).sees = false) ∧
    (∃ (n : Oct) (h : Nat) (s : State), (s.cell n).holdUntil = some h ∧ h ≤ s.now) ∧
    (∃ (c : Chan) (k : PodCmp) (h : Nat) (s : State), (s.pod c).hold k = some h ∧ h ≤ s.now) ∧
    (∃ (n : Oct) (s : State), (s.cell n).test = 1 ∧ (s.cell n).testAt + 4 * speedNs (s.act OD.CMP_SPEED n.val) ≤ s.now) :=
  ⟨⟨0, (wit id id id (fun s => s.updCell 0 fun x => { x with powered := true })), by decide +kernel⟩,
    ⟨0, (wit id id id (fun s => s.updCell 0 fun x => { x with powered := true, out := true })), by decide +kernel⟩,
    ⟨0, (wit id id id id), by decide +kernel⟩,
    ⟨0, 5, (wit id id id (fun s => s.updCell 0 fun x => { x with powered := true, holdUntil := some 5 })),
      by decide +kernel⟩,
    ⟨0, .outp, 5, (wit id (fun p => { p with holdOutp := some 5 }) id id), by decide +kernel⟩,
    ⟨0, (wit id id id (fun s => s.updCell 0 fun x => { x with test := 1 })), by decide +kernel⟩⟩

/-- The premises of `PwmEvents` are met. -/
theorem witness_PwmEvents :
    (∃ (n : Oct) (s : State), (s.gen n).run = true ∧ isPartner s n = false ∧ s.hubUp = true) ∧
    (∃ (n : Oct) (s : State), (s.gen n).run = true ∧ (s.gen n).startAt = none ∧ s.act OD.PWM_UPD n.val = 1 ∧ isPartner s n =
      false ∧ (s.gen n).visible ((s.gen n).periodAt + (s.gen n).word.p / 2 * stepNs) = true) ∧
    (∃ (n : Oct) (e : Nat) (s : State), (s.gen n).until_ = some e ∧ (s.gen n).main = true) ∧
    (∃ (n : Oct) (e : Nat) (s : State), (s.gen n).until_ = some e ∧ (s.gen n).main = false ∧ (s.gen n).partner = true) ∧
    (∃ (n : Oct) (t : Nat) (s : State), (s.gen n).partnerAt = some t ∧ (s.gen n).fault = false) ∧
    (∃ (n : Oct) (s : State), compl s n = false ∧ cmpTerm s n = false ∧ (s.gen n).word.d + ((s.gen n).acc + (s.gen
      n).word.dith) / 16 = 0) :=
  ⟨⟨0, (wit id id id (fun s => act [(OD.PWM_EN, 0, 1)] ((s.updGen 0 fun g => { g with run := true })))), by decide +kernel⟩,
    ⟨0, (wit id id id (fun s => act [(OD.PWM_UPD, 0, 1)] ((s.updGen 0 fun g =>
      { g with run := true, reload := { d := 9 }, reloadAt := some 0 })))), by decide +kernel⟩,
    ⟨0, 5, (wit id id id (fun s => s.updGen 0 fun g => { g with main := true, until_ := some 5 })), by decide +kernel⟩,
    ⟨0, 5, (wit id id id (fun s => s.updGen 0 fun g => { g with partner := true, until_ := some 5 })), by decide +kernel⟩,
    ⟨0, 5, (wit id id id (fun s => s.updGen 0 fun g => { g with partnerAt := some 5 })), by decide +kernel⟩,
    ⟨0, wit, by decide +kernel⟩⟩

/-- The premises of `ResetSources` are met. -/
theorem witness_ResetSources :
    (∃ (s : State), s.hub ≠ .sleep) ∧
    (∃ (s : State), coreRuns s = true) ∧
    (∃ (s : State), coreRuns s = true) ∧
    (∃ (s : State), coreRuns s = true ∧ s.stat OD.HUB_CLK_STATE ≠ 1) ∧
    (∃ (s : State), coreRuns s = true ∧ s.stat OD.HUB_CLK_STATE = 1) ∧
    (∃ (s : State), coreRuns s = true) ∧
    (∃ (s : State), s.hub = .reset ∧ xtalBad s = false) :=
  ⟨⟨(wit id id id id), by decide +kernel⟩,
    ⟨(wit id id id id), by decide +kernel⟩,
    ⟨(wit id id id id), by decide +kernel⟩,
    ⟨(wit id id id id), by decide +kernel⟩,
    ⟨(wit id id id (fun s => { s with status := s.status.set OD.HUB_CLK_STATE 0 1 })), by decide +kernel⟩,
    ⟨(wit id id id id), by decide +kernel⟩,
    ⟨(wit id id id (fun s => { s with hub := .reset })), by decide +kernel⟩⟩

/-- The premises of `BootAndAdoption` are met. -/
theorem witness_BootAndAdoption :
    (∃ (x : Bool × Bool) (s : State), s.hub = .boot ∧ s.power.loaded = false ∧ s.stat OD.HUB_BOOT_STATUS = 0 ∧ bootSlot s =
      some x) ∧
    (∃ (s : State), s.hub = .boot ∧ s.power.loaded = true) ∧
    (∃ (s : State), s.hub = .boot ∧ s.power.loaded = false ∧ s.stat OD.HUB_BOOT_STATUS = 0 ∧ bootSlot s = none) ∧
    (∃ (s : State), s.hub = .adopt) ∧
    (∃ (c : Chan) (s : State), (s.hub = .idle ∨ s.hub = .run) ∧ (s.port c).own = false ∧ mayAdopt s c = true ∧ (s.pod
      c).st.pod.holds = true) :=
  ⟨⟨(false, false), (wit id id id (fun s => { s with hub := .boot })), by decide +kernel⟩,
    ⟨(wit id id id (fun s => { s with hub := .boot, power := { s.power with loaded := true } })), by decide +kernel⟩,
    ⟨(wit id id id (fun s => { s with hub := .boot, fw := { s.fw with a := { sound := false } } })), by decide +kernel⟩,
    ⟨(wit id id id (fun s => { s with hub := .adopt })), by decide +kernel⟩,
    ⟨0, (wit (fun v => { v with pod := .hold }) id (fun q => { q with own := false }) id), by decide +kernel⟩⟩

/-- The premises of `SupplyClockSleepWake` are met. -/
theorem witness_SupplyClockSleepWake :
    (∃ (c : Chan) (s : State), (s.act OD.HUB_PODSUP_EN).testBit c.val = true ∧ (s.port c).supply.openSince = none) ∧
    (∃ (c : Chan) (f : Nat) (s : State), (s.port c).supply.openSince = some f ∧ f + 100 * msNs ≤ s.now) ∧
    (∃ (c : Chan) (f : Nat) (s : State), (s.port c).supply.openSince = some f ∧ f + 100 * msNs ≤ s.now) ∧
    (∃ (s : State), s.hubUp = true ∧ s.act OD.HUB_CLKSRC = 1 ∧ s.stat OD.HUB_CLK_STATE = 0 ∧ s.ringUp.testBit (s.act
      OD.HUB_CLK_PORT) = true) ∧
    (∃ (s : State), s.hubUp = true ∧ s.act OD.HUB_CLKSRC = 1 ∧ s.stat OD.HUB_CLK_STATE = 1 ∧ s.act OD.HUB_CLK_PORT ≠
      s.power.clkPort ∧ s.ringUp.testBit (s.act OD.HUB_CLK_PORT) = true) ∧
    (∃ (s : State), s.hubUp = true ∧ s.stat OD.HUB_CLK_STATE = 1 ∧ s.power.xtalLost = none) ∧
    (∃ (s : State), s.hubUp = true ∧ s.stat OD.HUB_CLK_STATE = 1 ∧ s.power.xtalLost.isSome = true) ∧
    (∃ (ppm : Int) (s : State), s.hubUp = true ∧ s.stat OD.HUB_CLK_STATE = 1 ∧ s.power.xtalAt + 1000 * msNs ≤ s.now ∧ -32768
      ≤ ppm ∧ ppm ≤ 32767) ∧
    (∃ (t : Nat) (s : State), s.power.sleep = some t ∧ s.hub = .idle ∧ parkedAll s t = true ∧ s.ckpt.writing = none ∧
      s.pfw.on = false) ∧
    (∃ (c : Chan) (k : Bool × Bool × Nat) (s : State), (s.pod c).st.pod = .parked ∧ (s.pod c).rest = some k ∧ (k ≠ (s.pod
      c).restKey ∨ (s.pod c).st.prot.suspect.isSome = true)) ∧
    (∃ (src : Nat) (s : State), s.hub = .sleep ∧ wakeSources s src ≠ 0) ∧
    (∃ (src : Nat) (s : State), s.hub = .idle ∧ s.power.sleep.isSome = true ∧ wakeSources s src ≠ 0) :=
  ⟨⟨0, (wit id id id id), by decide +kernel⟩,
    ⟨0, 0, (wit id id (fun q => { q with supply := { openSince := some 0 } }) id), by decide +kernel⟩,
    ⟨0, 0, (wit id id (fun q => { q with supply := { openSince := some 0 } }) id), by decide +kernel⟩,
    ⟨(wit id id id (fun s => act [(OD.HUB_CLKSRC, 0, 1)] (s))), by decide +kernel⟩,
    ⟨(wit id id id (fun s => act [(OD.HUB_CLKSRC, 0, 1), (OD.HUB_CLK_PORT, 0, 2)]
      (({ s with status := s.status.set OD.HUB_CLK_STATE 0 1 })))), by decide +kernel⟩,
    ⟨(wit id id id (fun s => { s with status := s.status.set OD.HUB_CLK_STATE 0 1 })), by decide +kernel⟩,
    ⟨(wit id id id (fun s =>
      { s with status := s.status.set OD.HUB_CLK_STATE 0 1, power := { s.power with xtalLost := some 0 } })),
      by decide +kernel⟩,
    ⟨-7, (wit id id id (fun s => { s with status := s.status.set OD.HUB_CLK_STATE 0 1 })), by decide +kernel⟩,
    ⟨0, (wit id id id (fun s => { s with hub := .idle, power := { s.power with sleep := some 0 } })), by decide +kernel⟩,
    ⟨0, (true, false, 1), (wit (fun v => { v with pod := .parked }) (fun p => { p with rest := some (true, false, 1) }) id
      (fun s => { s with hub := .sleep })), by decide +kernel⟩,
    ⟨2 ^ 4, (wit id (fun p => { p with wakeAt := some (10 ^ 12) }) id (fun s =>
      { s with hub := .sleep, power := { s.power with wakeEn := 1023, wakePods := 65535 } })), by decide +kernel⟩,
    ⟨2 ^ 4, (wit id (fun p => { p with wakeAt := some (10 ^ 12) }) id (fun s => act [(OD.HUB_WAKE_EN, 0, 16),
      (OD.HUB_PODPORT_WAKE, 0, 1)] (({ s with hub := .idle, power := { s.power with sleep := some 0 } })))),
      by decide +kernel⟩⟩

/-- The premises of `RingLinksAndEnumeration` are met. -/
theorem witness_RingLinksAndEnumeration :
    (∃ (k : KPort) (s : State), hearsPort s k = true) ∧
    (∃ (k : KPort) (s : State), ringOpen s = true ∧ s.ringUp.testBit k.val = false) ∧
    (∃ (k : KPort) (b : Byte) (s : State), hearsPort s k = true ∧ tokenLink b = true ∧ (tokenLine b).val = 0 ∧ isHead s =
      false ∧ s.ring.upstream = some k ∧ k.val < 2) ∧
    (∃ (b : Byte) (s : State), hearsPort s 0 = true ∧ tokenLink b = true ∧ (tokenLine b).val = 0 ∧ isHead s = true) ∧
    (∃ (k : KPort) (f : Frame) (s : State), heard s k f = true ∧ f.local_ = false ∧ f.dst ≠ s.ring.addr ∧ laterCopy s k f =
      false ∧ routePorts s k f &&& (s.ringUp % 8) ≠ 0) ∧
    (∃ (k : KPort) (f : Frame) (s : State), (roundTrip s k f || laterCopy s k f) = true) ∧
    (∃ (k : KPort) (f : Frame) (s : State), heard s k f = true ∧ f.type = 7 ∧ fieldAt f.payload 0 1 = 0 ∧ f.dst = 0xFFF ∧
      isHead s = false ∧ fieldAt f.payload 2 2 ≠ s.ring.gen) ∧
    (∃ (k : KPort) (f : Frame) (s : State), heard s k f = true ∧ f.type = 7 ∧ fieldAt f.payload 0 1 = 1 ∧ isHead s = true ∧
      s.hubUp = true ∧ fieldAt f.payload 1 1 = 0 ∧ s.ring.enumAt.isSome = true) ∧
    (∃ (k : KPort) (f : Frame) (s : State), heard s k f = true ∧ f.type = 7 ∧ fieldAt f.payload 0 1 = 2 ∧ isHead s = false ∧
      fieldAt f.payload 4 8 = Config.devUid % 2 ^ 64) ∧
    (∃ (k : KPort) (f : Frame) (s : State), heard s k f = true ∧ f.type = 7 ∧ fieldAt f.payload 0 1 = 3 ∧ isHead s = false)
      :=
  ⟨⟨0, (wit id id id id), by decide +kernel⟩,
    ⟨0, (wit id id id (fun s => { s with ringUp := 0 })), by decide +kernel⟩,
    ⟨0, tokenByte true 0 2, (wit id id id (fun s => { s with ring := { s.ring with topo := 1, upstream := some 0 } })),
      by decide +kernel⟩,
    ⟨tokenByte true 0 2, (wit id id id (fun s => { s with ring := { s.ring with addr := 0 } })), by decide +kernel⟩,
    ⟨0, Frame.signed
      { type := 5, dst := 0, src := 7, seq := 3, len := ([1, 2] : List Byte).length, payload := [1, 2], toHead := true },
      (wit id id id (fun s => { s with ring := { s.ring with addr := 9, upstream := some 1 } })), by decide +kernel⟩,
    ⟨0, Frame.signed { type := 5, dst := 5, src := 0, seq := 3, len := ([1, 2] : List Byte).length, payload := [1, 2] }, (wit
      id id id (fun s => { s with ring := { s.ring with addr := 0 } })), by decide +kernel⟩,
    ⟨0, Frame.signed
      { type := 7, dst := 0xFFF, src := 7, seq := 3, len := ([0, 0, 8, 0] : List Byte).length, payload := [0, 0, 8, 0] },
      (wit id id id (fun s => { s with ring := { s.ring with addr := 9 } })), by decide +kernel⟩,
    ⟨1, Frame.signed
      { type := 7, dst := 0, src := 7, seq := 3, len := ([1, 0, 0, 0, 77, 0, 0, 0, 0, 0, 0, 0, 0, 3, 1, 0] : List Byte).length, payload := [1, 0, 0, 0, 77, 0, 0, 0, 0, 0, 0, 0, 0, 3, 1, 0] },
      (wit id id id (fun s => { s with ring := { s.ring with addr := 0, enumAt := some 0 } })), by decide +kernel⟩,
    ⟨0, Frame.signed
      { type := 7, dst := 0xFFF, src := 0, len := 14, payload := leBytes 4 2 ++ leBytes 8 Config.devUid ++ leBytes 2 9 },
      wit, heard_signed (by decide +kernel), rfl, by decide +kernel, by decide +kernel, fieldAt_uid 2 Config.devUid 9⟩,
    ⟨0, Frame.signed
      { type := 7, dst := 0xFFF, src := 7, seq := 3, len := ([3, 1, 0, 0, 2, 0] : List Byte).length, payload := [3, 1, 0, 0, 2, 0] },
      (wit id id id (fun s => { s with ring := { s.ring with addr := 9 } })), by decide +kernel⟩⟩

/-- The premises of `RingTimeAndEvents` are met. -/
theorem witness_RingTimeAndEvents :
    (∃ (k : KPort) (f : Frame) (s : State), heard s k f = true ∧ f.type = 1 ∧ fieldAt f.payload 0 1 = 0 ∧ isHead s = false ∧
      s.ring.upstream = some k ∧ s.hub = .boot ∧ s.ring.stepped = false) ∧
    (∃ (k : KPort) (f : Frame) (s : State), heard s k f = true ∧ f.type = 1 ∧ fieldAt f.payload 0 1 = 0 ∧ isHead s = false ∧
      s.ring.upstream = some k ∧ s.hub ≠ .boot) ∧
    (∃ (s : State), isHead s = true ∧ s.hubUp = true ∧ s.ring.syncAt + s.act OD.RING_SYNC_PER * usNs ≤ s.now) ∧
    (∃ (s : State), s.hubUp = true ∧ isHead s = false ∧ s.stat OD.RING_TIME_STATE ≠ 3 ∧ s.ring.syncAt + 8 * s.act
      OD.RING_SYNC_PER * usNs ≤ s.now) ∧
    (∃ (k : KPort) (f : Frame) (s : State), heard s k f = true ∧ f.type = 1 ∧ fieldAt f.payload 0 1 = 1 ∧ f.local_ = true ∧
      s.ring.addr ≠ 0xFFF) ∧
    (∃ (k : KPort) (f : Frame) (s : State), heard s k f = true ∧ f.type = 1 ∧ fieldAt f.payload 0 1 = 2 ∧ f.local_ = true ∧
      fieldAt f.payload 4 8 = (s.ring.ports.get k).t1) ∧
    (∃ (k : KPort) (s : State), hearsPort s k = true ∧ (s.ring.ports.get k).t1 + msNs ≤ s.now) ∧
    (∃ (k : KPort) (f : Frame) (s : State), heard s k f = true ∧ f.type = 5 ∧ isHead s = true ∧ f.dst = 0 ∧ 2048 ≤ queueFree
      s) ∧
    (∃ (k : KPort) (f : Frame) (l : Quad) (s : State), heard s k f = true ∧ f.type = 6 ∧ fieldAt f.payload 0 1 = l.val) :=
  ⟨⟨0, Frame.signed
      { type := 1, dst := 0xFFF, src := 7, seq := 3, len := ((leBytes 4 0 ++ leBytes 8 5000 ++ leBytes 4 0) : List Byte).length, payload := (leBytes 4 0 ++ leBytes 8 5000 ++ leBytes 4 0) },
      (wit id id id (fun s =>
      { s with hub := .boot, power := { s.power with loaded := true }, ring := { s.ring with upstream := some 0 } })),
      by decide +kernel⟩,
    ⟨0, Frame.signed
      { type := 1, dst := 0xFFF, src := 7, seq := 3, len := ((leBytes 4 0 ++ leBytes 8 5000 ++ leBytes 4 0) : List Byte).length, payload := (leBytes 4 0 ++ leBytes 8 5000 ++ leBytes 4 0) },
      (wit id id id (fun s => { s with ring := { s.ring with upstream := some 0 } })), by decide +kernel⟩,
    ⟨(wit id id id (fun s => { s with ring := { s.ring with addr := 0 } })), by decide +kernel⟩,
    ⟨(wit id id id id), by decide +kernel⟩,
    ⟨0, Frame.signed
      { type := 1, dst := 0xFFF, src := 7, seq := 3, len := ((leBytes 2 1 ++ leBytes 2 0 ++ leBytes 8 77) : List Byte).length, payload := (leBytes 2 1 ++ leBytes 2 0 ++ leBytes 8 77), local_ := true },
      (wit id id id (fun s => { s with ring := { s.ring with addr := 9 } })), by decide +kernel⟩,
    ⟨0, Frame.signed
      { type := 1, dst := 0xFFF, src := 7, seq := 3, len := ((leBytes 2 2 ++ leBytes 2 0 ++ leBytes 8 77 ++ leBytes 4 256) : List Byte).length, payload := (leBytes 2 2 ++ leBytes 2 0 ++ leBytes 8 77 ++ leBytes 4 256), local_ := true },
      (wit id id id (fun s => { s with ring := { s.ring with ports := s.ring.ports.upd 0 fun p => { p with t1 := 77 } } })),
      by decide +kernel⟩,
    ⟨0, (wit id id id id), by decide +kernel⟩,
    ⟨0, Frame.signed { type := 5, dst := 0, src := 7, seq := 3, len := ([1] : List Byte).length, payload := [1] }, (wit id id
      id (fun s => { s with ring := { s.ring with addr := 0 } })), by decide +kernel⟩,
    ⟨0, Frame.signed { type := 6, dst := 0xFFF, src := 7, seq := 3, len := ([2, 0] : List Byte).length, payload := [2, 0] },
      2, (wit id id id id), by decide +kernel⟩⟩

/-- The premises of `RingRequests` are met. -/
theorem witness_RingRequests :
    (∃ (k : KPort) (f : Frame) (r : ObjRow) (a : Answer) (s : State), asks s k f 2 = true ∧ (standing (asked s f) (askOf f)
      false).isSome = true ∧ hasIndex (askOf f).index = true ∧ objRow (askOf f).index (askOf f).sub = some r ∧ r.access ≠ .wo
      ∧ r.secret = false ∧ r.type.size ≠ 0 ∧ (askOf f).off = 0 ∧ r.type.size ≤ fieldAt f.payload 7 2 ∧ fieldAt f.payload 7 2
      ≤ 248 ∧ a =
      { err := .ok, data := leInt r.type.size (readInt (asked s f) (askOf f).rq.session r (askOf f).index (askOf f).sub) }) ∧
    (∃ (k : KPort) (f : Frame) (role : Role) (r : ObjRow) (s : State), asks s k f 3 = true ∧ s.pfw.on = false ∧ writeCheck
      (asked s f) (askOf f) (fieldAt f.payload 7 2) (f.payload.drop 9) = .ok (role, r) ∧ r.access = .rws) ∧
    (∃ (k : KPort) (f : Frame) (e : Err) (s : State), asks s k f 3 = true ∧ writeCheck (asked s f) (askOf f) (fieldAt
      f.payload 7 2) (f.payload.drop 9) = .error e) ∧
    (∃ (k : KPort) (f : Frame) (m : Kept) (b : List Byte) (s : State), heard s k f = true ∧ f.dst = s.ring.addr ∧ f.dst ≠
      0xFFF ∧ 9 ≤ f.payload.length ∧ (s.ring.kept.find? fun m => m.src == f.src && m.seq == f.seq) = some m ∧ m.answered =
      some b) ∧
    (∃ (k : KPort) (f : Frame) (s : State), heard s k f = true ∧ f.type = 2 ∧ f.dst = 0xFFF) ∧
    (∃ (k : KPort) (f : Frame) (x : Sent) (s : State), heard s k f = true ∧ f.type = 4 ∧ f.dst = s.ring.addr ∧ sentFor s
      f.src f.seq = some x) :=
  ⟨⟨0, Frame.signed
      { type := 2, dst := 9, src := 5, seq := 3, len := ((leBytes 2 1 ++ leBytes 2 0x4002 ++ leBytes 1 1 ++ leBytes 2 0 ++ leBytes 2 2) : List Byte).length, payload := (leBytes 2 1 ++ leBytes 2 0x4002 ++ leBytes 1 1 ++ leBytes 2 0 ++ leBytes 2 2) },
      rowThold, { err := .ok, data := leBytes 2 50 }, (wit id id id (fun s => { s with ring := { s.ring with addr := 9 } })),
      by decide +kernel⟩,
    ⟨0, writeThold, .service, rowThold, wit (h := fun s => { s with ring := { s.ring with addr := 9 } }), by decide +kernel,
      rfl, ok_of (by decide +kernel), rfl⟩,
    ⟨0, Frame.signed
      { type := 3, dst := 9, src := 7, seq := 3, len := 10, payload := leBytes 2 0 ++ leBytes 2 0x1000 ++ leBytes 3 1 ++ leBytes 2 1 ++ [0] },
      .access, wit (h := fun s => { s with ring := { s.ring with addr := 9 } }), by decide +kernel, error_of
      (by decide +kernel)⟩,
    ⟨0, Frame.signed
      { type := 2, dst := 9, src := 7, seq := 3, len := ((leBytes 2 0 ++ leBytes 2 0x1000 ++ leBytes 1 1 ++ leBytes 2 0 ++ leBytes 2 1 ++ [0]) : List Byte).length, payload := (leBytes 2 0 ++ leBytes 2 0x1000 ++ leBytes 1 1 ++ leBytes 2 0 ++ leBytes 2 1 ++ [0]) },
      { src := 7, seq := 3, answered := some [1] }, [1], (wit id id id (fun s =>
      { s with ring := { s.ring with addr := 9, kept := [{ src := 7, seq := 3, answered := some [1] }] } })),
      by decide +kernel⟩,
    ⟨0, Frame.signed
      { type := 2, dst := 0xFFF, src := 7, seq := 3, len := ((leBytes 2 1 ++ leBytes 2 0x1000 ++ leBytes 1 1 ++ leBytes 2 0 ++ leBytes 2 1) : List Byte).length, payload := (leBytes 2 1 ++ leBytes 2 0x1000 ++ leBytes 1 1 ++ leBytes 2 0 ++ leBytes 2 1) },
      (wit id id id (fun s => { s with ring := { s.ring with addr := 9 } })), by decide +kernel⟩,
    ⟨0, Frame.signed { type := 4, dst := 0, src := 7, seq := 3, len := ([0] : List Byte).length, payload := [0] },
      { tag := 2, frame := { type := 2, seq := 3, dst := 7, src := 0, len := 0, payload := [] }, at_ := 0 }, (wit id id id
      (fun s =>
      { s with ring := { s.ring with addr := 0, sent := [{ tag := 2, frame := { type := 2, seq := 3, dst := 7, src := 0, len := 0, payload := [] }, at_ := 0 }] } })),
      by decide +kernel⟩⟩

/-- The premises of `UnansweredRequestIsRepeatedOnce` are met. -/
theorem witness_UnansweredRequestIsRepeatedOnce :
    (∃ (seq : Nat) (x : Sent) (s : State), (s.ring.sent.find? fun x => x.frame.seq == seq) = some x ∧ x.at_ + s.act
      OD.RING_RESP_TMO * usNs ≤ s.now ∧ x.again = false) ∧
    (∃ (seq : Nat) (x : Sent) (s : State), (s.ring.sent.find? fun x => x.frame.seq == seq) = some x ∧ x.at_ + s.act
      OD.RING_RESP_TMO * usNs ≤ s.now ∧ x.again = true) ∧
    (∃ (k : KPort) (f : Frame) (x : Sent) (s : State), heard s k f = true ∧ f.type = 4 ∧ f.dst = s.ring.addr ∧ sentFor s
      f.src f.seq = some x) :=
  ⟨⟨3, { tag := 2, frame := { type := 2, seq := 3, dst := 7, src := 0, len := 0, payload := [] }, at_ := 0 }, (wit id id id
      (fun s =>
      { s with ring := { s.ring with addr := 0, sent := [{ tag := 2, frame := { type := 2, seq := 3, dst := 7, src := 0, len := 0, payload := [] }, at_ := 0 }] } })),
      by decide +kernel⟩,
    ⟨3, { tag := 2, frame := { type := 2, seq := 3, dst := 7, src := 0, len := 0, payload := [] }, at_ := 0, again := true },
      (wit id id id (fun s =>
      { s with ring := { s.ring with addr := 0, sent := [{ tag := 2, frame := { type := 2, seq := 3, dst := 7, src := 0, len := 0, payload := [] }, at_ := 0, again := true }] } })),
      by decide +kernel⟩,
    ⟨0, Frame.signed { type := 4, dst := 0, src := 7, seq := 3, len := ([0] : List Byte).length, payload := [0] },
      { tag := 2, frame := { type := 2, seq := 3, dst := 7, src := 0, len := 0, payload := [] }, at_ := 0 }, (wit id id id
      (fun s =>
      { s with ring := { s.ring with addr := 0, sent := [{ tag := 2, frame := { type := 2, seq := 3, dst := 7, src := 0, len := 0, payload := [] }, at_ := 0 }] } })),
      by decide +kernel⟩⟩

/-- The premises of `SpiTransfers` are met. -/
theorem witness_SpiTransfers :
    (∃ (type dst : Nat) (p : List Byte) (s : State), spiOn s = true ∧ submitRoom s = true ∧ (type = 2 ∨ type = 3) ∧ 9 ≤
      p.length ∧ p.length ≤ 256 ∧ s.hub ≠ .boot ∧ dst ≠ 0 ∧ dst ≠ 0xFFF) ∧
    (∃ (s : State), spiOn s = true ∧ submitRoom s = false) ∧
    (∃ (x : Item) (rest : List Item) (s : State), spiOn s = true ∧ s.spi.items = x :: rest) ∧
    (∃ (x : Item) (rest : List Item) (s : State), spiOn s = true ∧ s.spi.items = x :: rest) ∧
    (∃ (x : Item) (s : State), spiOn s = true ∧ s.spi.last = some x) ∧
    (∃ (s : State), spiOn s = true) ∧
    (∃ (s : State), spiOn s = true) ∧
    (∃ (i : Instr) (op crc : Nat) (body : List Byte) (s : State), spiOn s = true ∧ transferOf i = some (op, body, crc) ∧ crc
      ≠ crc16 (spiBytes op body)) ∧
    (∃ (type tag : Nat) (dst crc : Nat) (p : List Byte), type < 256 ∧ tag < 256 ∧ dst < 65536 ∧ p.length ≤ 256 ∧ crc < 65536)
      ∧
    (∃ (mask crc : Nat), mask < 65536 ∧ crc < 65536) :=
  ⟨⟨2, 7, (List.replicate 9 0), (wit id id id (fun s => { s with ring := { s.ring with addr := 0, strap := 64 } })),
      by decide +kernel⟩,
    ⟨(wit id id id (fun s =>
      { s with ring := { s.ring with addr := 0, strap := 64, sent := List.replicate 8 ({ tag := 2, frame := { type := 2, seq := 3, dst := 7, src := 0, len := 0, payload := [] }, at_ := 0 }) } })),
      by decide +kernel⟩,
    ⟨{ kind := 2, tag := 0, src := 1, bytes := [1, 2] }, [], (wit id id id (fun s =>
      { s with ring := { s.ring with addr := 0, strap := 64 }, spi := { s.spi with items := [{ kind := 2, tag := 0, src := 1, bytes := [1, 2] }] } })),
      by decide +kernel⟩,
    ⟨{ kind := 2, tag := 0, src := 1, bytes := [1, 2] }, [], (wit id id id (fun s =>
      { s with ring := { s.ring with addr := 0, strap := 64 }, spi := { s.spi with items := [{ kind := 2, tag := 0, src := 1, bytes := [1, 2] }] } })),
      by decide +kernel⟩,
    ⟨{ kind := 2, tag := 0, src := 1, bytes := [1, 2] }, (wit id id id (fun s =>
      { s with ring := { s.ring with addr := 0, strap := 64 }, spi := { s.spi with last := some ({ kind := 2, tag := 0, src := 1, bytes := [1, 2] }) } })),
      by decide +kernel⟩,
    ⟨(wit id id id (fun s => { s with ring := { s.ring with addr := 0, strap := 64 } })), by decide +kernel⟩,
    ⟨(wit id id id (fun s => { s with ring := { s.ring with addr := 0, strap := 64 } })), by decide +kernel⟩,
    ⟨.status 0, 4, 0, [], (wit id id id (fun s => { s with ring := { s.ring with addr := 0, strap := 64 } })),
      by decide +kernel⟩,
    ⟨2, 4, 7, 513, (List.replicate 9 0), by decide +kernel⟩,
    ⟨3, 513, by decide +kernel⟩⟩

/-- The premises of `StreamPort` are met. -/
theorem witness_StreamPort :
    (∃ (r : StrRec) (rest : List StrRec) (s : State), s.str.arriving = r :: rest ∧ s.str.en = true ∧ roomFor s r ≤ bufFree s)
      ∧
    (∃ (r : StrRec) (rest : List StrRec) (s : State), s.str.arriving = r :: rest ∧ s.str.en = true ∧ bufFree s < roomFor s r
      ∧ r.type - 1 < s.str.loss.length) ∧
    (∃ (s : State), blockReady s = true) ∧
    (∃ (r : StrRec) (rest : List StrRec) (s : State), s.str.queue = r :: rest ∧ s.str.en = true ∧ bufUsed s < 256 ∧ r.since +
      s.act OD.STR_FLUSH * usNs ≤ s.now) ∧
    (∃ (ns : Nat) (s : State), s.str.en = true ∧ 20 ≤ ns ∧ ns ≤ 200 ∧ s.str.credits < s.act OD.STR_CREDIT_MAX) ∧
    (∃ (ns : Nat) (s : State), s.str.en = true ∧ 1000 < ns) :=
  ⟨⟨{ type := 1, src := 0, time := 5, body := [1, 2, 3, 4] }, [], (wit id id id (fun s =>
      { s with str := { s.str with en := true, arriving := [{ type := 1, src := 0, time := 5, body := [1, 2, 3, 4] }] } })),
      by decide +kernel⟩,
    ⟨{ type := 1, src := 0, time := 5, body := List.replicate 30 0 }, [], (wit id id id (fun s =>
      { s with str := { s.str with en := true, arriving := [{ type := 1, src := 0, time := 5, body := List.replicate 30 0 }], queue := List.replicate 250 { type := 1, src := 0, time := 5, body := List.replicate 250 0 } } })),
      by decide +kernel⟩,
    ⟨(wit id id id (fun s =>
      { s with str := { s.str with en := true, credits := 1, queue := [{ type := 1, src := 0, time := 5, body := [1, 2, 3, 4] }], flush := true } })),
      by decide +kernel⟩,
    ⟨{ type := 1, src := 0, time := 5, body := [1, 2, 3, 4] }, [], (wit id id id (fun s =>
      { s with str := { s.str with en := true, queue := [{ type := 1, src := 0, time := 5, body := [1, 2, 3, 4] }] } })),
      by decide +kernel⟩,
    ⟨100, (wit id id id (fun s => { s with str := { s.str with en := true } })), by decide +kernel⟩,
    ⟨2000, (wit id id id (fun s => { s with str := { s.str with en := true, credits := 3 } })), by decide +kernel⟩⟩

/-- The premises of `JournalExportWaitsForRoom` are met. -/
theorem witness_JournalExportWaitsForRoom :
    (∃ (r : JRec) (s : State), s.str.en = true ∧ s.str.left ≠ 0 ∧ s.str.exportAt ≤ s.now ∧ 44 + 28 ≤ bufFree s ∧ jnlFind s
      s.str.next = some r) ∧
    (∃ (s : State), bufFree s < 44 + 28) :=
  ⟨⟨{ seq := 7, time := 1, kind := 1, src := 0, code := 2 }, (wit id id id (fun s =>
      { s with str := { s.str with en := true, left := 1, next := 7 }, jnl := { s.jnl with recs := [{ seq := 7, time := 1, kind := 1, src := 0, code := 2 }] } })),
      by decide +kernel⟩,
    ⟨(wit id id id (fun s =>
      { s with str := { s.str with en := true, left := 1, queue := List.replicate 250 { type := 1, src := 0, time := 5, body := List.replicate 250 0 } } })),
      by decide +kernel⟩⟩

/-- The premises of `LossRecordGoesInFront` are met. -/
theorem witness_LossRecordGoesInFront :
    (∃ (r : StrRec) (rest : List StrRec) (s : State), s.str.arriving = r :: rest ∧ s.str.en = true ∧ lossDue s = true ∧
      recLen r + 28 ≤ bufFree s) ∧
    (∃ (r : StrRec) (rest : List StrRec) (s : State), s.str.arriving = r :: rest ∧ s.str.en = true ∧ lossDue s = true ∧
      bufFree s < recLen r + 28) :=
  ⟨⟨{ type := 1, src := 0, time := 5, body := [1, 2, 3, 4] }, [], (wit id id id (fun s =>
      { s with str := { s.str with en := true, arriving := [{ type := 1, src := 0, time := 5, body := [1, 2, 3, 4] }], loss := [1, 0, 0, 0] } })),
      by decide +kernel⟩,
    ⟨{ type := 1, src := 0, time := 5, body := List.replicate 30 0 }, [], (wit id id id (fun s =>
      { s with str := { s.str with en := true, arriving := [{ type := 1, src := 0, time := 5, body := List.replicate 30 0 }], loss := [1, 0, 0, 0], queue := List.replicate 250 { type := 1, src := 0, time := 5, body := List.replicate 250 0 } } })),
      by decide +kernel⟩⟩

/-- The premises of `StoredThingsAndFirmware` are met. -/
theorem witness_StoredThingsAndFirmware :
    (∃ (img : CfgImage) (s : State), s.cfg.writing = some img) ∧
    (∃ (img : CfgImage) (s : State), s.cfg.writing = some img) ∧
    (∃ (i : Fin 64) (x : Sealing) (s : State), s.sealing = some x ∧ x.index = 0x7800 + i.val) ∧
    (∃ (s : State), s.fw.idle.state = 2) ∧
    (∃ (s : State), s.hubUp = true ∧ s.fw.trial = true ∧ s.fw.trialAt + s.act OD.FW_TTRIAL * secNs ≤ s.now) ∧
    (∃ (s : State), s.hubUp = true ∧ s.pfw.on = false) :=
  ⟨⟨{ seq := 3, at_ := 4, fw := 5, set := [] }, (wit id id id (fun s =>
      { s with cfg := { s.cfg with writing := some { seq := 3, at_ := 4, fw := 5, set := [] } } })), by decide +kernel⟩,
    ⟨{ seq := 3, at_ := 4, fw := 5, set := [] }, (wit id id id (fun s =>
      { s with cfg := { s.cfg with writing := some { seq := 3, at_ := 4, fw := 5, set := [] } } })), by decide +kernel⟩,
    ⟨1, { index := 0x7801, value := [1] }, (wit id id id (fun s =>
      { s with sealing := some { index := 0x7801, value := [1] } })), by decide +kernel⟩,
    ⟨(wit id id id (fun s => { s with fw := { s.fw with b := { state := 2 } } })), by decide +kernel⟩,
    ⟨(wit id id id (fun s => { s with fw := { s.fw with trial := true } })), by decide +kernel⟩,
    ⟨(wit id id id id), by decide +kernel⟩⟩

/-- The premises of `PowerWarningEnds` are met. -/
theorem witness_PowerWarningEnds :
    (∃ (d : Nat) (s : State), s.pfw.doneAt = some d ∧ s.pfw.on = true ∧ d + msNs ≤ s.now) :=
  ⟨0, (wit id id id (fun s => { s with pfw := { on := true, doneAt := some 0 } })), by decide +kernel⟩

/-- The premises of `Sessions` are met. -/
theorem witness_Sessions :
    (∃ (role : Nat) (rq : Requester) (s : State), role ≤ 3 ∧ admitsOrder s rq OD.SES_OPEN 0 role = true ∧ (lockOf s (roleOf
      role)).lockedAt = none ∧ (roleKey s (roleOf role)).isSome = true ∧ s.sessions.length < 8) ∧
    (∃ (src : Nat) (x : Session) (s : State), serves s 0x7100 2 = true ∧ pendingOf s src = some x ∧ x.challenge.length = 32)
      ∧
    (∃ (rq : Requester) (data key : List Byte) (x : Session) (s : State), admits s { rq := rq, index := 0x7100, sub := 3 }
      data = true ∧ sessionOf s rq.session = some x ∧ x.isOpen = false ∧ lapsed s x = false ∧ roleKey s x.role = some key ∧
      data = hmac key (sesMessage x)) ∧
    (∃ (rq : Requester) (data key : List Byte) (x : Session) (s : State), admits s { rq := rq, index := 0x7100, sub := 3 }
      data = true ∧ sessionOf s rq.session = some x ∧ x.isOpen = false ∧ lapsed s x = false ∧ roleKey s x.role = some key ∧
      data ≠ hmac key (sesMessage x)) ∧
    (∃ (t : Nat) (x : Session) (s : State), x ∈ s.sessions ∧ x.readAt = some t ∧ x.isOpen = false ∧ t + 10 * secNs ≤ s.now) ∧
    (∃ (i : Quad) (t : Nat) (s : State), (s.locks.get i).lockedAt = some t ∧ t + 10 * secNs ≤ s.now) ∧
    (∃ (h : Nat) (rq : Requester) (s : State), h < 65536 ∧ rq.session = h ∧ admitsOrder s rq OD.SES_CLOSE 0 h = true ∧
      (sessionOf s h).isSome = true) ∧
    (∃ (h : Nat) (x : Session) (s : State), sessionOf s h = some x ∧ x.idleFrom + s.act OD.SES_TIMEOUT * secNs ≤ s.now) ∧
    (∃ (v : Nat) (rq : Requester) (s : State), v ≤ 1 ∧ admitsOrder s rq OD.SES_VIEW 0 v = true ∧ (sessionOf s
      rq.session).isSome = true) :=
  ⟨⟨1, { src := 5, session := 1 }, (wit id id id (fun s =>
      { s with seals := s.seals.upd 0 fun b => b.add (List.replicate 32 7) true })), by decide +kernel⟩,
    ⟨5, { handle := 9, role := .operate, src := 5, challenge := List.replicate 32 3 }, (wit id id id (fun s =>
      { s with sessions := [{ handle := 9, role := .operate, src := 5, challenge := List.replicate 32 3 }] })),
      by decide +kernel⟩,
    ⟨{ src := 5, session := 9 }, hmac (List.replicate 32 7) (sesMessage pendingSes), List.replicate 32 7, pendingSes,
      answering, by decide +kernel, by decide +kernel, rfl, by decide +kernel, by decide +kernel, rfl⟩,
    ⟨{ src := 5, session := 9 }, [0], List.replicate 32 7, pendingSes, answering, by decide +kernel, by decide +kernel, rfl,
      by decide +kernel, by decide +kernel, fun h => absurd (congrArg List.length h) (by rw [hmac_length]; decide)⟩,
    ⟨0, { handle := 9, role := .operate, src := 5, readAt := some 0, challenge := List.replicate 32 3 }, (wit id id id (fun s
      =>
      { s with sessions := [{ handle := 9, role := .operate, src := 5, readAt := some 0, challenge := List.replicate 32 3 }] })),
      by decide +kernel⟩,
    ⟨1, 0, (wit id id id (fun s => { s with locks := s.locks.upd 1 fun l => { l with lockedAt := some 0 } })),
      by decide +kernel⟩,
    ⟨1, { src := 5, session := 1 }, (wit id id id id), by decide +kernel⟩,
    ⟨1, { handle := 1, role := .service, src := 5, isOpen := true }, (wit id id id id), by decide +kernel⟩,
    ⟨1, { src := 5, session := 1 }, (wit id id id id), by decide +kernel⟩⟩

/-- The premises of `CommitAcceptsAndApplies` are met. -/
theorem witness_CommitAcceptsAndApplies :
    (∃ (v : CUnit) (rq : Requester) (s : State), admitsOrder s rq (commitObj v 1) 0 1 = true ∧ commitBusy s v = false ∧
      unitSet s.shadow v ≠ unitSet s.active v ∧ commitCheck s v (unitSet s.shadow v) = none ∧ unitIdle s v = false) ∧
    (∃ (c : Chan) (rq : Requester) (s : State), admitsOrder s rq (commitObj (.chan c) 1) 0 1 = true ∧ commitBusy s (.chan c)
      = false ∧ unitSet s.shadow (.chan c) ≠ unitSet s.active (.chan c) ∧ commitCheck s (.chan c) (unitSet s.shadow (.chan
      c)) = none ∧ unitIdle s (.chan c) = true ∧ s.pend = [] ∧ ownsUnit s (.chan c) = true ∧ stateFail s (putUnit s.active
      (.chan c) (unitSet s.shadow (.chan c))) (.chan c) = none) ∧
    (∃ (v : CUnit) (e : Err) (k : Nat) (rq : Requester) (s : State), admitsOrder s rq (commitObj v 1) 0 1 = true ∧ commitBusy
      s v = false ∧ unitSet s.shadow v ≠ unitSet s.active v ∧ commitCheck s v (unitSet s.shadow v) = some (e, k)) ∧
    (∃ (c : Chan) (x : Pend) (rest : List Pend) (t : Nat) (s : State), s.pend = x :: rest ∧ x.unit = .chan c ∧ applyDue s x =
      some t ∧ ownsUnit s (.chan c) = true ∧ stateFail s (putUnit s.active (.chan c) x.set) (.chan c) = none) ∧
    (∃ (v : CUnit) (x : Pend) (rest : List Pend) (t k : Nat) (s : State), s.pend = x :: rest ∧ x.unit = v ∧ applyDue s x =
      some t ∧ ownsUnit s v = true ∧ stateFail s (putUnit s.active v x.set) v = some k) :=
  ⟨⟨.pwm 0, { src := 5, session := 1 }, (wit id id id (fun s =>
      { act [(OD.PWM_EN, 0, 1)] (s.updGen 0 fun g => { g with run := true }) with shadow := s.shadow.set OD.PWM_TMIN 0 50 })),
      by decide +kernel⟩,
    ⟨3, { src := 5, session := 1 }, (wit id id id (fun s => { s with shadow := s.shadow.set OD.CH_THOLD 3 77 })),
      by decide +kernel⟩,
    ⟨.chan 3, .range, OD.CH_THOLD.key 3, { src := 5, session := 1 }, (wit id id id (fun s =>
      { s with shadow := s.shadow.set OD.CH_THOLD 3 9999999 })), by decide +kernel⟩,
    ⟨3,
      { unit := .chan 3, set := [(OD.CH_THOLD.key 3, 77)], req := { rq := { src := 5, session := 1 }, index := 0x4000, sub := 1 }, at_ := 0 },
      [], 10 ^ 12, (wit id id id (fun s =>
      { s with pend := [{ unit := .chan 3, set := [(OD.CH_THOLD.key 3, 77)], req := { rq := { src := 5, session := 1 }, index := 0x4000, sub := 1 }, at_ := 0 }] })),
      by decide +kernel⟩,
    ⟨.chan 0,
      { unit := .chan 0, set := [(OD.CH_ROLE.key 0, 1)], req := { rq := { src := 5, session := 1 }, index := 0x4000, sub := 1 }, at_ := 0 },
      [], 10 ^ 12, OD.CH_ROLE.key 0, (wit id id id (fun s =>
      { s with pend := [{ unit := .chan 0, set := [(OD.CH_ROLE.key 0, 1)], req := { rq := { src := 5, session := 1 }, index := 0x4000, sub := 1 }, at_ := 0 }] })),
      by decide +kernel⟩⟩

/-- The premises of `RevertCopiesTheActiveSet` are met. -/
theorem witness_RevertCopiesTheActiveSet :
    (∃ (v : CUnit) (rq : Requester) (s : State), admitsOrder s rq (commitObj v 1) 0 2 = true ∧ (s.pend.any fun x => x.unit ==
      v) = false) ∧
    (∃ (v : CUnit) (rq : Requester) (s : State), admitsOrder s rq (commitObj v 1) 0 2 = true ∧ (s.pend.any fun x => x.unit ==
      v) = true) :=
  ⟨⟨.chan 3, { src := 5, session := 1 }, (wit id id id (fun s => { s with shadow := s.shadow.set OD.CH_THOLD 3 77 })),
      by decide +kernel⟩,
    ⟨.chan 3, { src := 5, session := 1 }, (wit id id id (fun s =>
      { s with pend := [{ unit := .chan 3, set := [(OD.CH_THOLD.key 3, 77)], req := { rq := { src := 5, session := 1 }, index := 0x4000, sub := 1 }, at_ := 0 }] })),
      by decide +kernel⟩⟩

/-- The premises of `ObjectWrites` are met. -/
theorem witness_ObjectWrites :
    (∃ (i j : Nat) (s : State), serves s i j = false) ∧
    (∃ (rq : Requester) (i j : Nat) (d : List Byte) (e : Err) (s : State), serves s i j = true ∧ writeCheck s
      { rq := rq, index := i, sub := j } d.length d = .error e) ∧
    (∃ (rq : Requester) (i j : Nat) (d : List Byte) (a : Role × ObjRow) (s : State), serves s i j = true ∧ s.pfw.on = true ∧
      writeCheck s { rq := rq, index := i, sub := j } d.length d = .ok a) ∧
    (∃ (rq : Requester) (i j : Nat) (d : List Byte) (r : ObjRow) (s : State), admits s { rq := rq, index := i, sub := j } d =
      true ∧ objRow i j = some r ∧ r.access = .rws) ∧
    (∃ (rq : Requester) (v : Nat) (s : State), v < 65536 ∧ admitsOrder s rq OD.HUB_FLTI_CH 0 v = true) ∧
    (∃ (k : KPort) (f : Frame) (r : ObjRow) (s : State), asks s k f 2 = true ∧ (askOf f).rq.session = 0 ∧ hasIndex (askOf
      f).index = true ∧ objRow (askOf f).index (askOf f).sub = some r ∧ r.access = .rws ∧ r.secret = false ∧ r.mask = none ∧
      r.type.size ≠ 0 ∧ (askOf f).off = 0 ∧ r.type.size ≤ fieldAt f.payload 7 2 ∧ fieldAt f.payload 7 2 ≤ 248 ∧ sessionOf s 0
      = none) ∧
    (∃ (k : KPort) (f : Frame) (role : Role) (r : ObjRow) (s : State), asks s k f 3 = true ∧ s.pfw.on = false ∧ writeCheck
      (asked s f) (askOf f) (fieldAt f.payload 7 2) (f.payload.drop 9) = .ok (role, r) ∧ r.access = .rws) :=
  ⟨⟨0x3000, 1, (wit id id id (fun s => { s with hub := .sleep })), by decide +kernel⟩,
    ⟨{ src := 5, session := 1 }, 0x1000, 1, [0], .access, wit, by decide +kernel, error_of (by decide +kernel)⟩,
    ⟨{ src := 5, session := 1 }, 0x4002, 1, [50, 0], (.service, rowThold), wit (h := fun s =>
      { s with pfw := { on := true } }), by decide +kernel, rfl, ok_of (by decide +kernel)⟩,
    ⟨{ src := 5, session := 1 }, 0x4002, 1, [50, 0], rowThold, (wit id id id id), by decide +kernel⟩,
    ⟨{ src := 5, session := 1 }, 3, (wit id id id id), by decide +kernel⟩,
    ⟨0, Frame.signed
      { type := 2, dst := 9, src := 5, seq := 3, len := ((leBytes 2 0 ++ leBytes 2 0x4002 ++ leBytes 1 1 ++ leBytes 2 0 ++ leBytes 2 2) : List Byte).length, payload := (leBytes 2 0 ++ leBytes 2 0x4002 ++ leBytes 1 1 ++ leBytes 2 0 ++ leBytes 2 2) },
      rowThold, (wit id id id (fun s => { s with ring := { s.ring with addr := 9 } })), by decide +kernel⟩,
    ⟨0, writeThold, .service, rowThold, wit (h := fun s => { s with ring := { s.ring with addr := 9 } }), by decide +kernel,
      rfl, ok_of (by decide +kernel), rfl⟩⟩

/-- The premises of `ChannelCommands` are met. -/
theorem witness_ChannelCommands :
    (∃ (c : Chan) (rq : Requester) (s : State), admitsOrder s rq OD.CH_ENABLE c.val 1 = true ∧ hubCh s c ≠ .latched) ∧
    (∃ (c : Chan) (rq : Requester) (s : State), admitsOrder s rq OD.CH_ENABLE c.val 1 = true ∧ hubCh s c = .latched ∧
      ((s.port c).enable = true ∨ s.now < coolEnd s c)) ∧
    (∃ (c : Chan) (rq : Requester) (s : State), admitsOrder s rq OD.CH_ENABLE c.val 1 = true ∧ hubCh s c = .latched ∧ (s.port
      c).enable = false ∧ coolEnd s c ≤ s.now ∧ (s.port c).trip.set = addCause 0 .sc2) ∧
    (∃ (c : Chan) (rq : Requester) (s : State), admitsOrder s rq OD.CH_ENABLE c.val 0 = true) ∧
    (∃ (c : Chan) (rq : Requester) (s : State), admitsOrder s rq OD.CH_ENABLE c.val 0 = true ∧ ((∀ p : Quad, feedOfPre
      s.active p ≠ some c))) ∧
    (∃ (p : Pod), p.st.ch.running = true ∧ p.coll.due = false ∧ p.bothClamped = false ∧ p.turnOff = none) ∧
    (∃ (c : Chan) (rq : Requester) (s : State), admitsOrder s rq OD.CH_DMG_CLEAR c.val 1 = true ∧ hubCh s c = .damaged) ∧
    (∃ (c : Chan) (rq : Requester) (s : State), admitsOrder s rq OD.CH_DMG_CLEAR c.val 1 = true ∧ hubCh s c ≠ .damaged) :=
  ⟨⟨0, { src := 5, session := 1 }, (wit id id id id), by decide +kernel⟩,
    ⟨0, { src := 5, session := 1 }, (wit (fun v =>
      { v with ch := .latched, gIn := { phase := .staticClamp }, gOut := { phase := .staticClamp } }) id (fun q =>
      { q with enable := true }) id), by decide +kernel⟩,
    ⟨0, { src := 5, session := 1 }, (wit (fun v =>
      { v with ch := .latched, gIn := { phase := .staticClamp }, gOut := { phase := .staticClamp } }) id (fun q =>
      { q with trip := { q.trip with set := addCause 0 .sc2 } }) id), by decide +kernel⟩,
    ⟨0, { src := 5, session := 1 }, (wit id id (fun q => { q with enable := true }) id), by decide +kernel⟩,
    ⟨0, { src := 5, session := 1 }, (wit id id (fun q => { q with enable := true }) id), by decide +kernel⟩,
    ⟨{ st := liveSt }, by decide +kernel⟩,
    ⟨0, { src := 5, session := 1 }, (wit (fun v => { v with ch := .damaged }) id id id), by decide +kernel⟩,
    ⟨0, { src := 5, session := 1 }, (wit id id id id), by decide +kernel⟩⟩

/-- The premises of `BusAndLineCommands` are met. -/
theorem witness_BusAndLineCommands :
    (∃ (b : BusId) (rq : Requester) (s : State), admitsOrder s rq OD.BUS_BF_CLEAR b.val 1 = true) ∧
    (∃ (b : BusId) (rq : Requester) (s : State), admitsOrder s rq OD.BUS_XFER_RESUME b.val 1 = true ∧ (s.bus b).xfer =
      .halted) ∧
    (∃ (d : Quad) (b : BusId) (rq : Requester) (s : State), admitsOrder s rq OD.DIS_REQ d.val 1 = true ∧ busOfDis s.active d
      = some b ∧ s.act OD.DIS_PTARGET d.val ≠ 0 ∧ (s.chop d).req = false) ∧
    (∃ (d : Quad) (rq : Requester) (s : State), admitsOrder s rq OD.DIS_REQ d.val 1 = true ∧ busOfDis s.active d = none) ∧
    (∃ (d : Quad) (rq : Requester) (s : State), admitsOrder s rq OD.DIS_REQ d.val 0 = true) ∧
    (∃ (d : Quad) (s : State), (busOfDis s.active d).isSome = true ∧ (s.chop d).req = false ∧ (s.chop d).state ≠ .idle) ∧
    (∃ (x : AB) (rq : Requester) (s : State), admitsOrder s rq OD.HUB_FLTO_ACK x.val 1 = true ∧ fltoCond s x = false ∧
      fltoHold s x = true ∧ (s.out_ x).held = true) ∧
    (∃ (x : AB) (rq : Requester) (s : State), admitsOrder s rq OD.HUB_FLTO_ACK x.val 1 = true ∧ fltoCond s x = true) :=
  ⟨⟨0, { src := 5, session := 1 }, (wit id id id (fun s => s.updBus 0 fun x => { x with bf := true })), by decide +kernel⟩,
    ⟨0, { src := 5, session := 1 }, (wit id id id (fun s => s.updBus 0 fun x => { x with xfer := .halted })),
      by decide +kernel⟩,
    ⟨0, 0, { src := 5, session := 1 }, (wit id id id (fun s => act [(OD.DIS_BUS, 0, 0), (OD.DIS_PTARGET, 0, 500)] (s))),
      by decide +kernel⟩,
    ⟨0, { src := 5, session := 1 }, (wit id id id id), by decide +kernel⟩,
    ⟨0, { src := 5, session := 1 }, (wit id id id id), by decide +kernel⟩,
    ⟨0, (wit id id id (fun s => act [(OD.DIS_BUS, 0, 0)] ((s.updDis 0 fun x => { x with state := .wait })))),
      by decide +kernel⟩,
    ⟨0, { src := 5, session := 1 }, (wit id id id (fun s => act [(OD.HUB_FLTO_MODE, 0, 1)] (s.updFlto 0 fun x =>
      { x with asserted := true, held := true }))), by decide +kernel⟩,
    ⟨0, { src := 5, session := 1 }, (wit (fun v => { v with ch := .tripped }) id (fun q =>
      { q with trip := { q.trip with set := 2 ^ 18 - 1 } }) (fun s => act [(OD.HUB_FLTO_CH, 0, 1), (OD.HUB_FLTO_CAUSE, 0, 2 ^
      18 - 1)] (s))), by decide +kernel⟩⟩

/-- The premises of `ConverterAndMeteringCommands` are met. -/
theorem witness_ConverterAndMeteringCommands :
    (∃ (c : Chan) (rq : Requester) (s : State), admitsOrder s rq OD.ADC_CAL c.val 1 = true ∧ hubPod s c = .active ∧ hubCh s c
      = .off ∧ (s.port c).calBusy = false) ∧
    (∃ (c : Chan) (rq : Requester) (s : State), admitsOrder s rq OD.ADC_CAL c.val 1 = true ∧ hubCh s c = .on) ∧
    (∃ (c : Chan) (k : Nat) (rq : Requester) (s : State), (k = 1 ∨ k = 2) ∧ admitsOrder s rq OD.ADC_RECAL c.val k = true ∧
      hubPod s c = .active ∧ (s.seen c).adc.calibrated = true ∧ (s.port c).calBusy = false) ∧
    (∃ (c : Chan) (k : Nat) (rq : Requester) (s : State), (k = 1 ∨ k = 2) ∧ admitsOrder s rq OD.ADC_RECAL c.val k = true ∧
      (s.seen c).adc.calibrated = false) ∧
    (∃ (rq : Requester) (s : State), admitsOrder s rq OD.MTR_SNAP 0 1 = true ∧ s.snap = none) ∧
    (∃ (T : Nat) (rq : Requester) (s : State), admitsOrder s rq OD.MTR_SNAP 0 1 = true ∧ s.snap = some T) ∧
    (∃ (c : Chan) (m : Nat) (rq : Requester) (s : State), m ≠ 0 ∧ m ≤ 7 ∧ admitsOrder s rq OD.MTR_CLEAR c.val m = true) :=
  ⟨⟨0, { src := 5, session := 1 }, (wit (fun v =>
      { v with ch := .off, gIn := { phase := .staticClamp }, gOut := { phase := .staticClamp }, prot := { cmpOut := 2 ^ 9 } })
      id id id), by decide +kernel⟩,
    ⟨0, { src := 5, session := 1 }, (wit id id id id), by decide +kernel⟩,
    ⟨0, 1, { src := 5, session := 1 }, (wit (fun v => { v with adc := { routing := .normal, calibrated := true } }) id id
      id), by decide +kernel⟩,
    ⟨0, 2, { src := 5, session := 1 }, (wit id id id id), by decide +kernel⟩,
    ⟨{ src := 5, session := 1 }, (wit id id id id), by decide +kernel⟩,
    ⟨7, { src := 5, session := 1 }, (wit id id id (fun s => { s with snap := some 7 })), by decide +kernel⟩,
    ⟨0, 5, { src := 5, session := 1 }, (wit id id id id), by decide +kernel⟩⟩

/-- The premises of `ComparatorAndPwmCommands` are met. -/
theorem witness_ComparatorAndPwmCommands :
    (∃ (n : Oct) (rq : Requester) (s : State), admitsOrder s rq OD.CMP_TEST n.val 1 = true ∧ s.actB OD.CMP_EN n.val = true ∧
      routesRunning s n = false ∧ testRunning s n = false ∧ paired s n = false ∧ (s.cell n).holdUntil = none) ∧
    (∃ (n : Oct) (rq : Requester) (s : State), admitsOrder s rq OD.CMP_TEST n.val 2 = true ∧ s.actB OD.CMP_EN n.val = true ∧
      routesRunning s n = false ∧ testRunning s n = false ∧ paired s n = false ∧ (s.cell n).holdUntil = none) ∧
    (∃ (n : Oct) (rq : Requester) (s : State), admitsOrder s rq OD.CMP_TEST n.val 2 = true ∧ s.actB OD.CMP_EN n.val = false)
      ∧
    (∃ (n : Oct) (v : Nat) (rq : Requester) (t : Nat) (s : State), v % 2 ^ 16 ≠ 0 ∧ v < 2 ^ 36 ∧ admitsOrder (s.at t) rq
      OD.PWM_WORD n.val v = true ∧ pwmOwned s n = false) ∧
    (∃ (n : Oct) (rq : Requester) (s : State), admitsOrder s rq OD.PWM_RUN n.val 1 = true ∧ pwmOwned s n = false ∧ (s.gen
      n).run = false) ∧
    (∃ (n : Oct) (rq : Requester) (s : State), admitsOrder s rq OD.PWM_RUN n.val 0 = true ∧ pwmOwned s n = false) ∧
    (∃ (n : Oct) (rq : Requester) (s : State), admitsOrder s rq OD.PWM_FREL n.val 1 = true ∧ faultSource s n = false) ∧
    (∃ (n : Oct) (rq : Requester) (s : State), admitsOrder s rq OD.PWM_FREL n.val 1 = true ∧ faultSource s n = true) :=
  ⟨⟨0, { src := 5, session := 1 }, (wit id id id (fun s => act [(OD.CMP_EN, 0, 1)] (s))), by decide +kernel⟩,
    ⟨0, { src := 5, session := 1 }, (wit id id id (fun s => act [(OD.CMP_EN, 0, 1)] (s))), by decide +kernel⟩,
    ⟨0, { src := 5, session := 1 }, (wit id id id id), by decide +kernel⟩,
    ⟨0, 3 * 65536 + 4000, { src := 5, session := 1 }, 0, (wit id id id id), by decide +kernel⟩,
    ⟨0, { src := 5, session := 1 }, (wit id id id id), by decide +kernel⟩,
    ⟨0, { src := 5, session := 1 }, (wit id id id id), by decide +kernel⟩,
    ⟨0, { src := 5, session := 1 }, (wit id id id id), by decide +kernel⟩,
    ⟨0, { src := 5, session := 1 }, (wit id id id (fun s => act [(OD.PWM_FLTSRC, 0, 1)] { s with rdyLost := 255 })),
      by decide +kernel⟩⟩

/-- The premises of `HubAndRingCommands` are met. -/
theorem witness_HubAndRingCommands :
    (∃ (rq : Requester) (s : State), admitsOrder s rq OD.HUB_RESET 0 1 = true) ∧
    (∃ (m : Nat) (rq : Requester) (s : State), m < 65536 ∧ admitsOrder s rq OD.HUB_PODSUP_EN 0 m = true ∧ ((∀ c : Chan,
      (s.act OD.HUB_PODSUP_EN).testBit c.val = true → m.testBit c.val = false → soleSupply s c = false))) ∧
    (∃ (c : Chan) (m : Nat) (rq : Requester) (s : State), m < 65536 ∧ admitsOrder s rq OD.HUB_PODSUP_EN 0 m = true ∧ (s.act
      OD.HUB_PODSUP_EN).testBit c.val = true ∧ m.testBit c.val = false ∧ soleSupply s c = true) ∧
    (∃ (rq : Requester) (s : State), admitsOrder s rq OD.HUB_SLEEP 0 1 = true ∧ s.power.sleep = none ∧ sleepBlock s = 0) ∧
    (∃ (rq : Requester) (s : State), admitsOrder s rq OD.HUB_SLEEP 0 1 = true ∧ sleepBlock s ≠ 0) ∧
    (∃ (rq : Requester) (s : State), admitsOrder s rq OD.HUB_SLEEP 0 1 = true ∧ s.power.sleep.isSome = true ∧ sleepBlock s =
      0) ∧
    (∃ (rq : Requester) (s : State), admitsOrder s rq OD.RING_ENUM 0 1 = true ∧ isHead s = true ∧ s.ring.enumAt = none) ∧
    (∃ (rq : Requester) (s : State), admitsOrder s rq OD.RING_MAP_CLEAR 0 1 = true) ∧
    (∃ (k : KPort) (m : Nat) (rq : Requester) (s : State), m < 8 ∧ admitsOrder s rq OD.RING_WAKE 0 m = true ∧ m.testBit k.val
      = true ∧ s.ringUp.testBit k.val = false) ∧
    (∃ (rq : Requester) (s : State), admitsOrder s rq OD.HUB_CFG_SAVE 0 1 = true ∧ s.cfg.due = none ∧ s.cfg.writing = none) ∧
    (∃ (rq : Requester) (s : State), admitsOrder s rq OD.HUB_CFG_DEFAULTS 0 1 = true) :=
  ⟨⟨{ src := 5, session := 1 }, (wit id id id id), by decide +kernel⟩,
    ⟨0xFFFE, { src := 5, session := 1 }, (wit (fun v => { v with ch := .off }) id id id), by decide +kernel⟩,
    ⟨0, 0xFFFE, { src := 5, session := 1 }, (wit id id id id), by decide +kernel⟩,
    ⟨{ src := 5, session := 1 }, (wit (fun v => { v with ch := .off }) id id (fun s =>
      { s with hub := .idle, status := s.status.set OD.ADC_HK_VAO 0 3300 })), by decide +kernel⟩,
    ⟨{ src := 5, session := 1 }, (wit id id id id), by decide +kernel⟩,
    ⟨{ src := 5, session := 1 }, (wit (fun v => { v with ch := .off }) id id (fun s =>
      { s with hub := .idle, power := { s.power with sleep := some 0 } })), by decide +kernel⟩,
    ⟨{ src := 5, session := 1 }, (wit id id id (fun s => { s with ring := { s.ring with addr := 0 } })), by decide +kernel⟩,
    ⟨{ src := 5, session := 1 }, (wit id id id id), by decide +kernel⟩,
    ⟨0, 1, { src := 5, session := 1 }, (wit id id id (fun s => { s with ringUp := 0 })), by decide +kernel⟩,
    ⟨{ src := 5, session := 1 }, (wit id id id id), by decide +kernel⟩,
    ⟨{ src := 5, session := 1 }, (wit id id id id), by decide +kernel⟩⟩

/-- The premises of `StreamSealAndFirmwareCommands` are met. -/
theorem witness_StreamSealAndFirmwareCommands :
    (∃ (rq : Requester) (s : State), admitsOrder s rq OD.STR_EN 0 1 = true ∧ s.str.en = false) ∧
    (∃ (rq : Requester) (s : State), admitsOrder s rq OD.STR_EN 0 0 = true ∧ s.str.en = true) ∧
    (∃ (m : Nat) (c : Chan) (rq : Requester) (s : State), m < 65536 ∧ admitsOrder s rq OD.STR_CAPTURE 0 m = true ∧ m.testBit
      c.val = true) ∧
    (∃ (n : Nat) (rq : Requester) (s : State), n < 65536 ∧ admitsOrder s rq OD.STR_JNL_EXPORT 0 n = true ∧ s.str.en = true ∧
      s.str.left = 0 ∧ n ≠ 0 ∧ s.jnl.recs ≠ []) ∧
    (∃ (m : Nat) (c : Chan) (rq : Requester) (s : State), m < 65536 ∧ admitsOrder s rq OD.HUB_PX_MOVE 0 m = true ∧ m.testBit
      c.val = true ∧ pxState s = 3 ∧ ((∀ k : Chan, m.testBit k.val = true → (s.port k).own = true ∧ (s.port k).releasing =
      none ∧ partnered s k = true ∧ moveHeld s k = false ∧ ∀ j ∈ groupOf s k, m.testBit j.val = true))) ∧
    (∃ (i : Nat) (d : List Byte) (rq : Requester) (s : State), sealedIndex i = true ∧ admits s
      { rq := rq, index := i, sub := 1 } d = true ∧ s.sealing = none ∧ sealValue s (i - 0x7800) ≠ some d ∧ (sealBank s
      i).slots.length < 16) ∧
    (∃ (i : Nat) (d : List Byte) (rq : Requester) (s : State), sealedIndex i = true ∧ admits s
      { rq := rq, index := i, sub := 1 } d = true ∧ s.sealing = none ∧ sealValue s (i - 0x7800) ≠ some d ∧ 16 ≤ (sealBank s
      i).slots.length) ∧
    (∃ (rq : Requester) (s : State), admitsOrder s rq OD.FW_LOAD 0 1 = true ∧ s.fw.trial = false ∧ s.fw.idle.state ≠ 2) ∧
    (∃ (off : Nat) (d : List Byte) (rq : Requester) (s : State), admits s { rq := rq, index := 0x7200, sub := 7, off := off }
      d = true ∧ s.fw.idle.state = 1 ∧ off = s.fw.idle.image.length ∧ off + d.length ≤ 262144) ∧
    (∃ (rq : Requester) (s : State), admitsOrder s rq OD.FW_LOAD 0 2 = true ∧ s.fw.idle.state = 1) ∧
    (∃ (rq : Requester) (s : State), admitsOrder s rq OD.FW_LOAD 0 3 = true ∧ s.fw.trial = false ∧ s.fw.idle.state ≠ 2) ∧
    (∃ (rq : Requester) (s : State), admitsOrder s rq OD.FW_ACTIVATE 0 1 = true ∧ fwBlock s = 0) ∧
    (∃ (rq : Requester) (s : State), admitsOrder s rq OD.FW_CONFIRM 0 1 = true ∧ s.fw.trial = true) :=
  ⟨⟨{ src := 5, session := 1 }, (wit id id id id), by decide +kernel⟩,
    ⟨{ src := 5, session := 1 }, (wit id id id (fun s =>
      { s with str := { s.str with en := true, queue := [{ type := 1, src := 0, time := 5, body := [1, 2, 3, 4] }] } })),
      by decide +kernel⟩,
    ⟨1, 0, { src := 5, session := 1 }, (wit id id id id), by decide +kernel⟩,
    ⟨3, { src := 5, session := 1 }, (wit id id id (fun s =>
      { s with str := { s.str with en := true }, jnl := { s.jnl with recs := [{ seq := 7, time := 1, kind := 1, src := 0, code := 2 }] } })),
      by decide +kernel⟩,
    ⟨1, 0, { src := 5, session := 1 }, (wit id id id (fun s => act [(OD.HUB_PX_PORTS, 0, 1), (OD.HUB_PX_ADDR, 0, 8)]
      (({ s with pxReady := true })))), by decide +kernel⟩,
    ⟨0x7801, (List.replicate 32 5), { src := 5, session := 1 }, (wit id id id id), by decide +kernel⟩,
    ⟨0x7801, (List.replicate 32 5), { src := 5, session := 1 }, (wit id id id (fun s =>
      { s with seals := s.seals.upd 1 fun b => { b with slots := List.replicate 16 { value := [], ok := false } } })),
      by decide +kernel⟩,
    ⟨{ src := 5, session := 1 }, (wit id id id id), by decide +kernel⟩,
    ⟨0, [1, 2], { src := 5, session := 1 }, (wit id id id (fun s => { s with fw := { s.fw with b := { state := 1 } } })),
      by decide +kernel⟩,
    ⟨{ src := 5, session := 1 }, (wit id id id (fun s => { s with fw := { s.fw with b := { state := 1 } } })),
      by decide +kernel⟩,
    ⟨{ src := 5, session := 1 }, (wit id id id id), by decide +kernel⟩,
    ⟨{ src := 5, session := 1 }, (wit (fun v => { v with ch := .off }) id id (fun s =>
      { s with fw := { s.fw with b := { state := 3, sound := true } } })), by decide +kernel⟩,
    ⟨{ src := 5, session := 1 }, (wit id id id (fun s => { s with fw := { s.fw with trial := true } })), by decide +kernel⟩⟩

/-- The premises of `TickAndMirroring` are met. -/
theorem witness_TickAndMirroring :
    (∃ (s : State), s.hubUp = true ∧ pxState s = 2) :=
  ⟨(wit id id id (fun s => act [(OD.HUB_PX_PORTS, 0, 1), (OD.HUB_PX_ADDR, 0, 8)] (({ s with pxReady := false })))),
      by decide +kernel⟩

/-- The premises of `DamagedFramesAreDiscarded` are met. -/
theorem witness_DamagedFramesAreDiscarded :
    (∃ (rx : RxFrame), rx.crcOk = false) ∧
    (∃ (c : Chan) (s : State), (s.port c).linked = true ∧ s.hubUp = true) ∧
    (∃ (c : Chan) (s : State), (s.pod c).st.pod ≠ .unpowered ∧ (s.pod c).st.pod ≠ .linking ∧ (s.pod c).gotFrame = false ∧
      (s.pod c).cmds = [] ∧ (s.pod c).tickAt < ceilTick s.now) :=
  ⟨⟨{ own := true, crcOk := false }, by decide +kernel⟩,
    ⟨0, (wit id id id id), by decide +kernel⟩,
    ⟨0, (wit id id id id), by decide +kernel⟩⟩

/-- The premises of `SeatingRestartsFromZero` are met. -/
theorem witness_SeatingRestartsFromZero :
    (∃ (c : Chan) (s1 s2 : Bool) (s : State), (s.pod c).st.ch = .seating ∧ (s1 && s2) = false ∧ (s.pod c).samplesSeat = true)
      :=
  ⟨0, true, false, (wit (fun v => { v with ch := .seating }) id id id), by decide +kernel⟩

/-! ## Premises of the statements about the whole block -/

/-- The last clause of `PwmEvents`: a skipped pulse, one that is dropped, one that is given. -/
theorem witness_PwmEvents_pulses :
    (∃ (n : Oct) (s : State), compl s n = false ∧ cmpTerm s n = true) ∧
    (∃ (n : Oct) (s : State), compl s n = false ∧ cmpTerm s n = false ∧ (s.gen n).word.d ≠ 0 ∧
      min (s.gen n).word.d (pwmLimit s n (s.gen n).word.p) < s.act OD.PWM_TMIN n.val) ∧
    (∃ (n : Oct) (s : State), compl s n = false ∧ cmpTerm s n = false ∧ (s.gen n).word.d ≠ 0 ∧
      s.act OD.PWM_TMIN n.val ≤ min (s.gen n).word.d (pwmLimit s n (s.gen n).word.p) ∧
      min (s.gen n).word.d (pwmLimit s n (s.gen n).word.p) < (s.gen n).word.p) :=
  ⟨⟨0, wit (h := fun s => act [(OD.CMP_EN, 0, 1), (OD.CMP_ROUTE, 0, 8)] (s.updCell 0 fun x =>
      { x with powered := true, out := true, filt := true })), by decide +kernel⟩,
    ⟨0, wit (h := fun s => s.updGen 0 fun g => { g with word := { g.word with d := 1 } }), by decide +kernel⟩,
    ⟨0, wit (h := fun s => s.updGen 0 fun g => { g with word := { g.word with d := 1000 } }), by decide +kernel⟩⟩

/-- The premises of `StepRunsFrontCommand` and `NothingStopsTheBlock`, and of the first clause of `FrameOfWhatTheHubKeeps`. -/
theorem witness_queue :
    (∃ (i : Instr) (rest : List Instr) (s : State), s.pending = i :: rest) ∧ (∃ s : State, s.pending = []) ∧
    (∃ (i : Instr) (s u : State), exec i s = .next u) :=
  ⟨⟨.controlTick, [], { base with pending := [.controlTick] }, rfl⟩, ⟨base, rfl⟩, ⟨.resetN, base, base.coreReset 3, rfl⟩⟩

/-- A step that programs a seal. -/
def programming : State :=
  { State.reset with pending := [.sealProgramDone true], sealing := some { index := 0x7801, value := [1] } }

/-- The premises of `EveryStepKeepsInv` and `UsedSlotsStay`. -/
theorem witness_step : ∃ s u : State, Inv s ∧ step s = .next u ∧ s.pending ≠ [] ∧ s.sealing ≠ none :=
  have h : ∀ i : Fin 64, (slotsAt programming i).length = 0 := by decide +kernel
  ⟨programming, _, ⟨⟨fun i => by rw [h]; decide, fun _ _ i _ => by rw [h]; decide⟩, Nat.zero_le 8⟩, rfl, by decide, by decide⟩

/-- The premises of `PodEventsChangeOnePod`, `PodEventsNeedNoHub`, `FrameOfWhatTheHubKeeps`, `FrameOfThePowerPath` and
`NoGateMovesInBoot`. -/
theorem witness_frames :
    (∃ (i : Instr) (c : Chan) (s u : State), podOf i = some c ∧ exec i s = .next u) ∧
    (∃ (i : Instr) (c : Chan) (s s' u u' : State), podOf i = some c ∧ (∀ t, i ≠ .suspectConfirmation c t) ∧ s.pod c = s'.pod c ∧
      s.now = s'.now ∧ exec i s = .next u ∧ exec i s' = .next u' ∧ s.hub ≠ s'.hub) ∧
    (∃ (i : Instr) (s u : State), (touchesVault i || touchesConfig i || touchesHost i || touchesUnits i || touchesPods i) = false ∧
      exec i s = .next u) ∧
    (∃ (i : Instr) (s u : State), touchesPods i = false ∧ exec i s = .next u ∧ touchesUnits i = true) ∧
    (∃ (i : Instr) (s u : State), i ∈ [Instr.vdd33PowerOnReset, .adopt] ∧ exec i s = .next u) :=
  ⟨⟨.sc2Trip 0 5, 0, wit, _, rfl, rfl⟩,
    ⟨.sc2Trip 0 5, 0, wit, { wit with hub := .sleep }, _, _, rfl, (fun _ h => Instr.noConfusion h), rfl, rfl, rfl, rfl, by decide +kernel⟩,
    ⟨.irqAck 3 0, wit, _, rfl, rfl⟩, ⟨.fltoMinWidthEnd 0, wit, _, rfl, rfl, rfl⟩, ⟨.vdd33PowerOnReset, wit, _, List.mem_cons_self, rfl⟩⟩

/-! ## Small tests

Expected values come from the rules and the worked cases of the specification, as each test says. -/

/-- The state after a command, the state before it where the command stops. -/
def after (i : Instr) (s : State) : State :=
  match exec i s with
  | .next u => u
  | _ => s

/-- A frame whose header fields all fit. -/
def okFrame : Frame := { type := 2, seq := 3, dst := 7, src := 0, len := 0, payload := [] }
def okRq : Requester := { src := 1, session := 0 }
def badRq : Requester := { src := 4096, session := 0 }

/-- Commands with one operand outside what the wire or the pins carry, one at least for each check. -/
def illFormed : List Instr :=
  [.commandFrameReceived 0 { own := true, crcOk := true, frame := { epoch := 65536 } },
   .commandFrameReceived 0 { own := true, crcOk := true, frame := { trips := 2 ^ 18 } },
   .commandFrameReceived 0 { own := true, crcOk := true, frame := { retryN := 256 } },
   .podTickBoundary 0 { cmp := 2048 }, .podTickBoundary 0 { ic := [{ code := 65536 }] },
   .podTickBoundary 0 { vc := [{ code := -65537 }] }, .podTickBoundary 0 { mid := 2048 },
   .podTickBoundary 0 { ic := List.replicate 21 { code := 0 } }, .podTickBoundary 0 { vc := List.replicate 41 { code := 0 } },
   .parkedBurst 0 { cmp := 2048 }, .hkMeanUpdate 12 (List.replicate 16 { code := 0 }),
   .hkMeanUpdate 0 (List.replicate 15 { code := 0 }), .hkMeanUpdate 0 (List.replicate 16 { code := 8192 }),
   .hkSleepBurst (List.replicate 11 (List.replicate 16 { code := 0 })), .hkSleepBurst (List.replicate 12 [{ code := 0 }]),
   .selftestToggleDone 0 2048 0, .hvPowerUp 0 0 0 2048 0] ++
  [.urgentConversionDone 0 [{ code := 0 }] 0, .calComplete 0 [] [] [] 0,
   .calComplete 0 (List.replicate 12 32768) (List.replicate 12 0) (List.replicate 4 0) 0, .recalComplete 0 [] 0,
   .recalComplete 0 (List.replicate 12 32768) 0, .adcRecal 0 256 okRq, .adcRecal 0 1 badRq, .mtrClear 0 256 okRq,
   .mtrClear 0 1 badRq, .pwmWord 0 (2 ^ 64) okRq 0, .pwmWord 0 1 badRq 0, .pwmPeriodBoundary 0 256, .resetRelease 128,
   .hubPodsupEn 65536 okRq, .hubPodsupEn 1 badRq, .wake 1024, .faultToken 0 (tokenByte true 0 3) 0,
   .rehome 0 (tokenByte false 0 3), .stackTurnOn 0 [{ code := 65536 }] [] 0, .turnOnAfterClamp 0 [] [{ code := 65536 }] 0,
   .startEnergyExceeded 0 (List.replicate 21 { code := 0 }) [] 0, .faultTimerPeriodEnd 0 [] (List.replicate 41 { code := 0 }) 0,
   .outputPresent 0 [{ code := -65537 }] [] 0, .ringWake 256 okRq, .ringWake 1 badRq] ++
  [.odRead 0 { okFrame with type := 256 }, .odWrite 0 { okFrame with hops := 64 }, .odResp 0 { okFrame with seq := 256 },
   .eventFrame 0 { okFrame with dst := 4096 }, .faultFrame 0 { okFrame with src := 4096 }, .delayReq 0 { okFrame with len := 65536 } 0,
   .discover 0 { okFrame with payload := List.replicate 257 0 }, .report 0 { okFrame with dst := 4096 },
   .assign 0 { okFrame with dst := 4096 }, .done 0 { okFrame with dst := 4096 }, .syncTime 0 { okFrame with dst := 4096 } 0,
   .delayResp 0 { okFrame with crc := 2 ^ 32 } 0, .cutThroughForward 0 { okFrame with reserved := 65536 } 0 0, .ringRespTmo 256,
   .submit 256 0 0 [] 0, .submit 0 256 0 [] 0, .submit 0 0 4096 [] 0, .submit 0 0 0 (List.replicate 257 0) 0,
   .submit 0 0 0 [] 65536, .fetch 65536 true, .refetch 65536, .status 65536, .irqAck 65536 0, .irqAck 0 65536] ++
  [.objectWrite badRq 0 0 [], .objectWrite okRq 65536 0 [], .objectWrite okRq 0 256 [], .objectWrite okRq 0 0 (List.replicate 248 0),
   .sesOpen 256 okRq, .sesOpen 1 badRq, .sesChallenge 4096, .sesResponse badRq [], .sesResponse okRq (List.replicate 248 0),
   .sesClose 65536 okRq, .sesClose 1 badRq, .sesTimeout 65536, .sesView 256 okRq, .sesView 1 badRq, .sealWrite badRq 0 [],
   .sealWrite okRq 65536 [], .sealWrite okRq 0 (List.replicate 248 0), .strCapture 65536 okRq, .strCapture 1 badRq,
   .strJnlExport 65536 okRq, .strJnlExport 1 badRq, .hubPxMove 65536 okRq, .hubPxMove 1 badRq, .fwImage badRq 0 [],
   .fwImage okRq 65536 [], .fwImage okRq 0 (List.replicate 248 0), .commit .str badRq, .hubReset { src := 1, session := 65536 }]

theorem test_wf_refuses : illFormed.all (fun i => !i.wf) = true := by decide +kernel

/-- Operands at the end of their ranges are well formed. -/
theorem test_wf_accepts :
    ([.podTickBoundary 15 { cmp := 2047, ic := List.replicate 20 { code := -65536 }, vc := List.replicate 40 { code := 65535 } }, .wake 1023,
      .commandFrameReceived 3 { own := false, crcOk := true, frame := { epoch := 65535, retryN := 255 } }, .hkMeanUpdate 11 (List.replicate 16 { code := 4095 }),
      .odRead 2 { okFrame with dst := 4095, hops := 63, payload := List.replicate 256 255 }, .resetRelease 127,
      .pwmWord 7 (2 ^ 64 - 1) { src := 4095, session := 65535 } 0, .controlTick] : List Instr).all Instr.wf = true := by decide +kernel

/-- The opcode table gives no words. -/
theorem test_no_word_is_a_command : decodeTableWord 16 0x1234 = none ∧ State.reset.withFetchWord 16 0x1234 = State.reset :=
  ⟨rfl, rfl⟩

/-- R457, R458: the bytes of an IRQ_ACK of mask 0x0006 and of a FETCH; CRC-16 of 0x1021 from 0xFFFF over OP, LEN and BODY. -/
theorem test_transfer_bytes :
    decodeTransfer true ([5, 2, 0, 6, 0] ++ leBytes 2 (crc16 [5, 2, 0, 6, 0])) = some (.irqAck 6 (crc16 [5, 2, 0, 6, 0])) ∧
      decodeTransfer false ([2, 0, 0] ++ leBytes 2 0x1234) = some (.fetch 0x1234 false) ∧
      decodeTransfer true [6, 0, 0, 0, 0] = none ∧ crc16 ([49, 50, 51, 52, 53, 54, 55, 56, 57] : List Byte) = 0x29B1 := by decide +kernel

/-- R442: a fault token of line 2 with 5 hops is 0x2A, a REHOME without hops 0x04. -/
theorem test_token_bytes : tokenByte false 2 5 = 0x2A ∧ tokenByte true 0 0 = 0x04 ∧ tokenHops 0x2A = 5 := by decide +kernel

/-- R475: SHA-256 of "abc", the published example (FIPS 180-4; log 34). -/
theorem test_sha256 :
    (sha256 ([0x61, 0x62, 0x63] : List Byte)).take 4 = ([0xBA, 0x78, 0x16, 0xBF] : List Byte) := by decide +kernel

/-- Chapter 15, the worked case of a record: `CH_VOV`, but for its NAME (bytes 14 and 15), the offset of a name among all. -/
theorem test_worked_record :
    (rackFind 0x4041 1 rackRows).map (fun r => ((recordBytes r).take 14, (recordBytes r).drop 16)) =
      some (([0x41, 0x40, 0x01, 0x01, 0x02, 0x23, 0x12, 0x02, 0xFF, 0x01, 0x10, 0x00, 0x00, 0x02] : List Byte),
        ([0xC0, 0x12, 0, 0, 0, 0, 0, 0, 0x0A, 0, 0, 0, 0x98, 0x3A, 0, 0] : List Byte)) := by decide +kernel

/-- Chapter 7: `CH_RULE` 0x0001F413 is count 3, base 500 ms, multiplier 2; after trips with N = 0, 1, 2 the delays are 500,
1000 and 2000 ms. -/
theorem test_retry_delays :
    let s := { base with active := base.active.set OD.CH_RULE 3 0x1F413 2 }
    [0, 1, 2].map (retryDelay s 3 (addCause 0 .limitTimeout)) = [500, 1000, 2000] := by decide +kernel

/-- Chapter 7: the rule gives TRIPPED while N is below 3 and LATCHED at N = 3. -/
theorem test_rule_state :
    let p (n : Nat) : Pod := { (wit.pod 0) with params := Store.set [] OD.CH_RULE 0 0x1F413 2, held := { (wit.pod 0).held with retryN := n } }
    (p 2).ruleState (addCause 0 .limitTimeout) = .tripped ∧ (p 3).ruleState (addCause 0 .limitTimeout) = .latched := by decide +kernel

/-- Chapter 12: with P = 4000, `PRE_DMAX` 9700 and `PRE_TOFF_MIN` 30, the limit of R377 is 3880 counts. -/
theorem test_pwm_limit : pwmLimit (act [(OD.PWM_DMAX, 1, 9700), (OD.PWM_TOFF_MIN, 1, 30)] base) 1 4000 = 3880 := by decide +kernel

/-- Chapter 6: with I_FS = 2560 A, SC2 at 1800 A, SC1 at 1500 A and OCL at 1200 A are codes 720, 600 and 480. -/
theorem test_current_codes :
    let m : Store := [(OD.CH_RSHUNT, 12500), (OD.CH_IRANGE, 0), (OD.CH_ISC2, 1800000), (OD.CH_ISC1, 1500000), (OD.CH_IOCL, 1200000)].foldl (fun m e => m.set e.1 0 e.2) []
    [OD.CH_ISC2, OD.CH_ISC1, OD.CH_IOCL].map (curCode m 0 1024) = [720, 600, 480] := by decide +kernel

/-- Chapter 16: `ADC_PAIR` OFF, SHUNT at k = 4, VDI and VDO at k = 6, with the metering transfer, is 186.56 Mbit/s. -/
theorem test_pod_rate :
    let m : Store := ((((Store.set [] OD.STR_DIV 0 1 0).set OD.STR_DIV 0 1 1).set OD.STR_DIV 0 1 2).set OD.ADC_PAIR 0 0).set OD.MTR_AVG 0 0x44 0
    (podRate m 0).1 = 186560000 * (podRate m 0).2 := by decide +kernel

/-- Chapter 18: the objects of the service tool. -/
theorem test_object_addresses :
    ([(0x5660, 1), (0x5680, 3), (0x57F0, 1), (0x65F0, 1), (0x5F40, 1)].map fun e => (rackFind e.1 e.2 rackRows).bind fun r => r.instanceOf e.1) =
      [some 11, some 11, some 11, some 7, some 15] ∧ keyOf 0x5680 3 = OD.CH_RULE.key 11 2 ∧ keyOf 0x5F40 1 = OD.MTR_MM_WIN.key 15 := by
  decide +kernel

/-- Chapter 0: the COMMIT of channel 5 is 0x4BF0, that of bus 2 is 0x32F0. -/
theorem test_commit_index : commitIndex (.chan 5) = 0x4BF0 ∧ commitIndex (.bus 2) = 0x32F0 := by decide

/-- R226, R227: an SC2 trip is cause 1 at its instant, and both sides leave HOLD for the fast profile's dump. -/
theorem test_sc2_trip :
    let st := ((after (.sc2Trip 0 (base.now + 500)) wit).pod 0).st
    st.trip.primary = 1 ∧ st.trip.time = base.now + 500 ∧ st.gIn.phase = .dump ∧ st.gOut.phase = .dump := by decide +kernel

/-- R286: a tick of NORMAL samples the shunt in each of its 20 slots, and VDI, VDO six times, VDN four times, NTC, INT twice. -/
theorem test_tick_plan :
    ([.shunt, .vdi, .vdo, .vdn, .ntc, .int] : List Tap).map (fun x => ((wit.pod 0).plan false wit.now).countP fun c => c.tap == x) =
      [20, 6, 6, 4, 2, 2] := by decide +kernel

/-- R203, R580: with R = R25 = 10 kΩ the pin stands at half of 1.800 V, code 14400, which is 25 °C; a shorted pin is above 150 °C. -/
theorem test_ntc : ntcTemp (14400 * 3) 3 10000 3435 = 25 ∧ 150 < ntcTemp 0 3 10000 3435 ∧ ntcTemp (28800 * 3) 3 10000 3435 < -55 := by
  decide +kernel

/-- R27: a damaged command frame is discarded and changes nothing else of the pod's status. -/
theorem test_damaged_frame :
    let u := after (.commandFrameReceived 0 { own := true, crcOk := false, frame := { off := true } }) wit
    (u.pod 0).st.ch = .on ∧ (u.pod 1) = (wit.pod 1) := by decide +kernel

/-- R470, R510: a request that names no session does not enable the stream port; it is answered ROLE. -/
theorem test_str_en_needs_a_role :
    let u := after (.strEnSet { src := 6, session := 0 }) wit
    u.resp = some (.direct, { err := .role }) ∧ u.str.en = false := by decide +kernel

/-- R469, chapter 18: a write of 2000 to the shadow set answers OK and leaves the active set as it was. -/
theorem test_shadow_write :
    let u := after (.objectWrite { src := 5, session := 1 } 0x5660 1 [0xD0, 7]) wit
    u.shadow.get OD.CH_FT_COUNT 11 = 2000 ∧ u.active.get OD.CH_FT_COUNT 11 = State.reset.active.get OD.CH_FT_COUNT 11 := by decide +kernel

/-- R401: RESET_N puts the hub into RESET. -/
theorem test_reset_n : (after .resetN base).hub = .reset := by decide +kernel

/-- R398: as RESET is released, the straps are latched; bit 6 is HEAD. -/
theorem test_reset_release : (after (.resetRelease 64) { base with hub := .reset }).ring.strap = 64 := by decide +kernel

end Sys2Proof.Machine
end

/-! # Damaged frames (R27)

A boundary runs through nearly all that a pod does. What it does to the frames of the pod is settled by one projection, `Pod.frames`:
every step of the boundary but the commands leaves it as it was, and `Pod.countFrame` moves it. -/

namespace Sys2Proof.Machine

/-! ## The frame part of a pod

`Pod.frames` is defined on the constructor, so that its equation `Pod.frames.eq_1` reads it off an updated pod; `frames_fields` gives
its fields back. -/

/-- What only command frames and the count of their silence move in a pod: the held command set, the frames that wait for the next
boundary, the missed frames, and whether the running tick has brought one (R23, R27, R29). -/
def Pod.frames : Pod → CmdFrame × List CmdFrame × Nat × Bool
  | { held, cmds, misses, gotFrame, .. } => (held, cmds, misses, gotFrame)

/-- The fields that make up the frame part. -/
theorem frames_fields (p : Pod) : p.held = p.frames.1 ∧ p.cmds = p.frames.2.1 ∧ p.misses = p.frames.2.2.1 ∧
    p.gotFrame = p.frames.2.2.2 := ⟨rfl, rfl, rfl, rfl⟩

@[simp] theorem ite_frames (c : Prop) [Decidable c] (a b : Pod) :
    (if c then a else b).frames = if c then a.frames else b.frames := apply_ite ..

@[simp] theorem foldl_frames {α : Type} (f : Pod → α → Pod) (h : ∀ p x, (f p x).frames = p.frames) (l : List α) (p : Pod) :
    (l.foldl f p).frames = p.frames := by
  induction l generalizing p with
  | nil => rfl
  | cons x l ih => rw [List.foldl, ih, h]

/-! Gate drive and trips -/

@[simp] theorem Pod.setGate_frames (p : Pod) (x : Side) (g : Gate) : (p.setGate x g).frames = p.frames := by
  cases x <;> rfl
@[simp] theorem Pod.endBlank_frames (p : Pod) (x : Side) : (p.endBlank x).frames = p.frames := by
  cases x <;> rfl
@[simp] theorem Pod.strongClamp_frames (p : Pod) (x : Side) (t : Nat) : (p.strongClamp x t).frames = p.frames :=
  Pod.setGate_frames ..
@[simp] theorem Pod.slewOff_frames (p : Pod) (x : Side) (t : Nat) (l : Option Nat) (ma : Nat) :
    (p.slewOff x t l ma).frames = p.frames := by
  simp [Pod.slewOff]
@[simp] theorem Pod.afterDump_frames (p : Pod) (x : Side) (t : Nat) : (p.afterDump x t).frames = p.frames := by
  simp [Pod.afterDump]
@[simp] theorem Pod.dump_frames (p : Pod) (x : Side) (t : Nat) (l : Option Nat) : (p.dump x t l).frames = p.frames := by
  simp [Pod.dump]
@[simp] theorem Pod.sideOff_frames (p : Pod) (x : Side) (f : Profile) (t : Nat) : (p.sideOff x f t).frames = p.frames := by
  unfold Pod.sideOff
  cases f <;> simp
@[simp] theorem Pod.restOff_frames (p : Pod) (x : Side) (f : Profile) (t : Nat) : (p.restOff x f t).frames = p.frames := by
  simp [Pod.restOff]
@[simp] theorem Pod.pgLost_frames (p : Pod) : p.pgLost.frames = p.frames := rfl
@[simp] theorem Pod.cutLimit_frames (p : Pod) (t : Nat) : (p.cutLimit t).frames = p.frames := rfl
@[simp] theorem Pod.endStart_frames (p : Pod) : p.endStart.frames = p.frames := by
  unfold Pod.endStart; split <;> rfl
@[simp] theorem Pod.off_frames (p : Pod) (f : Profile) (t : Nat) : (p.off f t).frames = p.frames := by
  unfold Pod.off
  dsimp only
  repeat' split
  all_goals simp [Pod.frames.eq_1, frames_fields]
@[simp] theorem Pod.joinTrip_frames (p : Pod) (k : Cause) (f : Profile) (t : Nat) : (p.joinTrip k f t).frames = p.frames :=
  Pod.off_frames ..
@[simp] theorem Pod.trigger_frames (p : Pod) (f : Profile) (t : Nat) : (p.trigger f t).frames = p.frames := by
  simp [Pod.trigger]
@[simp] theorem Pod.tripAway_frames (p : Pod) (k : Cause) (f : Profile) (t : Nat) : (p.tripAway k f t).frames = p.frames := by
  unfold Pod.tripAway
  split <;> simp [Pod.frames.eq_1, frames_fields]
@[simp] theorem Pod.trip_frames (p : Pod) (k : Cause) (f : Profile) (t : Nat) : (p.trip k f t).frames = p.frames := by
  simp [Pod.trip, Pod.frames.eq_1, frames_fields]
@[simp] theorem Pod.fltqRule_frames (p : Pod) : p.fltqRule.frames = p.frames := rfl
@[simp] theorem Pod.toState_frames (p : Pod) (ch : ChState) : (p.toState ch).frames = p.frames := rfl
@[simp] theorem Pod.exitRule_frames (p : Pod) : p.exitRule.frames = p.frames := rfl

/-! Converters -/

@[simp] theorem Pod.route_frames (p : Pod) (r : Routing) (t : Nat) : (p.route r t).frames = p.frames := rfl
@[simp] theorem Pod.newRun_frames (p : Pod) (u : Urgent) (a : Nat) : (p.newRun u a).frames = p.frames := rfl
@[simp] theorem Pod.startRun_frames (p : Pod) (u : Urgent) (t : Nat) : (p.startRun u t).frames = p.frames := by
  unfold Pod.startRun
  dsimp only
  split <;> simp [Pod.frames.eq_1, frames_fields]
@[simp] theorem Pod.askUrgent_frames (p : Pod) (u : Urgent) (t : Nat) : (p.askUrgent u t).frames = p.frames := by
  simp [Pod.askUrgent, Pod.frames.eq_1, frames_fields]
@[simp] theorem Pod.startWaiting_frames (p : Pod) (t : Nat) : (p.startWaiting t).frames = p.frames := by
  unfold Pod.startWaiting
  rw [foldl_frames _ (fun p u => p.startRun_frames u t)]
  rfl
@[simp] theorem Pod.calEnd_frames (p : Pod) (n : Nat) : (p.calEnd n).frames = p.frames := rfl
@[simp] theorem Pod.recalEnd_frames (p : Pod) (n : Nat) : (p.recalEnd n).frames = p.frames := rfl
@[simp] theorem Pod.abortCal_frames (p : Pod) (t : Nat) : (p.abortCal t).frames = p.frames := by
  simp [Pod.abortCal]
@[simp] theorem Pod.average_frames (p : Pod) (src : Source) (v : Int) (f t : Nat) : (p.average src v f t).frames = p.frames := by
  simp [Pod.average, Pod.frames.eq_1, frames_fields]
@[simp] theorem Pod.fresh_frames (p : Pod) (cv : Conv) (code : Int) : (p.fresh cv code).frames = p.frames := rfl
@[simp] theorem Pod.takeShunt_frames (p : Pod) (cv : Conv) (v : Int) (ok : Bool) : (p.takeShunt cv v ok).frames = p.frames := by
  unfold Pod.takeShunt
  dsimp only
  repeat' split
  all_goals rfl
@[simp] theorem Pod.takeInt_frames (p : Pod) (cv : Conv) (v : Int) (ok : Bool) : (p.takeInt cv v ok).frames = p.frames := by
  simp [Pod.takeInt, Pod.frames.eq_1, frames_fields]
@[simp] theorem Pod.takeWord_frames (p : Pod) (cv : Conv) (w : Nat) : (p.takeWord cv w).frames = p.frames := by
  simp [Pod.takeWord, Pod.frames.eq_1, frames_fields]
@[simp] theorem Pod.takeIn_frames (p : Pod) (next : Option (Int × Nat)) (cv : Conv) : (p.takeIn next cv).frames = p.frames := by
  unfold Pod.takeIn
  cases cv.tap <;> simp [sourceOf, Pod.frames.eq_1, frames_fields]
@[simp] theorem Pod.takeConv_frames (p : Pod) (next : Option (Int × Nat)) (cv : Conv) : (p.takeConv next cv).frames = p.frames := by
  unfold Pod.takeConv
  simp [Pod.frames.eq_1, frames_fields]
@[simp] theorem Pod.deliver_frames (b : Nat) (l : List Conv) (p : Pod) : (Pod.deliver b l p).frames = p.frames := by
  induction l generalizing p with
  | nil => rfl
  | cons c l ih =>
    unfold Pod.deliver
    split
    · rw [ih, Pod.takeConv_frames]
    · rfl
@[simp] theorem Pod.freshTick_frames (p : Pod) : p.freshTick.frames = p.frames := by
  unfold Pod.freshTick; split <;> rfl
@[simp] theorem Pod.convert_frames (p : Pod) (smp : TickSamples) (b : Nat) : (p.convert smp b).frames = p.frames := by
  simp [Pod.convert, Pod.frames.eq_1, frames_fields]

/-! Comparators -/

@[simp] theorem Pod.crossed_frames (p : Pod) (k : PodCmp) : (p.crossed k).frames = p.frames := by
  unfold Pod.crossed; split <;> rfl
@[simp] theorem Pod.oclRule_frames (p : Pod) (t : Nat) : (p.oclRule t).frames = p.frames := by
  unfold Pod.oclRule; split <;> rfl
@[simp] theorem Pod.outpRule_frames (p : Pod) (t : Nat) : (p.outpRule t).frames = p.frames := rfl
@[simp] theorem Pod.busRule_frames (p : Pod) (t : Nat) : (p.busRule t).frames = p.frames := rfl
@[simp] theorem Pod.revRule_frames (p : Pod) : p.revRule.frames = p.frames := by
  unfold Pod.revRule; split <;> rfl
@[simp] theorem Pod.cmpRules_frames (p : Pod) (t : Nat) : (p.cmpRules t).frames = p.frames := by
  simp [Pod.cmpRules]
@[simp] theorem Pod.edge_frames (p : Pod) (e : CmpEdge) : (p.edge e).frames = p.frames := by
  simp [Pod.edge, Pod.frames.eq_1, frames_fields]
@[simp] theorem Pod.takeCmp_frames (p : Pod) (smp : TickSamples) (b : Nat) : (p.takeCmp smp b).frames = p.frames := by
  unfold Pod.takeCmp
  simp [Pod.frames.eq_1, frames_fields]

/-! The steps of a boundary -/

@[simp] theorem Pod.hvDown_frames (p : Pod) (t : Nat) : (p.hvDown t).frames = p.frames := by
  simp [Pod.hvDown, Pod.frames.eq_1, frames_fields]
@[simp] theorem Pod.takeTick_frames (p : Pod) (smp : TickSamples) (b : Nat) : (p.takeTick smp b).frames = p.frames := by
  unfold Pod.takeTick
  dsimp only
  repeat' split
  all_goals simp [Pod.frames.eq_1, frames_fields]
@[simp] theorem Pod.settleTrip_frames (p : Pod) (b : Nat) : (p.settleTrip b).frames = p.frames := by
  unfold Pod.settleTrip; split <;> rfl
@[simp] theorem Pod.settleLimit_frames (p : Pod) : p.settleLimit.frames = p.frames := by
  simp [Pod.settleLimit]
@[simp] theorem Pod.closeTrip_frames (p : Pod) : p.closeTrip.frames = p.frames := rfl
@[simp] theorem Pod.settleOff_frames (p : Pod) : p.settleOff.frames = p.frames := by
  simp [Pod.settleOff, Pod.frames.eq_1, frames_fields]
@[simp] theorem Pod.settleAbsent_frames (p : Pod) : p.settleAbsent.frames = p.frames := by
  unfold Pod.settleAbsent; split <;> rfl
@[simp] theorem Pod.settleEngine_frames (p : Pod) (b : Nat) : (p.settleEngine b).frames = p.frames := by
  simp [Pod.settleEngine, Pod.frames.eq_1, frames_fields]
@[simp] theorem Pod.startTies_frames (p : Pod) (t : Nat) : (p.startTies t).frames = p.frames := rfl
@[simp] theorem Pod.tiesAtActive_frames (p : Pod) (t : Nat) : (p.tiesAtActive t).frames = p.frames := by
  simp [Pod.tiesAtActive, Pod.frames.eq_1, frames_fields]
@[simp] theorem Pod.settleTies_frames (p : Pod) (t : Nat) : (p.settleTies t).frames = p.frames := by
  simp [Pod.settleTies, Pod.frames.eq_1, frames_fields]
@[simp] theorem Pod.askConfirm_frames (p : Pod) (b : Nat) : (p.askConfirm b).frames = p.frames := by
  unfold Pod.askConfirm
  split <;> simp [Pod.frames.eq_1, frames_fields]
@[simp] theorem Pod.settlePg_frames (p : Pod) : p.settlePg.frames = p.frames := by
  simp [Pod.settlePg, Pod.frames.eq_1, frames_fields]

/-! ## A tick without a frame (R27, R29) -/

/-- With no frame waiting, a boundary applies none. -/
theorem Pod.applyAll_of_no_cmds (p : Pod) (b : Nat) (h : p.cmds = []) : p.applyAll b = p := by
  unfold Pod.applyAll
  rw [h, List.foldl_nil, ← h]

/-- The pod at a boundary, up to the commands that the tick brought. -/
def Pod.beforeCommands (p : Pod) (smp : TickSamples) (b : Nat) : Pod :=
  (({ p with st := { p.st with seat := { p.st.seat with s1 := smp.s1, s2 := smp.s2 } } }.takeTick smp b).settleTrip b).settleLimit

theorem Pod.beforeCommands_frames (p : Pod) (smp : TickSamples) (b : Nat) : (p.beforeCommands smp b).frames = p.frames := by
  simp [Pod.beforeCommands, Pod.frames.eq_1, frames_fields]

/-- The frame part after a boundary is that which its commands leave, with the ended tick counted. -/
theorem Pod.boundary_frames (p : Pod) (smp : TickSamples) (b : Nat) :
    (p.boundary smp b).frames = ((p.beforeCommands smp b).applyAll b).countFrame.frames := by
  unfold Pod.boundary
  simp [Pod.beforeCommands, Pod.countFrame, Pod.frames.eq_1, frames_fields]

/-- A boundary whose tick brought no frame counts one more miss; the held command set stays. -/
theorem Pod.boundary_frames_of_silence (p : Pod) (smp : TickSamples) (b : Nat) (hcmds : p.cmds = []) (hgot : p.gotFrame = false) :
    (p.boundary smp b).frames = (p.held, [], p.misses + 1, false) := by
  have hbefore : (p.beforeCommands smp b).frames = (p.held, [], p.misses, false) := by
    rw [p.beforeCommands_frames, ← hcmds, ← hgot]; rfl
  have hnone : (p.beforeCommands smp b).cmds = [] := by rw [(frames_fields _).2.1, hbefore]
  rw [p.boundary_frames, Pod.applyAll_of_no_cmds _ _ hnone]
  simp [Pod.countFrame, Pod.frames.eq_1, frames_fields, hbefore]

theorem Pod.queueWindows_frames (p : Pod) (c : Chan) (missed b : Nat) : (p.queueWindows c missed b).frames = p.frames := rfl

@[simp] theorem State.xferScan_podBank (s : State) (c : Chan) (l : List Fed) : (s.xferScan c l).podBank = s.podBank := by
  unfold State.xferScan
  split
  · rfl
  · split
    · refine foldl_podBank _ (fun s f => ?_) l s
      repeat' split
      all_goals simp
    · rfl

theorem State.xferScan_pod (s : State) (c d : Chan) (l : List Fed) : (s.xferScan c l).pod d = s.pod d :=
  congrArg (Bank.get · d) (s.xferScan_podBank c l)

/-- POD_TICK_BOUNDARY at a pod that is linked or has been: its frame part is that of the boundary. -/
theorem exec_podTickBoundary_frames (c : Chan) (smp : TickSamples) (s : State) (hpow : (s.pod c).st.pod ≠ .unpowered)
    (hlink : (s.pod c).st.pod ≠ .linking) (hdue : (s.pod c).tickAt < ceilTick s.now) :
    ∃ u, exec (.podTickBoundary c smp) s = .next u ∧
      (u.pod c).frames = ((s.pod c).boundary smp (ceilTick s.now)).frames := by
  refine ⟨_, rfl, ?_⟩
  simp only [bne_iff_ne.mpr hpow, bne_iff_ne.mpr hlink, hdue, decide_true, Bool.and_self, if_true]
  rw [State.xferScan_pod, State.queueWindows, State.updPod_pod_self, Pod.queueWindows_frames, State.updPod_pod_self, State.at_pod]

/-! ## Damaged frames at the pod and at the hub (R27) -/

/-- The pod discards a damaged command frame. -/
theorem exec_commandFrameReceived_of_bad_crc (c : Chan) (rx : RxFrame) (s : State) (h : rx.crcOk = false) :
    exec (.commandFrameReceived c rx) s = .next s := by
  change execCommandFrameReceived c rx s = .next s
  simp [execCommandFrameReceived, h]

/-- The hub counts a damaged status frame, and that is all. -/
theorem exec_statusFrameReceived_of_bad_crc (c : Chan) (s : State) (hlink : (s.port c).linked = true) (hup : s.hubUp = true) :
    exec (.statusFrameReceived c false) s = .next (s.updPort c fun q => { q with linkErrors := q.linkErrors + 1 }) := by
  change execStatusFrameReceived c false s = _
  simp [execStatusFrameReceived, hlink, hup]

/-- Settles O48: each damaged frame is discarded where it arrives, and the boundary of a tick without a frame moves the frame part
of its pod by one miss alone. -/
theorem damagedFramesAreDiscarded : Obligations.DamagedFramesAreDiscarded := by
  refine ⟨exec_commandFrameReceived_of_bad_crc, fun c s hlink hup => ?_, fun c smp s hpow hlink hgot hcmds hdue => ?_⟩
  · refine ⟨_, exec_statusFrameReceived_of_bad_crc c s hlink hup, ?_, ?_, rfl⟩ <;> rw [State.updPort_port_self]
  · obtain ⟨u, hu, hframes⟩ := exec_podTickBoundary_frames c smp s hpow hlink hdue
    rw [Pod.boundary_frames_of_silence _ _ _ hcmds hgot] at hframes
    exact ⟨u, hu, by rw [(frames_fields _).2.2.1, hframes], by rw [(frames_fields _).1, hframes]⟩

end Sys2Proof.Machine

/-! # Seating (R106 to R108)

Each command of seating tells the hub of one changed pod, by `State.podTell`; a lemma per command then says what a pair of samples
does to that pod. -/

namespace Sys2Proof.Machine

/-! ## A change that the link reports -/

/-- The told pod is the changed one, reporting itself; what the port sees is no part of it. -/
theorem State.podTell_pod_self (s : State) (c : Chan) (f : Pod → Pod) :
    (s.podTell c f).pod c = { f (s.pod c) with up := (f (s.pod c)).up.follow (f (s.pod c)).st } := by
  unfold State.podTell
  dsimp only
  split <;> simp

@[simp] theorem State.podTell_now (s : State) (c : Chan) (f : Pod → Pod) : (s.podTell c f).now = s.now := by
  unfold State.podTell
  dsimp only
  split <;> rfl

/-! ## The pairs of samples -/

/-- Whether a pod samples its seats is a matter of its pod state alone. -/
theorem Pod.samplesSeat_congr {p q : Pod} (h : p.st.pod = q.st.pod) : p.samplesSeat = q.samplesSeat := by
  unfold Pod.samplesSeat
  rw [h]

/-- SEATING_ABORT: an unseated sample in SEATING forgets when the debounce began; the pod state stays (R108). -/
theorem exec_seatingAbort_of_unseated (c : Chan) (s1 s2 : Bool) (t : Nat) (s : State) (hch : (s.pod c).st.ch = .seating)
    (hpins : (s1 && s2) = false) :
    ∃ u, exec (.seatingAbort c s1 s2 t) s = .next u ∧ u.now = max s.now t ∧ (u.pod c).st.ch = .absent ∧
      (u.pod c).seatFrom = none ∧ (u.pod c).st.pod = (s.pod c).st.pod := by
  refine ⟨_, rfl, ?_⟩
  rw [if_pos ⟨hch, hpins⟩, State.podTell_pod_self]
  exact ⟨State.podTell_now .., rfl, rfl, rfl⟩

/-- SEAT_PAIR_SEATED: a seated pair in ABSENT opens a debounce at its own instant (R107). -/
theorem exec_seatPairSeated_of_absent (c : Chan) (t : Nat) (s : State) (hsamples : (s.pod c).samplesSeat = true)
    (hch : (s.pod c).st.ch = .absent) :
    ∃ v, exec (.seatPairSeated c t) s = .next v ∧ (v.pod c).st.ch = .seating ∧ (v.pod c).st.seat.debounced = false ∧
      (v.pod c).seatFrom = some (max s.now t) := by
  have hcond : ((s.pod c).samplesSeat && (s.pod c).st.ch == .absent) = true := by rw [hsamples, hch]; rfl
  refine ⟨_, rfl, ?_⟩
  rw [if_pos hcond]
  dsimp only
  split <;> simp only [State.updPort_pod, State.podTell_pod_self, State.at_now, and_self]

/-- Settles O49: the abort leaves the pod ABSENT, without a debounce and still sampling, so that the seated pair opens a new one. -/
theorem seatingRestartsFromZero : Obligations.SeatingRestartsFromZero := by
  intro c s1 s2 t t' s hch hpins hsamples
  obtain ⟨u, hu, hnow, habsent, hfrom, hpod⟩ := exec_seatingAbort_of_unseated c s1 s2 t s hch hpins
  have husamples : (u.pod c).samplesSeat = true := (Pod.samplesSeat_congr hpod).trans hsamples
  obtain ⟨v, hv, hseating, -, hrestart⟩ := exec_seatPairSeated_of_absent c t' u husamples habsent
  exact ⟨u, v, hu, habsent, hfrom, hv, hseating, hnow ▸ hrestart⟩

end Sys2Proof.Machine

/-! # The head's outstanding requests (R435)

A request of the head waits in `ring.sent` for its OD_RESP. Each way of leaving that wait gets one equation of `exec`: the response,
the first time-out, the second one. -/

namespace Sys2Proof.Machine

/-! ## A frame that a port takes -/

/-- Counting code violations changes the status objects only. -/
theorem State.codeErrs_eq (s : State) (n : Nat) : ∃ m, s.codeErrs n = { s with status := m } := by
  unfold State.codeErrs
  split
  · exact ⟨s.status, rfl⟩
  · exact ⟨_, rfl⟩

/-- A heard frame of a defined TYPE and KIND is acted on, once the code violations before it are counted (R431, R461). -/
theorem State.take__of_heard {s : State} {k : KPort} {f : Frame} (act : State → State) (hheard : heard s k f = true)
    (hknown : unknownFrame f = false) : s.take_ k f act = act (s.codeErrs f.violations) := by
  obtain ⟨⟨hport, hgood⟩, hround⟩ : (hearsPort s k = true ∧ badFrame f = false) ∧ roundTrip s k f = false := by
    simpa [heard] using hheard
  have hround' : roundTrip (s.codeErrs f.violations) k f = false := by
    obtain ⟨m, hm⟩ := State.codeErrs_eq s f.violations
    rw [hm]
    exact hround
  simp [State.take_, hport, hgood, hknown, hround']

/-- OD_RESP is a defined TYPE, and has no KIND (R430). -/
theorem unknownFrame_of_type_four {f : Frame} (h : f.type = 4) : unknownFrame f = false := by
  simp [unknownFrame, h]

/-! ## The end of the wait -/

@[simp] theorem State.sentDone_sent (s : State) (x : Sent) (b : List Byte) :
    (s.sentDone x b).ring.sent = s.ring.sent.erase x := rfl

@[simp] theorem State.sentDone_items (s : State) (x : Sent) (b : List Byte) :
    (s.sentDone x b).spi.items = s.spi.items ++ [{ kind := 1, tag := x.tag, src := x.frame.dst, bytes := b }] := rfl

@[simp] theorem State.sentDone_out (s : State) (x : Sent) (b : List Byte) : (s.sentDone x b).out = s.out := rfl

/-- OD_RESP ends the wait of the request that it answers. -/
theorem exec_odResp_of_sentFor {k : KPort} {f : Frame} {x : Sent} {s : State} (hheard : heard s k f = true) (htype : f.type = 4)
    (hdst : f.dst = s.ring.addr) (hsent : sentFor s f.src f.seq = some x) :
    exec (.odResp k f) s = .next ((s.codeErrs f.violations).sentDone x f.payload) := by
  show execOdResp k f s = _
  rw [execOdResp, State.take__of_heard _ hheard (unknownFrame_of_type_four htype)]
  obtain ⟨m, hm⟩ := State.codeErrs_eq s f.violations
  have hsent' : sentFor { s with status := m } f.src f.seq = some x := hsent
  simp only [hm, htype, hdst, hsent', and_self, if_true]

/-! ## The time-outs -/

/-- A request of the head is marked as repeated, and its wait begins again. -/
def State.sentAgain (s : State) (x : Sent) : State :=
  { s with ring := { s.ring with
      sent := s.ring.sent.map fun z => if z == x then { x with again := true, at_ := s.now } else z } }

theorem State.mem_sentAgain {s : State} {x : Sent} (hx : x ∈ s.ring.sent) :
    { x with again := true, at_ := s.now } ∈ (s.sentAgain x).ring.sent :=
  List.mem_map.mpr ⟨x, hx, if_pos (beq_self_eq_true x)⟩

/-- A frame becomes the newest that has been sent, if one of its ports is UP. -/
theorem State.sendOn_out (s : State) (f : Frame) (m : Nat) :
    (s.sendOn f m).out = if m &&& (s.ringUp % 8) = 0 then s.out else .frame f (m &&& (s.ringUp % 8)) :: s.out :=
  apply_ite ..

/-- What leaves does not depend on the requests that wait. -/
theorem State.sentAgain_sendOwn_out (s : State) (x : Sent) (type seq dst : Nat) (b : List Byte) :
    ((s.sentAgain x).sendOwn type seq dst b).out = (s.sendOwn type seq dst b).out := by
  simp only [State.sendOwn, State.sendOn_out]
  rfl

section
variable {seq : Nat} {x : Sent} {s : State}

/-- The first time-out of a request repeats it with its own SEQ, and counts that (R435). -/
theorem exec_ringRespTmo_first (hfind : (s.ring.sent.find? fun x => x.frame.seq == seq) = some x)
    (hdue : x.at_ + s.act OD.RING_RESP_TMO * usNs ≤ s.now) (hfirst : x.again = false) :
    exec (.ringRespTmo seq) s = .next (((s.sentAgain x).sendOwn x.frame.type x.frame.seq x.frame.dst x.frame.payload).count
      OD.RING_RETRIES) := by
  show execRingRespTmo seq s = _
  simp only [execRingRespTmo, hfind, hdue, hfirst, if_true, Bool.false_eq_true, if_false]
  rfl

/-- The second time-out ends the wait with HW (R435). -/
theorem exec_ringRespTmo_again (hfind : (s.ring.sent.find? fun x => x.frame.seq == seq) = some x)
    (hdue : x.at_ + s.act OD.RING_RESP_TMO * usNs ≤ s.now) (hagain : x.again = true) :
    exec (.ringRespTmo seq) s =
      .next (s.sentDone x (respPayload (requestOf 0 .direct x.frame.payload) { err := .hw })) := by
  show execRingRespTmo seq s = _
  simp only [execRingRespTmo, hfind, hdue, hagain, if_true]

end

/-- Settles O30: the first time-out sends the request again and leaves the host's queue alone, the second one answers HW, and a
response ends the wait without a frame; what the items hold is the choice of log 54. -/
theorem unansweredRequestIsRepeatedOnce : Obligations.UnansweredRequestIsRepeatedOnce := by
  refine ⟨fun seq x s hfind hdue hfirst => ?_, fun seq x s hfind hdue hagain => ?_, fun k f x s hheard htype hdst hsent => ?_⟩
  · refine ⟨_, exec_ringRespTmo_first hfind hdue hfirst, ?_⟩
    obtain ⟨l, hl⟩ := State.sendOwn_eq (s.sentAgain x) x.frame.type x.frame.seq x.frame.dst x.frame.payload
    refine ⟨?_, ?_, State.sentAgain_sendOwn_out ..⟩
    · rw [State.count_ring, hl]
      exact State.mem_sentAgain (List.mem_of_find?_eq_some hfind)
    · rw [State.count_spi, hl]
      rfl
  · exact ⟨_, exec_ringRespTmo_again hfind hdue hagain, rfl, rfl⟩
  · obtain ⟨m, hm⟩ := State.codeErrs_eq s f.violations
    refine ⟨_, exec_odResp_of_sentFor hheard htype hdst hsent, ?_⟩
    simp only [State.sentDone_sent, State.sentDone_items, State.sentDone_out, hm, and_self]

end Sys2Proof.Machine

/-! # REVERT (R486)

REVERT is a write of 2 to the COMMIT object of a unit. The write reaches `State.revert` because every unit has one such object, a
command of one unsigned byte; what the access does besides (the handle's idle time, the partner's copy, the answer) is told once, by
`State.doWrite_outcome`. -/

namespace Sys2Proof.Machine

/-! ## The COMMIT object of a unit (R481, R482) -/

theorem mem_allUnits (u : CUnit) : u ∈ allUnits := by
  have hchan : ∀ c : Chan, c ∈ allChans := by decide
  have hbus : ∀ b : BusId, b ∈ allBuses := by decide
  have hquad : ∀ p : Quad, p ∈ allQuads := by decide
  have hoct : ∀ n : Oct, n ∈ allOct := by decide
  cases u <;> simp [allUnits, hchan, hbus, hquad, hoct]

/-- No two units share the index of their COMMIT objects. -/
theorem commitUnit_commitIndex (u : CUnit) : commitUnit (commitIndex u) = some u := by
  have hall : ∀ u ∈ allUnits, commitUnit (commitIndex u) = some u := by decide +kernel
  exact hall u (mem_allUnits u)

/-- Sub 01 of a COMMIT object is a command of type U8. -/
theorem objRow_commitIndex (u : CUnit) :
    ∃ r, objRow (commitIndex u) 1 = some r ∧ r.access = .cmd ∧ r.type = .u8 := by
  have hall : ∀ u ∈ allUnits, (objRow (commitIndex u) 1).map (fun r => (r.access, r.type)) = some (.cmd, .u8) := by
    decide +kernel
  obtain ⟨r, hr, hkind⟩ := Option.map_eq_some_iff.mp (hall u (mem_allUnits u))
  obtain ⟨haccess, htype⟩ := Prod.mk.inj hkind
  exact ⟨r, hr, haccess, htype⟩

/-- The request of an order that goes to a COMMIT object. -/
theorem orderOf_commitObj (rq : Requester) (u : CUnit) (k i : Nat) :
    orderOf rq (commitObj u k) i = { rq := rq, index := commitIndex u, sub := k } := by
  simp [orderOf, commitObj]

/-! ## A write that is answered at once (R468) -/

/-- In an object of an unsigned type, the bytes of a number that fits it spell that number. -/
theorem valueOf_objBytes {i j n : Nat} {r : ObjRow} (hr : objRow i j = some r) (hsign : r.type.isSigned = false)
    (hn : n < 256 ^ r.type.size) : valueOf r (objBytes i j n) = n := by
  have hmod : ((n : Int) % ((256 ^ r.type.size : Nat) : Int)).toNat = n := by
    rw [← Int.natCast_emod, Int.toNat_natCast, Nat.mod_eq_of_lt hn]
  simp only [objBytes, hr, valueOf, hsign, leInt, hmod, ofLe_leBytes, Nat.mod_eq_of_lt hn, Bool.false_eq_true, if_false]

/-- A hub that serves an access is not in RESET. -/
theorem hub_ne_reset_of_serves {s : State} {i j : Nat} (h : serves s i j = true) : s.hub ≠ .reset := by
  intro hreset
  rw [serves, hreset] at h
  cases h

/-- A write that is let through, whose operation gives `x` for every role, answers the outcome of `x` and leaves the sets of `x`. -/
theorem State.doWrite_outcome {s : State} {q : Req} {d : List Byte} {r : ObjRow} {x : State × Err} (hadmits : admits s q d = true)
    (hvia : q.via = .direct) (hr : objRow q.index q.sub = some r) (hhub : x.1.hub = s.hub)
    (hx : ∀ role, (s.touch q).operate q role r d = (x.1, some x.2)) :
    answers (s.doWrite q d.length d) x.2 ∧ (s.doWrite q d.length d).shadow = x.1.shadow ∧
      (s.doWrite q d.length d).active = x.1.active := by
  obtain ⟨hserves, -, -⟩ := admits_iff hadmits
  obtain ⟨role, -, hdone⟩ := State.doWrite_eq hadmits hr
  obtain ⟨n, l, a, hfinish, hanswer⟩ := State.finish_eq x s q r d hvia
  rw [hdone x (hx role), hfinish, hanswer (hhub ▸ hub_ne_reset_of_serves hserves)]
  exact ⟨rfl, rfl, rfl⟩

/-! ## REVERT (R486) -/

/-- While a COMMIT of the unit waits, REVERT is refused. -/
theorem State.revert_of_waiting {s : State} {u : CUnit} (h : (s.pend.any fun x => x.unit == u) = true) :
    s.revert u = (s, .busy) := if_pos h

/-- With no COMMIT of the unit waiting, the active set is copied and the state of the COMMIT object becomes 4 (R490). -/
theorem State.revert_of_free {s : State} {u : CUnit} (h : (s.pend.any fun x => x.unit == u) = false) :
    s.revert u = ({ s with shadow := putUnit s.shadow u (unitSet s.active u) }.set (commitObj u 1) 0 4, .ok) :=
  if_neg (Bool.eq_false_iff.mp h)

theorem State.revert_hub (s : State) (u : CUnit) : (s.revert u).1.hub = s.hub := by
  unfold State.revert
  split <;> rfl

/-- REVERT does not see the sessions. -/
theorem State.revert_sessions (s : State) (u : CUnit) (l : List Session) :
    State.revert { s with sessions := l } u = ({ (s.revert u).1 with sessions := l }, (s.revert u).2) := by
  unfold State.revert
  dsimp only
  split <;> rfl

/-- A write of 2 to a COMMIT object runs REVERT. -/
theorem State.operate_revert {s : State} {q : Req} {u : CUnit} {r : ObjRow} {d : List Byte} (role : Role)
    (hpower : s.pfw.on = false) (haccess : r.access = .cmd) (hunit : commitUnit q.index = some u) (hvalue : valueOf r d = 2) :
    s.operate q role r d = ((s.revert u).1, some (s.revert u).2) := by
  simp [State.operate, State.command, hpower, haccess, hunit, hvalue]

/-- A REVERT that is let through answers the outcome of `State.revert` and leaves its sets. -/
theorem exec_revert {u : CUnit} {rq : Requester} {s : State} (h : admitsOrder s rq (commitObj u 1) 0 2 = true) :
    ∃ w, exec (.revert u rq) s = .next w ∧ answers w (s.revert u).2 ∧ w.shadow = (s.revert u).1.shadow ∧
      w.active = (s.revert u).1.active := by
  refine ⟨_, rfl, ?_⟩
  simp only [admitsOrder, orderOf_commitObj] at h
  simp only [State.order, orderOf_commitObj]
  obtain ⟨r, hr, haccess, htype⟩ := objRow_commitIndex u
  have hvalue : valueOf r (objBytes (commitIndex u) 1 2) = 2 :=
    valueOf_objBytes (n := 2) hr (by rw [htype]; rfl) (by rw [htype]; decide)
  obtain ⟨-, hpower, -⟩ := admits_iff h
  obtain ⟨l, htouch⟩ := State.touch_eq s { rq := rq, index := commitIndex u, sub := 1 }
  refine State.doWrite_outcome (x := ({ (s.revert u).1 with sessions := l }, (s.revert u).2)) h rfl hr (s.revert_hub u)
    fun role => ?_
  rw [htouch, State.operate_revert (s := { s with sessions := l }) role hpower haccess (commitUnit_commitIndex u) hvalue,
    State.revert_sessions]

/-- Settles O39: REVERT's outcome is answered, and what follows it touches neither set. -/
theorem revertCopiesTheActiveSet : Obligations.RevertCopiesTheActiveSet := by
  refine ⟨fun u rq s hadmits hfree => ?_, fun u rq s hadmits hwaits => ?_⟩
  · obtain ⟨w, hexec, hanswer, hshadow, hactive⟩ := exec_revert hadmits
    rw [State.revert_of_free hfree] at hanswer hshadow hactive
    exact ⟨w, hexec, hanswer, hshadow, hactive⟩
  · obtain ⟨w, hexec, hanswer, hshadow, hactive⟩ := exec_revert hadmits
    rw [State.revert_of_waiting hwaits] at hanswer hshadow hactive
    exact ⟨w, hexec, hanswer, hshadow, hactive⟩

end Sys2Proof.Machine

/-! # The buffer of the stream port (R520 to R522)

A record joins the queue by `State.enqueue` or is left out by `State.dropRecord`. What either does to the queue and to the LOSS counts
is said once; the two writers of the buffer, the record on its way and the journal exporter, then get equations of `exec`. -/

namespace Sys2Proof.Machine

/-! ## A record joins the queue or is dropped -/

theorem State.enqueue_queue (s : State) (r : StrRec) : (s.enqueue r).str.queue =
    s.str.queue ++ (if lossDue s then [lossRecord s] else []) ++ [{ r with since := s.now }] := rfl

/-- The record that joins is the last of the queue, whether or not a LOSS record stands before it. -/
theorem State.enqueue_queue_getLast? (s : State) (r : StrRec) :
    (s.enqueue r).str.queue.getLast? = some { r with since := s.now } := by
  rw [State.enqueue_queue, List.getLast?_concat]

theorem State.enqueue_queue_of_lossDue {s : State} (r : StrRec) (hloss : lossDue s = true) :
    (s.enqueue r).str.queue = s.str.queue ++ [lossRecord s, { r with since := s.now }] := by
  rw [State.enqueue_queue, if_pos hloss, List.append_assoc, List.singleton_append]

theorem State.enqueue_lossDue (s : State) (r : StrRec) : lossDue (s.enqueue r) = false := rfl

/-- A queued record is never dropped to make room (R520). -/
theorem State.dropRecord_queue (s : State) (r : StrRec) : (s.dropRecord r).str.queue = s.str.queue := rfl

theorem roomFor_of_lossDue {s : State} (r : StrRec) (hloss : lossDue s = true) : roomFor s r = recLen r + 28 := by
  rw [roomFor, if_pos hloss]

/-! ## STREAM_RECORD (R520, R522) -/

/-- The state in which the records `l` are on their way to the buffer. -/
def State.withArriving (s : State) (l : List StrRec) : State := { s with str := { s.str with arriving := l } }

/-- The record that reaches the buffer is taken whole when there is room for it, and is otherwise dropped whole (R520). Records still
on their way take no room. -/
theorem exec_streamRecord_of_arriving {r : StrRec} {rest : List StrRec} {s : State} (harriving : s.str.arriving = r :: rest)
    (hen : s.str.en = true) : exec .streamRecord s = .next (if roomFor s r ≤ bufFree s then (s.withArriving rest).enqueue r
      else (s.withArriving rest).dropRecord r) := by
  change execStreamRecord s = _
  rw [execStreamRecord, harriving]
  exact congrArg Host.Outcome.next (if_pos hen)

/-! ## JOURNAL_EXPORT_RECORD (R519, R521) -/

/-- The exporter stands still without room for a journal record and a LOSS record. -/
theorem exec_journalExportRecord_of_full {s : State} (hfull : bufFree s < 72) : exec .journalExportRecord s = .next s := by
  change execJournalExportRecord s = _
  rw [execJournalExportRecord, if_neg fun ⟨_, _, _, hroom⟩ => Nat.not_le.mpr hfull hroom]

/-- An export that is due, has room and finds its record: the record joins the queue, and the next number is due. -/
theorem exec_journalExportRecord_of_room {r : JRec} {s : State} (hen : s.str.en = true) (hleft : s.str.left ≠ 0)
    (hdue : s.str.exportAt ≤ s.now) (hroom : 72 ≤ bufFree s) (hfind : jnlFind s s.str.next = some r) :
    ∃ u, exec .journalExportRecord s = .next u ∧ u.str.next = (s.str.next + 1) % 2 ^ 32 ∧
      u.str.queue = (s.enqueue { type := 4, src := 0x10, time := s.now, body := r.bytes }).str.queue := by
  change ∃ u, execJournalExportRecord s = .next u ∧ _
  rw [execJournalExportRecord, if_pos ⟨hen, hleft, hdue, hroom⟩, hfind]
  exact ⟨_, rfl, rfl, rfl⟩

/-! ## The statements -/

/-- Settles O33: the exporter's record joins the queue as any other, and its guard asks for the room of 72 bytes. -/
theorem journalExportWaitsForRoom : Obligations.JournalExportWaitsForRoom := by
  refine ⟨fun r s hen hleft hdue hroom hfind => ?_, fun s hfull => exec_journalExportRecord_of_full hfull⟩
  obtain ⟨u, hexec, hnext, hqueue⟩ := exec_journalExportRecord_of_room hen hleft hdue hroom hfind
  exact ⟨u, hexec, hnext, hqueue ▸ s.enqueue_queue_getLast? _⟩

/-- Settles O34: with counts pending the room asked for is 28 bytes more, and the record that is taken finds the LOSS record in
front of it. -/
theorem lossRecordGoesInFront : Obligations.LossRecordGoesInFront := by
  refine ⟨fun r rest s harriving hen hloss hroom => ?_, fun r rest s harriving hen hloss hfull => ?_⟩
  · rw [← roomFor_of_lossDue r hloss] at hroom
    rw [exec_streamRecord_of_arriving harriving hen, if_pos hroom]
    exact ⟨_, rfl, State.enqueue_queue_of_lossDue (s := s.withArriving rest) r hloss, State.enqueue_lossDue ..⟩
  · rw [← roomFor_of_lossDue r hloss] at hfull
    rw [exec_streamRecord_of_arriving harriving hen, if_neg (Nat.not_le.mpr hfull)]
    exact ⟨_, rfl, State.dropRecord_queue ..⟩

end Sys2Proof.Machine

/-! # The end of a power warning (R560)

Writing a record puts it in front of the journal, and the EVENT frame that carries it toward the head leaves the journal alone. With
`State.journal_units`, by which writing leaves the units alone, the two say what the end of the warning does. -/

namespace Sys2Proof.Machine

/-! ## Sending a record leaves the journal alone -/

@[simp] theorem State.pushOrDrop_jnl (s : State) (x : Item) : (s.pushOrDrop x).jnl = s.jnl := by
  unfold State.pushOrDrop
  split <;> rfl

@[simp] theorem State.sendOn_jnl (s : State) (f : Frame) (ports : Nat) : (s.sendOn f ports).jnl = s.jnl := by
  unfold State.sendOn
  split <;> rfl

@[simp] theorem State.sendOwn_jnl (s : State) (type seq dst : Nat) (payload : List Byte) :
    (s.sendOwn type seq dst payload).jnl = s.jnl := State.sendOn_jnl ..

@[simp] theorem State.sendEvent_jnl (s : State) (r : JRec) : (s.sendEvent r).jnl = s.jnl := by
  unfold State.sendEvent
  split
  · exact State.pushOrDrop_jnl ..
  · split
    · exact State.sendOwn_jnl ..
    · rfl

/-! ## A record is written -/

/-- The record written last stands in front; of those before it, as many stay as the journal has room for. -/
theorem State.journal_recs (s : State) (kind : Nat) (src : JSrc) (code : Nat) (data : List (Nat × Nat)) :
    ∃ r, (s.journal kind src code data).jnl.recs = r :: s.jnl.recs.take 8191 ∧ r.kind = kind ∧ r.code = code := by
  rw [State.journal, State.journalAt, State.sendEvent_jnl]
  exact ⟨_, rfl, rfl, rfl⟩

@[simp] theorem State.journal_pfw (s : State) (kind : Nat) (src : JSrc) (code : Nat) (data : List (Nat × Nat)) :
    (s.journal kind src code data).pfw = s.pfw := by
  have hunits := State.journal_units s kind src code data
  simp only [State.units, Prod.mk.injEq] at hunits
  obtain ⟨-, -, -, -, -, -, -, -, hpfw, -⟩ := hunits
  exact hpfw

/-! ## POWER_WARNING_END (R560) -/

/-- The state in which no warning is on, before the record of its end is written. -/
def State.withoutWarning (s : State) : State := { s with pfw := {} }.set OD.HUB_PFW_STATE 0 0

/-- The warning ends once PFW_N has been high for 1 ms after the sequence. -/
theorem exec_powerWarningEnd_of_due {d : Nat} {s : State} (hdone : s.pfw.doneAt = some d) (hon : s.pfw.on = true)
    (hdue : d + msNs ≤ s.now) : exec .powerWarningEnd s =
      .next (s.withoutWarning.journal 0x16 .hub 3 [(4, s.stat OD.MTR_CKPT_SEQ)]) := by
  change execPowerWarningEnd s = _
  rw [execPowerWarningEnd, hdone]
  exact congrArg Host.Outcome.next (if_pos ⟨hon, hdue⟩)

/-- Settles O36: the end clears the warning and writes its record, and of the units neither step moves any but the warning. -/
theorem powerWarningEnds : Obligations.PowerWarningEnds := by
  intro d s hdone hon hdue
  obtain ⟨r, hrecs, hkind, hcode⟩ := s.withoutWarning.journal_recs 0x16 .hub 3 [(4, s.stat OD.MTR_CKPT_SEQ)]
  obtain ⟨-, hactive, hpods, -, -, -, -, -, -, hhub, -⟩ := State.units_fields (s.withoutWarning.journal_units 0x16 .hub 3 _)
  exact ⟨_, r, _, exec_powerWarningEnd_of_due hdone hon hdue, hrecs, hkind, hcode, congrArg Pfw.on (State.journal_pfw ..), hhub,
    hactive, hpods⟩

end Sys2Proof.Machine

/-! # The OTP bank and the queue of waiting commands (R497 to R499)

Every command leaves the queue of waiting commands as it is, and the used slots of each sealed object as they were or with one
more at the end. Most operations leave the whole vault (`State.vault`) alone; those that touch a session or a seal leave the used
slots alone (`State.used`); a loss of the core domain and the end of a seal add at most one slot (`AddsSlot`). -/

namespace Sys2Proof.Machine

/-- The queue of waiting commands, and the used slots of every sealed object. -/
def State.used (s : State) : List Instr × (Fin 64 → List SealSlot) := (s.pending, slotsAt s)

/-- `u` has the queue of `s` and, in each place of the OTP bank, the slots of `s` or one more at the end. -/
def AddsSlot (s u : State) : Prop :=
  u.pending = s.pending ∧ ∀ i : Fin 64, slotsAt s i <+: slotsAt u i ∧ (slotsAt u i).length ≤ (slotsAt s i).length + 1

theorem used_of_vault {s u : State} (h : u.vault = s.vault) : u.used = s.used := by
  simp only [State.vault, Prod.mk.injEq] at h
  obtain ⟨hpending, hseals, -, -⟩ := h
  unfold State.used slotsAt
  rw [hpending, hseals]

theorem AddsSlot.of_used {s u : State} (h : u.used = s.used) : AddsSlot s u := by
  simp only [State.used, Prod.mk.injEq] at h
  obtain ⟨hpending, hslots⟩ := h
  exact ⟨hpending, fun i => by rw [hslots]; exact ⟨List.prefix_refl _, Nat.le_succ _⟩⟩

theorem AddsSlot.of_vault {s u : State} (h : u.vault = s.vault) : AddsSlot s u := .of_used (used_of_vault h)

/-- What keeps the used slots may stand before a step that adds one. -/
theorem AddsSlot.after {s t u : State} (h : AddsSlot t u) (hst : t.used = s.used) : AddsSlot s u := by
  simp only [State.used, Prod.mk.injEq] at hst
  obtain ⟨hpending, hslots⟩ := hst
  unfold AddsSlot at *
  rwa [hpending, hslots] at h

/-- What keeps the used slots may stand behind a step that adds one. -/
theorem AddsSlot.then {s t u : State} (h : AddsSlot s t) (htu : u.used = t.used) : AddsSlot s u := by
  simp only [State.used, Prod.mk.injEq] at htu
  obtain ⟨hpending, hslots⟩ := htu
  unfold AddsSlot at *
  rwa [hpending, hslots]

theorem AddsSlot.ite {c : Prop} [Decidable c] {s t u : State} (ht : c → AddsSlot s t) (hu : ¬ c → AddsSlot s u) :
    AddsSlot s (if c then t else u) := by
  split
  case isTrue h => exact ht h
  case isFalse h => exact hu h

/-- `AddsSlot` of the state that an operation answers with. -/
def AnswersAdd (s : State) (x : State × Err) : Prop := AddsSlot s x.1

theorem AnswersAdd.of_vault {s : State} {x : State × Err} (h : x.1.vault = s.vault) : AnswersAdd s x := AddsSlot.of_vault h

theorem AnswersAdd.of_used {s : State} {x : State × Err} (h : x.1.used = s.used) : AnswersAdd s x := AddsSlot.of_used h

/-! ## Sessions and seals -/

@[simp] theorem State.updSession_used (s : State) (h : Nat) (f : Session → Session) : (s.updSession h f).used = s.used := rfl

@[simp] theorem State.endSession_used (s : State) (h : Nat) : (s.endSession h).used = s.used := rfl

@[simp] theorem State.readChallenge_used (s : State) (src : Nat) : (s.readChallenge src).used = s.used := by
  unfold State.readChallenge
  split <;> rfl

@[simp] theorem State.touch_used (s : State) (q : Req) : (s.touch q).used = s.used := by
  obtain ⟨l, h⟩ := s.touch_eq q
  rw [h]
  rfl

theorem State.sesOpen_used (s : State) (rq : Requester) (code : Nat) : (s.sesOpen rq code).1.used = s.used := by
  unfold State.sesOpen
  dsimp only
  split
  · rfl
  · split
    · rfl
    · exact used_of_vault (u := s.take.2.take.2) (by simp)

theorem State.sesFail_used (s : State) (x : Session) : (s.sesFail x).used = s.used := by
  have hjnl : (((s.endSession x.handle).count OD.SES_AUTH_FAILS).journal 0x0C .hub 2 [(1, x.role.code), (2, x.handle)]).used = s.used :=
    used_of_vault (s := s.endSession x.handle) (by simp)
  unfold State.sesFail
  dsimp only
  split
  · exact hjnl
  · exact (used_of_vault (State.journal_vault ..)).trans hjnl

theorem State.sesRespond_used (s : State) (x : Session) (data : List Byte) : (s.sesRespond x data).1.used = s.used := by
  unfold State.sesRespond
  split
  · rfl
  · split
    · rfl
    · split
      · dsimp only
        exact (used_of_vault (State.journal_vault ..)).trans rfl
      · exact s.sesFail_used x

theorem State.sesClose_used (s : State) (by_ : Nat) (r : Role) (h : Nat) : (s.sesClose by_ r h).1.used = s.used := by
  unfold State.sesClose
  split
  · rfl
  · split <;> rfl

theorem State.sesView_used (s : State) (h v : Nat) : (s.sesView h v).1.used = s.used := rfl

/-- A change of a sealed object that is no slot. -/
theorem upd_seals_used (s : State) (i : Fin 64) (f : SealBank → SealBank) (hf : ∀ b, (f b).slots = b.slots) :
    ({ s with seals := s.seals.upd i f } : State).used = s.used := by
  refine congrArg (Prod.mk s.pending) (funext fun j => ?_)
  unfold slotsAt
  by_cases hij : i = j
  · subst hij
    rw [Bank.get_upd_self, hf]
  · rw [Bank.get_upd_other _ _ _ _ hij]

theorem State.seal_used (s : State) (i : Nat) (v : List Byte) : (s.seal i v).1.used = s.used := by
  unfold State.seal
  split
  · rfl
  · split
    · rfl
    · split
      · rfl
      · dsimp only
        split
        · exact upd_seals_used { s with sealing := some { index := i, value := v } } _ _ fun _ => rfl
        · rfl

/-- Recording the cut slots uses none. -/
theorem State.sealCuts_used (s : State) : s.sealCuts.used = s.used := by
  unfold State.sealCuts
  generalize List.finRange 64 = l
  induction l generalizing s with
  | nil => rfl
  | cons i l ih =>
    rw [List.foldl_cons, ih]
    split
    · exact (used_of_vault (State.journal_vault ..)).trans (upd_seals_used _ _ _ fun _ => rfl)
    · rfl

theorem State.bootRecord_used (s : State) : s.bootRecord.used = s.used := by
  unfold State.bootRecord
  dsimp only
  rw [used_of_vault (State.journal_vault ..), State.sealCuts_used]
  exact used_of_vault (s := s) (by simp [vault_fields])

/-- Steps 3 and 4 of BOOT with the image of slot A or B: settings, checkpoint, boot record (R399). -/
def State.bootImage (s : State) (runsB back : Bool) : State :=
  let u := ((s.bootFw runsB back).loadCfg.podSwitches (s.act OD.HUB_PODSUP_EN)).hkNew (s.act OD.ADC_HK_EN)
  let u := ((u.cfgInForce).loadCkpt).bootRecord
  if back then u.journal 0x12 .hub 4 [(4, (u.fw.slot runsB).ver)] else u

/-- The load of BOOT has run. -/
def State.withLoaded (s : State) : State := { s with power := { s.power with loaded := true } }

theorem State.bootLoad_of_image {s : State} {runsB back : Bool} (hboot : s.hub = .boot) (hnew : s.power.loaded = false)
    (hok : s.stat OD.HUB_BOOT_STATUS = 0) (hslot : bootSlot s = some (runsB, back)) : s.bootLoad = (s.bootImage runsB back).withLoaded := by
  unfold State.bootLoad
  rw [if_pos ⟨hboot, hnew, hok⟩, hslot]
  rfl

theorem State.bootLoad_of_noImage {s : State} (hboot : s.hub = .boot) (hnew : s.power.loaded = false)
    (hok : s.stat OD.HUB_BOOT_STATUS = 0) (hslot : bootSlot s = none) : s.bootLoad = s.set OD.HUB_BOOT_STATUS 0 1 := by
  unfold State.bootLoad
  rw [if_pos ⟨hboot, hnew, hok⟩, hslot]

theorem State.bootLoad_of_done {s : State} (h : ¬ (s.hub = .boot ∧ s.power.loaded = false ∧ s.stat OD.HUB_BOOT_STATUS = 0)) :
    s.bootLoad = s := by
  unfold State.bootLoad
  rw [if_neg h]

theorem State.bootImage_used (s : State) (runsB back : Bool) : (s.bootImage runsB back).used = s.used := by
  have hload : (((s.bootFw runsB back).loadCfg.podSwitches (s.act OD.HUB_PODSUP_EN)).hkNew (s.act OD.ADC_HK_EN)).cfgInForce.loadCkpt.used
      = s.used := used_of_vault (by simp)
  unfold State.bootImage
  dsimp only
  split
  · rw [used_of_vault (State.journal_vault ..), State.bootRecord_used, hload]
  · rw [State.bootRecord_used, hload]

theorem State.bootLoad_used (s : State) : s.bootLoad.used = s.used := by
  by_cases hboot : s.hub = .boot ∧ s.power.loaded = false ∧ s.stat OD.HUB_BOOT_STATUS = 0
  · obtain ⟨hhub, hnew, hok⟩ := hboot
    rcases hslot : bootSlot s with _ | ⟨runsB, back⟩
    · rw [State.bootLoad_of_noImage hhub hnew hok hslot]
      exact used_of_vault (State.set_vault ..)
    · rw [State.bootLoad_of_image hhub hnew hok hslot]
      exact s.bootImage_used runsB back
  · rw [State.bootLoad_of_done hboot]

/-! ## A loss of the core domain -/

/-- A slot more in one place. -/
theorem AddsSlot.of_upd (s : State) (i : Fin 64) (f : SealBank → SealBank) (x : SealSlot) (hf : ∀ b, (f b).slots = b.slots ++ [x]) :
    AddsSlot s { s with seals := s.seals.upd i f } := by
  refine ⟨rfl, fun j => ?_⟩
  unfold slotsAt
  by_cases hij : i = j
  · subst hij
    rw [Bank.get_upd_self, hf]
    exact ⟨List.prefix_append .., by simp⟩
  · rw [Bank.get_upd_other _ _ _ _ hij]
    exact ⟨List.prefix_refl _, Nat.le_succ _⟩

theorem State.sealCut_adds (s : State) : AddsSlot s s.sealCut := by
  unfold State.sealCut
  split
  · next x _ =>
    split
    · exact .of_upd s _ _ { value := x.value, ok := false } fun _ => rfl
    · exact .of_used rfl
  · exact .of_used rfl

theorem State.coreLost_used (s : State) : s.coreLost.used = s.sealCut.used := by
  unfold State.coreLost
  dsimp only
  rw [used_of_vault (State.podSwitches_vault ..)]
  exact congrArg (Prod.mk _) (funext fun i => by unfold slotsAt; rw [Bank.get_all])

theorem State.coreLost_adds (s : State) : AddsSlot s s.coreLost := s.sealCut_adds.then s.coreLost_used

theorem State.coreReset_adds (s : State) (bit : Nat) : AddsSlot s (s.coreReset bit) := s.coreLost_adds

theorem State.hubReset_adds (s : State) : AnswersAdd s s.hubReset := s.coreReset_adds 7

theorem State.fwActivate_adds (s : State) : AnswersAdd s s.fwActivate := by
  unfold State.fwActivate
  split
  · exact .of_used rfl
  · exact AddsSlot.after (State.coreReset_adds _ 8) (used_of_vault (State.journal_vault ..))

/-! ## Accesses -/

/-- Every command object keeps the queue and adds at most one slot. -/
def Command.AddsSlot (f : Command) : Prop := ∀ s q role i v, AnswersAdd s (f s q role i v)

theorem onOne_adds {f : State → Nat → State × Err} (h : ∀ s i, AnswersAdd s (f s i)) : (onOne f).AddsSlot := by
  intro s q role i v
  unfold onOne
  split
  · exact h s i
  · exact .of_used rfl

theorem onBoth_adds {f g : State → Nat → State × Err} (hf : ∀ s i, AnswersAdd s (f s i)) (hg : ∀ s i, AnswersAdd s (g s i)) :
    (onBoth f g).AddsSlot := by
  intro s q role i v
  unfold onBoth
  split
  · exact hf s i
  · exact hg s i

theorem State.fwLoad_adds (s : State) (v : Nat) :
    AnswersAdd s (if v = 1 then s.fwBegin else if v = 2 then s.fwFinish else s.fwCancel) := by
  split
  · exact .of_vault s.fwBegin_vault
  · split
    · exact .of_vault s.fwFinish_vault
    · exact .of_vault s.fwCancel_vault

theorem commands_add : ∀ p ∈ commands, Command.AddsSlot p.2 := by
  simp only [commands, List.forall_mem_cons, List.not_mem_nil, false_implies, implies_true, and_true]
  refine ⟨onOne_adds fun s _ => s.hubReset_adds, onOne_adds fun s _ => .of_vault s.hubSleep_vault,
    onOne_adds fun s i => .of_vault (s.fltoAck_vault _), onOne_adds fun s _ => .of_vault s.cfgSave_vault,
    onOne_adds fun s _ => .of_vault s.cfgDefaults_vault, onOne_adds fun s _ => .of_vault s.mtrSnap_vault,
    onOne_adds fun s _ => .of_vault s.ringEnum_vault, fun s _ _ _ v => .of_vault (s.ringWake_vault v),
    onOne_adds fun s _ => .of_vault s.ringMapClear_vault, fun s _ _ _ v => .of_vault (s.pxMove_vault v),
    onOne_adds fun s i => .of_vault (s.busBfClear_vault _), onOne_adds fun s i => .of_vault (s.xferResume_vault _),
    onBoth_adds (fun s i => .of_vault (s.enableSet_vault _)) fun s i => .of_vault (s.enableClear_vault _),
    onOne_adds fun s i => .of_vault (s.dmgClear_vault _), onOne_adds fun s i => .of_vault (s.adcCal_vault _),
    fun s _ _ i v => .of_vault (s.adcRecal_vault _ v), fun s _ _ i v => .of_vault (s.mtrClear_vault _ v),
    onBoth_adds (fun s i => .of_vault (s.disReqSet_vault _)) fun s i => .of_vault (s.disReqClear_vault _),
    onBoth_adds (fun s i => .of_vault (s.pwmRun_vault _ _)) fun s i => .of_vault (s.pwmRun_vault _ _),
    onOne_adds fun s i => .of_vault (s.pwmFrel_vault _), fun s _ _ i v => .of_vault (s.cmpTest_vault _ _),
    onBoth_adds (fun s _ => .of_vault s.strStart_vault) fun s _ => .of_vault s.strStop_vault,
    fun s _ _ _ v => .of_vault (s.strCapture_vault v), fun s _ _ _ v => .of_vault (s.strExport_vault v),
    fun s q _ _ v => .of_used (s.sesOpen_used q.rq v), fun s q role _ v => .of_used (s.sesClose_used q.rq.session role v),
    fun s q _ _ v => .of_used (s.sesView_used q.rq.session v), fun s _ _ _ v => s.fwLoad_adds v, onOne_adds fun s _ => s.fwActivate_adds,
    onOne_adds fun s _ => .of_vault s.fwConfirm_vault⟩

theorem findCommand_mem {r : ObjRow} {l : List (Obj × Command)} {f : Command} (h : findCommand r l = some f) : ∃ o, (o, f) ∈ l := by
  induction l with
  | nil => exact nomatch h
  | cons p l ih =>
    obtain ⟨o, g⟩ := p
    rw [findCommand] at h
    split at h
    · exact ⟨o, by rw [Option.some.inj h]; exact List.mem_cons_self ..⟩
    · obtain ⟨o', hmem⟩ := ih h
      exact ⟨o', List.mem_cons_of_mem _ hmem⟩

theorem State.command_adds (s : State) (q : Req) (role : Role) (r : ObjRow) (v : Nat) : AddsSlot s (s.command q role r v).1 := by
  unfold State.command
  split
  · split
    · exact .of_vault (State.commit_vault ..)
    · exact .of_vault (State.revert_vault ..)
  · split
    · next f hf =>
      obtain ⟨o, hmem⟩ := findCommand_mem hf
      exact commands_add _ hmem ..
    · exact .of_used rfl

theorem State.writeWo_used (s : State) (q : Req) (data : List Byte) : (s.writeWo q data).1.used = s.used := by
  unfold State.writeWo
  split
  · exact used_of_vault (State.fwImage_vault ..)
  · split
    · split
      · rfl
      · exact State.sesRespond_used ..
    · rfl

theorem State.operate_adds (s : State) (q : Req) (role : Role) (r : ObjRow) (data : List Byte) :
    AddsSlot s (s.operate q role r data).1 := by
  unfold State.operate
  split
  · exact .of_used rfl
  · split
    · exact .of_used rfl
    · exact .of_used rfl
    · exact .of_vault (State.writeRw_vault ..)
    · exact State.command_adds ..
    · exact .of_used (State.writeWo_used ..)
    · exact .of_used (State.seal_used ..)

theorem State.write_adds (s : State) (q : Req) (len : Nat) (data : List Byte) : AddsSlot s (s.write q len data).1 := by
  unfold State.write
  split
  · exact .of_used (s.touch_used q)
  · exact ((State.operate_adds ..).after (s.touch_used q)).then (used_of_vault (State.passOn_vault ..))

theorem State.doWrite_adds (s : State) (q : Req) (len : Nat) (data : List Byte) : AddsSlot s (s.doWrite q len data) := by
  unfold State.doWrite
  dsimp only
  split
  · split
    · split
      · exact s.write_adds q len data
      · exact (s.write_adds q len data).then (used_of_vault (State.answer_vault ..))
    · exact s.write_adds q len data
  · exact .of_used rfl

theorem State.order_adds (s : State) (rq : Requester) (o : Obj) (i : Nat) (v : Int) : AddsSlot s (s.order rq o i v) :=
  State.doWrite_adds ..

theorem State.read_used (s : State) (q : Req) (len : Nat) : (s.read q len).1.used = s.used := by
  have htouch := s.touch_used q
  unfold State.read
  dsimp only
  repeat' split
  all_goals simp [htouch]

theorem State.doRead_used (s : State) (q : Req) (len : Nat) : (s.doRead q len).used = s.used := by
  unfold State.doRead
  split
  · exact (used_of_vault (State.answer_vault ..)).trans (s.read_used q len)
  · rfl

theorem State.request_adds (s : State) (type : Nat) (q : Req) (p : List Byte) : AddsSlot s (s.request type q p) := by
  unfold State.request
  split
  · exact .of_used (State.doRead_used ..)
  · exact State.doWrite_adds ..

theorem State.broadcast_adds (s : State) (type : Nat) (p : List Byte) : AddsSlot s (s.broadcast type p) := by
  unfold State.broadcast
  dsimp only
  split
  · exact State.write_adds ..
  · exact .of_used rfl

theorem State.requestIn_adds (s : State) (f : Frame) : AddsSlot s (s.requestIn f) := by
  unfold State.requestIn
  split
  · exact .of_used rfl
  · split
    · split
      · exact .of_vault (State.sendOwn_vault ..)
      · exact .of_used rfl
    · dsimp only
      split
      · exact .of_used rfl
      · split
        · exact (State.broadcast_adds ..).after rfl
        · exact (State.request_adds ..).after rfl

theorem State.taken_adds (s : State) (k : KPort) (f : Frame) (act : State → State) (h : ∀ s, AddsSlot s (act s)) :
    AddsSlot s (s.take_ k f act) := by
  have herrs := used_of_vault (State.codeErrs_vault s f.violations)
  unfold State.take_
  split
  · exact .of_used rfl
  · dsimp only
    split
    · exact .of_used ((used_of_vault (State.count_vault ..)).trans herrs)
    · split
      · exact .of_used herrs
      · exact (h _).after herrs

theorem State.transfer_adds (s : State) (op : Nat) (body : List Byte) (crc : Nat) (data : List Byte) (act : State → State × Bool)
    (h : ∀ s, AddsSlot s (act s).1) : AddsSlot s (s.transfer op body crc data act) := by
  unfold State.transfer
  split
  · exact .of_used rfl
  · split
    · dsimp only
      refine AddsSlot.then (AddsSlot.after (h _) ?_) rfl
      rfl
    · exact .of_vault (State.count_vault ..)

theorem State.submit_adds (s : State) (type tag dst : Nat) (p : List Byte) : AddsSlot s (s.submit type tag dst p).1 := by
  have hsent : (s.nextSeq.sendOwn type s.ring.seq dst p).used = s.used := used_of_vault (by simp)
  unfold State.submit
  dsimp only
  split
  · exact .of_used rfl
  · split
    · exact .of_used rfl
    · split
      · exact .of_used rfl
      · split
        · exact State.request_adds ..
        · split
          · exact ((State.broadcast_adds ..).after hsent).then (used_of_vault (State.push_vault ..))
          · exact .of_used hsent

end Sys2Proof.Machine

/-! # The block as a whole: reset, step, and the invariant that a step breaks -/

namespace Sys2Proof.Machine

/-! ## Step and reset -/

/-- A step with a command waiting runs it on the rest of the queue. -/
theorem step_of_pending {i : Instr} {rest : List Instr} {s : State} (h : s.pending = i :: rest) :
    step s = exec i { s with pending := rest } := by
  unfold step
  rw [h]

/-- A step with no command waiting changes nothing. -/
theorem step_of_idle {s : State} (h : s.pending = []) : step s = .next s := by
  unfold step
  rw [h]

/-- Every command goes on with a next state. -/
theorem exec_goes_on (i : Instr) (s : State) : ∃ u, exec i s = .next u := by
  cases i <;> exact ⟨_, rfl⟩

/-- Settles O50. -/
theorem stepRunsFrontCommand : Obligations.StepRunsFrontCommand := fun _ _ _ => step_of_pending

/-- Settles O51. -/
theorem nothingStopsTheBlock : Obligations.NothingStopsTheBlock := ⟨exec_goes_on, fun _ => step_of_idle⟩

/-- Every pod of the reset state is a pod without power. -/
theorem reset_pod (c : Chan) : State.reset.pod c = {} := by
  unfold State.pod State.reset
  exact Bank.get_fill ..

/-- Settles O52. -/
theorem resetState : Obligations.ResetState := by
  refine ⟨fun o i k => ⟨rfl, rfl⟩, fun c => ?_, rfl, rfl, rfl, rfl⟩
  rw [reset_pod]
  exact ⟨rfl, rfl, rfl, rfl⟩

/-- No slot of the OTP bank is used at reset. -/
theorem slotsAt_reset (i : Fin 64) : slotsAt State.reset i = [] := by
  unfold slotsAt State.reset
  rw [Bank.get_fill]

/-- Settles O53. -/
theorem invAtReset : Obligations.InvAtReset :=
  ⟨⟨fun i => by rw [slotsAt_reset]; exact Nat.zero_le _, fun _ h => nomatch h⟩, Nat.zero_le _⟩

/-! ## The invariant (R497 to R499)

`otpOk` asks for a free slot of the object in place `i` only where the index of the seal that is being programmed is `0x7800 + i`. The
model takes the place as `index - 0x7800`, which is 0 for every index below `0x7800` as well. -/

/-- The reset state with 16 used slots in place 0 and a seal of index 0 that is being programmed. -/
def fullPlace0 : State :=
  { State.reset with
    sealing := some { index := 0, value := [] },
    seals := State.reset.seals.upd 0 fun b => { b with slots := List.replicate 16 { value := [], ok := true } } }

/-- Every place but 0 of that state is unused. -/
theorem slotsAt_fullPlace0 (i : Fin 64) :
    slotsAt fullPlace0 i = if i = 0 then List.replicate 16 { value := [], ok := true } else [] := by
  unfold slotsAt fullPlace0
  split
  case isTrue h =>
    subst h
    rw [Bank.get_upd_self]
  case isFalse h =>
    rw [Bank.get_upd_other _ _ _ _ (Ne.symm h)]
    exact slotsAt_reset i

/-- The state meets the invariant: the index of its seal names no place. -/
theorem inv_fullPlace0 : Inv fullPlace0 := by
  refine ⟨⟨fun i => ?_, fun x hx i hi => ?_⟩, Nat.zero_le _⟩
  · rw [slotsAt_fullPlace0]
    split <;> simp
  · obtain rfl : ({ index := 0, value := [] } : Sealing) = x := Option.some.inj hx
    exact absurd hi (by dsimp only; omega)

/-- A reset cuts the seal that is being programmed into the place `index - 0x7800`. -/
theorem State.slotsAt_sealCut {s : State} {x : Sealing} (hx : s.sealing = some x) (i : Fin 64) (hi : x.index - 0x7800 = i.val) :
    slotsAt s.sealCut i = slotsAt s i ++ [{ value := x.value, ok := false }] := by
  have hplace : (⟨x.index - 0x7800, hi ▸ i.isLt⟩ : Fin 64) = i := Fin.ext hi
  unfold State.sealCut
  rw [hx]
  dsimp only
  rw [dif_pos (hi ▸ i.isLt), hplace]
  unfold slotsAt
  rw [Bank.get_upd_self]
  rfl

/-- The reset cuts the seal into place 0, which then has 17 slots. -/
theorem slotsAt_fullPlace0_reset : (slotsAt (fullPlace0.coreReset 3) 0).length = 17 := by
  have hcut : slotsAt (fullPlace0.coreReset 3) 0 = slotsAt fullPlace0.sealCut 0 :=
    congrFun (congrArg Prod.snd fullPlace0.coreLost_used) 0
  rw [hcut, State.slotsAt_sealCut (x := { index := 0, value := [] }) rfl 0 rfl, slotsAt_fullPlace0, if_pos rfl]
  rfl

/-- Refutes O54: with RESET_N waiting, a seal of an index below `0x7800` is cut into place 0, though `otpOk` asks for no free slot
there. -/
theorem not_everyStepKeepsInv : ¬ Obligations.EveryStepKeepsInv := by
  intro h
  have hstep : step { fullPlace0 with pending := [.resetN] } = .next (fullPlace0.coreReset 3) :=
    step_of_pending (s := { fullPlace0 with pending := [.resetN] }) (i := .resetN) (rest := []) rfl
  obtain ⟨⟨hslots, -⟩, -⟩ := h { fullPlace0 with pending := [.resetN] } _ inv_fullPlace0 hstep
  have hfull := hslots 0
  rw [slotsAt_fullPlace0_reset] at hfull
  omega

end Sys2Proof.Machine


/-! # Frames of the whole block (R13, R401, R468, R474, R497)

The frame laws of the single commands, put together over the command set: a command outside `touchesVault` leaves the vault alone,
and so on for the other parts. -/

namespace Sys2Proof.Machine

/-- The vault has no part of the SPI port. -/
theorem vault_of_spi (s : State) (p : Spi) : ({ s with spi := p } : State).vault = s.vault := rfl

theorem State.transfer_vault (s : State) (op : Nat) (body : List Byte) (crc : Nat) (data : List Byte) (act : State → State × Bool)
    (h : ∀ s, (act s).1.vault = s.vault) : (s.transfer op body crc data act).vault = s.vault := by
  unfold State.transfer
  split
  · rfl
  · split
    · exact (vault_of_spi _ _).trans (h _)
    · exact State.count_vault ..

theorem execFetch_vault (crc : Nat) (full : Bool) (s : State) : (stateOf s (execFetch crc full s)).vault = s.vault := by
  unfold execFetch
  rw [stateOf_next]
  refine State.transfer_vault _ _ _ _ _ _ fun s => ?_
  split
  · dsimp only
    split <;> rfl
  · rfl

theorem execRefetch_vault (crc : Nat) (s : State) : (stateOf s (execRefetch crc s)).vault = s.vault := by
  unfold execRefetch
  rw [stateOf_next]
  exact State.transfer_vault _ _ _ _ _ _ fun _ => rfl

theorem execStatus_vault (crc : Nat) (s : State) : (stateOf s (execStatus crc s)).vault = s.vault := by
  unfold execStatus
  rw [stateOf_next]
  exact State.transfer_vault _ _ _ _ _ _ fun _ => rfl

theorem execIrqAck_vault (mask crc : Nat) (s : State) : (stateOf s (execIrqAck mask crc s)).vault = s.vault := by
  unfold execIrqAck
  rw [stateOf_next]
  exact State.transfer_vault _ _ _ _ _ _ fun _ => rfl

/-- A command that `touchesVault` does not name leaves that part of the state as it is. -/
theorem exec_vault (i : Instr) (s : State) (h : touchesVault i = false) : (stateOf s (exec i s)).vault = s.vault := by
  cases i
  all_goals simp [touchesVault, isAccess, losesCore] at h
  all_goals simp only [exec,
    execFetch_vault, execRefetch_vault, execStatus_vault, execIrqAck_vault, execUvloAssert_vault, execUvloClear_vault,
    execStackTurnOn_vault, execTurnOnAfterClamp_vault, execGateLevelReached_vault, execStrongHoldEnd_vault,
    execStrongClampEnd_vault, execBoostTimeLimit_vault, execSlewLimitExpired_vault, execForcedClamp_vault,
    execClampGateFault_vault, execBarrierSignalLoss_vault, execHvPowerUp_vault, execHvPowerDown_vault, execSc2Trip_vault,
    execSc1Trip_vault, execReverseTrip_vault, execDesatTrip_vault, execDesatBlankingEnd_vault, execBusOvTrip_vault,
    execBusUvTrip_vault, execCurrentLimitEntry_vault, execCurrentLimitExit_vault, execFaultTimerPeriodEnd_vault,
    execThermalEvaluation_vault, execDieOverTemperature_vault, execOutputPresent_vault, execStackTest_vault, execTieTest_vault,
    execSuspectConfirmation_vault, execConfirmationEvaluation_vault, execOnlineSelftestRound_vault, execMemberTestEnd_vault,
    execStartEnergyExceeded_vault, execOrphan_vault, execHoldWindowEnd_vault, execOringReverseBlock_vault,
    execOringReverseTrip_vault, execOringReentry_vault, execHubCmpEdge_vault, execSpeedHoldEnd_vault, execCmpTestDone_vault,
    execPrechargeStart_vault, execPrechargeSelftestDone_vault, execPrechargeResume_vault, execPauseLimit_vault,
    execPrechargeClose_vault, execNoProgress_vault, execPrechargeTimeLimit_vault, execCloseLimit_vault,
    execPwmPeriodBoundary_vault, execPwmMidperiodReload_vault, execPwmPulseEnd_vault, execPwmDeadTimeEnd_vault,
    execDischargeRun_vault, execChopperResume_vault, execDischargeDone_vault, execEnergyLimit_vault,
    execDischargeTimeLimit_vault, execDriverReadyLoss_vault, execSourceLoss_vault, execRevertDue_vault, execTransferMake_vault,
    execTransferTimeout_vault, execFltoMinWidthEnd_vault, execFaultTokenRepeat_vault, execFaultPulseEnd_vault,
    execFaultViewRelease_vault, execFaultToken_vault, execFltiAssert_vault, execFltiRelease_vault, execRetryDue_vault,
    execRetryReleased_vault, execRetryCountReset_vault, execCoolDownEnd_vault, execSelftestToggleDone_vault,
    execRemovalConfirmed_vault, execReseatGuardExpiry_vault, execBusFaultClassify_vault, execOwnerlessClaim_vault,
    execMoveReclaim_vault, execStatusFrameReceived_vault, execCommandFrameReceived_vault, execSeatPairSeated_vault,
    execSeatingAbort_vault, execSeatDebounceComplete_vault, execSeatLoss_vault, execChannelStart_vault,
    execPowerGoodAssert_vault, execPodPowerUp_vault, execPodSupplyLoss_vault, execPodLinkDown_vault,
    execIntDwellComplete_vault, execUrgentConversionDone_vault, execPairedWindowStart_vault, execPairedWindowEnd_vault,
    execPodTickBoundary_vault, execCalComplete_vault, execRecalComplete_vault, execRecalCoverEnd_vault, execParkedBurst_vault,
    execHkMeanUpdate_vault, execHkSleepBurst_vault, execAverageComplete_vault, execMeteringTransfer_vault,
    execMeteringTransferReceived_vault, execSnapshotTick_vault, execMinmaxWindowEnd_vault, execSnapshotDone_vault,
    execCheckpointWritten_vault, execMeteringClearApply_vault, execCheckpoint_vault, execOringShareStep_vault,
    execOringBlocked_vault, execCutThroughForward_vault, execDiscover_vault, execReport_vault, execAssign_vault,
    execDone_vault, execRingLinkDown_vault, execRehome_vault, execEventFrame_vault, execFaultFrame_vault, execSyncTime_vault,
    execSyncPeriod_vault, execTimeHoldover_vault, execDelayReq_vault, execDelayResp_vault, execDelayExchangePeriod_vault,
    execCommitApply_vault, execStreamRecord_vault, execBlockSend_vault, execStreamFlush_vault, execReadyHighEnd_vault,
    execJournalExportRecord_vault, execResetRelease_vault, execAdopt_vault, execPodAdoption_vault,
    execPodSupplyCurrentLimit_vault, execPodSupplyRetry_vault, execRingClockMove_vault, execXtalMeasure_vault,
    execPodWakeSignal_vault, execCfgSaveComplete_vault, execFwCheckDone_vault, execPfwN_vault, execPowerWarningEnd_vault,
    execRoleLockEnd_vault, execMirroringComplete_vault, execOdResp_vault, execRingRespTmo_vault, execControlTick_vault]

/-- A command that `touchesConfig` does not name leaves that part of the state as it is. -/
theorem exec_conf (i : Instr) (s : State) (h : touchesConfig i = false) : (stateOf s (exec i s)).conf = s.conf := by
  cases i
  all_goals simp [touchesConfig, isAccess, losesCore] at h
  all_goals simp only [exec,
    execUvloAssert_conf, execUvloClear_conf, execStackTurnOn_conf, execTurnOnAfterClamp_conf, execGateLevelReached_conf,
    execStrongHoldEnd_conf, execStrongClampEnd_conf, execBoostTimeLimit_conf, execSlewLimitExpired_conf, execForcedClamp_conf,
    execClampGateFault_conf, execBarrierSignalLoss_conf, execHvPowerUp_conf, execHvPowerDown_conf, execSc2Trip_conf,
    execSc1Trip_conf, execReverseTrip_conf, execDesatTrip_conf, execDesatBlankingEnd_conf, execBusOvTrip_conf,
    execBusUvTrip_conf, execCurrentLimitEntry_conf, execCurrentLimitExit_conf, execFaultTimerPeriodEnd_conf,
    execThermalEvaluation_conf, execDieOverTemperature_conf, execOutputPresent_conf, execStackTest_conf, execTieTest_conf,
    execSuspectConfirmation_conf, execConfirmationEvaluation_conf, execOnlineSelftestRound_conf, execMemberTestEnd_conf,
    execStartEnergyExceeded_conf, execOrphan_conf, execHoldWindowEnd_conf, execOringReverseBlock_conf,
    execOringReverseTrip_conf, execOringReentry_conf, execHubCmpEdge_conf, execSpeedHoldEnd_conf, execCmpTestDone_conf,
    execPrechargeStart_conf, execPrechargeSelftestDone_conf, execPrechargeResume_conf, execPauseLimit_conf,
    execPrechargeClose_conf, execNoProgress_conf, execPrechargeTimeLimit_conf, execCloseLimit_conf, execPwmPeriodBoundary_conf,
    execPwmMidperiodReload_conf, execPwmPulseEnd_conf, execPwmDeadTimeEnd_conf, execDischargeRun_conf, execChopperResume_conf,
    execDischargeDone_conf, execEnergyLimit_conf, execDischargeTimeLimit_conf, execDriverReadyLoss_conf, execSourceLoss_conf,
    execRevertDue_conf, execTransferMake_conf, execTransferTimeout_conf, execFltoMinWidthEnd_conf, execFaultTokenRepeat_conf,
    execFaultPulseEnd_conf, execFaultViewRelease_conf, execFaultToken_conf, execFltiAssert_conf, execFltiRelease_conf,
    execRetryDue_conf, execRetryReleased_conf, execRetryCountReset_conf, execCoolDownEnd_conf, execSelftestToggleDone_conf,
    execRemovalConfirmed_conf, execReseatGuardExpiry_conf, execBusFaultClassify_conf, execOwnerlessClaim_conf,
    execMoveReclaim_conf, execStatusFrameReceived_conf, execCommandFrameReceived_conf, execSeatPairSeated_conf,
    execSeatingAbort_conf, execSeatDebounceComplete_conf, execSeatLoss_conf, execChannelStart_conf, execPowerGoodAssert_conf,
    execPodPowerUp_conf, execPodSupplyLoss_conf, execPodLinkDown_conf, execIntDwellComplete_conf,
    execUrgentConversionDone_conf, execPairedWindowStart_conf, execPairedWindowEnd_conf, execPodTickBoundary_conf,
    execCalComplete_conf, execRecalComplete_conf, execRecalCoverEnd_conf, execParkedBurst_conf, execHkMeanUpdate_conf,
    execHkSleepBurst_conf, execAverageComplete_conf, execMeteringTransfer_conf, execMeteringTransferReceived_conf,
    execSnapshotTick_conf, execMinmaxWindowEnd_conf, execSnapshotDone_conf, execCheckpointWritten_conf,
    execMeteringClearApply_conf, execCheckpoint_conf, execOringShareStep_conf, execOringBlocked_conf,
    execCutThroughForward_conf, execDiscover_conf, execReport_conf, execAssign_conf, execDone_conf, execRingLinkDown_conf,
    execRehome_conf, execEventFrame_conf, execFaultFrame_conf, execSyncTime_conf, execSyncPeriod_conf, execTimeHoldover_conf,
    execDelayReq_conf, execDelayResp_conf, execDelayExchangePeriod_conf, execStreamRecord_conf, execBlockSend_conf,
    execStreamFlush_conf, execReadyHighEnd_conf, execJournalExportRecord_conf, execResetRelease_conf,
    execPodSupplyCurrentLimit_conf, execPodSupplyRetry_conf, execRingClockMove_conf, execXtalMeasure_conf,
    execSleepEntered_conf, execPodWakeSignal_conf, execCfgSaveComplete_conf, execSealProgramDone_conf, execFwCheckDone_conf,
    execPfwN_conf, execPowerWarningEnd_conf, execChallengeLapse_conf, execRoleLockEnd_conf, execSesTimeout_conf,
    execMirroringComplete_conf, execOdResp_conf, execRingRespTmo_conf, execFetch_conf, execRefetch_conf, execStatus_conf,
    execIrqAck_conf, execSesChallenge_conf]

/-- A command that `touchesHost` does not name leaves that part of the state as it is. -/
theorem exec_host (i : Instr) (s : State) (h : touchesHost i = false) : (stateOf s (exec i s)).host = s.host := by
  cases i
  all_goals simp [touchesHost, isAccess, losesCore] at h
  all_goals simp only [exec,
    execUvloAssert_host, execUvloClear_host, execStackTurnOn_host, execTurnOnAfterClamp_host, execGateLevelReached_host,
    execStrongHoldEnd_host, execStrongClampEnd_host, execBoostTimeLimit_host, execSlewLimitExpired_host, execForcedClamp_host,
    execClampGateFault_host, execBarrierSignalLoss_host, execHvPowerUp_host, execHvPowerDown_host, execSc2Trip_host,
    execSc1Trip_host, execReverseTrip_host, execDesatTrip_host, execDesatBlankingEnd_host, execBusOvTrip_host,
    execBusUvTrip_host, execCurrentLimitEntry_host, execCurrentLimitExit_host, execFaultTimerPeriodEnd_host,
    execThermalEvaluation_host, execDieOverTemperature_host, execOutputPresent_host, execStackTest_host, execTieTest_host,
    execSuspectConfirmation_host, execConfirmationEvaluation_host, execOnlineSelftestRound_host, execMemberTestEnd_host,
    execStartEnergyExceeded_host, execOrphan_host, execHoldWindowEnd_host, execOringReverseBlock_host,
    execOringReverseTrip_host, execOringReentry_host, execHubCmpEdge_host, execSpeedHoldEnd_host, execCmpTestDone_host,
    execPrechargeStart_host, execPrechargeSelftestDone_host, execPrechargeResume_host, execPauseLimit_host,
    execPrechargeClose_host, execNoProgress_host, execPrechargeTimeLimit_host, execCloseLimit_host, execPwmPeriodBoundary_host,
    execPwmMidperiodReload_host, execPwmPulseEnd_host, execPwmDeadTimeEnd_host, execDischargeRun_host, execChopperResume_host,
    execDischargeDone_host, execEnergyLimit_host, execDischargeTimeLimit_host, execDriverReadyLoss_host, execSourceLoss_host,
    execRevertDue_host, execTransferMake_host, execTransferTimeout_host, execFltoMinWidthEnd_host, execFaultTokenRepeat_host,
    execFaultPulseEnd_host, execFaultViewRelease_host, execFaultToken_host, execFltiAssert_host, execFltiRelease_host,
    execRetryDue_host, execRetryReleased_host, execRetryCountReset_host, execCoolDownEnd_host, execSelftestToggleDone_host,
    execRemovalConfirmed_host, execReseatGuardExpiry_host, execBusFaultClassify_host, execOwnerlessClaim_host,
    execMoveReclaim_host, execStatusFrameReceived_host, execCommandFrameReceived_host, execSeatPairSeated_host,
    execSeatingAbort_host, execSeatDebounceComplete_host, execSeatLoss_host, execChannelStart_host, execPowerGoodAssert_host,
    execPodPowerUp_host, execPodSupplyLoss_host, execPodLinkDown_host, execIntDwellComplete_host,
    execUrgentConversionDone_host, execPairedWindowStart_host, execPodTickBoundary_host, execCalComplete_host,
    execRecalComplete_host, execRecalCoverEnd_host, execParkedBurst_host, execMeteringTransfer_host,
    execMeteringTransferReceived_host, execSnapshotTick_host, execSnapshotDone_host, execOringShareStep_host,
    execOringBlocked_host, execCutThroughForward_host, execDiscover_host, execReport_host, execAssign_host, execDone_host,
    execRingLinkDown_host, execRehome_host, execEventFrame_host, execFaultFrame_host, execSyncPeriod_host,
    execTimeHoldover_host, execDelayReq_host, execDelayResp_host, execDelayExchangePeriod_host, execCommitApply_host,
    execPodAdoption_host, execPodSupplyCurrentLimit_host, execPodSupplyRetry_host, execPodWakeSignal_host,
    execSealProgramDone_host, execPowerWarningEnd_host, execChallengeLapse_host, execRoleLockEnd_host, execSesTimeout_host,
    execMirroringComplete_host, execOdResp_host, execRingRespTmo_host, execFetch_host, execRefetch_host, execStatus_host,
    execIrqAck_host, execSesChallenge_host]

/-- A command that `touchesUnits` does not name leaves that part of the state as it is. -/
theorem exec_engines (i : Instr) (s : State) (h : touchesUnits i = false) : (stateOf s (exec i s)).engines = s.engines := by
  cases i
  all_goals simp [touchesUnits, isAccess, losesCore] at h
  all_goals simp only [exec,
    execUvloAssert_engines, execUvloClear_engines, execStackTurnOn_engines, execTurnOnAfterClamp_engines,
    execGateLevelReached_engines, execStrongHoldEnd_engines, execStrongClampEnd_engines, execBoostTimeLimit_engines,
    execSlewLimitExpired_engines, execForcedClamp_engines, execClampGateFault_engines, execBarrierSignalLoss_engines,
    execHvPowerUp_engines, execHvPowerDown_engines, execSc2Trip_engines, execSc1Trip_engines, execReverseTrip_engines,
    execDesatTrip_engines, execDesatBlankingEnd_engines, execBusOvTrip_engines, execBusUvTrip_engines,
    execCurrentLimitEntry_engines, execCurrentLimitExit_engines, execFaultTimerPeriodEnd_engines,
    execThermalEvaluation_engines, execDieOverTemperature_engines, execOutputPresent_engines, execStackTest_engines,
    execTieTest_engines, execSuspectConfirmation_engines, execConfirmationEvaluation_engines, execOnlineSelftestRound_engines,
    execMemberTestEnd_engines, execStartEnergyExceeded_engines, execOrphan_engines, execHoldWindowEnd_engines,
    execOringReverseBlock_engines, execOringReverseTrip_engines, execOringReentry_engines, execRetryCountReset_engines,
    execCoolDownEnd_engines, execReseatGuardExpiry_engines, execOwnerlessClaim_engines, execMoveReclaim_engines,
    execCommandFrameReceived_engines, execSeatPairSeated_engines, execSeatingAbort_engines, execSeatDebounceComplete_engines,
    execChannelStart_engines, execPodPowerUp_engines, execPodSupplyLoss_engines, execPodLinkDown_engines,
    execIntDwellComplete_engines, execUrgentConversionDone_engines, execPairedWindowStart_engines, execPairedWindowEnd_engines,
    execCalComplete_engines, execRecalComplete_engines, execRecalCoverEnd_engines, execParkedBurst_engines,
    execHkMeanUpdate_engines, execHkSleepBurst_engines, execAverageComplete_engines, execMeteringTransfer_engines,
    execMeteringTransferReceived_engines, execSnapshotTick_engines, execMinmaxWindowEnd_engines, execSnapshotDone_engines,
    execCheckpointWritten_engines, execMeteringClearApply_engines, execCheckpoint_engines, execCutThroughForward_engines,
    execDiscover_engines, execReport_engines, execAssign_engines, execDone_engines, execRingLinkDown_engines,
    execRehome_engines, execEventFrame_engines, execSyncTime_engines, execSyncPeriod_engines, execTimeHoldover_engines,
    execDelayReq_engines, execDelayResp_engines, execDelayExchangePeriod_engines, execStreamRecord_engines,
    execBlockSend_engines, execStreamFlush_engines, execReadyHighEnd_engines, execJournalExportRecord_engines,
    execResetRelease_engines, execPodSupplyCurrentLimit_engines, execPodSupplyRetry_engines, execRingClockMove_engines,
    execXtalMeasure_engines, execPodWakeSignal_engines, execCfgSaveComplete_engines, execSealProgramDone_engines,
    execFwCheckDone_engines, execPfwN_engines, execPowerWarningEnd_engines, execChallengeLapse_engines,
    execRoleLockEnd_engines, execSesTimeout_engines, execMirroringComplete_engines, execOdResp_engines,
    execRingRespTmo_engines, execFetch_engines, execRefetch_engines, execStatus_engines, execIrqAck_engines,
    execSesChallenge_engines]

/-- A command that `touchesPods` does not name leaves that part of the state as it is. -/
theorem exec_podBank (i : Instr) (s : State) (h : touchesPods i = false) : (stateOf s (exec i s)).podBank = s.podBank := by
  cases i
  all_goals simp [touchesPods, isAccess, losesCore] at h
  all_goals simp only [exec,
    execHubCmpEdge_podBank, execCmpTestDone_podBank, execPrechargeSelftestDone_podBank, execPrechargeResume_podBank,
    execPauseLimit_podBank, execPrechargeClose_podBank, execNoProgress_podBank, execPrechargeTimeLimit_podBank,
    execCloseLimit_podBank, execPwmPeriodBoundary_podBank, execPwmMidperiodReload_podBank, execPwmPulseEnd_podBank,
    execPwmDeadTimeEnd_podBank, execDischargeRun_podBank, execChopperResume_podBank, execDischargeDone_podBank,
    execEnergyLimit_podBank, execDischargeTimeLimit_podBank, execDriverReadyLoss_podBank, execSourceLoss_podBank,
    execRevertDue_podBank, execTransferMake_podBank, execTransferTimeout_podBank, execFltoMinWidthEnd_podBank,
    execFaultTokenRepeat_podBank, execFaultPulseEnd_podBank, execFaultViewRelease_podBank, execFaultToken_podBank,
    execFltiAssert_podBank, execFltiRelease_podBank, execRetryCountReset_podBank, execCoolDownEnd_podBank,
    execRemovalConfirmed_podBank, execReseatGuardExpiry_podBank, execBusFaultClassify_podBank, execOwnerlessClaim_podBank,
    execMoveReclaim_podBank, execStatusFrameReceived_podBank, execPodLinkDown_podBank, execHkMeanUpdate_podBank,
    execHkSleepBurst_podBank, execMeteringTransferReceived_podBank, execSnapshotDone_podBank, execCheckpointWritten_podBank,
    execOringShareStep_podBank, execOringBlocked_podBank, execCutThroughForward_podBank, execDiscover_podBank,
    execReport_podBank, execAssign_podBank, execDone_podBank, execRingLinkDown_podBank, execRehome_podBank,
    execEventFrame_podBank, execFaultFrame_podBank, execSyncPeriod_podBank, execTimeHoldover_podBank, execDelayReq_podBank,
    execDelayResp_podBank, execDelayExchangePeriod_podBank, execStreamRecord_podBank, execBlockSend_podBank,
    execStreamFlush_podBank, execReadyHighEnd_podBank, execJournalExportRecord_podBank, execResetRelease_podBank,
    execRingClockMove_podBank, execXtalMeasure_podBank, execSleepEntered_podBank, execCfgSaveComplete_podBank,
    execSealProgramDone_podBank, execFwCheckDone_podBank, execPfwN_podBank, execPowerWarningEnd_podBank,
    execChallengeLapse_podBank, execRoleLockEnd_podBank, execSesTimeout_podBank, execMirroringComplete_podBank,
    execOdResp_podBank, execRingRespTmo_podBank, execFetch_podBank, execRefetch_podBank, execStatus_podBank,
    execIrqAck_podBank, execSesChallenge_podBank]

/-! ## Queue and OTP bank under every command -/

theorem exec_adds_of_access {i : Instr} (s : State) (h : isAccess i = true) : AddsSlot s (stateOf s (exec i s)) := by
  cases i
  all_goals simp [isAccess] at h
  case odRead k f =>
    show AddsSlot s (s.take_ k f fun t => if f.type = 2 ∧ forMe t f = true ∧ f.dst ≠ 0xFFF then t.requestIn f else t)
    exact State.taken_adds _ _ _ _ fun t => .ite (fun _ => t.requestIn_adds f) fun _ => .of_used rfl
  case odWrite k f =>
    show AddsSlot s (s.take_ k f fun t => if f.type = 3 ∧ forMe t f = true then t.requestIn f else t)
    exact State.taken_adds _ _ _ _ fun t => .ite (fun _ => t.requestIn_adds f) fun _ => .of_used rfl
  case submit type tag dst payload crc => exact State.transfer_adds _ _ _ _ _ _ fun t => t.submit_adds type tag dst payload
  case pwmWord n value rq t => exact (State.doWrite_adds ..).after (used_of_vault (s.at_vault t))
  all_goals exact State.doWrite_adds ..

theorem execFwTrialExpiry_adds (s : State) : AddsSlot s (stateOf s (execFwTrialExpiry s)) := by
  unfold execFwTrialExpiry
  rw [stateOf_next]
  exact .ite (fun _ => (State.coreReset_adds _ 8).after (used_of_vault (by simp [vault_fields]))) fun _ => .of_used rfl

theorem execCrystalLost_adds (s : State) : AddsSlot s (stateOf s (execCrystalLost s)) := by
  unfold execCrystalLost
  rw [stateOf_next]
  exact .ite (fun _ => .ite (fun _ => .of_vault (State.warn_vault ..)) fun _ => (s.coreReset_adds 6).then rfl) fun _ => .of_used rfl

theorem execRingClockLoss_adds (s : State) : AddsSlot s (stateOf s (execRingClockLoss s)) := by
  unfold execRingClockLoss
  rw [stateOf_next]
  exact .ite (fun _ => .ite (fun _ => (s.coreReset_adds 6).then rfl) fun _ => .of_vault (s.clockMove_vault 2)) fun _ => .of_used rfl

theorem execAlwaysOnPowerOnReset_adds (s : State) : AddsSlot s (stateOf s (execAlwaysOnPowerOnReset s)) := by
  unfold execAlwaysOnPowerOnReset
  rw [stateOf_next]
  exact (s.coreReset_adds 2).then (used_of_vault (by simp [vault_fields]))

theorem execWake_adds (src : Nat) (s : State) : AddsSlot s (stateOf s (execWake src s)) := by
  unfold execWake
  rw [stateOf_next]
  dsimp only
  refine .ite (fun _ => .of_used rfl) fun _ => .ite (fun _ => s.coreLost_adds.then ?_) fun _ => .ite (fun _ => ?_) fun _ =>
    .ite (fun _ => .of_vault (State.set_vault ..)) fun _ => .of_used rfl
  · exact used_of_vault (by simp [vault_fields])
  · exact .of_vault ((State.set_vault ..).trans rfl)

theorem exec_adds_of_coreLoss {i : Instr} (s : State) (h : losesCore i = true) : AddsSlot s (stateOf s (exec i s)) := by
  have hreset (c : Prop) [Decidable c] (bit : Nat) : AddsSlot s (if c then s.coreReset bit else s) :=
    .ite (fun _ => s.coreReset_adds bit) fun _ => .of_used rfl
  cases i
  all_goals simp [losesCore] at h
  case vdd33PowerOnReset => exact s.coreReset_adds 0
  case coreSupplyReset => exact .ite (fun _ => .of_used rfl) fun _ => s.coreReset_adds 1
  case alwaysOnPowerOnReset => exact execAlwaysOnPowerOnReset_adds s
  case resetN => exact s.coreReset_adds 3
  case lockstepMismatch => exact hreset _ 4
  case watchdog => exact hreset _ 5
  case crystalLost => exact execCrystalLost_adds s
  case thermalReset => exact hreset _ 9
  case ringClockLoss => exact execRingClockLoss_adds s
  case wake src => exact execWake_adds src s
  case fwTrialExpiry => exact execFwTrialExpiry_adds s

theorem execSealProgramDone_adds (ok : Bool) (s : State) : AddsSlot s (stateOf s (execSealProgramDone ok s)) := by
  have hslot (t : State) (i : Nat) (v : List Byte) : AddsSlot t (t.sealSlot i v ok) := by
    unfold State.sealSlot
    split
    · exact .of_upd t _ _ { value := v, ok := ok } fun _ => rfl
    · exact .of_used rfl
  unfold execSealProgramDone
  rw [stateOf_next]
  split
  · next x _ =>
    have hidle : ({ s with sealing := none } : State).used = s.used := rfl
    exact ((hslot _ _ _).after hidle).then (used_of_vault (State.journal_vault ..))
  · exact .of_used rfl

theorem execSesTimeout_used (h : Nat) (s : State) : (stateOf s (execSesTimeout h s)).used = s.used := by
  unfold execSesTimeout
  rw [stateOf_next]
  split
  · split <;> rfl
  · rfl

/-- A pod trains without the vault. -/
theorem State.podTrained_vault (s : State) (c : Chan) : (s.podTrained c).vault = s.vault := by
  unfold State.podTrained
  simp

theorem execSleepEntered_used (s : State) : (stateOf s (execSleepEntered s)).used = s.used := by
  unfold execSleepEntered
  rw [stateOf_next]
  split
  · split
    · unfold State.used slotsAt
      cases s.latch.ckpt.writing <;> simp [vault_fields]
    · rfl
  · rfl

theorem execBootComplete_used (s : State) : (stateOf s (execBootComplete s)).used = s.used := by
  have hload := s.bootLoad_used
  unfold execBootComplete
  rw [stateOf_next]
  split
  · rw [used_of_vault (State.bootEnd_vault _), hload]
  · exact hload

theorem execPodLinkTrained_used (c : Chan) (s : State) : (stateOf s (execPodLinkTrained c s)).used = s.used := by
  have hload := s.bootLoad_used
  unfold execPodLinkTrained
  rw [stateOf_next, used_of_vault (State.podTrained_vault ..)]
  split
  · exact hload
  · rfl

/-- Every command keeps the queue and adds at most one slot to a sealed object. -/
theorem exec_adds (i : Instr) (s : State) : AddsSlot s (stateOf s (exec i s)) := by
  cases hvault : touchesVault i
  case false => exact .of_vault (exec_vault i s hvault)
  case true =>
    cases haccess : isAccess i
    case true => exact exec_adds_of_access s haccess
    case false =>
      cases hcore : losesCore i
      case true => exact exec_adds_of_coreLoss s hcore
      case false =>
        cases i
        all_goals simp [touchesVault, isAccess, losesCore] at hvault haccess hcore
        case sleepEntered => exact .of_used (execSleepEntered_used s)
        case sesChallenge src => exact .of_used (State.doRead_used ..)
        case challengeLapse => exact .of_used rfl
        case sesTimeout h => exact .of_used (execSesTimeout_used h s)
        case sealProgramDone ok => exact execSealProgramDone_adds ok s
        case bootComplete => exact .of_used (execBootComplete_used s)
        case podLinkTrained c => exact .of_used (execPodLinkTrained_used c s)
        case ringLinkUp k => exact .of_used ((used_of_vault (State.ringLinkUp_vault ..)).trans s.bootLoad_used)

/-- Settles O55. -/
theorem usedSlotsStay : Obligations.UsedSlotsStay := by
  intro s u i hstep
  rcases hqueue : s.pending with _ | ⟨c, rest⟩
  · obtain rfl := Host.Outcome.next.inj ((step_of_idle hqueue).symm.trans hstep)
    exact ⟨List.prefix_refl _, Nat.le_succ _⟩
  · obtain ⟨-, hslots⟩ := exec_adds c { s with pending := rest }
    rw [← step_of_pending hqueue, hstep] at hslots
    exact hslots i

/-! ## The frames -/

/-- Settles O58. -/
theorem frameOfWhatTheHubKeeps : Obligations.FrameOfWhatTheHubKeeps := by
  refine ⟨fun i s u h => ?_, fun i s u ht h => ?_, fun i s u ht h => ?_, fun i s u ht h => ?_⟩
  · obtain ⟨hpending, -⟩ := exec_adds i s
    rwa [h] at hpending
  · have hv := exec_vault i s ht
    rw [h] at hv
    simp only [vault_fields, stateOf_next] at hv ⊢
    simp [hv]
  · have hv := exec_conf i s ht
    rw [h] at hv
    simp only [conf_fields, stateOf_next] at hv ⊢
    simp [hv]
  · have hv := exec_host i s ht
    rw [h] at hv
    simp only [host_fields, stateOf_next] at hv ⊢
    simp [hv]

/-- Settles O59. -/
theorem frameOfThePowerPath : Obligations.FrameOfThePowerPath := by
  refine ⟨fun i s u ht h => ?_, fun i s u ht h => ?_⟩
  · have hv := exec_engines i s ht
    rw [h] at hv
    simp only [engines_fields, stateOf_next] at hv ⊢
    simp [hv]
  · have hv := exec_podBank i s ht
    rwa [h] at hv

end Sys2Proof.Machine

/-! # Commands at one pod

Each command that `podOf` names is a `State.podEvent` at that pod, but for the confirmation of a suspect, which needs the link. -/

namespace Sys2Proof.Machine

/-- An event is told by what it asks and makes of its pod at its instant. -/
theorem State.podEvent_congr {s : State} {c : Chan} {t : Nat} {ok ok' : Pod → Nat → Bool} {f f' : Pod → Nat → Pod}
    (hok : ok (s.pod c) (max s.now t) = ok' (s.pod c) (max s.now t)) (hf : f (s.pod c) (max s.now t) = f' (s.pod c) (max s.now t)) :
    s.podEvent c t ok f = s.podEvent c t ok' f' := by
  unfold State.podEvent State.updPod Bank.upd
  have hpod : (s.at t).pods.get c = s.pod c := rfl
  simp only [hpod, hok, hf]

/-- URGENT_CONVERSION_DONE is an event of the pod, which does not come about without an open run. -/
theorem execUrgentConversionDone_podEvent (c : Chan) (codes : List Raw) (t : Nat) (s : State) :
    execUrgentConversionDone c codes t s = .next (s.podEvent c t
      (fun p t => match p.adc.openRun with
        | some r => p.st.hvOn && decide (r.lastListed + 225 ≤ t)
        | none => false)
      fun p t => match p.adc.openRun with
        | some r => p.urgentDone r codes t
        | none => p) := by
  unfold execUrgentConversionDone
  cases hrun : (s.pod c).adc.openRun with
  | none => rw [State.podEvent_same _ _ _ _ _ (by rw [hrun])]
  | some r => exact congrArg _ (State.podEvent_congr (by rw [hrun]) (by rw [hrun]))

/-- A command at one pod is an event of that pod at an instant of the command's own, or at the present one. -/
theorem exec_podEvent {i : Instr} {c : Chan} (h : podOf i = some c) (hown : ∀ t, i ≠ .suspectConfirmation c t) :
    ∃ (t : Nat → Nat) (ok : Pod → Nat → Bool) (f : Pod → Nat → Pod), ∀ s, exec i s = .next (s.podEvent c (t s.now) ok f) := by
  cases i
  all_goals simp [podOf] at h
  all_goals subst h
  case suspectConfirmation t => exact absurd rfl (hown t)
  case urgentConversionDone codes t => exact ⟨fun _ => t, _, _, execUrgentConversionDone_podEvent _ codes t⟩
  case thermalEvaluation => exact ⟨id, _, _, fun _ => rfl⟩
  case orphan => exact ⟨id, _, _, fun _ => rfl⟩
  case holdWindowEnd => exact ⟨id, _, _, fun _ => rfl⟩
  case meteringTransfer => exact ⟨id, _, _, fun _ => rfl⟩
  all_goals exact ⟨fun _ => _, _, _, fun _ => rfl⟩

/-- An event never turns the time back. -/
theorem State.le_podEvent_now (s : State) (c : Chan) (t : Nat) (ok : Pod → Nat → Bool) (f : Pod → Nat → Pod) :
    s.now ≤ (s.podEvent c t ok f).now := by
  cases h : ok (s.pod c) (max s.now t)
  · exact Nat.le_of_eq (congrArg State.now (State.podEvent_same _ _ _ _ _ h).symm)
  · exact Nat.le_trans (Nat.le_max_left _ t) (Nat.le_of_eq (congrArg State.now (State.podEvent_next _ _ _ _ _ h).symm))

/-- What an event makes of its pod depends on that pod and the time alone. -/
theorem State.podEvent_pod_congr {s s' : State} {c : Chan} (hpod : s.pod c = s'.pod c) (hnow : s.now = s'.now) (t : Nat)
    (ok : Pod → Nat → Bool) (f : Pod → Nat → Pod) : (s.podEvent c t ok f).pod c = (s'.podEvent c t ok f).pod c := by
  cases h : ok (s.pod c) (max s.now t)
  · rw [State.podEvent_same _ _ _ _ _ h, State.podEvent_same _ _ _ _ _ (by rw [← hpod, ← hnow, h]), hpod]
  · rw [State.podEvent_pod _ _ _ _ _ h, State.podEvent_pod _ _ _ _ _ (by rw [← hpod, ← hnow, h]), hpod, hnow]

/-- Settles O56. -/
theorem podEventsChangeOnePod : Obligations.PodEventsChangeOnePod := by
  intro i c s u h hu
  have hevent (t : Nat) (ok : Pod → Nat → Bool) (f : Pod → Nat → Pod) (heq : s.podEvent c t ok f = u) :
      u = { s with now := u.now, pods := u.pods } ∧ s.now ≤ u.now ∧ ∀ d : Chan, d ≠ c → u.pod d = s.pod d := by
    subst heq
    exact ⟨s.podEvent_frame c t ok f, s.le_podEvent_now c t ok f, fun d hd => s.podEvent_other c d t ok f (Ne.symm hd)⟩
  by_cases hown : ∀ t, i ≠ .suspectConfirmation c t
  · obtain ⟨t, ok, f, hexec⟩ := exec_podEvent h hown
    exact hevent _ _ _ (Host.Outcome.next.inj ((hexec s).symm.trans hu))
  · obtain ⟨t, rfl⟩ := Classical.not_forall_not.mp hown
    have heq := Host.Outcome.next.inj hu
    split at heq
    · exact hevent _ _ _ heq
    · subst heq
      exact ⟨rfl, Nat.le_refl _, fun _ _ => rfl⟩

/-- Settles O57. -/
theorem podEventsNeedNoHub : Obligations.PodEventsNeedNoHub := by
  intro i c s s' u u' h hown hpod hnow hu hu'
  obtain ⟨t, ok, f, hexec⟩ := exec_podEvent h hown
  obtain rfl := Host.Outcome.next.inj ((hexec s).symm.trans hu)
  obtain rfl := Host.Outcome.next.inj ((hexec s').symm.trans hu')
  rw [← hnow]
  exact State.podEvent_pod_congr hpod hnow _ ok f

end Sys2Proof.Machine

/-! # Resets, BOOT and ADOPT move no gate (R402, R543) -/

namespace Sys2Proof.Machine

/-! ## What leaves every pod alone -/

@[simp] theorem State.impose_podBank (s : State) (o : Obj) (i : Nat) (v : Int) : (s.impose o i v).podBank = s.podBank := by
  unfold State.impose
  simp [podBank_fields]

@[simp] theorem State.pwmRelease_podBank (s : State) (n : Oct) : (s.pwmRelease n).podBank = s.podBank := by
  unfold State.pwmRelease
  simp [podBank_fields]

@[simp] theorem State.preLetsSecond_podBank (s : State) (p : Quad) (old : Store) : (s.preLetsSecond p old).podBank = s.podBank := by
  unfold State.preLetsSecond
  simp

@[simp] theorem State.preSenses_podBank (s : State) (p : Quad) : (s.preSenses p).podBank = s.podBank := by
  unfold State.preSenses
  simp

@[simp] theorem State.preOwns_podBank (s : State) (p : Quad) (old : Store) : (s.preOwns p old).podBank = s.podBank := by
  unfold State.preOwns
  simp

@[simp] theorem State.chanEff_podBank (s : State) (c : Chan) : (s.chanEff c).podBank = s.podBank := by
  unfold State.chanEff
  simp

@[simp] theorem State.bootFw_podBank (s : State) (runsB back : Bool) : (s.bootFw runsB back).podBank = s.podBank := by
  unfold State.bootFw
  simp [podBank_fields]

@[simp] theorem State.loadValue_podBank (s : State) (k : Nat) (v : Int) : (s.loadValue k v).1.podBank = s.podBank := by
  unfold State.loadValue
  split
  · split
    · rfl
    · split
      · rfl
      · exact State.warn_podBank ..
  · rfl

@[simp] theorem State.grantCheck_podBank (s : State) (b : BusId) : (s.grantCheck b).1.podBank = s.podBank := by
  unfold State.grantCheck
  dsimp only
  split
  · exact (State.warn_podBank ..).trans rfl
  · rfl

@[simp] theorem State.loadPass_podBank (s : State) : s.loadPass.1.podBank = s.podBank := by
  unfold State.loadPass
  refine foldl_fst_podBank _ (fun r u => ?_) _ _
  split
  · exact (State.warn_podBank ..).trans rfl
  · rfl

@[simp] theorem State.loadPasses_podBank (n : Nat) (s : State) : (State.loadPasses n s).1.podBank = s.podBank := by
  induction n generalizing s with
  | zero => rfl
  | succ n ih =>
    rw [State.loadPasses]
    split
    · rw [ih, State.loadPass_podBank]
    · exact s.loadPass_podBank

@[simp] theorem State.loadCfg_podBank (s : State) : s.loadCfg.podBank = s.podBank := by
  unfold State.loadCfg
  split
  · simp
  · dsimp only
    rw [State.set_podBank, State.set_podBank, State.set_podBank, State.forChans_podBank _ _ _ fun s c => State.chanEff_podBank s c]
    simp only [podBank_mk, podBank_fields, State.loadPasses_podBank]
    rw [foldl_fst_podBank _ (fun r x => by simp), foldl_fst_podBank _ (fun r x => by simp)]

@[simp] theorem State.cfgInForce_podBank (s : State) : s.cfgInForce.podBank = s.podBank := by
  unfold State.cfgInForce
  simp [podBank_fields]

@[simp] theorem State.loadCkpt_podBank (s : State) : s.loadCkpt.podBank = s.podBank := by
  unfold State.loadCkpt State.portFrom
  split <;> simp [podBank_fields]

@[simp] theorem State.hkNew_podBank (s : State) (old : Nat) : (s.hkNew old).podBank = s.podBank := by
  unfold State.hkNew
  simp [podBank_fields]

@[simp] theorem State.sealCuts_podBank (s : State) : s.sealCuts.podBank = s.podBank := by
  unfold State.sealCuts
  refine foldl_podBank _ (fun s i => ?_) _ _
  split
  · exact (State.journal_podBank ..).trans rfl
  · rfl

@[simp] theorem State.bootRecord_podBank (s : State) : s.bootRecord.podBank = s.podBank := by
  unfold State.bootRecord
  simp [podBank_fields]

@[simp] theorem State.cameUp_podBank (s : State) (h : HubState) : (s.cameUp h).podBank = s.podBank := by
  unfold State.cameUp
  exact (State.set_podBank ..).trans rfl

@[simp] theorem State.cellsPower_podBank (s : State) : s.cellsPower.podBank = s.podBank := by
  unfold State.cellsPower State.cellInit
  simp

@[simp] theorem State.reconcile_podBank (s : State) (c : Chan) : (s.reconcile c).podBank = s.podBank := by
  unfold State.reconcile
  simp [podBank_fields]

@[simp] theorem State.adoptKeptTrip_podBank (s : State) (c : Chan) (held : Bool) (last : Nat) :
    (s.adoptKeptTrip c held last).podBank = s.podBank := by
  have hnotes (t : State) (l : List (Nat × Nat)) : (l.foldl (fun s e => s.journalAt e.2 0x05 (.chan c) e.1 []) t).podBank = t.podBank :=
    foldl_podBank _ (fun s e => State.journalAt_podBank ..) l t
  unfold State.adoptKeptTrip
  dsimp only
  split
  · simp
  · rw [hnotes]
    simp

@[simp] theorem State.adoptTrip_podBank (s : State) (c : Chan) (kept held : Bool) (last : Nat) :
    (s.adoptTrip c kept held last).podBank = s.podBank := by
  unfold State.adoptTrip
  simp

@[simp] theorem State.adoptTimes_podBank (s : State) (c : Chan) (kept : Bool) (t : Nat) : (s.adoptTimes c kept t).podBank = s.podBank := by
  unfold State.adoptTimes
  simp

@[simp] theorem State.eligibleTick_podBank (s : State) (b : BusId) : (s.eligibleTick b).podBank = s.podBank := by
  unfold State.eligibleTick
  simp

@[simp] theorem State.resumeXfer_podBank (s : State) (b : BusId) (k : Option (Chan × Option Chan)) :
    (s.resumeXfer b k).podBank = s.podBank := by
  unfold State.resumeXfer
  split <;> simp

/-! ## What leaves every gate alone -/

/-- The gates of every pod. -/
def State.gates (s : State) : Chan → Gate × Gate := fun c => ((s.pod c).st.gIn, (s.pod c).st.gOut)

theorem gates_of_podBank {s u : State} (h : u.podBank = s.podBank) : u.gates = s.gates := by
  have hpods : u.pods = s.pods := h
  unfold State.gates State.pod
  rw [hpods]

/-- A change of a pod that moves neither of its gates. -/
theorem State.updPod_gates (s : State) (c : Chan) (f : Pod → Pod)
    (h : (f (s.pod c)).st.gIn = (s.pod c).st.gIn ∧ (f (s.pod c)).st.gOut = (s.pod c).st.gOut) : (s.updPod c f).gates = s.gates := by
  funext d
  unfold State.gates
  by_cases hd : c = d
  · subst hd
    rw [State.updPod_pod_self, h.1, h.2]
  · rw [State.updPod_pod_other _ _ _ _ hd]

theorem foldl_gates {α : Type} (f : State → α → State) (h : ∀ s x, (f s x).gates = s.gates) (l : List α) (s : State) :
    (l.foldl f s).gates = s.gates := by
  induction l generalizing s with
  | nil => rfl
  | cons x l ih => rw [List.foldl_cons, ih, h]

theorem State.feedA_gates (s : State) (c : Chan) : (s.feedA c).gates = s.gates :=
  s.updPod_gates c _ (by split <;> exact ⟨rfl, rfl⟩)

theorem State.podSwitches_gates (s : State) (old : Nat) : (s.podSwitches old).gates = s.gates :=
  foldl_gates _ (fun s c => s.feedA_gates c) _ s

theorem State.coreReset_gates (s : State) (bit : Nat) : (s.coreReset bit).gates = s.gates := by
  have hlost : (s.coreReset bit).gates = s.sealCut.gates := State.podSwitches_gates ..
  rw [hlost]
  unfold State.sealCut
  split
  · split <;> rfl
  · rfl

theorem State.trackersAfresh_gates (s : State) : s.trackersAfresh.gates = s.gates :=
  foldl_gates _ (fun s c => (gates_of_podBank (State.updPort_podBank ..)).trans (s.updPod_gates c _ ⟨rfl, rfl⟩)) _ s

theorem Pod.tiesAtActive_gates (p : Pod) (t : Nat) : (p.tiesAtActive t).st.gIn = p.st.gIn ∧ (p.tiesAtActive t).st.gOut = p.st.gOut := by
  unfold Pod.tiesAtActive
  split
  · split <;> exact ⟨rfl, rfl⟩
  · exact ⟨rfl, rfl⟩

/-- A pod that takes a hub's frame as its own moves no gate. -/
theorem Pod.owned_gates (p : Pod) (own : Bool) (epoch t : Nat) :
    (p.owned own epoch t).st.gIn = p.st.gIn ∧ (p.owned own epoch t).st.gOut = p.st.gOut := by
  unfold Pod.owned
  dsimp only
  split
  · exact ⟨rfl, rfl⟩
  · exact Pod.tiesAtActive_gates ..
  · exact Pod.tiesAtActive_gates ..
  · exact ⟨rfl, rfl⟩

theorem State.linkUp_gates (s : State) (c : Chan) : (s.linkUp c).gates = s.gates := by
  have hport (t : State) (f : Port → Port) : (t.updPort c f).gates = t.gates := gates_of_podBank (State.updPort_podBank ..)
  unfold State.linkUp
  dsimp only
  split
  · split
    · rw [hport, gates_of_podBank (State.claim_podBank ..), State.updPod_gates _ _ _ (Pod.owned_gates ..), hport]
    · rw [hport, hport]
  · split
    · exact hport ..
    · split <;> exact hport ..

theorem State.adoptRemoval_gates (s : State) (c : Chan) : (s.adoptRemoval c).gates = s.gates := by
  unfold State.adoptRemoval
  split
  · rw [gates_of_podBank (State.updPort_podBank ..), State.updPod_gates, gates_of_podBank (State.removed_podBank ..)]
    dsimp only
    split <;> exact ⟨rfl, rfl⟩
  · rfl

theorem State.adoptPod_gates (s : State) (c : Chan) : (s.adoptPod c).gates = s.gates := by
  unfold State.adoptPod
  dsimp only
  rw [State.adoptRemoval_gates, gates_of_podBank (State.adoptTimes_podBank ..), gates_of_podBank (State.adoptTrip_podBank ..),
    gates_of_podBank (State.updPort_podBank ..), gates_of_podBank (State.claim_podBank ..),
    State.updPod_gates _ _ _ (Pod.owned_gates ..)]
  exact gates_of_podBank (by simp)

theorem State.adoptPods_gates (s : State) (l : List Chan) : (s.adoptPods l).gates = s.gates := by
  unfold State.adoptPods
  dsimp only
  rw [gates_of_podBank (State.evalLines_podBank _), foldl_gates _ fun s c => gates_of_podBank (s.rebuildPre_podBank c)]
  rw [foldl_gates]
  · exact foldl_gates _ State.adoptPod_gates l s
  · intro t b
    split
    · exact gates_of_podBank (by simp)
    · rfl

theorem State.bootImage_gates (s : State) (runsB back : Bool) : (s.bootImage runsB back).gates = s.gates := by
  have hload : (((s.bootFw runsB back).loadCfg.podSwitches (s.act OD.HUB_PODSUP_EN)).hkNew (s.act OD.ADC_HK_EN)).cfgInForce.loadCkpt.gates
      = s.gates := by
    rw [gates_of_podBank (State.loadCkpt_podBank _), gates_of_podBank (State.cfgInForce_podBank _),
      gates_of_podBank (State.hkNew_podBank ..), State.podSwitches_gates]
    exact gates_of_podBank (by simp)
  unfold State.bootImage
  dsimp only
  split
  · rw [gates_of_podBank (State.journal_podBank ..), gates_of_podBank (State.bootRecord_podBank _), hload]
  · rw [gates_of_podBank (State.bootRecord_podBank _), hload]

theorem State.bootLoad_gates (s : State) : s.bootLoad.gates = s.gates := by
  by_cases hboot : s.hub = .boot ∧ s.power.loaded = false ∧ s.stat OD.HUB_BOOT_STATUS = 0
  · obtain ⟨hhub, hnew, hok⟩ := hboot
    rcases hslot : bootSlot s with _ | ⟨runsB, back⟩
    · rw [State.bootLoad_of_noImage hhub hnew hok hslot]
      exact gates_of_podBank (State.set_podBank ..)
    · rw [State.bootLoad_of_image hhub hnew hok hslot]
      exact s.bootImage_gates runsB back
  · rw [State.bootLoad_of_done hboot]

theorem State.bootEnd_gates (s : State) : s.bootEnd.gates = s.gates := by
  unfold State.bootEnd
  have hlink (l : List Chan) (t : State) : (l.foldl State.linkUp t).gates = t.gates := foldl_gates _ State.linkUp_gates l t
  extract_lets live parked others u v w x y z power a
  have hu : u.gates = s.gates := by
    unfold u
    split
    · exact (State.trackersAfresh_gates _).trans rfl
    · exact gates_of_podBank (State.cameUp_podBank ..)
  have hx : x.gates = s.gates := by
    have hw : w.gates = s.gates := by
      rw [← hu]
      exact (hlink _ _).trans (gates_of_podBank (by simp [v]))
    unfold x
    split
    · exact hw
    · rw [State.adoptPods_gates, hw]
  have hz : z.gates = s.gates := by
    rw [← hx]
    refine gates_of_podBank ?_
    unfold z
    split <;> simp [y]
  have ha : a.gates = s.gates := hz
  split
  · rw [gates_of_podBank (State.enumerate_podBank _), ha]
  · exact ha

theorem ite_gates {c : Prop} [Decidable c] {s u : State} (h : u.gates = s.gates) : (if c then u else s).gates = s.gates := by
  split
  · exact h
  · rfl

theorem execAlwaysOnPowerOnReset_gates (s : State) : (stateOf s (execAlwaysOnPowerOnReset s)).gates = s.gates := by
  unfold execAlwaysOnPowerOnReset
  rw [stateOf_next, gates_of_podBank (State.set_podBank ..), gates_of_podBank (State.set_podBank ..),
    gates_of_podBank (State.set_podBank ..)]
  exact s.coreReset_gates 2

theorem execAdopt_gates (s : State) : (stateOf s (execAdopt s)).gates = s.gates := by
  unfold execAdopt
  rw [stateOf_next]
  refine ite_gates ?_
  rw [State.trackersAfresh_gates, gates_of_podBank (State.cameUp_podBank ..), State.adoptPods_gates]

theorem execBootComplete_gates (s : State) : (stateOf s (execBootComplete s)).gates = s.gates := by
  unfold execBootComplete
  rw [stateOf_next]
  exact (ite_gates (State.bootEnd_gates _)).trans s.bootLoad_gates

/-- A reset and a step of BOOT or ADOPT leave the gates of every pod alone. -/
theorem exec_gates_of_boot {i : Instr} (s : State) (h : i ∈ [Instr.vdd33PowerOnReset, .coreSupplyReset, .alwaysOnPowerOnReset, .resetN,
    .lockstepMismatch, .watchdog, .thermalReset, .bootComplete, .adopt]) : (stateOf s (exec i s)).gates = s.gates := by
  simp only [List.mem_cons, List.not_mem_nil, or_false] at h
  rcases h with rfl | rfl | rfl | rfl | rfl | rfl | rfl | rfl | rfl
  · exact s.coreReset_gates 0
  · refine Eq.trans ?_ (ite_gates (c := s.hub ≠ .sleep) (s.coreReset_gates 1))
    exact congrArg State.gates (ite_not ..).symm
  · exact execAlwaysOnPowerOnReset_gates s
  · exact s.coreReset_gates 3
  · exact ite_gates (s.coreReset_gates 4)
  · exact ite_gates (s.coreReset_gates 5)
  · exact ite_gates (s.coreReset_gates 9)
  · exact execBootComplete_gates s
  · exact execAdopt_gates s

/-- Settles O60. -/
theorem noGateMovesInBoot : Obligations.NoGateMovesInBoot := by
  intro i c s u hi hu
  have hgates := congrFun (exec_gates_of_boot s hi) c
  rw [hu] at hgates
  exact ⟨congrArg Prod.fst hgates, congrArg Prod.snd hgates⟩

end Sys2Proof.Machine

/-! # Gate drive (chapter 3) -/

namespace Sys2Proof.Machine

/-! ## Gates of a pod -/

@[simp] theorem Pod.setGate_gate_self (p : Pod) (x : Side) (g : Gate) : (p.setGate x g).gate x = g := by cases x <;> rfl

@[simp] theorem Pod.strongHold_gate (p : Pod) (x : Side) (t : Nat) :
    (p.strongHold x t).gate x = (p.gate x).enter .strongHold t (p.startBlank x t).fullOnMv (some (t + 5000)) 0
      (if (p.startBlank x t).fullOnMv ≤ (p.gate x).mv then some t else none) := by
  unfold Pod.strongHold
  exact Pod.setGate_gate_self ..

@[simp] theorem Pod.strongClamp_gate (p : Pod) (x : Side) (t : Nat) :
    (p.strongClamp x t).gate x = (p.gate x).enter .strongClamp t p.clampMv (some (t + 5000)) 0
      (if (p.gate x).mv ≤ p.clampMv then some t else none) := by
  unfold Pod.strongClamp
  exact Pod.setGate_gate_self ..

@[simp] theorem Pod.gbit_gate (p : Pod) (i : Nat) (b : Bool) (x : Side) : (p.gbit i b).gate x = p.gate x := by cases x <;> rfl

@[simp] theorem Pod.setGate_gstat (p : Pod) (x : Side) (g : Gate) : (p.setGate x g).st.gstat = p.st.gstat := by cases x <;> rfl

/-- The pod after an event that comes about, of which `P` holds. -/
theorem State.podEvent_of {s : State} {c : Chan} {t : Nat} {ok : Pod → Nat → Bool} {f : Pod → Nat → Pod} (P : Pod → Prop)
    (hok : ok (s.pod c) (max s.now t) = true) (hP : P (f (s.pod c) (max s.now t))) : P ((s.podEvent c t ok f).pod c) := by
  rw [State.podEvent_pod s c t ok f hok]
  exact hP

/-! ## Supplies (R70 to R73, R92 to R94) -/

theorem Pod.uvloOn_gstat (p : Pod) (vneg : Bool) (t : Nat) :
    (p.uvloOn vneg t).st.gstat.testBit (if vneg then 1 else 0) = true := by
  unfold Pod.uvloOn
  cases vneg
  case false =>
    have hbit : ((p.gbit 0 true).abortCal t).st.gstat.testBit 0 = true := by rw [Pod.abortCal_gstat, Pod.gbit_self]
    simp only [Bool.false_eq_true, if_false]
    split
    · rw [Pod.trip_gstat, hbit]
    · exact hbit
  case true =>
    simp only [if_true]
    split
    · rw [Pod.trip_gstat, Pod.gbit_self]
    · exact Pod.gbit_self ..

theorem Pod.hvUp_phases (p : Pod) (vp vn : Int) (mid t : Nat) : (p.hvUp vp vn mid t).st.hvOn = true ∧
    (p.hvUp vp vn mid t).vpos = vp ∧ (p.hvUp vp vn mid t).vneg = vn ∧ (p.hvUp vp vn mid t).st.gIn.phase = .staticClamp ∧
    (p.hvUp vp vn mid t).st.gOut.phase = .staticClamp := by
  unfold Pod.hvUp
  dsimp only
  split <;> exact ⟨rfl, rfl, rfl, rfl, rfl⟩

theorem Pod.hvDown_phases (p : Pod) (t : Nat) : (p.hvDown t).st.hvOn = false ∧ (p.hvDown t).st.gIn.phase = .depletion ∧
    (p.hvDown t).st.gOut.phase = .depletion := ⟨rfl, rfl, rfl⟩

/-- Settles O1. -/
theorem gateSupplyEvents : Obligations.GateSupplyEvents := by
  refine ⟨fun c vneg mv since t s hv hmv ht => ⟨_, rfl, ?_⟩, fun c vneg mv since t s hv hmv ht => ⟨_, rfl, ?_⟩,
    fun c t s hv => ⟨_, rfl, ?_⟩, fun c vp vn mid t s hpod hv hvolt => ⟨_, rfl, ?_⟩, fun c t s hv => ⟨_, rfl, ?_⟩⟩
  · have hlow : uvloLow vneg mv = true := by cases vneg <;> simpa [uvloLow] using hmv
    rw [State.podEvent_pod _ _ _ _ _ (by simp [hv, hlow, ht])]
    exact Pod.uvloOn_gstat ..
  · have hgood : uvloGood vneg mv = true := by cases vneg <;> simpa [uvloGood] using hmv
    rw [State.podEvent_pod _ _ _ _ _ (by simp [hv, hgood, ht])]
    exact Pod.gbit_self ..
  · rw [State.podEvent_pod _ _ _ _ _ hv]
  · rw [State.podEvent_pod _ _ _ _ _ (by simp [hpod, hv, hvolt])]
    exact Pod.hvUp_phases ..
  · rw [State.podEvent_pod _ _ _ _ _ hv]
    exact Pod.hvDown_phases ..

end Sys2Proof.Machine

/-! # Samples (chapter 9)

An event inside a tick first takes in the conversions delivered by its instant, `Pod.upTo`. That moves the converters, the metering and
the latest samples of the pod; `Pod.unsampled` is the pod without them, and stays. -/

namespace Sys2Proof.Machine

/-- A pod without what its conversions move: converters, metering, start energy, samples, and the count of aborted conversions. -/
def Pod.unsampled (p : Pod) : Pod :=
  { p with adc := {}, mtr := {}, energy := 0, vdsHigh := false, vonLow := false,
           st := { p.st with meas := {}, counts := { p.st.counts with aborts := 0 } } }

theorem Pod.ite_unsampled (c : Prop) [Decidable c] (p q : Pod) :
    (if c then p else q).unsampled = if c then p.unsampled else q.unsampled := apply_ite ..

theorem Pod.fresh_unsampled (p : Pod) (cv : Conv) (code : Int) : (p.fresh cv code).unsampled = p.unsampled := rfl

theorem Pod.takeShunt_unsampled (p : Pod) (cv : Conv) (v : Int) (ok : Bool) : (p.takeShunt cv v ok).unsampled = p.unsampled := by
  unfold Pod.takeShunt
  dsimp only
  repeat' split
  all_goals rfl

theorem Pod.takeInt_unsampled (p : Pod) (cv : Conv) (v : Int) (ok : Bool) : (p.takeInt cv v ok).unsampled = p.unsampled := by
  unfold Pod.takeInt
  dsimp only
  rw [Pod.ite_unsampled]
  exact ite_self _

theorem Pod.takeWord_unsampled (p : Pod) (cv : Conv) (w : Nat) : (p.takeWord cv w).unsampled = p.unsampled := by
  unfold Pod.takeWord
  split <;> rfl

theorem Pod.average_unsampled (p : Pod) (src : Source) (v : Int) (f t : Nat) : (p.average src v f t).unsampled = p.unsampled := by
  unfold Pod.average
  dsimp only
  rw [Pod.ite_unsampled]
  exact ite_self _

theorem Pod.takeIn_unsampled (p : Pod) (next : Option (Int × Nat)) (cv : Conv) : (p.takeIn next cv).unsampled = p.unsampled := by
  unfold Pod.takeIn
  lift_lets
  extract_lets q adc settle valid code node value ovr flags st counts aborted fresh worded ntc taken
  have hq : q.unsampled = p.unsampled := rfl
  have haborted : aborted.unsampled = q.unsampled := by
    unfold aborted
    repeat' split
    all_goals rfl
  have hfresh : fresh.unsampled = aborted.unsampled := by
    unfold fresh
    split
    · exact Pod.fresh_unsampled ..
    · rfl
  have hworded : worded.unsampled = fresh.unsampled := Pod.takeWord_unsampled ..
  have htaken : taken.unsampled = worded.unsampled := by
    unfold taken
    split
    · split <;> rfl
    · exact Pod.takeShunt_unsampled ..
    · split
      · rfl
      · exact Pod.takeInt_unsampled ..
    · rfl
  split
  · rfl
  · rw [← hq, ← haborted, ← hfresh, ← hworded, ← htaken]
    split
    · exact Pod.average_unsampled ..
    · rfl

theorem Pod.takeConv_unsampled (p : Pod) (next : Option (Int × Nat)) (cv : Conv) :
    (p.takeConv next cv).unsampled = p.unsampled :=
  congrArg (fun q : Pod => { q with params := p.params }) (Pod.takeIn_unsampled _ next cv)

theorem Pod.deliver_unsampled (b : Nat) (l : List Conv) (p : Pod) : (Pod.deliver b l p).unsampled = p.unsampled := by
  induction l generalizing p with
  | nil => rfl
  | cons c l ih =>
    unfold Pod.deliver
    split
    · rw [ih, Pod.takeConv_unsampled]
    · rfl

theorem Pod.freshTick_unsampled (p : Pod) : p.freshTick.unsampled = p.unsampled := by
  unfold Pod.freshTick
  split <;> rfl

/-- Conversions move nothing of a pod but what they sample. -/
theorem Pod.upTo_unsampled (p : Pod) (ic vc : List Raw) (t : Nat) : (p.upTo ic vc t).unsampled = p.unsampled := by
  unfold Pod.upTo
  exact (Pod.deliver_unsampled ..).trans p.freshTick_unsampled

end Sys2Proof.Machine

/-! # Turn-on and turn-off of a stack (R74 to R91) -/

namespace Sys2Proof.Machine

@[simp] theorem Pod.gbit_coll (p : Pod) (i : Nat) (b : Bool) : (p.gbit i b).coll = p.coll := rfl

/-- A pod with a status bit set trips as it does without. -/
theorem Pod.trip_gbit {p : Pod} (h : p.canTrip = true) (i : Nat) (b : Bool) (k : Cause) (f : Profile) (t : Nat)
    (hk : raisedIn k p.st.ch = true) : newTrip p ((p.gbit i b).trip k f t) k t := by
  obtain ⟨⟨habsent, hopen⟩, hrun⟩ := p.canTrip_iff.mp h
  exact Pod.trip_newTrip p (p.gbit i b) k f t rfl rfl habsent rfl hopen (ChState.running_not_latched hrun) hk

/-- The causes of a turn-on that fails are raised in every running state (R226). -/
theorem raisedIn_of_running {ch : ChState} (h : ch.running = true) : raisedIn .gateUvlo ch = true ∧
    ∀ x : Side, raisedIn (desatOf x) ch = true := ⟨h, fun x => by cases x <;> exact h⟩

/-- Settles O2. -/
theorem turnOnEvents : Obligations.TurnOnEvents := by
  refine ⟨fun c ic vc t s hv hwait hbusy hcan => ⟨_, rfl, ?_⟩, fun c a ic vc t s hv hwait hfree hcan => ⟨_, rfl, ?_⟩,
    fun c x t s hdone => ⟨_, rfl, ?_⟩, fun c x t s hphase hexp htrip => ⟨_, rfl, ?_⟩, fun c x t s hphase hexp htrip => ⟨_, rfl, ?_⟩⟩
  · rw [State.podEvent_pod _ _ _ _ _ (by simp [hv, hwait, hcan, hbusy])]
    have hon := Pod.turnOnWhole_onPart ((s.pod c).upTo ic vc (max s.now t)) (max s.now t)
    simp only [Pod.onPart, Prod.mk.injEq] at hon
    exact hon
  · rw [State.podEvent_pod _ _ _ _ _ (by simp [hv, hwait, hcan, hfree])]
    rw [hwait]
    exact Pod.turnOn_waitOn ..
  · rw [State.podEvent_pod _ _ _ _ _ hdone, Pod.toStaticHold_gate]
    exact ⟨rfl, rfl⟩
  · obtain ⟨hraised, -⟩ := raisedIn_of_running ((s.pod c).canTrip_iff.mp htrip).2
    rw [State.podEvent_pod _ _ _ _ _ (by simpa [hexp] using hphase)]
    exact ⟨by rw [Pod.trip_gstat, Pod.gbit_self], (Pod.trip_gbit htrip _ _ _ _ _ hraised).1⟩
  · obtain ⟨-, hraised⟩ := raisedIn_of_running ((s.pod c).canTrip_iff.mp htrip).2
    rw [State.podEvent_pod _ _ _ _ _ (by simp [hphase, hexp])]
    refine ⟨by rw [Pod.trip_gstat, Pod.gbit_self], fun hin => ?_⟩
    have htie : ((s.pod c).st.gIn.phase == .slewOn) = false := by simpa using hin
    dsimp only
    rw [htie]
    exact (Pod.trip_gbit htrip _ _ _ _ _ (hraised x)).1

/-! ## Levels -/

theorem Pod.level_of_slewOn {p : Pod} {x : Side} {mv : Int} (t : Nat) (hphase : (p.gate x).phase = .slewOn) (hend : (p.gate x).endMv ≤ mv) :
    p.level x mv t = (p.setGate x { p.gate x with mv := mv }).strongHold x t := by
  unfold Pod.level
  simp [hphase, hend]

theorem Pod.level_of_slewOff {p : Pod} {x : Side} {mv : Int} (t : Nat) (hphase : (p.gate x).phase = .slewOff) (hend : mv ≤ (p.gate x).endMv) :
    p.level x mv t = (p.setGate x { p.gate x with mv := mv }).strongClamp x t := by
  unfold Pod.level
  simp [hphase, hend]

theorem Pod.setGate_fullOnMv (p : Pod) (x : Side) (g : Gate) : (p.setGate x g).fullOnMv = p.fullOnMv := by cases x <;> rfl

theorem Pod.level_of_staticHold {p : Pod} {x : Side} {mv : Int} (t : Nat) (hphase : (p.gate x).phase = .staticHold)
    (hlow : mv < p.fullOnMv) : p.level x mv t = (p.setGate x { p.gate x with mv := mv }).pgLost := by
  unfold Pod.level
  simp [hphase, Pod.setGate_fullOnMv, hlow]

@[simp] theorem Pod.strongClamp_gstat (p : Pod) (x : Side) (t : Nat) : (p.strongClamp x t).st.gstat = p.st.gstat := by
  unfold Pod.strongClamp
  simp

/-- A strong CLAMP that fails shows in the gate-fault bit of its side (R87, R98). -/
theorem Pod.clampFault_gstat (p : Pod) (x : Side) (t : Nat) : (p.clampFault x t).st.gstat.testBit (faultBit x) = true := by
  have hbit : ((p.gbit (faultBit x) true).setGate x { p.gate x with limitAt := none }).st.gstat.testBit (faultBit x) = true := by
    rw [Pod.setGate_gstat, Pod.gbit_self]
  unfold Pod.clampFault
  dsimp only
  split
  · exact hbit
  · split
    · rw [Pod.trip_gstat]
      exact hbit
    · split <;> exact hbit

/-- Settles O3. -/
theorem turnOffEvents : Obligations.TurnOffEvents := by
  refine ⟨fun c x mv t s hv hphase hend => ⟨_, rfl, ?_⟩, fun c x mv t s hv hphase hend => ⟨_, rfl, ?_⟩,
    fun c x mv t s hv hphase hlow => ⟨_, rfl, ?_⟩, fun c x t s hdone => ⟨_, rfl, ?_⟩, fun c x t s hphase hexp => ⟨_, rfl, ?_⟩,
    fun c x t s hphase hexp => ⟨_, rfl, ?_⟩⟩
  · rw [State.podEvent_pod _ _ _ _ _ hv, Pod.level_of_slewOn _ hphase hend, Pod.strongHold_gate]
    exact ⟨rfl, by simp [Gate.enter]⟩
  · rw [State.podEvent_pod _ _ _ _ _ hv, Pod.level_of_slewOff _ hphase hend, Pod.strongClamp_gate]
    exact ⟨rfl, rfl⟩
  · rw [State.podEvent_pod _ _ _ _ _ hv, Pod.level_of_staticHold _ hphase hlow]
    rfl
  · rw [State.podEvent_pod _ _ _ _ _ hdone, Pod.clampEntered_gate]
    exact ⟨rfl, rfl, rfl⟩
  · rw [State.podEvent_pod _ _ _ _ _ (by simpa [hexp] using hphase), Pod.strongClamp_gstat, Pod.gbit_self, Pod.strongClamp_gate]
    exact ⟨rfl, rfl⟩
  · rw [State.podEvent_pod _ _ _ _ _ (by simp [hphase, hexp])]
    exact Pod.clampFault_gstat ..

end Sys2Proof.Machine

/-! # Protection in the pod (chapter 6) -/

namespace Sys2Proof.Machine

/-! ## Trips of a pod that a comparator has reached -/

/-- A crossing moves the senses of the comparators and nothing else. -/
theorem Pod.crossed_eq (p : Pod) (k : PodCmp) :
    ∃ out capt, p.crossed k = { p with st := { p.st with prot := { p.st.prot with cmpOut := out, cmpCapt := capt } } } := by
  unfold Pod.crossed
  split
  · exact ⟨_, _, rfl⟩
  · exact ⟨_, _, rfl⟩

/-- A member that acts voids the test of its partner and moves nothing else. -/
theorem Pod.acted_eq (p : Pod) (k : PodCmp) : ∃ b, p.acted k = { p with tests := { p.tests with partnerActed := b } } := by
  unfold Pod.acted
  split
  · exact ⟨_, rfl⟩
  · exact ⟨p.tests.partnerActed, rfl⟩

/-- A pod `q` that has the trip, the collection and the channel state of `p` trips as `p` can. -/
theorem Pod.newTrip_of_canTrip {p : Pod} (h : p.canTrip = true) (q : Pod) (k : Cause) (f : Profile) (t : Nat)
    (hq : (q.coll, q.st.ch, q.absentDue, q.st.trip) = (p.coll, p.st.ch, p.absentDue, p.st.trip)) (hk : raisedIn k p.st.ch = true) :
    newTrip p (q.trip k f t) k t := by
  simp only [Prod.mk.injEq] at hq
  obtain ⟨hcoll, hch, habsent, htrip⟩ := hq
  obtain ⟨⟨hseat, hopen⟩, hrun⟩ := p.canTrip_iff.mp h
  exact Pod.trip_newTrip p q k f t hcoll hch (habsent.trans hseat) htrip hopen (ChState.running_not_latched hrun) hk

theorem Pod.running_of_canTrip {p : Pod} (h : p.canTrip = true) : p.st.ch.running = true := (p.canTrip_iff.mp h).2

/-- A running channel that is not STARTING is ON or LIMITING. -/
theorem ChState.on_or_limiting {ch : ChState} (hrun : ch.running = true) (hstart : ch ≠ .starting) : ch = .on ∨ ch = .limiting := by
  cases ch
  case starting => exact absurd rfl hstart
  all_goals simp [ChState.running] at hrun
  case on => exact .inl rfl
  case limiting => exact .inr rfl

theorem Pod.endBlank_blank (p : Pod) (x : Side) : (p.endBlank x).blank x = none := by cases x <;> rfl

/-- Settles O4. -/
theorem fastTripsRecordTheirCause : Obligations.FastTripsRecordTheirCause := by
  refine ⟨fun c t s hv htrip hmask => ⟨_, rfl, ?_⟩, fun c b since t s hv htrip hmask hfilter => ⟨_, rfl, ?_⟩,
    fun c since t s hv htrip hen hout hor hmask hfilter => ⟨_, rfl, ?_⟩, fun c x since t s hv htrip harmed hhold hfilter => ⟨_, rfl, ?_⟩,
    fun c since t s hv htrip hsense hfilter => ⟨_, rfl, ?_⟩, fun c since t s hv htrip hstart huv hsense hfilter => ⟨_, rfl, ?_⟩,
    fun c t s hv htrip => ⟨_, rfl, ?_⟩, fun c x t b s hhold hblank hdue => ⟨_, rfl, ?_⟩⟩
  · rw [State.podEvent_pod _ _ _ _ _ (by simp [Pod.guarded, hv, hmask])]
    obtain ⟨_, _, hcross⟩ := (s.pod c).crossed_eq .sc2
    exact Pod.newTrip_of_canTrip htrip _ _ _ _ (by rw [hcross]) (Pod.running_of_canTrip htrip)
  · rw [State.podEvent_pod _ _ _ _ _ (by simp [Pod.guarded, hv, sc1Of, hmask, filterDone, hfilter])]
    obtain ⟨_, _, hcross⟩ := (s.pod c).crossed_eq (sc1Of b)
    obtain ⟨_, hacted⟩ := ((s.pod c).crossed (sc1Of b)).acted_eq (sc1Of b)
    exact Pod.newTrip_of_canTrip htrip _ _ _ _ (by rw [hacted, hcross]) (Pod.running_of_canTrip htrip)
  · rw [State.podEvent_pod _ _ _ _ _ (by simp [Pod.guarded, hv, hmask, filterDone, hfilter])]
    obtain ⟨_, _, hcross⟩ := (s.pod c).crossed_eq .rev
    dsimp only
    rw [hcross, if_pos]
    · exact Pod.newTrip_of_canTrip htrip _ _ _ _ rfl (Pod.running_of_canTrip htrip)
    · simpa [hor, hen] using ⟨hen, hout⟩
  · rw [State.podEvent_pod _ _ _ _ _ (by simp [Pod.guarded, hv, filterDone, hfilter])]
    obtain ⟨_, _, hcross⟩ := (s.pod c).crossed_eq (dsCmp x)
    dsimp only
    rw [hcross, if_pos]
    · exact Pod.newTrip_of_canTrip htrip _ _ _ _ rfl ((raisedIn_of_running (Pod.running_of_canTrip htrip)).2 x)
    · cases x <;> exact (Bool.and_eq_true ..).mpr ⟨harmed, hhold⟩
  · rw [State.podEvent_pod _ _ _ _ _ (by simpa [Pod.guarded, hv, filterDone, hfilter] using hsense)]
    obtain ⟨_, _, hcross⟩ := (s.pod c).crossed_eq .buswOv
    dsimp only
    rw [hcross, if_pos (Pod.running_of_canTrip htrip)]
    exact Pod.newTrip_of_canTrip htrip _ _ _ _ rfl (Pod.running_of_canTrip htrip)
  · rw [State.podEvent_pod _ _ _ _ _ (by simpa [Pod.guarded, hv, filterDone, hfilter] using hsense)]
    obtain ⟨_, _, hcross⟩ := (s.pod c).crossed_eq .buswUv
    have hch := ChState.on_or_limiting (Pod.running_of_canTrip htrip) hstart
    dsimp only
    rw [hcross, if_pos (by simpa [huv] using hch)]
    exact Pod.newTrip_of_canTrip htrip _ _ _ _ rfl (by simpa [raisedIn] using hch)
  · rw [State.podEvent_pod _ _ _ _ _ hv]
    exact Pod.newTrip_of_canTrip htrip _ _ _ _ rfl (by simp [raisedIn, Pod.running_of_canTrip htrip])
  · rw [State.podEvent_pod _ _ _ _ _ (by simp [hhold, hblank, hdue])]
    exact ⟨testBit_setBit_self .., by rw [← Pod.endBlank_blank (s.pod c) x]; cases x <;> rfl⟩

end Sys2Proof.Machine

/-! # Current limit, fault timer, thermal checks (R183 to R209) -/

namespace Sys2Proof.Machine

/-! ## Current limit -/

/-- The side that a current of this sign lets block: IN, but OUT for a negative one outside an engine (R84, R268). -/
def Pod.limitSide (p : Pod) (negative : Bool) : Side := if negative && p.orTarget.isNone then .outS else .inS

theorem Pod.pgLost_gate (p : Pod) (x : Side) : p.pgLost.gate x = p.gate x := by cases x <;> rfl

/-- What an entry into current limit leaves. -/
theorem Pod.limitEntry_of_count {p : Pod} (negative : Bool) (t : Nat) (hcount : p.prm OD.CH_FT_COUNT ≠ 0) :
    (p.limitEntry negative t).limited = some (p.limitSide negative) ∧
    ((p.limitEntry negative t).gate (p.limitSide negative)).phase = .regulated ∧
    (p.limitEntry negative t).periodAt = t / 1000 * 1000 + p.ftPeriod ∧
    (p.limitEntry negative t).st.counts.limits = p.st.counts.limits + 1 := by
  unfold Pod.limitEntry Pod.limitSide
  dsimp only
  split
  case isTrue h => exact absurd h hcount
  case isFalse => cases negative && p.orTarget.isNone <;> exact ⟨rfl, rfl, rfl, rfl⟩

/-- The trip of the fault timer of a running channel. -/
theorem Pod.limitTrip_newTrip {p q : Pod} (h : p.canTrip = true) (t : Nat)
    (hq : (q.coll, q.st.ch, q.absentDue, q.st.trip) = (p.coll, p.st.ch, p.absentDue, p.st.trip)) :
    newTrip p (q.limitTrip t) .limitTimeout t := by
  simp only [Prod.mk.injEq] at hq
  obtain ⟨hcoll, hch, habsent, htrip⟩ := hq
  obtain ⟨⟨hseat, hopen⟩, hrun⟩ := p.canTrip_iff.mp h
  unfold Pod.limitTrip
  rw [hch, if_pos hrun]
  exact Pod.limit_newTrip p q t hcoll (habsent.trans hseat) htrip hopen

/-- An entry with a count of 0 trips at once (R191). -/
theorem Pod.limitEntry_newTrip {p q : Pod} (h : p.canTrip = true) (negative : Bool) (t : Nat)
    (hq : (q.coll, q.st.ch, q.absentDue, q.st.trip) = (p.coll, p.st.ch, p.absentDue, p.st.trip)) (hcount : q.prm OD.CH_FT_COUNT = 0) :
    newTrip p (q.limitEntry negative t) .limitTimeout t := by
  unfold Pod.limitEntry
  dsimp only
  split
  case isTrue => exact Pod.limitTrip_newTrip h t hq
  case isFalse hno => exact absurd hcount hno

/-! ## The count period -/

/-- A period that ends in LIMITING below the count, with no end of the limit qualified. -/
theorem Pod.periodEnd_of_below {p : Pod} {x : Side} {t : Nat} (hrun : p.st.ch.running = true) (hends : p.limitEnds = false)
    (hbelow : p.st.prot.ftAcc + (p.band x p.periodFrom t).2 < p.prmSince p.periodFrom OD.CH_FT_COUNT) :
    (p.periodEnd x t).st.prot.ftAcc = p.st.prot.ftAcc + (p.band x p.periodFrom t).2 ∧
    (p.periodEnd x t).periodAt = p.periodAt + p.ftPeriod := by
  unfold Pod.periodEnd
  dsimp only
  rw [if_pos hrun, if_neg (by simp [Nat.not_le.mpr hbelow]), if_neg (by simp [hends])]
  exact ⟨rfl, rfl⟩

/-- A period that ends outside LIMITING adds nothing. -/
theorem Pod.periodEnd_of_idle {p : Pod} {x : Side} {t : Nat} (hrun : p.st.ch.running = false) (hends : p.limitEnds = false) :
    (p.periodEnd x t).st.prot.ftAcc = p.st.prot.ftAcc ∧ (p.periodEnd x t).periodAt = p.periodAt + p.ftPeriod := by
  unfold Pod.periodEnd
  dsimp only
  simp only [hrun, hends, Bool.false_and, Bool.false_eq_true, if_false, and_self]

/-- A period that reaches the count trips. -/
theorem Pod.periodEnd_newTrip {p q : Pod} {x : Side} {t : Nat} (h : p.canTrip = true)
    (hq : (q.coll, q.st.ch, q.absentDue, q.st.trip) = (p.coll, p.st.ch, p.absentDue, p.st.trip))
    (hcount : q.prmSince q.periodFrom OD.CH_FT_COUNT ≤ q.st.prot.ftAcc + (q.band x q.periodFrom t).2) :
    newTrip p (q.periodEnd x t) .limitTimeout t := by
  have hrun : q.st.ch.running = true := by rw [(Prod.mk.inj (Prod.mk.inj hq).2).1]; exact Pod.running_of_canTrip h
  unfold Pod.periodEnd
  dsimp only
  rw [if_pos hrun, if_pos (by simp [hrun, hcount])]
  exact Pod.limitTrip_newTrip h t hq

/-- Conversions taken in up to an instant leave the fault timer, the limit and the trip of a pod alone. -/
theorem Pod.upTo_limit (p : Pod) (ic vc : List Raw) (t : Nat) :
    (p.upTo ic vc t).limited = p.limited ∧ (p.upTo ic vc t).limitEnds = p.limitEnds ∧ (p.upTo ic vc t).periodFrom = p.periodFrom ∧
    (p.upTo ic vc t).periodAt = p.periodAt ∧ (p.upTo ic vc t).ftPeriod = p.ftPeriod ∧
    (p.upTo ic vc t).st.prot = p.st.prot ∧
    ∀ n, (p.upTo ic vc t).prmSince n OD.CH_FT_COUNT = p.prmSince n OD.CH_FT_COUNT := by
  have h := p.upTo_unsampled ic vc t
  exact ⟨congrArg (·.limited) h, congrArg (·.limitEnds) h, congrArg (·.periodFrom) h, congrArg (·.periodAt) h,
    (congrArg Pod.ftPeriod h :), congrArg (·.st.prot) h, fun n => (congrArg (fun q : Pod => q.prmSince n OD.CH_FT_COUNT) h :)⟩

theorem Pod.upTo_prm (p : Pod) (ic vc : List Raw) (t : Nat) (o : Obj) : (p.upTo ic vc t).prm o = p.prm o :=
  (congrArg (fun q : Pod => q.prm o) (p.upTo_unsampled ic vc t) :)

theorem Pod.upTo_trip (p : Pod) (ic vc : List Raw) (t : Nat) :
    ((p.upTo ic vc t).coll, (p.upTo ic vc t).st.ch, (p.upTo ic vc t).absentDue, (p.upTo ic vc t).st.trip) =
      (p.coll, p.st.ch, p.absentDue, p.st.trip) :=
  (congrArg (fun q : Pod => (q.coll, q.st.ch, q.absentDue, q.st.trip)) (p.upTo_unsampled ic vc t) :)

/-- The end of a count period of a pod in current limit. -/
theorem exec_faultTimerPeriodEnd_of_limited {c : Chan} {x : Side} {t : Nat} {s : State} (ic vc : List Raw)
    (hlim : (s.pod c).limited = some x) (hdue : (s.pod c).periodAt ≤ max s.now t) :
    ∃ u, exec (.faultTimerPeriodEnd c ic vc t) s = .next u ∧
      u.pod c = ((s.pod c).upTo ic vc (max s.now t)).periodEnd x (max s.now t) := by
  refine ⟨_, rfl, ?_⟩
  obtain ⟨hlimited, -⟩ := (s.pod c).upTo_limit ic vc (max s.now t)
  rw [State.podEvent_pod _ _ _ _ _ (by simp [hlim, hdue])]
  dsimp only
  rw [hlimited, hlim]

/-- Settles O5. -/
theorem currentLimitAndFaultTimer : Obligations.CurrentLimitAndFaultTimer := by
  refine ⟨fun c b neg t s hv hmask hlim hoff harms hcount => ⟨_, rfl, ?_⟩,
    fun c b neg t s hv htrip hmask hlim hoff harms hcount => ⟨_, rfl, ?_⟩, fun c t f s hlim hexit hfilter => ⟨_, rfl, ?_⟩,
    fun c x ic vc t w s hlim hdue hrun hends hw hbelow => ?_, fun c x ic vc t s hlim hdue hrun hends => ?_,
    fun c x ic vc t w s hlim hdue htrip hw hcount => ?_⟩
  · rw [State.podEvent_pod _ _ _ _ _ (by simp [Pod.guarded, hv, oclOf, hmask])]
    obtain ⟨_, _, hcross⟩ := (s.pod c).crossed_eq (oclOf b)
    obtain ⟨_, hacted⟩ := ((s.pod c).crossed (oclOf b)).acted_eq (oclOf b)
    dsimp only
    rw [hacted, hcross, if_pos (by simpa [hoff] using harms), if_pos (by simp [hlim])]
    exact Pod.limitEntry_of_count neg _ hcount
  · rw [State.podEvent_pod _ _ _ _ _ (by simp [Pod.guarded, hv, oclOf, hmask])]
    obtain ⟨_, _, hcross⟩ := (s.pod c).crossed_eq (oclOf b)
    obtain ⟨_, hacted⟩ := ((s.pod c).crossed (oclOf b)).acted_eq (oclOf b)
    dsimp only
    rw [hacted, hcross, if_pos (by simpa [hoff] using harms), if_pos (by simp [hlim])]
    exact Pod.limitEntry_newTrip htrip neg _ rfl hcount
  · rw [State.podEvent_pod _ _ _ _ _ (by simp [hlim, hexit, filterDone, hfilter])]
  · obtain ⟨u, hexec, hpod⟩ := exec_faultTimerPeriodEnd_of_limited ic vc hlim hdue
    obtain ⟨-, hends', hfrom, hat, hperiod, hprot, hprm⟩ := (s.pod c).upTo_limit ic vc (max s.now t)
    refine ⟨u, hexec, ?_⟩
    rw [hpod, hw, ← hat, ← hperiod, ← hprot, ← hfrom]
    rw [hw, ← hprot, ← hprm, ← hfrom] at hbelow
    exact Pod.periodEnd_of_below (by simpa [(Prod.mk.inj (Prod.mk.inj ((s.pod c).upTo_trip ic vc (max s.now t))).2).1] using hrun)
      (hends'.trans hends) hbelow
  · obtain ⟨u, hexec, hpod⟩ := exec_faultTimerPeriodEnd_of_limited ic vc hlim hdue
    obtain ⟨-, hends', -, hat, hperiod, hprot, -⟩ := (s.pod c).upTo_limit ic vc (max s.now t)
    refine ⟨u, hexec, ?_⟩
    rw [hpod, ← hat, ← hperiod, ← hprot]
    exact Pod.periodEnd_of_idle (by simpa [(Prod.mk.inj (Prod.mk.inj ((s.pod c).upTo_trip ic vc (max s.now t))).2).1] using hrun)
      (hends'.trans hends)
  · obtain ⟨u, hexec, hpod⟩ := exec_faultTimerPeriodEnd_of_limited ic vc hlim hdue
    obtain ⟨-, -, hfrom, -, -, hprot, hprm⟩ := (s.pod c).upTo_limit ic vc (max s.now t)
    refine ⟨u, hexec, ?_⟩
    rw [hpod]
    rw [hw, ← hprot, ← hprm, ← hfrom] at hcount
    exact Pod.periodEnd_newTrip htrip ((s.pod c).upTo_trip ic vc _) hcount

/-! ## Thermal evaluation and output present -/

/-- The tests of a pod without the member under online test and the rest of its round, which every turn-off drops. -/
def Pod.benchTests (p : Pod) : PodTests := { p.tests with member := none, onlineLeft := [] }

@[simp] theorem Pod.setGate_benchTests (p : Pod) (x : Side) (g : Gate) : (p.setGate x g).benchTests = p.benchTests := by cases x <;> rfl
@[simp] theorem Pod.endBlank_benchTests (p : Pod) (x : Side) : (p.endBlank x).benchTests = p.benchTests := by cases x <;> rfl
@[simp] theorem Pod.strongClamp_benchTests (p : Pod) (x : Side) (t : Nat) : (p.strongClamp x t).benchTests = p.benchTests :=
  Pod.setGate_benchTests ..
@[simp] theorem Pod.slewOff_benchTests (p : Pod) (x : Side) (t : Nat) (l : Option Nat) (ma : Nat) :
    (p.slewOff x t l ma).benchTests = p.benchTests := by
  unfold Pod.slewOff
  dsimp only
  split
  · exact Pod.strongClamp_benchTests ..
  · exact Pod.setGate_benchTests ..
@[simp] theorem Pod.afterDump_benchTests (p : Pod) (x : Side) (t : Nat) : (p.afterDump x t).benchTests = p.benchTests := by
  unfold Pod.afterDump
  split
  · exact Pod.strongClamp_benchTests ..
  · exact Pod.slewOff_benchTests ..
@[simp] theorem Pod.dump_benchTests (p : Pod) (x : Side) (t : Nat) (l : Option Nat) : (p.dump x t l).benchTests = p.benchTests := by
  unfold Pod.dump
  dsimp only
  split
  · rw [Pod.afterDump_benchTests, Pod.setGate_benchTests]
  · exact Pod.setGate_benchTests ..
@[simp] theorem Pod.sideOff_benchTests (p : Pod) (x : Side) (f : Profile) (t : Nat) : (p.sideOff x f t).benchTests = p.benchTests := by
  unfold Pod.sideOff
  dsimp only
  repeat' split
  all_goals simp
@[simp] theorem Pod.restOff_benchTests (p : Pod) (x : Side) (f : Profile) (t : Nat) : (p.restOff x f t).benchTests = p.benchTests := by
  unfold Pod.restOff
  split
  · rfl
  · exact Pod.sideOff_benchTests ..
@[simp] theorem Pod.off_benchTests (p : Pod) (f : Profile) (t : Nat) : (p.off f t).benchTests = p.benchTests := by
  have htests (q : Pod) (h : q.tests = { p.tests with member := none, onlineLeft := [] }) : q.benchTests = p.benchTests := by
    unfold Pod.benchTests
    rw [h]
  unfold Pod.off
  dsimp only
  split
  · exact htests _ rfl
  · repeat' split
    all_goals simp only [Pod.sideOff_benchTests, Pod.restOff_benchTests]
    all_goals exact htests _ rfl
@[simp] theorem Pod.trigger_benchTests (p : Pod) (f : Profile) (t : Nat) : (p.trigger f t).benchTests = p.benchTests := by
  unfold Pod.trigger
  split
  · rfl
  · exact Pod.off_benchTests ..
@[simp] theorem Pod.joinTrip_benchTests (p : Pod) (k : Cause) (f : Profile) (t : Nat) : (p.joinTrip k f t).benchTests = p.benchTests :=
  Pod.off_benchTests ..
@[simp] theorem Pod.tripAway_benchTests (p : Pod) (k : Cause) (f : Profile) (t : Nat) : (p.tripAway k f t).benchTests = p.benchTests := by
  unfold Pod.tripAway
  split
  · split
    · exact Pod.off_benchTests ..
    · split
      · exact Pod.joinTrip_benchTests ..
      · exact Pod.off_benchTests ..
  · exact Pod.trigger_benchTests ..
@[simp] theorem Pod.trip_benchTests (p : Pod) (k : Cause) (f : Profile) (t : Nat) : (p.trip k f t).benchTests = p.benchTests := by
  unfold Pod.trip
  split
  · exact Pod.tripAway_benchTests ..
  · split
    · exact Pod.joinTrip_benchTests ..
    · split
      · split
        · exact Pod.trigger_benchTests ..
        · exact Pod.trigger_benchTests ..
      · split
        · exact Pod.off_benchTests ..
        · exact Pod.trigger_benchTests ..

/-- A trip leaves the instant of the last thermal evaluation alone. -/
theorem Pod.trip_thermAt (p : Pod) (k : Cause) (f : Profile) (t : Nat) : (p.trip k f t).tests.thermAt = p.tests.thermAt :=
  (congrArg PodTests.thermAt (p.trip_benchTests k f t) :)

theorem Pod.thermalTrip_thermAt (p : Pod) (t : Nat) : (p.thermalTrip t).tests.thermAt = p.tests.thermAt := by
  unfold Pod.thermalTrip
  split
  · exact Pod.trip_thermAt ..
  · rfl

theorem Pod.thermalTrip_still (p : Pod) (t : Nat) : (p.thermalTrip t).still = p.still := by
  unfold Pod.thermalTrip
  split
  · exact Pod.trip_still ..
  · rfl

/-- The evaluation of a millisecond with valid conversions (R203). -/
theorem Pod.thermal_of_conversions {p : Pod} (t : Nat) (h : 0 < p.adc.ntcN) : (p.thermal t).tests.thermAt = t ∧
    (p.thermal t).st.meas.tempStack = ntcTemp p.adc.ntcSum p.adc.ntcN (p.prm OD.CH_NTC_R25) (p.prm OD.CH_NTC_BETA) ∧
    (p.thermal t).adc.ntcN = 0 := by
  have hread : p.readNtc.1 = ntcTemp p.adc.ntcSum p.adc.ntcN (p.prm OD.CH_NTC_R25) (p.prm OD.CH_NTC_BETA) := by
    unfold Pod.readNtc
    rw [if_pos h]
  rw [← hread]
  unfold Pod.thermal
  extract_lets
  refine ⟨Pod.thermalTrip_thermAt .., ?_, ?_⟩
  · exact congrArg (fun x => x.2.2.2.2.1.tempStack) (Pod.thermalTrip_still ..)
  · exact congrArg (fun x => x.1.2.2.2.2.2.2.2.2.1.ntcN) (Pod.thermalTrip_still ..)

theorem Pod.trip_detail (p : Pod) (k : Cause) (f : Profile) (t : Nat) : (p.trip k f t).st.prot.detail = p.st.prot.detail :=
  congrArg (fun x => x.2.1.2.1) (Pod.trip_testPart p k f t)

@[simp] theorem Pod.detail_self (p : Pod) (i : Nat) (b : Bool) : (p.detail i b).st.prot.detail.testBit i = b := testBit_setBit_self ..

/-- A foreign output is noted and counted (R209). -/
theorem Pod.outputPresent_of_dead_input {p : Pod} (t : Nat) (h : p.st.meas.vin < (p.prm OD.CH_VOUTP : Int) * 100000) :
    (p.outputPresent t).st.prot.detail.testBit 4 = true ∧ (p.outputPresent t).st.counts.foreign = p.st.counts.foreign + 1 := by
  unfold Pod.outputPresent
  dsimp only
  split
  case isTrue hlive => exact absurd (Int.not_le.mpr h) (not_not_intro hlive)
  case isFalse => exact ⟨Pod.detail_self p 4 true, rfl⟩

/-- With a live input the OUT switch is damaged (R209). -/
theorem Pod.outputPresent_of_live_input {p q : Pod} (t : Nat) (hopen : p.coll.isOpen = false) (hoff : p.st.ch = .off)
    (hseat : p.absentDue = false) (hq : (q.coll, q.st.ch, q.absentDue, q.st.trip) = (p.coll, p.st.ch, p.absentDue, p.st.trip))
    (h : (q.prm OD.CH_VOUTP : Int) * 100000 ≤ q.st.meas.vin) :
    (q.outputPresent t).st.prot.detail.testBit 0 = true ∧ newTrip p (q.outputPresent t) .damagedOut t := by
  simp only [Prod.mk.injEq] at hq
  obtain ⟨hcoll, hch, habsent, htrip⟩ := hq
  unfold Pod.outputPresent
  dsimp only
  split
  case isTrue =>
    exact ⟨by rw [Pod.trip_detail, Pod.detail_self], Pod.trip_newTrip p _ _ _ _ hcoll hch (habsent.trans hseat) htrip hopen
      (by simp [hoff]) (by simp [hoff, raisedIn])⟩
  case isFalse hdead => exact absurd h hdead

/-- OUTPUT_PRESENT acts on the conversions delivered by its instant. -/
theorem exec_outputPresent_of_due {c : Chan} {t f : Nat} {s : State} (ic vc : List Raw) (harmed : (s.pod c).st.prot.outpArmed = true)
    (hnew : (s.pod c).tests.outpDone = false) (hfrom : (s.pod c).tests.outpFrom = some f) (hdue : f + 1000000 ≤ max s.now t) :
    ∃ u, exec (.outputPresent c ic vc t) s = .next u ∧
      u.pod c = ((s.pod c).upTo ic vc (max s.now t)).outputPresent (max s.now t) :=
  ⟨_, rfl, State.podEvent_pod _ _ _ _ _ (by simp [harmed, hnew, hfrom, hdue])⟩

/-- Settles O6. -/
theorem thermalAndOutputPresent : Obligations.ThermalAndOutputPresent := by
  refine ⟨fun c s hv hconv htick hdue => ⟨_, rfl, ?_⟩, fun c ic vc t f s harmed hnew hfrom hdue hvin => ?_,
    fun c ic vc t f s harmed hnew hfrom hdue hvin hopen hoff hseat => ?_⟩
  · rw [State.podEvent_pod _ _ _ _ _ (by simp [Pod.guarded, hv, tickNs, msNs, htick, hdue]), Nat.max_self]
    exact Pod.thermal_of_conversions s.now hconv
  · obtain ⟨u, hexec, hpod⟩ := exec_outputPresent_of_due ic vc harmed hnew hfrom hdue
    refine ⟨u, hexec, ?_⟩
    have hsame := (s.pod c).upTo_unsampled ic vc (max s.now t)
    have hforeign : _ = (s.pod c).st.counts.foreign := congrArg (·.st.counts.foreign) hsame
    rw [hpod, ← hforeign]
    exact Pod.outputPresent_of_dead_input _ (by rwa [Pod.upTo_prm])
  · obtain ⟨u, hexec, hpod⟩ := exec_outputPresent_of_due ic vc harmed hnew hfrom hdue
    refine ⟨u, hexec, ?_⟩
    rw [hpod]
    exact Pod.outputPresent_of_live_input _ hopen hoff hseat ((s.pod c).upTo_trip ic vc _) (by rwa [Pod.upTo_prm])

end Sys2Proof.Machine

/-! # Tests of a pod (R210 to R219) -/

namespace Sys2Proof.Machine

/-- Pods with the same test part: the findings that the statements read. -/
theorem Pod.findings_of_testPart {p q : Pod} (h : q.testPart = p.testPart) :
    q.tests.confirmSide = p.tests.confirmSide ∧ q.tests.tieLeft = p.tests.tieLeft ∧ q.st.prot.suspect = p.st.prot.suspect ∧
    q.st.prot.detail = p.st.prot.detail ∧ q.st.prot.selftestFail = p.st.prot.selftestFail ∧
    q.st.prot.confirmDue = p.st.prot.confirmDue := by
  simp only [Pod.testPart, Prod.mk.injEq] at h
  obtain ⟨⟨-, hleft, hside, -, -⟩, ⟨hsuspect, hdetail, hfail, -, hdue, -, -⟩, -⟩ := h
  exact ⟨hside, hleft, hsuspect, hdetail, hfail, hdue⟩

/-! ## The stack test -/

/-- An urgent list that begins or is joined is among the lists of the pod, and has the request among its causes. -/
theorem Pod.startRun_runs (p : Pod) (u : Urgent) (t : Nat) : ∃ r ∈ (p.startRun u t).adc.runs, u ∈ r.causes := by
  have hnew (a : Nat) : ∃ r ∈ (p.newRun u a).adc.runs, u ∈ r.causes :=
    ⟨_, List.mem_append_right _ (List.mem_singleton_self _), List.mem_singleton_self _⟩
  unfold Pod.startRun
  dsimp only
  split
  · next r _ =>
    split
    · exact ⟨{ r with causes := r.causes ++ [u] }, List.mem_append_right _ (List.mem_singleton_self _),
        List.mem_append_right _ (List.mem_singleton_self _)⟩
    · exact hnew _
  · exact hnew _

theorem Pod.startRun_params (p : Pod) (u : Urgent) (t : Nat) : (p.startRun u t).params = p.params := by
  unfold Pod.startRun
  dsimp only
  repeat' split
  all_goals rfl

/-- A stack test that falls due finds neither CAL nor its load running. -/
theorem Pod.calFrom_of_stackDue {p : Pod} {t : Nat} (h : p.stackDue t = true) : p.adc.calFrom = none := by
  simp only [Pod.stackDue, Bool.and_eq_true] at h
  obtain ⟨⟨⟨⟨⟨⟨-, hsettled⟩, -⟩, -⟩, -⟩, -⟩, -⟩ := h
  simp only [Pod.settled, PodAdc.settled, Bool.and_eq_true, Option.isNone_iff_eq_none] at hsettled
  exact hsettled.1

theorem Pod.askUrgent_of_settled {p : Pod} (u : Urgent) (t : Nat) (h : p.adc.calFrom = none) : p.askUrgent u t = p.startRun u t := by
  unfold Pod.askUrgent
  rw [if_neg (by simp [h])]

/-! ## Tie tests -/

theorem Pod.testFailed_findings (p : Pod) (k : PodCmp) (t : Nat) : (p.testFailed k t).tests.tieLeft = p.tests.tieLeft ∧
    (p.testFailed k t).st.prot.selftestFail.testBit k.bit = true := by
  obtain ⟨-, hleft, -, -, hfail, -⟩ := Pod.findings_of_testPart
    (Pod.trip_testPart { p with st := { p.st with prot := { p.st.prot with selftestFail := setBit p.st.prot.selftestFail k.bit true } } }
      .selftestFail .normal t)
  exact ⟨hleft, by unfold Pod.testFailed; rw [hfail]; exact testBit_setBit_self ..⟩

theorem Pod.stackOver_findings (p : Pod) : p.stackOver.tests.confirmSide = p.tests.confirmSide ∧
    p.stackOver.tests.tieLeft = p.tests.tieLeft ∧ p.stackOver.st.prot = p.st.prot := by
  unfold Pod.stackOver
  split <;> exact ⟨rfl, rfl, rfl⟩

theorem Pod.tiesOver_findings (p : Pod) : p.tiesOver.tests.tieLeft = [] ∧ p.tiesOver.st.prot.selftestFail = p.st.prot.selftestFail := by
  unfold Pod.tiesOver
  dsimp only
  split
  · split
    · exact ⟨rfl, rfl⟩
    · obtain ⟨-, hleft, hprot⟩ := Pod.stackOver_findings
        { p with tests := { p.tests with tieLeft := [] },
                 st := { p.st with prot := { p.st.prot with tieRun := false, confirmDue := true } } }
      exact ⟨hleft, (congrArg ProtStatus.selftestFail hprot :)⟩
  · obtain ⟨-, hleft, hprot⟩ := Pod.stackOver_findings
      { p with tests := { p.tests with tieLeft := [] }, st := { p.st with prot := { p.st.prot with tieRun := false } } }
    exact ⟨hleft, (congrArg ProtStatus.selftestFail hprot :)⟩

/-- A tie test that passes leaves the others of its round. -/
theorem Pod.tieEnd_of_pass {p : Pod} (k : PodCmp) (t : Nat) (h : p.bothClamped = true) :
    (p.tieEnd k true t).tests.tieLeft = p.tests.tieLeft.erase k := by
  unfold Pod.tieEnd
  rw [if_pos h]
  dsimp only
  split
  case isTrue hempty => rw [(Pod.tiesOver_findings _).1, List.isEmpty_iff.mp hempty]
  case isFalse => rfl

/-- A tie test that fails sets the bit of its cell. -/
theorem Pod.tieEnd_of_fail {p : Pod} (k : PodCmp) (t : Nat) (h : p.bothClamped = true) :
    (p.tieEnd k false t).st.prot.selftestFail.testBit k.bit = true := by
  unfold Pod.tieEnd
  rw [if_pos h]
  dsimp only
  split
  · rw [(Pod.tiesOver_findings _).2]
    exact (Pod.testFailed_findings _ k t).2
  · exact (Pod.testFailed_findings _ k t).2

/-! ## Confirmation -/

/-- A side that is asked on turns on now or waits (R91, R96); the findings stay. -/
theorem Pod.askOn_side (p : Pod) (x : Side) (t : Nat) : (p.askOn (.side x) t).testPart = p.testPart ∧
    if p.canTurnOn (.side x) t then (p.askOn (.side x) t).tOnStart = t else (p.askOn (.side x) t).waitOn = some (.side x) := by
  unfold Pod.askOn
  dsimp only
  split
  case isTrue => exact ⟨Pod.turnOnSide_testPart .., (Pod.turnOn_waitOn p (.side x) t).2⟩
  case isFalse => exact ⟨rfl, rfl⟩

/-- The other side is asked on to confirm a suspect: it turns on now or waits (R211). -/
theorem Pod.confirm_of_suspect {p : Pod} {x : Side} (t : Nat) (h : p.st.prot.suspect = some x) :
    (p.confirm t).tests.confirmSide = some x.other ∧ (p.confirm t).st.prot.confirmDue = false ∧
    (if p.canTurnOn (.side x.other) t then (p.confirm t).tOnStart = t else (p.confirm t).waitOn = some (.side x.other)) := by
  unfold Pod.confirm
  rw [h]
  dsimp only
  obtain ⟨hpart, hon⟩ := Pod.askOn_side
    { p with tests := { p.tests with confirmSide := some x.other, confirmAsked := false, confirmCodes := none },
             st := { p.st with prot := { p.st.prot with confirmDue := false } } } x.other t
  obtain ⟨hside, -, -, -, -, hdue⟩ := Pod.findings_of_testPart hpart
  exact ⟨hside, hdue, hon⟩

/-- A finding that the second conversion settles: no suspect stays, and one that repeats is DAMAGED (R211, R213). -/
theorem Pod.judge_of_check {p : Pod} {x : Side} {vdi vdo : Int} {shorted : Bool} (t : Nat) (hcheck : p.nodeCheck vdi vdo = some (x, shorted))
    (hen : (p.prm OD.CH_DMG_EN).testBit 1 = true) (hclamp : (p.gate x).phase = .staticClamp) :
    (p.judge x vdi vdo t).tests.confirmSide = p.tests.confirmSide ∧ (p.judge x vdi vdo t).st.prot.suspect = none ∧
    (shorted = true → (p.judge x vdi vdo t).st.prot.detail.testBit (shortBit x) = true) := by
  unfold Pod.judge
  rw [hcheck]
  dsimp only
  rw [if_pos ⟨rfl, hen, hclamp⟩]
  split
  case isTrue =>
    obtain ⟨hside, -, hsuspect, hdetail, -⟩ := Pod.findings_of_testPart (Pod.trip_testPart
      (({ p with st := { p.st with prot := { p.st.prot with suspect := none } } }.detail 3 false).detail (shortBit x) true)
      (damagedOf x) .normal t)
    exact ⟨hside, hsuspect, fun _ => by rw [hdetail, Pod.detail_self]⟩
  case isFalse hsound => exact ⟨rfl, rfl, fun h => absurd h hsound⟩

/-- The confirmed side turns off and the stack test ends: the findings stay as judged. -/
theorem Pod.confirmed_findings (p : Pod) (o : Side) (t : Nat) :
    (p.offSide o t).stackOver.tests.confirmSide = p.tests.confirmSide ∧
    (p.offSide o t).stackOver.st.prot.suspect = p.st.prot.suspect ∧
    (p.offSide o t).stackOver.st.prot.detail = p.st.prot.detail := by
  obtain ⟨hover, -, hprot⟩ := Pod.stackOver_findings (p.offSide o t)
  obtain ⟨hside, -, hsuspect, hdetail, -⟩ := Pod.findings_of_testPart (Pod.offSide_testPart p o t)
  exact ⟨hover.trans hside, by rw [hprot, hsuspect], by rw [hprot, hdetail]⟩

/-! ## Online self-test -/

/-- Outside current limit the next member of a round is the first of those that are left (R218). -/
theorem Pod.nextMember_of_not_limiting {p : Pod} (t : Nat) (h : p.st.ch ≠ .limiting) :
    (p.nextMember t).tests.member = p.tests.onlineLeft.head? ∧ (p.nextMember t).tests.onlineLeft = p.tests.onlineLeft.tail ∧
    (p.nextMember t).tests.onlineAt = p.tests.onlineAt := by
  unfold Pod.nextMember
  dsimp only
  rw [if_neg h]
  cases p.tests.onlineLeft <;> exact ⟨rfl, rfl, rfl⟩

/-- Settles O7. -/
theorem podSelfTests : Obligations.PodSelfTests := by
  refine ⟨fun c t s hdue => ⟨_, rfl, ?_⟩, fun c k t s hrun hhead hclamp hover => ⟨_, rfl, ?_⟩,
    fun c k t s hrun hhead hclamp hover => ⟨_, rfl, ?_⟩,
    fun c x t s hlink hdue hties hactive hv hin hout hsuspect => ?_,
    fun c o vdi vdo b t s hside hcodes hcheck hen hclamp => ⟨_, rfl, ?_⟩, fun c t s hv hch hfree hdue => ⟨_, rfl, ?_⟩,
    fun c k t s hmember hover hlim => ⟨_, rfl, ?_⟩, fun c k t s hmember hover htrip hpartner => ⟨_, rfl, ?_⟩⟩
  · rw [State.podEvent_pod _ _ _ _ _ hdue]
    dsimp only
    rw [Pod.askUrgent_of_settled _ _ (Pod.calFrom_of_stackDue hdue)]
    refine ⟨rfl, Pod.startRun_runs .., ?_⟩
    unfold Pod.prm
    rw [Pod.startRun_params]
  · rw [State.podEvent_pod _ _ _ _ _ (by simp [hrun, hhead, hclamp, hover])]
    exact Pod.tieEnd_of_pass _ _ hclamp
  · rw [State.podEvent_pod _ _ _ _ _ (by simp [hrun, hhead, hclamp, hover])]
    exact Pod.tieEnd_of_fail _ _ hclamp
  · refine ⟨s.podEvent c t (fun p _ => p.canConfirm && p.st.pod == .active) fun p t => p.confirm t, ?_, ?_⟩
    · simp only [exec, execSuspectConfirmation, hlink, if_true]
    · rw [State.podEvent_pod _ _ _ _ _ (by simp [Pod.canConfirm, hdue, hties, hv, hin, hout, hactive])]
      exact Pod.confirm_of_suspect _ hsuspect
  · rw [State.podEvent_pod _ _ _ _ _ (by simp [hside, hcodes])]
    dsimp only
    rw [hside, hcodes]
    dsimp only
    obtain ⟨hover, hleft, hfound⟩ := Pod.confirmed_findings
      (Pod.judge { s.pod c with tests := { (s.pod c).tests with confirmSide := none, confirmAsked := false, confirmCodes := none } }
        o.other vdi vdo (max s.now t)) o (max s.now t)
    obtain ⟨hdone, hnone, hshort⟩ := Pod.judge_of_check (max s.now t)
      (p := { s.pod c with tests := { (s.pod c).tests with confirmSide := none, confirmAsked := false, confirmCodes := none } })
      hcheck hen hclamp
    exact ⟨hover.trans hdone, hleft.trans hnone, fun hb => by rw [hfound]; exact hshort hb⟩
  · have hrun : (s.pod c).st.ch.running = true ∧ (s.pod c).st.ch ≠ .limiting := by
      obtain h | h := hch <;> rw [h] <;> exact ⟨rfl, nofun⟩
    rw [State.podEvent_pod _ _ _ _ _ (by simp [hv, hrun.1, hfree, hdue])]
    exact Pod.nextMember_of_not_limiting
      (p := { s.pod c with tests := { (s.pod c).tests with
        onlineLeft := PodCmp.members, onlineAt := max s.now t + (s.pod c).prm OD.CH_STEST_ONL * 1000000 } }) _ hrun.2
  · rw [State.podEvent_pod _ _ _ _ _ (by simp [hmember, hover])]
    dsimp only
    rw [if_neg (by simp)]
    obtain ⟨hnext, hleft, -⟩ := Pod.nextMember_of_not_limiting (max s.now t) hlim
    exact ⟨hnext, hleft⟩
  · rw [State.podEvent_pod _ _ _ _ _ (by simp [hmember, hover])]
    dsimp only
    rw [if_pos ⟨rfl, hpartner⟩]
    have hraised : raisedIn .selftestFail (s.pod c).st.ch = true := by simp [raisedIn, Pod.running_of_canTrip htrip]
    exact ⟨(Pod.testFailed_findings _ k _).2, Pod.newTrip_of_canTrip htrip _ _ _ _ rfl hraised⟩

end Sys2Proof.Machine

/-! # ORing of a feed, the boundary of a pod, HOLD and SAFE (R29, R269 to R271, R541) -/

namespace Sys2Proof.Machine

/-! ## ORing of a feed -/

/-- A blocked feed: its OUT side is in strong CLAMP, its IN side stays, the block is counted (R269). -/
theorem Pod.reverseBlock_blocks (p : Pod) (t : Nat) : (p.reverseBlock t).st.oring = .blocking ∧
    (p.reverseBlock t).st.gOut.phase = .strongClamp ∧ (p.reverseBlock t).st.gIn = p.st.gIn ∧
    (p.reverseBlock t).st.counts.orBlocks = p.st.counts.orBlocks + 1 := by
  obtain ⟨_, _, hcross⟩ := p.crossed_eq .rev
  unfold Pod.reverseBlock
  rw [hcross]
  exact ⟨rfl, rfl, rfl, rfl⟩

/-- BOOST from below the pre-level (R77, R271). -/
theorem Pod.boost_of_below {p : Pod} (x : Side) (lead : Bool) (t : Nat) (h : (p.gate x).mv < p.prmI OD.CH_GPRE_ON) :
    ((p.boost x lead t).gate x).phase = .boost ∧ ((p.boost x lead t).gate x).endMv = p.prmI OD.CH_GPRE_ON ∧
    (p.boost x lead t).st.oring = p.st.oring := by
  unfold Pod.boost
  dsimp only
  cases x
  all_goals
    split
    case isTrue hover => exact absurd h (Int.not_lt.mpr hover)
    case isFalse => exact ⟨rfl, rfl, rfl⟩

/-- Settles O8. -/
theorem oringOfAFeed : Obligations.OringOfAFeed := by
  refine ⟨fun c since t s hv htarget hon hpath hfilter => ⟨_, rfl, ?_⟩,
    fun c t s hblock hclamp hrev hstill htrip => ⟨_, rfl, ?_⟩,
    fun c t f s hblock hclamp hfrom hdue hbelow htick => ⟨_, rfl, ?_⟩⟩
  · rw [State.podEvent_pod _ _ _ _ _ (by simpa [hv, htarget, hon, filterDone, hfilter] using hpath)]
    exact Pod.reverseBlock_blocks _ _
  · rw [State.podEvent_pod _ _ _ _ _ (by simp [hblock, hclamp, hrev, hstill])]
    exact Pod.newTrip_of_canTrip htrip _ _ _ _ rfl (Pod.running_of_canTrip htrip)
  · rw [State.podEvent_pod _ _ _ _ _ (by simp [htick, hblock, hclamp, hfrom, hdue])]
    obtain ⟨hphase, hend, horing⟩ := Pod.boost_of_below
      (p := { s.pod c with tests := { (s.pod c).tests with vonFrom := none }, st := { (s.pod c).st with oring := .conducting } })
      .outS true (max s.now t) hbelow
    exact ⟨horing, hphase, hend⟩

/-! ## The boundary of a tick -/

/-- A fold of steps that keep a part of the state keeps that part. -/
theorem foldl_keeps {α β γ : Type} (part : β → γ) (f : β → α → β) (h : ∀ s x, part (f s x) = part s) (l : List α) (s : β) :
    part (l.foldl f s) = part s := by
  induction l generalizing s with
  | nil => rfl
  | cons x l ih => rw [List.foldl, ih, h]

theorem State.xferScan_now (s : State) (c : Chan) (l : List Fed) : (s.xferScan c l).now = s.now := by
  unfold State.xferScan
  split
  · rfl
  · split
    · refine foldl_keeps State.now _ (fun s f => ?_) l s
      repeat' split
      all_goals rfl
    · rfl

/-- The records of ended windows leave the status frame and the count of the tick alone. -/
theorem Pod.queueWindows_frame (p : Pod) (c : Chan) (missed b : Nat) : (p.queueWindows c missed b).st = p.st ∧
    (p.queueWindows c missed b).up = p.up ∧ (p.queueWindows c missed b).gotFrame = p.gotFrame := ⟨rfl, rfl, rfl⟩

/-- A boundary composes the status frame from the state of the pod, and ends the tick (R21, R23). -/
theorem Pod.boundary_frame (p : Pod) (smp : TickSamples) (b : Nat) :
    (p.boundary smp b).st = { (p.boundary smp b).up with ignored := false } ∧ (p.boundary smp b).gotFrame = false := ⟨rfl, rfl⟩

/-! ## HOLD and SAFE -/

/-- A pod in SAFE has tripped with LINK_LOSS_SAFE (R541, R542). -/
theorem Pod.toSafe_newTrip {p : Pod} (t : Nat) (h : p.canTrip = true) : newTrip p (p.toSafe t) .linkLossSafe t := by
  have hraised : raisedIn .linkLossSafe p.st.ch = true := by simp [raisedIn, Pod.running_of_canTrip h]
  obtain ⟨htrip, -, hacked, hdue⟩ := Pod.newTrip_of_canTrip h p .linkLossSafe .soft t rfl hraised
  have hoff := Pod.off_tripPart (p.trip .linkLossSafe .soft t) .soft t
  simp only [Pod.tripPart, Prod.mk.injEq] at hoff
  obtain ⟨⟨hacked', hcoll, -⟩, -, -, htrip', -⟩ := hoff
  exact ⟨htrip'.trans htrip, rfl, hacked'.trans hacked, (congrArg (·.due) hcoll).trans hdue⟩

/-- A confirmation put off ends the stack test at most. -/
theorem Pod.deferConfirm_eq (p : Pod) : ∃ tests counts,
    p.deferConfirm = { p with tests := tests, st := { p.st with counts := counts } } := by
  unfold Pod.deferConfirm Pod.stackOver
  repeat' split
  all_goals exact ⟨_, _, rfl⟩

/-- An orphan with a hold window enters HOLD in its channel state (R29, R37). -/
theorem Pod.orphan_of_window {p : Pod} (t : Nat) (h : p.prm OD.CH_THOLD ≠ 0) :
    (p.orphan t).st.pod = .hold ∧ (p.orphan t).st.ch = p.st.ch ∧ (p.orphan t).st.holdFrom = some t := by
  obtain ⟨_, _, hdefer⟩ := p.deferConfirm_eq
  unfold Pod.orphan
  rw [hdefer]
  dsimp only
  split
  case isTrue hzero => exact absurd hzero h
  case isFalse => exact ⟨rfl, rfl, rfl⟩

/-- Without a hold window an orphan enters SAFE at once (R541). -/
theorem Pod.orphan_of_no_window {p : Pod} (t : Nat) (h : p.prm OD.CH_THOLD = 0) : (p.orphan t).st.pod = .safe := by
  obtain ⟨_, _, hdefer⟩ := p.deferConfirm_eq
  unfold Pod.orphan
  rw [hdefer]
  dsimp only
  split
  case isTrue => rfl
  case isFalse hwindow => exact absurd h hwindow

/-- Settles O9. -/
theorem tickHoldAndSafe : Obligations.TickHoldAndSafe := by
  refine ⟨fun c smp s hpow hlink hdue => ⟨_, rfl, ?_⟩, fun c s hactive hmiss hwindow => ⟨_, rfl, ?_⟩,
    fun c s hactive hmiss hwindow => ⟨_, rfl, ?_⟩, fun c f s hhold hfrom hdue htrip => ⟨_, rfl, ?_⟩⟩
  · simp only [bne_iff_ne.mpr hpow, bne_iff_ne.mpr hlink, hdue, decide_true, Bool.and_self, if_true]
    rw [State.xferScan_pod, State.xferScan_now, State.queueWindows, State.updPod_pod_self, State.updPod_now, State.updPod_now,
      State.at_now]
    obtain ⟨hst, hup, hgot⟩ := Pod.queueWindows_frame ((((s.at (ceilTick s.now)).updPod c fun p => p.boundary smp (ceilTick s.now)).pod c)) c
      (((s.at (ceilTick s.now)).updPod c fun p => p.boundary smp (ceilTick s.now)).stat OD.ADC_PAIR_MISSED c.val % 65536)
      (((s.at (ceilTick s.now)).updPod c fun p => p.boundary smp (ceilTick s.now)).pod c).tickAt
    rw [hst, hup, hgot, State.updPod_pod_self]
    obtain ⟨hframe, hended⟩ := Pod.boundary_frame ((s.at (ceilTick s.now)).pod c) smp (ceilTick s.now)
    exact ⟨hframe, hended, rfl⟩
  · rw [State.podEvent_pod _ _ _ _ _ (by simp [hactive, hmiss]), Nat.max_self]
    exact Pod.orphan_of_window _ hwindow
  · rw [State.podEvent_pod _ _ _ _ _ (by simp [hactive, hmiss])]
    exact Pod.orphan_of_no_window _ hwindow
  · rw [State.podEvent_pod _ _ _ _ _ (by simp [hhold, hfrom, hdue]), Nat.max_self]
    exact ⟨rfl, Pod.toSafe_newTrip _ htrip⟩

end Sys2Proof.Machine

/-! # Seats, supply and link of a pod (R107 to R131, R416, R417) -/

namespace Sys2Proof.Machine

/-! ## What a turn-off of one side moves

A profile that a side runs moves its gates and ends their blanking, and nothing else of the pod. -/

/-- A pod without its gates and their blanking. -/
def Pod.ungated (p : Pod) : Pod :=
  { p with blankIn := none, blankOut := none, dsArmed := 0, st := { p.st with gIn := {}, gOut := {} } }

@[simp] theorem Pod.setGate_ungated (p : Pod) (x : Side) (g : Gate) : (p.setGate x g).ungated = p.ungated := by cases x <;> rfl
@[simp] theorem Pod.endBlank_ungated (p : Pod) (x : Side) : (p.endBlank x).ungated = p.ungated := by cases x <;> rfl
@[simp] theorem Pod.strongClamp_ungated (p : Pod) (x : Side) (t : Nat) : (p.strongClamp x t).ungated = p.ungated :=
  Pod.setGate_ungated ..
@[simp] theorem Pod.slewOff_ungated (p : Pod) (x : Side) (t : Nat) (l : Option Nat) (ma : Nat) :
    (p.slewOff x t l ma).ungated = p.ungated := by
  unfold Pod.slewOff
  dsimp only
  split
  · exact Pod.strongClamp_ungated ..
  · exact Pod.setGate_ungated ..
@[simp] theorem Pod.afterDump_ungated (p : Pod) (x : Side) (t : Nat) : (p.afterDump x t).ungated = p.ungated := by
  unfold Pod.afterDump
  split
  · exact Pod.strongClamp_ungated ..
  · exact Pod.slewOff_ungated ..
@[simp] theorem Pod.dump_ungated (p : Pod) (x : Side) (t : Nat) (l : Option Nat) : (p.dump x t l).ungated = p.ungated := by
  unfold Pod.dump
  dsimp only
  split
  · rw [Pod.afterDump_ungated, Pod.setGate_ungated]
  · exact Pod.setGate_ungated ..
@[simp] theorem Pod.sideOff_ungated (p : Pod) (x : Side) (f : Profile) (t : Nat) : (p.sideOff x f t).ungated = p.ungated := by
  unfold Pod.sideOff
  dsimp only
  repeat' split
  all_goals simp
@[simp] theorem Pod.restOff_ungated (p : Pod) (x : Side) (f : Profile) (t : Nat) : (p.restOff x f t).ungated = p.ungated := by
  unfold Pod.restOff
  split
  · rfl
  · exact Pod.sideOff_ungated ..

theorem Pod.pgLost_pg (p : Pod) : p.pgLost.st.pg = false := rfl

/-- The end of a start moves its energy and its count at most (R124). -/
theorem Pod.endStart_eq (p : Pod) : ∃ energy counts, p.endStart = { p with st := { p.st with eStart := energy, counts := counts } } := by
  unfold Pod.endStart
  split <;> exact ⟨_, _, rfl⟩

/-- Every turn-off releases PGO_N (R118). -/
theorem Pod.off_pg (p : Pod) (f : Profile) (t : Nat) : (p.off f t).st.pg = false := by
  unfold Pod.off
  dsimp only
  split
  · rfl
  · split
    · split
      · exact congrArg (·.st.pg) ((Pod.sideOff_ungated ..).trans (Pod.sideOff_ungated ..))
      · exact congrArg (·.st.pg) ((Pod.restOff_ungated ..).trans (Pod.restOff_ungated ..))
    · exact congrArg (·.st.pg) ((Pod.restOff_ungated ..).trans (Pod.restOff_ungated ..))

/-- Where none runs, a turn-off of a side out of static clamp is the one that runs (R88). -/
theorem Pod.off_turnOff {p : Pod} (f : Profile) (t : Nat) (hopen : p.bothClamped = false) (hnone : p.turnOff = none) :
    (p.off f t).turnOff = some f := by
  obtain ⟨_, _, hend⟩ := p.endStart_eq
  unfold Pod.off
  rw [hend]
  dsimp only
  split
  case isTrue hclamped => exact absurd (hopen.symm.trans hclamped) nofun
  case isFalse =>
    split
    case isTrue =>
      split
      · exact congrArg (·.turnOff) ((Pod.sideOff_ungated ..).trans (Pod.sideOff_ungated ..))
      · exact congrArg (·.turnOff) ((Pod.restOff_ungated ..).trans (Pod.restOff_ungated ..))
    case isFalse hkeep => simp [Pod.cutLimit, Pod.pgLost, hnone] at hkeep

/-! ## Debounce and loss of a seat -/

theorem Pod.seated_seat (p : Pod) (ch : ChState) (r : PodTrip) : (p.seated ch r).st.ch = ch ∧ (p.seated ch r).st.seat.debounced = true :=
  ⟨rfl, rfl⟩

/-- What the end of the seat-loss filter leaves at the pod (R125). -/
theorem Pod.seatLost_leaves (p : Pod) (s1 s2 : Bool) (f t : Nat) :
    (p.seatLost s1 s2 f t).absentDue = true ∧ (p.seatLost s1 s2 f t).st.ch = p.st.ch ∧
    (p.seatLost s1 s2 f t).st.seat.debounced = false ∧ (p.seatLost s1 s2 f t).st.seat.s1 = s1 ∧
    (p.seatLost s1 s2 f t).st.seat.s2 = s2 ∧ (p.seatLost s1 s2 f t).st.seat.tUnseat = some f ∧ (p.seatLost s1 s2 f t).st.pg = false ∧
    (p.seatLost s1 s2 f t).st.prot.ftAcc = 0 ∧ (p.seatLost s1 s2 f t).limited = none ∧
    (p.bothClamped = false → p.turnOff = none → (p.seatLost s1 s2 f t).turnOff = some .normal) :=
  ⟨rfl, congrArg (·.2.1) (p.off_tripPart .normal t), rfl, rfl, rfl, rfl, p.off_pg .normal t, rfl, rfl, p.off_turnOff .normal t⟩

theorem State.podBank_pod {s u : State} (h : s.podBank = u.podBank) (c : Chan) : s.pod c = u.pod c := congrArg (Bank.get · c) h

/-- SEAT_LOSS at a pod that samples its seats: the hub's part of it leaves the pod alone. -/
theorem exec_seatLoss_pod {c : Chan} {s1 s2 : Bool} {f t : Nat} {s : State} (hsamples : (s.pod c).samplesSeat = true)
    (habsent : (s.pod c).st.ch ≠ .absent) (hseating : (s.pod c).st.ch ≠ .seating) (hdue : (s.pod c).absentDue = false)
    (hpins : (s1 && s2) = false) (hfilter : f + (s.pod c).prmSince f OD.CH_TSEATLOSS * 1000 ≤ max s.now t) :
    ∃ u, exec (.seatLoss c s1 s2 f t) s = .next u ∧ u.pod c =
      { (s.pod c).seatLost s1 s2 f (max s.now t) with
        up := ((s.pod c).seatLost s1 s2 f (max s.now t)).up.follow ((s.pod c).seatLost s1 s2 f (max s.now t)).st } := by
  refine ⟨_, rfl, ?_⟩
  rw [if_pos (by simp [hsamples, habsent, hseating, hdue, hpins, hfilter])]
  rw [← State.at_pod s t c, ← State.podTell_pod_self (s.at t) c fun p => p.seatLost s1 s2 f (max s.now t)]
  dsimp only
  split
  · refine State.podBank_pod (foldl_podBank _ (fun s k => ?_) _ _) c |>.trans (State.podBank_pod (State.seatTimer_podBank ..) c)
    split
    · exact State.preStopOn_podBank ..
    · rfl
  · rfl

/-! ## A confirmed removal at the port -/

theorem State.disable_port (s : State) (c : Chan) : ∃ enable from0,
    (s.disable c).port c = { s.port c with enable := enable, tEnable0 := from0 } ∧ (s.disable c).active = s.active := by
  unfold State.disable
  split
  · exact ⟨false, s.now, State.updPort_port_self .., rfl⟩
  · exact ⟨_, _, rfl, rfl⟩

theorem State.unheard_port (s : State) (c : Chan) : ∃ mtr, (s.unheard c).port c = { s.port c with mtr := mtr } ∧
    (s.unheard c).active = s.active ∧ (s.unheard c).now = s.now := by
  have hsets (l : List Obj) (s : State) :=
    foldl_keeps (fun s : State => (s.port c, s.active, s.now)) (fun s o => s.set o c.val o.dflt) (fun _ _ => rfl) l s
  have hwords (l : List Nat) (s : State) :=
    foldl_keeps (fun s : State => (s.port c, s.active, s.now)) (fun s k => s.set OD.MTR_AVG_WORD c.val OD.MTR_AVG_WORD.dflt k)
      (fun _ _ => rfl) l s
  unfold State.unheard
  have hall := (hwords [0, 1, 2, 3, 4] _).trans (hsets [OD.CH_HOLD_LEFT, OD.MTR_I, OD.MTR_VIN, OD.MTR_VOUT, OD.MTR_P, OD.MTR_STATUS] s)
  simp only [Prod.mk.injEq] at hall
  obtain ⟨hport, hactive, hnow⟩ := hall
  exact ⟨_, by rw [State.updPort_port_self, hport], hactive, hnow⟩

theorem State.latchGone_port (s : State) (c d : Chan) : (s.latchGone c).port d = s.port d := by
  unfold State.latchGone
  refine foldl_keeps (fun s : State => s.port d) _ (fun s b => ?_) _ s
  split <;> rfl

/-- A port that has seen the removal of the module of `q`, with a reseat guard up to `g` (R126, R127, R130). -/
def Port.isRemoved (q r : Port) (g : Nat) : Prop :=
  r.noPod = true ∧ r.seat.lossFrom = none ∧ r.seat.confirmed = true ∧ r.seat.guardUntil = some g ∧
  (q.trip.state = .latched → r.trip.state = .off ∧ r.cleared = true)

theorem Port.isRemoved_enable {q r : Port} {g : Nat} (h : q.isRemoved r g) (enable : Bool) (from0 : Nat) :
    q.isRemoved { r with enable := enable, tEnable0 := from0 } g := h

/-- What a confirmed removal leaves on the port; without a reseat guard its retry count is 0 (R126, R127, R130, R131). -/
theorem State.removed_port (s : State) (c : Chan) :
    (s.port c).isRemoved ((s.removed c).port c) (s.now + s.act OD.CH_TRESEAT c.val * msNs) ∧
    (s.act OD.CH_TRESEAT c.val = 0 → ((s.removed c).port c).trip.retryN = 0) := by
  unfold State.removed
  extract_lets q set latched bare noStatus noProt parted disabled guarded
  obtain ⟨_, -, hactive, hnow⟩ := (s.count OD.CH_REMOVALS c.val).unheard_port c
  have hact : bare.act OD.CH_TRESEAT c.val = s.act OD.CH_TRESEAT c.val := congrArg (Store.getN · OD.CH_TRESEAT c.val) hactive
  have hparted : (s.port c).isRemoved (parted.port c) (s.now + s.act OD.CH_TRESEAT c.val * msNs) := by
    unfold parted
    rw [State.updPort_port_self]
    dsimp only
    refine ⟨rfl, rfl, rfl, by rw [hact, hnow]; rfl, fun hlatched => ?_⟩
    have hset : latched = true := beq_iff_eq.mpr hlatched
    exact ⟨if_pos hset, by rw [hset, Bool.or_true]⟩
  have hdisabled : (s.port c).isRemoved (disabled.port c) (s.now + s.act OD.CH_TRESEAT c.val * msNs) ∧ disabled.active = bare.active := by
    unfold disabled
    split
    · obtain ⟨_, _, hsame, hactive'⟩ := parted.disable_port c
      rw [hsame]
      exact ⟨Port.isRemoved_enable hparted _ _, hactive'.trans (State.updPort_active ..)⟩
    · exact ⟨hparted, State.updPort_active ..⟩
  obtain ⟨hremoved, hactive'⟩ := hdisabled
  have hact' : disabled.act OD.CH_TRESEAT c.val = s.act OD.CH_TRESEAT c.val :=
    (congrArg (Store.getN · OD.CH_TRESEAT c.val) hactive').trans hact
  have hguarded : (s.port c).isRemoved (guarded.port c) (s.now + s.act OD.CH_TRESEAT c.val * msNs) ∧
      (s.act OD.CH_TRESEAT c.val = 0 → (guarded.port c).trip.retryN = 0) := by
    obtain ⟨hno, hloss, hconf, hguard, hlatch⟩ := hremoved
    unfold guarded
    rw [hact']
    split
    case isTrue =>
      rw [State.updPort_port_self]
      refine ⟨⟨hno, hloss, hconf, hguard, fun h => ⟨?_, (hlatch h).2⟩⟩, fun _ => rfl⟩
      dsimp only
      rw [(hlatch h).1]
      rfl
    case isFalse hno0 => exact ⟨⟨hno, hloss, hconf, hguard, hlatch⟩, fun h => absurd h hno0⟩
  split
  · rw [State.journal_port, State.latchGone_port]
    exact hguarded
  · exact hguarded

theorem State.activatePod_pod (s : State) (c d : Chan) : (s.activatePod c).pod d = s.pod d := by
  unfold State.activatePod
  split <;> rfl

/-- Settles O10. -/
theorem seatingAndRemoval : Obligations.SeatingAndRemoval := by
  refine ⟨exec_seatPairSeated_of_absent, fun c s1 s2 t s hch hpins => ?_, fun c t f s hfrom hch hdue hlink hup hown hhold => ⟨_, rfl, ?_⟩,
    fun c t f s hfrom hch hdue hlink => ⟨_, rfl, ?_⟩, fun c s1 s2 f t s hsamples habsent hseating hdue hpins hfilter => ?_,
    fun c f s hfrom hdue => ⟨_, rfl, ?_⟩, fun c g s hguard hdue => ⟨_, rfl, ?_⟩⟩
  · obtain ⟨u, hexec, -, habsent, hfrom, -⟩ := exec_seatingAbort_of_unseated c s1 s2 t s hch hpins
    exact ⟨u, hexec, habsent, hfrom⟩
  · have hheld : (((s.at t).port c).linked && (s.at t).hubUp && ((s.at t).pod c).st.own.link == some true &&
        !((s.at t).pod c).st.pod.holds) = true := by
      have hup' : (s.at t).hubUp = true := hup
      simp [hlink, hup', hown, hhold]
    simp only [hfrom]
    rw [if_pos ⟨hch, hdue⟩, if_pos hheld, State.activatePod_pod, State.updPort_pod, State.podTell_pod_self]
    exact Pod.seated_seat (s.pod c) (reinsertState s c) _
  · simp only [hfrom]
    rw [if_pos ⟨hch, hdue⟩, if_neg (by simp [hlink]), State.podTell_pod_self]
    obtain ⟨hstate, hdeb⟩ := Pod.seated_seat (s.pod c) (if (s.pod c).st.kept.faulted then (s.pod c).st.kept else .off) (s.pod c).st.trip
    exact ⟨hdeb, hstate⟩
  · obtain ⟨u, hexec, hpod⟩ := exec_seatLoss_pod hsamples habsent hseating hdue hpins hfilter
    refine ⟨u, hexec, ?_⟩
    rw [hpod]
    exact Pod.seatLost_leaves ..
  · rw [hfrom]
    dsimp only
    rw [if_pos hdue, State.evalLines_port]
    obtain ⟨⟨hno, hloss, hconf, hguard, hlatch⟩, hretry⟩ := s.removed_port c
    exact ⟨hno, hloss, hconf, hguard, hlatch, hretry⟩
  · rw [hguard]
    dsimp only
    rw [if_pos hdue, State.updPort_port_self]
    refine ⟨rfl, rfl, fun haway htrip => ?_⟩
    dsimp only
    rw [if_pos (by simp [haway, htrip])]
    exact ⟨rfl, rfl, rfl⟩

/-! ## Supply and link of a pod -/

/-- The LV die starts in LINKING; the HV side keeps its own (R416). -/
theorem Pod.powerUp_links (p : Pod) (kind : PodKind) (rev uid : Nat) (a b : Bool) (t : Nat) :
    (p.powerUp kind rev uid a b t).st.pod = .linking ∧ (p.powerUp kind rev uid a b t).st.ch = .absent ∧
    (p.powerUp kind rev uid a b t).kind = kind ∧ (p.powerUp kind rev uid a b t).uid = uid ∧
    (p.powerUp kind rev uid a b t).st.hvOn = p.st.hvOn := by
  unfold Pod.powerUp
  dsimp only
  split <;> exact ⟨rfl, rfl, rfl, rfl, rfl⟩

theorem Pod.supplyLost_unpowered (p : Pod) (t : Nat) : (p.supplyLost t).st.pod = .unpowered ∧ (p.supplyLost t).st.ch = .absent ∧
    (p.supplyLost t).barrierLost = true := ⟨rfl, rfl, rfl⟩

theorem State.linkLost_pod (s : State) (c d : Chan) : (s.linkLost c).pod d = s.pod d := by
  unfold State.linkLost
  split
  · rw [State.journal_pod, State.updPort_pod]
  · rfl

theorem State.podReport_port (s : State) (c d : Chan) : (s.podReport c).port d = s.port d := by
  unfold State.podReport
  rw [State.journal_port]
  rfl

/-- What follows the training of a link leaves it up (R417). -/
theorem State.linkUp_linked (s : State) (c : Chan) : ((s.linkUp c).port c).linked = (s.port c).linked ∧
    ((s.linkUp c).port c).noPod = (s.port c).noPod := by
  unfold State.linkUp
  extract_lets p heard claimed
  split
  · split
    · simp [claimed, heard, State.claim]
    · simp [heard]
  · repeat' split
    all_goals simp

theorem State.hubUp_not_boot {s : State} (h : s.hubUp = true) : s.hub ≠ .boot := by
  intro hboot
  simp [State.hubUp, hboot] at h

/-- The link of a powered pod trains on a hub that is up (R417). -/
theorem State.podTrained_linked {s : State} {c : Chan} (hpow : (s.pod c).st.pod ≠ .unpowered) (hdown : (s.port c).linked = false)
    (hup : s.hubUp = true) : ((s.podTrained c).port c).linked = true ∧ ((s.podTrained c).port c).noPod = false := by
  unfold State.podTrained
  rw [if_pos ⟨hpow, hdown, by simp [hup]⟩]
  dsimp only
  split
  · obtain ⟨hlinked, hno⟩ := State.linkUp_linked (State.podReport ((((s.missed c).updPort c fun q =>
      { q.trained (s.pod c).st with linked := true, noPod := false }).updPod c) fun p => { p with rest := none }) c) c
    rw [hlinked, hno, State.podReport_port, State.updPod_port, State.updPort_port_self]
    exact ⟨rfl, rfl⟩
  · rw [State.podReport_port, State.updPod_port, State.updPort_port_self]
    exact ⟨rfl, rfl⟩

/-- Settles O11. -/
theorem podSupplyAndLink : Obligations.PodSupplyAndLink := by
  refine ⟨fun c kind rev uid a b s hoff hsupply hkind => ⟨_, rfl, ?_⟩, fun c t s hpow => ⟨_, rfl, ?_⟩,
    fun c s hpow hdown hup => ⟨_, rfl, ?_⟩, fun c s hlink => ⟨_, rfl, ?_⟩⟩
  · rw [if_pos ⟨hoff, hsupply, hkind⟩, State.updPod_pod_self]
    exact Pod.powerUp_links ..
  · rw [if_pos hpow]
    simp only [State.updPort_pod, State.updPort_port_self, State.updPod_pod_self]
    obtain ⟨hpod, hch, hbar⟩ := Pod.supplyLost_unpowered (((s.at t).linkLost c).pod c) ((s.at t).linkLost c).now
    exact ⟨hpod, hch, hbar, trivial⟩
  · have hrun : s.hub ≠ .boot := State.hubUp_not_boot hup
    rw [if_pos ⟨hpow, hdown⟩, State.bootLoad_of_done (fun h => hrun h.1)]
    exact State.podTrained_linked hpow hdown hup
  · rw [if_pos hlink, State.updPort_port_self, State.updPort_pod, State.linkLost_pod]
    exact ⟨rfl, rfl⟩

end Sys2Proof.Machine

/-! # What comparators and PWM leave alone

The hub's comparator cells and PWM generators move themselves, counters, and the records they journal. `State.plant` is what else the
power path of the hub consists of: time, active set, pods, ports, buses, precharge converters, choppers. -/

namespace Sys2Proof.Machine

/-- Time, active set, pods, ports, buses, precharge converters, choppers, hub and power state. -/
def State.plant (s : State) := (s.now, s.active, s.pods, s.ports, s.buses, s.pre, s.dis, s.hub, s.power)

theorem State.plant_of_units {s u : State} (h : s.units = u.units) : s.plant = u.plant := by
  obtain ⟨hnow, hactive, hpods, hports, hbuses, hpre, hdis, -, -, hhub, -, hpower, -⟩ := State.units_fields h
  simp only [State.plant, hnow, hactive, hpods, hports, hbuses, hpre, hdis, hhub, hpower]

theorem State.plant_port {s u : State} (h : s.plant = u.plant) (c : Chan) : s.port c = u.port c := by
  simp only [State.plant, Prod.mk.injEq] at h
  unfold State.port
  rw [h.2.2.2.1]

@[simp] theorem ite_plant (c : Prop) [Decidable c] (a b : State) : (if c then a else b).plant = if c then a.plant else b.plant :=
  apply_ite ..

theorem foldl_plant {α : Type} (f : State → α → State) (h : ∀ s x, (f s x).plant = s.plant) (l : List α) (s : State) :
    (l.foldl f s).plant = s.plant := foldl_keeps State.plant f h l s

@[simp] theorem State.set_plant (s : State) (o : Obj) (i : Nat) (v : Int) (k : Nat) : (s.set o i v k).plant = s.plant := by unfold State.set State.plant; rfl
@[simp] theorem State.count_plant (s : State) (o : Obj) (i n k : Nat) : (s.count o i n k).plant = s.plant := by unfold State.count State.plant; rfl
@[simp] theorem State.journalAt_plant (s : State) (t k : Nat) (src : JSrc) (c : Nat) (d : List (Nat × Nat)) (h cl : Bool) :
    (s.journalAt t k src c d h cl).plant = s.plant := State.plant_of_units (by simp)
@[simp] theorem State.journal_plant (s : State) (k : Nat) (src : JSrc) (c : Nat) (d : List (Nat × Nat)) :
    (s.journal k src c d).plant = s.plant := State.plant_of_units (by simp)
@[simp] theorem State.evalLines_plant (s : State) : s.evalLines.plant = s.plant := State.plant_of_units (by simp)

/-! ## PWM generators -/

@[simp] theorem State.updGen_plant (s : State) (n : Oct) (f : Pwm → Pwm) : (s.updGen n f).plant = s.plant := by unfold State.updGen State.plant; rfl
@[simp] theorem State.updCell_plant (s : State) (n : Oct) (f : Cell → Cell) : (s.updCell n f).plant = s.plant := by unfold State.updCell State.plant; rfl
@[simp] theorem State.pwmStop_plant (s : State) (n : Oct) : (s.pwmStop n).plant = s.plant := rfl
@[simp] theorem State.uncount_plant (s : State) (o : Obj) (i : Nat) : (s.uncount o i).plant = s.plant := by
  unfold State.uncount
  simp
@[simp] theorem State.untermed_plant (s : State) (n : Oct) (t : Nat) : (s.untermed n t).plant = s.plant := by
  unfold State.untermed
  split
  · simp
  · rfl
@[simp] theorem State.pwmFault_plant (s : State) (n : Oct) : (s.pwmFault n).plant = s.plant := by
  unfold State.pwmFault
  simp
@[simp] theorem State.faultSee_plant (s : State) (n : Oct) : (s.faultSee n).plant = s.plant := by
  unfold State.faultSee
  simp
@[simp] theorem State.pwmFaults_plant (s : State) : s.pwmFaults.plant = s.plant := by
  refine foldl_plant _ (fun s n => ?_) _ s
  simp
@[simp] theorem State.pwmTerminate_plant (s : State) (n : Oct) (t : Nat) : (s.pwmTerminate n t).plant = s.plant := by
  unfold State.pwmTerminate
  dsimp only
  repeat' split
  all_goals simp

/-! ## Comparator cells -/

@[simp] theorem State.termRoute_plant (s : State) (n : Oct) (t : Nat) : (s.termRoute n t).plant = s.plant := by
  unfold State.termRoute
  simp
@[simp] theorem State.cmpCapture_plant (s : State) (n : Oct) (a : Bool) (t : Nat) : (s.cmpCapture n a t).plant = s.plant := rfl
@[simp] theorem State.cmpEvent_plant (s : State) (n : Oct) (a : Bool) (t : Nat) : (s.cmpEvent n a t).plant = s.plant := by
  unfold State.cmpEvent
  simp
@[simp] theorem State.slowRoutes_plant (s : State) (n : Oct) (a : Bool) (t : Nat) : (s.slowRoutes n a t).plant = s.plant := by
  unfold State.slowRoutes
  simp
@[simp] theorem State.filtEdge_plant (s : State) (n : Oct) (a : Bool) (t : Nat) : (s.filtEdge n a t).plant = s.plant := by
  unfold State.filtEdge
  dsimp only
  split
  · rfl
  · refine foldl_plant _ (fun s k => ?_) _ _
    simp
@[simp] theorem State.cellFilter_plant (s : State) (n : Oct) (t : Nat) : (s.cellFilter n t).plant = s.plant := by
  unfold State.cellFilter
  split
  · simp
  · rfl
@[simp] theorem State.routesAct_plant (s old : State) (t : Nat) : (s.routesAct old t).plant = s.plant := by
  refine (foldl_plant _ (fun s k => ?_) _ _).trans s.pwmFaults_plant
  simp
@[simp] theorem State.cellOut_plant (s : State) (n : Oct) (a : Bool) (t : Nat) : (s.cellOut n a t).plant = s.plant := by
  unfold State.cellOut
  simp
@[simp] theorem State.cellEdge_plant (s : State) (n : Oct) (a : Bool) (t : Nat) : (s.cellEdge n a t).plant = s.plant := by
  unfold State.cellEdge
  simp
@[simp] theorem State.cellAt_plant (s : State) (n : Oct) (a : Bool) (t : Nat) : (s.cellAt n a t).plant = s.plant := by
  unfold State.cellAt
  simp
@[simp] theorem State.selfMask_plant (s : State) (n : Oct) : (s.selfMask n).plant = s.plant := rfl
@[simp] theorem State.selfUnmask_plant (s : State) (n : Oct) : (s.selfUnmask n).plant = s.plant := by
  unfold State.selfUnmask
  dsimp only
  split
  · split <;> simp
  · rfl

end Sys2Proof.Machine

/-! # Frames of a pod link, and claims (R27, R528 to R540) -/

namespace Sys2Proof.Machine

/-! ## Command frames at the pod -/

/-- A valid OWN frame of the owner waits for the next boundary (R21, R23, R27). -/
theorem Pod.receive_of_owner {p : Pod} {own : Bool} {fr : CmdFrame} (t : Nat) (hpow : p.st.pod ≠ .unpowered)
    (hlink : p.st.own.link = some own) (hclaim : fr.claim = .own) : p.receive own fr t = (p.owned own fr.epoch t).queue fr := by
  unfold Pod.receive
  rw [if_neg hpow, if_pos hlink, hclaim]

/-- A pod with an owner has its frame, and keeps those that wait. -/
theorem Pod.owned_queue (p : Pod) (own : Bool) (epoch t : Nat) : (p.owned own epoch t).gotFrame = true ∧
    (p.owned own epoch t).cmds = p.cmds := by
  have hties (q : Pod) (hgot : q.gotFrame = true) (hcmds : q.cmds = p.cmds) :
      (q.tiesAtActive t).gotFrame = true ∧ (q.tiesAtActive t).cmds = p.cmds :=
    ⟨(congrArg (·.2.2.2) (q.tiesAtActive_frames t)).trans hgot, (congrArg (·.2.1) (q.tiesAtActive_frames t)).trans hcmds⟩
  unfold Pod.owned
  dsimp only
  split
  · exact ⟨rfl, rfl⟩
  · exact hties _ rfl rfl
  · exact hties _ rfl rfl
  · exact ⟨rfl, rfl⟩

/-- An OWN on another link that the pod does not accept is a conflict (R528). -/
theorem Pod.receive_of_conflict {p : Pod} {fr : CmdFrame} (t : Nat) (hpow : p.st.pod ≠ .unpowered)
    (hlink : p.st.own.link = some true) (hclaim : fr.claim = .own) (hrefuse : p.acceptsOwn fr.epoch = false) :
    p.receive false fr t = { p with st := { p.st with own := { p.st.own with conflict := true } } } := by
  unfold Pod.receive
  rw [if_neg hpow, if_neg (by simp [hlink]), if_pos hclaim, hrefuse]
  rfl

/-! ## What a status leaves of the others' -/

theorem State.seen_of_plant {s u : State} (h : s.plant = u.plant) (c : Chan) : s.seen c = u.seen c :=
  congrArg Port.seen (State.plant_port h c)

@[simp] theorem ite_seen (p : Prop) [Decidable p] (a b : State) (c : Chan) : (if p then a else b).seen c = if p then a.seen c else b.seen c :=
  apply_ite (fun s : State => s.seen c) ..

theorem foldl_seen {α : Type} (f : State → α → State) (c : Chan) (h : ∀ s x, (f s x).seen c = s.seen c) (l : List α) (s : State) :
    (l.foldl f s).seen c = s.seen c := foldl_keeps (fun s : State => s.seen c) f h l s

theorem State.updPort_seen (s : State) (k c : Chan) (f : Port → Port) (h : ∀ q, (f q).seen = q.seen) :
    (s.updPort k f).seen c = s.seen c := by
  unfold State.seen
  by_cases hk : k = c
  · rw [hk, State.updPort_port_self, h]
  · rw [State.updPort_port_other _ _ _ _ hk]

@[simp] theorem State.updBus_seen (s : State) (b : BusId) (f : Bus → Bus) (c : Chan) : (s.updBus b f).seen c = s.seen c := rfl
@[simp] theorem State.updPre_seen (s : State) (p : Quad) (f : Pre → Pre) (c : Chan) : (s.updPre p f).seen c = s.seen c := rfl
@[simp] theorem State.updDis_seen (s : State) (d : Quad) (f : Dis → Dis) (c : Chan) : (s.updDis d f).seen c = s.seen c := rfl
@[simp] theorem State.set_seen (s : State) (o : Obj) (i : Nat) (v : Int) (k : Nat) (c : Chan) : (s.set o i v k).seen c = s.seen c := rfl
@[simp] theorem State.count_seen (s : State) (o : Obj) (i n k : Nat) (c : Chan) : (s.count o i n k).seen c = s.seen c := rfl
@[simp] theorem State.down_seen (s : State) (k : Chan) (f : CmdFrame → CmdFrame) (c : Chan) : (s.down k f).seen c = s.seen c :=
  State.updPort_seen _ _ _ _ fun _ => rfl
@[simp] theorem State.ownership_seen (s : State) (k : Chan) (code epoch : Nat) (c : Chan) :
    (s.ownership k code epoch).seen c = s.seen c := State.seen_of_plant (State.journal_plant ..) c

@[simp] theorem State.preStop_seen (s : State) (p : Quad) (ev : PreStatus) (c : Chan) : (s.preStop p ev).seen c = s.seen c := by
  unfold State.preStop State.preFeedActs
  split
  · have hquiet : (((s.selfUnmask (pwmOf p)).preQuiet p).updPre p fun x =>
        { x with state := .aborted, status := ev, elapsed := (s.now - x.selfAt) / usNs, leftAt := some s.now }).seen c = s.seen c :=
      State.seen_of_plant (State.selfUnmask_plant ..) c
    dsimp only
    split
    · exact hquiet
    · split
      case h_9 => exact hquiet
      all_goals exact (State.down_seen ..).trans hquiet
  · rfl
@[simp] theorem State.preSelftest_seen (s : State) (p : Quad) (c : Chan) : (s.preSelftest p).seen c = s.seen c := rfl
@[simp] theorem State.disWait_seen (s : State) (d : Quad) (r : DisStatus) (c : Chan) : (s.disWait d r).seen c = s.seen c := rfl
@[simp] theorem State.xferComplete_seen (s : State) (b : BusId) (c : Chan) : (s.xferComplete b).seen c = s.seen c := rfl
@[simp] theorem State.preFeedOn_seen (s : State) (k c : Chan) : (s.preFeedOn k).seen c = s.seen c := by
  refine foldl_seen _ c (fun s p => ?_) _ s
  simp
@[simp] theorem State.feedOn_seen (s : State) (k c : Chan) : (s.feedOn k).seen c = s.seen c := by
  refine (foldl_seen _ c (fun s b => ?_) _ _).trans (s.preFeedOn_seen k c)
  simp

@[simp] theorem State.rebuildBus_seen (s : State) (b : BusId) (c : Chan) : (s.rebuildBus b).seen c = s.seen c := rfl
@[simp] theorem State.rebuildPre_seen (s : State) (k c : Chan) : (s.rebuildPre k).seen c = s.seen c := by
  refine foldl_seen _ c (fun s p => ?_) _ s
  simp
@[simp] theorem State.rebuild_seen (s : State) (k c : Chan) : (s.rebuild k).seen c = s.seen c := by
  unfold State.rebuild
  split <;> simp

@[simp] theorem State.claim_seen (s : State) (k : Chan) (e : Nat) (c : Chan) : (s.claim k e).seen c = s.seen c :=
  State.updPort_seen _ _ _ _ fun _ => rfl
@[simp] theorem State.claimHeld_seen (s : State) (k : Chan) (e : Nat) (c : Chan) : (s.claimHeld k e).seen c = s.seen c := by
  unfold State.claimHeld
  dsimp only
  refine (State.updPort_seen _ _ _ _ ?_).trans (s.claim_seen k e c)
  exact fun _ => rfl
@[simp] theorem State.claimGroup_seen (s : State) (k : Chan) (e : Nat) (c : Chan) : (s.claimGroup k e).seen c = s.seen c := by
  have hfold := foldl_seen (fun s k => State.claimHeld s k e) c (fun s k => State.claimHeld_seen s k e c) (groupOf s k) s
  unfold State.claimGroup
  dsimp only
  split
  · exact hfold
  · exact hfold
@[simp] theorem State.standby_seen (s : State) (k c : Chan) : (s.standby k).seen c = s.seen c :=
  State.updPort_seen _ _ _ _ fun _ => rfl
@[simp] theorem State.standbyGroup_seen (s : State) (k c : Chan) : (s.standbyGroup k).seen c = s.seen c := by
  unfold State.standbyGroup
  extract_lets stopped
  refine (foldl_seen _ c (fun s k => State.standby_seen s k c) _ _).trans ?_
  unfold stopped
  split
  · extract_lets quiet waiting
    have hquiet : quiet.seen c = s.seen c := by
      unfold quiet
      split <;> simp
    have hwaiting : waiting.seen c = quiet.seen c := by
      unfold waiting
      split <;> simp
    exact hwaiting.trans hquiet
  · rfl
@[simp] theorem State.yield_seen (s : State) (k : Chan) (e : Nat) (c : Chan) : (s.yield k e).seen c = s.seen c := by
  unfold State.yield
  simp
@[simp] theorem State.ownSeen_seen (s : State) (k : Chan) (old v : PodStatus) (c : Chan) : (s.ownSeen k old v).seen c = s.seen c := by
  unfold State.ownSeen
  extract_lets q conflicted
  have hconflicted : conflicted.seen c = s.seen c := by
    unfold conflicted
    simp
  rw [← hconflicted]
  split
  · split
    · split <;> simp
    · split
      · simp
      · split <;> exact State.updPort_seen _ _ _ _ fun _ => rfl
  · rfl

/-- A valid status is what the port then holds, joined with what it keeps (R568). -/
theorem State.statusIn_seen (s : State) (c : Chan) (v : PodStatus) : (s.statusIn c v).seen c = v.keep (s.seen c) := by
  unfold State.statusIn
  extract_lets old seated tripped noted told heard rebuilt fed
  have hheard : heard.seen c = v.keep (s.seen c) := congrArg Port.seen (State.updPort_port_self ..)
  have hrebuilt : rebuilt.seen c = heard.seen c := by
    unfold rebuilt
    simp
  have hfed : fed.seen c = rebuilt.seen c := by
    unfold fed
    simp
  rw [← hheard, ← hrebuilt, ← hfed, ← State.ownSeen_seen fed c old v c]
  exact congrArg Port.seen (State.evalLines_port ..)

/-! ## Claims -/

/-- A fold over items that all keep a part of the state keeps that part. -/
theorem foldl_keeps_mem {α β γ : Type} (part : β → γ) (f : β → α → β) {l : List α} (h : ∀ x ∈ l, ∀ s, part (f s x) = part s) (s : β) :
    part (l.foldl f s) = part s := by
  induction l generalizing s with
  | nil => rfl
  | cons x l ih => rw [List.foldl, ih fun y hy => h y (List.mem_cons_of_mem x hy), h x List.mem_cons_self]

/-- A fold over distinct items of which one alone moves a part of the state moves that part once. -/
theorem foldl_once {α β γ : Type} (part : β → γ) (f : β → α → β) (g : γ → γ) (c : α)
    (hother : ∀ s x, x ≠ c → part (f s x) = part s) (hown : ∀ s, part (f s c) = g (part s)) {l : List α} (hmem : c ∈ l)
    (hnodup : l.Nodup) (s : β) : part (l.foldl f s) = g (part s) := by
  obtain ⟨before, after, rfl⟩ := List.append_of_mem hmem
  obtain ⟨-, hafter, hdisj⟩ := List.nodup_append.mp hnodup
  have hne : ∀ x ∈ before, x ≠ c := fun x hx => hdisj x hx c List.mem_cons_self
  have hne' : ∀ x ∈ after, x ≠ c := fun x hx h => (List.nodup_cons.mp hafter).1 (h ▸ hx)
  rw [List.foldl_append, List.foldl_cons, foldl_keeps_mem part f fun x hx s => hother s x (hne' x hx), hown,
    foldl_keeps_mem part f fun x hx s => hother s x (hne x hx)]

/-- One port of MOVE_RECLAIM: 100 µs of RELEASE without a claim (R540). -/
def State.reclaim (s : State) (c : Chan) : State :=
  match (s.port c).releasing with
  | some f => if f + 100000 ≤ s.now then s.claim c ((s.port c).epoch + 1) else s
  | none => s

theorem exec_moveReclaim_eq (s : State) : exec .moveReclaim s = .next (allChans.foldl State.reclaim s) := rfl

theorem State.reclaim_other (s : State) {c k : Chan} (h : k ≠ c) : ((s.reclaim k).port c, (s.reclaim k).now) = (s.port c, s.now) := by
  unfold State.reclaim
  split
  · split
    · exact congrArg (·, s.now) (State.updPort_port_other _ _ _ _ h)
    · rfl
  · rfl

/-- What a claim leaves on its port. -/
theorem State.claim_port (s : State) (c : Chan) (epoch : Nat) : ((s.claim c epoch).port c).own = true ∧
    ((s.claim c epoch).port c).releasing = none ∧ ((s.claim c epoch).port c).epoch = epoch % 256 := by
  unfold State.claim
  rw [State.updPort_port_self]
  exact ⟨rfl, rfl, rfl⟩

theorem State.claimHeld_port (s : State) (c : Chan) (epoch : Nat) : ((s.claimHeld c epoch).port c).own = true ∧
    ((s.claimHeld c epoch).port c).epoch = epoch % 256 := by
  obtain ⟨hown, -, hepoch⟩ := s.claim_port c epoch
  unfold State.claimHeld
  rw [State.updPort_port_self]
  exact ⟨hown, hepoch⟩

/-- The owner, the release and the epoch of a port after its turn of MOVE_RECLAIM at an instant. -/
def Port.reclaimed (now : Nat) (x : Bool × Option Nat × Nat) : Bool × Option Nat × Nat :=
  match x.2.1 with
  | some f => if f + 100000 ≤ now then (true, none, (x.2.2 + 1) % 256) else x
  | none => x

/-- What MOVE_RECLAIM reads and moves of a port, with the instant. -/
def State.claimPart (s : State) (c : Chan) : (Bool × Option Nat × Nat) × Nat :=
  (((s.port c).own, (s.port c).releasing, (s.port c).epoch), s.now)

theorem State.reclaim_claimPart (s : State) (c : Chan) :
    (s.reclaim c).claimPart c = (Port.reclaimed (s.claimPart c).2 (s.claimPart c).1, (s.claimPart c).2) := by
  unfold State.reclaim Port.reclaimed State.claimPart
  dsimp only
  split
  · split
    · obtain ⟨hown, hrel, hepoch⟩ := s.claim_port c ((s.port c).epoch + 1)
      rw [hown, hrel, hepoch]
      rfl
    · rfl
  · rfl

theorem allChans_nodup : allChans.Nodup := by decide

theorem mem_allChans (c : Chan) : c ∈ allChans := by
  revert c
  decide

/-- MOVE_RECLAIM takes back every port whose release has run 100 µs without a claim (R540). -/
theorem State.reclaimAll_claimPart (s : State) (c : Chan) :
    (allChans.foldl State.reclaim s).claimPart c = (Port.reclaimed s.now (s.claimPart c).1, s.now) :=
  foldl_once (fun s : State => s.claimPart c) State.reclaim (fun x => (Port.reclaimed x.2 x.1, x.2)) c
    (fun s _ hk => congrArg (fun x : Port × Nat => ((x.1.own, x.1.releasing, x.1.epoch), x.2)) (s.reclaim_other hk))
    (fun s => s.reclaim_claimPart c) (mem_allChans c) allChans_nodup s

/-- Settles O12. -/
theorem podFramesAndClaims : Obligations.PodFramesAndClaims := by
  refine ⟨exec_commandFrameReceived_of_bad_crc, fun c rx s hcrc hown hlink hup hpow hobeys hclaim => ⟨_, rfl, ?_⟩,
    fun c rx s hcrc hown hpow hobeys hclaim hrefuse => ⟨_, rfl, ?_⟩, fun c s hlink hup => ?_, fun c s hlink hup => ⟨_, rfl, ?_⟩,
    fun c f s hrel hdue => ⟨_, exec_moveReclaim_eq s, ?_⟩, fun c f s hlone hdue hpartner hfree hlink => ⟨_, rfl, ?_⟩⟩
  · rw [if_neg (by simp [hcrc]), if_pos hown, if_pos (by simp [hlink, hup])]
    simp only [State.updPort_pod, State.updPort_port_self, State.updPod_pod_self, State.updPod_port]
    rw [Pod.receive_of_owner _ hpow hobeys hclaim]
    obtain ⟨hgot, hcmds⟩ := (s.pod c).owned_queue true (s.port c).down.epoch s.now
    exact ⟨hgot, congrArg (· ++ [(s.port c).down]) hcmds, rfl, trivial⟩
  · rw [if_neg (by simp [hcrc]), if_neg (by simp [hown]), State.updPod_pod_self, Pod.receive_of_conflict _ hpow hobeys hclaim hrefuse]
    exact ⟨rfl, hobeys, rfl⟩
  · refine ⟨_, exec_statusFrameReceived_of_bad_crc c s hlink hup, ?_, ?_⟩ <;> rw [State.updPort_port_self]
  · rw [if_pos (by simp [hlink, hup]), if_pos rfl]
    exact State.statusIn_seen s c (s.pod c).up
  · have hpart := s.reclaimAll_claimPart c
    unfold Port.reclaimed State.claimPart at hpart
    simp only [hrel, hdue, if_true, Prod.mk.injEq] at hpart
    obtain ⟨⟨hown, hnone, hepoch⟩, -⟩ := hpart
    exact ⟨hown, hnone, hepoch⟩
  · simp only [hlone]
    rw [if_pos ⟨hdue, hpartner, hfree, hlink⟩]
    exact s.claimHeld_port c ((s.seen c).own.epoch + 1)

end Sys2Proof.Machine

/-! # Starts, retries and latches of a channel (R111 to R135, R234 to R240) -/

namespace Sys2Proof.Machine

/-! ## Commands that act at the pod at once -/

/-- A command that reaches the pod acts there, and the pod reports itself. -/
theorem State.podNow_pod {s : State} {c : Chan} (f : Pod → Pod) (h : reaches s c = true) :
    (s.podNow c f).pod c = { f (s.pod c) with up := (f (s.pod c)).up.follow (f (s.pod c)).st } := by
  unfold State.podNow
  rw [if_pos h, State.updPort_pod, State.updPod_pod_self]

/-- A start whose conditions hold: STARTING, with the whole stack asked on (R111, R119). -/
theorem Pod.applyStart_of_ready {p : Pod} (t : Nat) (h : p.startBits = 0) : (p.applyStart t).st.ch = .starting ∧
    (p.applyStart t).waitOn = some .whole ∧ (p.applyStart t).st.startAt = some t := by
  unfold Pod.applyStart
  rw [if_neg (not_not_intro h)]
  exact ⟨rfl, rfl, rfl⟩

/-- A start whose conditions fail is refused with the failing bits (R111). -/
theorem Pod.applyStart_of_refused {p : Pod} (t : Nat) (h : p.startBits ≠ 0) :
    p.applyStart t = { p with st := { p.st with refused := p.startBits } } ∧
    p.applyStartIn t = { p with st := { p.st with refused := p.startBits } } :=
  ⟨if_pos h, if_pos h⟩

/-- CHANNEL_START at a tick boundary, on a pod that the start reaches and whose last trip is acknowledged. -/
theorem exec_channelStart_pod {c : Chan} {t : Nat} {s : State} (hready : startReady s c = true) (hreach : reaches s c = true)
    (hacked : (s.pod c).acked = true) (htick : max s.now t % 1000 = 0) :
    ∃ u, exec (.channelStart c t) s = .next u ∧ (u.pod c).st =
      (if startsByIn s c then (s.pod c).applyStartIn (max s.now t) else (s.pod c).applyStart (max s.now t)).st ∧
      (u.pod c).waitOn =
      (if startsByIn s c then (s.pod c).applyStartIn (max s.now t) else (s.pod c).applyStart (max s.now t)).waitOn := by
  refine ⟨_, rfl, ?_⟩
  rw [if_pos (by simp [hready, tickNs, htick])]
  have hreach' : reaches ((s.at t).down c fun f => { f with off := false }) c = true := by
    have hport : ((s.at t).down c fun f => { f with off := false }).port c =
        { s.port c with down := { (s.port c).down with off := false } } := State.updPort_port_self ..
    unfold reaches
    rw [hport]
    exact hreach
  rw [State.podNow_pod _ hreach']
  have hpod : ((s.at t).down c fun f => { f with off := false }).pod c = s.pod c := rfl
  rw [hpod, hacked]
  exact ⟨rfl, rfl⟩

/-! A trip leaves the report of the start energy alone. -/

theorem Pod.off_startEnergy (p : Pod) (f : Profile) (t : Nat) : (p.off f t).st.startEnergy = p.st.startEnergy :=
  congrArg (·.2.2.2.2.2.2.2.1) (p.off_tripPart f t)
theorem Pod.trigger_startEnergy (p : Pod) (f : Profile) (t : Nat) : (p.trigger f t).st.startEnergy = p.st.startEnergy := by
  unfold Pod.trigger
  split
  · rfl
  · exact Pod.off_startEnergy ..
theorem Pod.tripAway_startEnergy (p : Pod) (k : Cause) (f : Profile) (t : Nat) :
    (p.tripAway k f t).st.startEnergy = p.st.startEnergy := by
  unfold Pod.tripAway
  split
  · split
    · exact Pod.off_startEnergy ..
    · split
      · exact Pod.off_startEnergy ..
      · exact Pod.off_startEnergy ..
  · exact Pod.trigger_startEnergy ..
theorem Pod.trip_startEnergy (p : Pod) (k : Cause) (f : Profile) (t : Nat) : (p.trip k f t).st.startEnergy = p.st.startEnergy := by
  unfold Pod.trip
  split
  · exact Pod.tripAway_startEnergy ..
  · split
    · exact Pod.off_startEnergy ..
    · split
      · split
        · exact Pod.trigger_startEnergy ..
        · exact Pod.trigger_startEnergy ..
      · split
        · exact Pod.off_startEnergy ..
        · exact Pod.trigger_startEnergy ..

/-! ## Power-good -/

/-- Power-good of a channel in STARTING or ON ends in ON (R116, R119). -/
theorem Pod.pgAssert_on {p : Pod} (t : Nat) (h : p.st.ch = .starting ∨ p.st.ch = .on) :
    (p.pgAssert t).st.pg = true ∧ (p.pgAssert t).st.ch = .on := by
  have hended : p.endStart.st.ch = p.st.ch := by
    obtain ⟨_, _, hend⟩ := p.endStart_eq
    rw [hend]
  unfold Pod.pgAssert
  extract_lets ended started status qualified
  have hstarted : started.st.ch = .on := by
    unfold started
    split
    case isTrue => rfl
    case isFalse hno => exact (h.imp hended.trans hended.trans).resolve_left hno
  split
  · exact ⟨rfl, hstarted⟩
  · exact ⟨rfl, hstarted⟩

theorem Pod.pgHolds_starting_or_on {p : Pod} (h : p.pgHolds = true) : p.st.ch = .starting ∨ p.st.ch = .on := by
  simpa [Pod.pgHolds] using (Bool.and_eq_true ..).mp h |>.2

/-- POWER_GOOD_ASSERT that qualifies: what the hub learns of it leaves the pod alone. -/
theorem exec_powerGoodAssert_pod {c : Chan} {s : State} (htick : (s.pod c).tickAt = s.now) (hcount : (s.pod c).st.counting = true)
    (hnew : (s.pod c).st.pg = false) (hholds : (s.pod c).pgHolds = true) (hdue : (s.pod c).prm OD.CH_TPG ≤ (s.pod c).pgCount) :
    ∃ u, exec (.powerGoodAssert c) s = .next u ∧ (u.pod c).st = ((s.pod c).pgAssert s.now).st := by
  refine ⟨_, rfl, ?_⟩
  rw [if_pos (by simp [htick, hcount, hnew, hholds, hdue])]
  dsimp only
  have htold : ((s.podTell c fun p => p.pgAssert s.now).pod c).st = ((s.pod c).pgAssert s.now).st := by rw [State.podTell_pod_self]
  rw [← htold]
  split
  · rw [State.podBank_pod (State.feedOn_podBank _ c) c]
    split <;> rfl
  · rfl

/-- Settles O13. -/
theorem startOfAChannel : Obligations.StartOfAChannel := by
  refine ⟨fun c t s hready hreach hacked htick hwhole hbits => ?_, fun c t s hready hreach hacked htick hbits => ?_,
    fun c ic vc t s hch henergy htrip => ⟨_, rfl, ?_⟩, fun c s htick hcount hnew hholds hdue => ?_⟩
  · obtain ⟨u, hexec, hst, hwait⟩ := exec_channelStart_pod hready hreach hacked htick
    rw [if_neg (by simp [hwhole])] at hst hwait
    obtain ⟨hch, hwhole', hat⟩ := Pod.applyStart_of_ready (max s.now t) hbits
    exact ⟨u, hexec, by rw [hst, hch], by rw [hwait, hwhole'], by rw [hst, hat]⟩
  · obtain ⟨u, hexec, hst, -⟩ := exec_channelStart_pod hready hreach hacked htick
    obtain ⟨hwhole, hin⟩ := Pod.applyStart_of_refused (max s.now t) hbits
    rw [hwhole, hin, ite_self] at hst
    exact ⟨u, hexec, by rw [hst], by rw [hst]⟩
  · rw [State.podEvent_pod _ _ _ _ _ (by simpa [hch] using henergy)]
    have hslew : ((s.pod c).upTo ic vc (max s.now t)).slewing = (s.pod c).slewing :=
      congrArg (·.slewing) ((s.pod c).upTo_unsampled ic vc _)
    have hraised : raisedIn (if (s.pod c).slewing.1 then .desatIn else .desatOut) (s.pod c).st.ch = true := by
      rw [hch]
      split <;> rfl
    dsimp only
    rw [hslew]
    exact ⟨Pod.trip_startEnergy .., Pod.newTrip_of_canTrip htrip _ _ _ _ ((s.pod c).upTo_trip ic vc _) hraised⟩
  · obtain ⟨u, hexec, hst⟩ := exec_powerGoodAssert_pod htick hcount hnew hholds hdue
    refine ⟨u, hexec, ?_⟩
    rw [hst]
    exact Pod.pgAssert_on _ (Pod.pgHolds_starting_or_on hholds)

/-! ## Acknowledgement of a trip -/

/-- The acknowledgement of the standing trip releases the channel (R26, R235). -/
theorem Pod.ackTrip_of_standing {p : Pod} {n : Nat} (hn : n = p.st.trip.n) (hch : p.st.ch = .tripped ∨ p.st.ch = .latched) :
    (p.ackTrip n).st.ch = .off ∧ (p.ackTrip n).acked = true := by
  unfold Pod.ackTrip
  rw [if_pos hn]
  dsimp only
  rw [if_pos hch]
  exact ⟨rfl, rfl⟩

/-- Whether a command reaches a pod is read from its port's link and release, and from the pod's state and owner. -/
theorem reaches_congr {s u : State} {c : Chan} (hlink : (u.port c).linked = (s.port c).linked)
    (hrel : (u.port c).releasing = (s.port c).releasing) (hpod : (u.pod c).st.pod = (s.pod c).st.pod)
    (hown : (u.pod c).st.own.link = (s.pod c).st.own.link) : reaches u c = reaches s c := by
  unfold reaches
  rw [hlink, hrel, hpod, hown]

theorem reaches_updPort (s : State) (c : Chan) (f : Port → Port) (hlink : (f (s.port c)).linked = (s.port c).linked)
    (hrel : (f (s.port c)).releasing = (s.port c).releasing) : reaches (s.updPort c f) c = reaches s c := by
  refine reaches_congr ?_ ?_ rfl rfl
  · rw [State.updPort_port_self, hlink]
  · rw [State.updPort_port_self, hrel]

/-- What a released port has kept of its own: the retry count, the enable, a toggle under way; the retry is no longer due. -/
def Port.isReleased (q r : Port) : Prop :=
  r.trip.retryDue = none ∧ r.trip.retryN = q.trip.retryN ∧ r.enable = q.enable ∧ r.toggling = q.toggling

theorem State.podNow_port {s : State} {c : Chan} (f : Pod → Pod) (h : reaches s c = true) :
    (s.podNow c f).port c = (s.port c).sees ((s.port c).seen.follow (f (s.pod c)).st) := by
  unfold State.podNow
  rw [if_pos h, State.updPort_port_self, State.updPod_port]

/-- A trip that the hub has seen, acknowledged at a pod that the hub reaches: OFF at once (R235). -/
theorem State.releaseNow_of_reached {s : State} {c : Chan} (h : reaches s c = true) (hseen : (s.seen c).trip.n = (s.pod c).st.trip.n)
    (hch : (s.pod c).st.ch = .tripped ∨ (s.pod c).st.ch = .latched) :
    ((s.releaseNow c).pod c).st.ch = .off ∧ ((s.releaseNow c).pod c).acked = true ∧
    (s.port c).isReleased ((s.releaseNow c).port c) := by
  unfold State.releaseNow
  rw [if_pos h]
  dsimp only
  have hport := State.updPort_port_self s c fun q => { q with trip := { q.trip with state := .off, retryDue := none } }
  have hreach : reaches (s.updPort c fun q => { q with trip := { q.trip with state := .off, retryDue := none } }) c = true :=
    (reaches_updPort s c _ rfl rfl).trans h
  rw [State.podNow_pod _ hreach, State.podNow_port _ hreach, hport, State.updPort_pod]
  obtain ⟨hoff, hacked⟩ := Pod.ackTrip_of_standing hseen hch
  exact ⟨hoff, hacked, rfl, rfl, rfl, rfl⟩

/-- A retry whose trip the hub has seen (R234, R235). -/
theorem State.retry_of_reached {s : State} {c : Chan} (h : reaches s c = true) (hseen : (s.seen c).trip.n = (s.pod c).st.trip.n)
    (hch : (s.pod c).st.ch = .tripped ∨ (s.pod c).st.ch = .latched) :
    ((s.retry c).evalLines.pod c).st.ch = .off ∧ ((s.retry c).evalLines.pod c).acked = true ∧
    ((s.retry c).evalLines.port c).trip.retryDue = none ∧
    ((s.retry c).evalLines.port c).trip.retryN =
      if (s.port c).enable then min 255 ((s.port c).trip.retryN + 1) else (s.port c).trip.retryN := by
  obtain ⟨hoff, hacked, hdue, hcount, henable, -⟩ := State.releaseNow_of_reached h hseen hch
  rw [State.evalLines_pod, State.evalLines_port]
  unfold State.retry
  dsimp only
  rw [henable]
  split
  · rw [State.journal_pod, State.journal_port, State.updPort_pod, State.updPort_port_self]
    exact ⟨hoff, hacked, hdue, by rw [← hcount]⟩
  · exact ⟨hoff, hacked, hdue, hcount⟩

/-- A retry that is due and that nothing holds back. -/
theorem exec_retry_eq {c : Chan} {s : State} (hdue : retryIsDue s c = true) (hready : retryReady s c = true) :
    exec (.retryDue c) s = .next (s.retry c).evalLines ∧ exec (.retryReleased c) s = .next (s.retry c).evalLines := by
  have hboth : (retryIsDue s c && retryReady s c) = true := by rw [hdue, hready]; rfl
  constructor
  · simp only [exec, execRetryDue, hboth, if_true]
  · simp only [exec, execRetryReleased, hboth, if_true]

/-! ## Toggles of a SELFTEST_FAIL latch -/

theorem State.clearPod_keeps (s : State) (c : Chan) : ((s.clearPod c).pod c).st.ch = (s.pod c).st.ch ∧
    ((s.clearPod c).port c).toggling = (s.port c).toggling := by
  unfold State.clearPod
  dsimp only
  split
  · rw [State.updPod_pod_self, State.updPod_port, State.updPort_port_self]
    exact ⟨rfl, rfl⟩
  · rw [State.updPort_port_self, State.updPort_pod]
    exact ⟨rfl, rfl⟩

/-- A latch that is cleared leaves the channel state of the pod; the retry count is 0 (R238). -/
theorem State.latchCleared_keeps (s : State) (c : Chan) (way : Nat) : ((s.latchCleared c way).pod c).st.ch = (s.pod c).st.ch ∧
    ((s.latchCleared c way).port c).trip.retryN = 0 ∧ ((s.latchCleared c way).port c).toggling = (s.port c).toggling := by
  obtain ⟨hch, htoggling⟩ := s.clearPod_keeps c
  unfold State.latchCleared
  dsimp only
  rw [State.journal_pod, State.journal_port, State.latchGone_port, State.podBank_pod (State.latchGone_podBank ..) c,
    State.updPort_port_self, State.updPort_pod]
  exact ⟨hch, rfl, htoggling⟩

/-- The tests of a toggle have passed: the pod is as before, with no failed test left (R239). -/
theorem State.testsPassed_keeps (s : State) (c : Chan) : ((s.testsPassed c).pod c).st = (s.pod c).st ∧
    (∃ seen, (s.testsPassed c).port c = { s.port c with seen := seen } ∧ seen.trip = (s.port c).seen.trip) := by
  unfold State.testsPassed
  dsimp only
  rw [State.updPort_pod, State.updPod_pod_self, State.updPort_port_self, State.updPod_port]
  exact ⟨rfl, _, rfl, rfl⟩

/-- SELFTEST_TOGGLE_DONE without a failed test: the latch is released and cleared (R239). -/
theorem State.toggle_of_pass {s : State} {c : Chan} (h : reaches s c = true) (hseen : (s.seen c).trip.n = (s.pod c).st.trip.n)
    (hch : (s.pod c).st.ch = .latched) (htoggle : (s.port c).toggling = false) :
    (((((s.podNow c Pod.togglePassed).testsPassed c).releaseNow c).latchCleared c 0).pod c).st.ch = .off ∧
    (((((s.podNow c Pod.togglePassed).testsPassed c).releaseNow c).latchCleared c 0).port c).trip.retryN = 0 ∧
    (((((s.podNow c Pod.togglePassed).testsPassed c).releaseNow c).latchCleared c 0).port c).toggling = false := by
  obtain ⟨hst, seen, hport, htrip⟩ := (s.podNow c Pod.togglePassed).testsPassed_keeps c
  rw [State.podNow_pod _ h] at hst
  rw [State.podNow_port _ h] at hport htrip
  have hreach : reaches ((s.podNow c Pod.togglePassed).testsPassed c) c = true :=
    (reaches_congr (by rw [hport]; rfl) (by rw [hport]; rfl) (by rw [hst]; rfl) (by rw [hst]; rfl)).trans h
  have hstanding : (((s.podNow c Pod.togglePassed).testsPassed c).seen c).trip.n =
      (((s.podNow c Pod.togglePassed).testsPassed c).pod c).st.trip.n := by
    rw [hst]
    unfold State.seen
    rw [hport]
    exact (congrArg PodTrip.n htrip).trans hseen
  obtain ⟨hoff, -, -, -, -, htoggling⟩ := State.releaseNow_of_reached hreach hstanding (.inr (by rw [hst]; exact hch))
  obtain ⟨hkept, hzero, hkept'⟩ := (((s.podNow c Pod.togglePassed).testsPassed c).releaseNow c).latchCleared_keeps c 0
  refine ⟨hkept.trans hoff, hzero, hkept'.trans (htoggling.trans ?_)⟩
  rw [hport]
  exact htoggle

/-- Settles O14. -/
theorem retriesAndToggles : Obligations.RetriesAndToggles := by
  refine ⟨fun c s hdue hready hreach hch hseen => ⟨_, (exec_retry_eq hdue hready).1, State.retry_of_reached hreach hseen (.inl hch)⟩,
    fun c s hdue hready hreach hch hseen => ⟨_, (exec_retry_eq hdue hready).2, ?_⟩, fun c f s hclean hdue => ⟨_, rfl, ?_⟩,
    fun c s hcool henable => ⟨_, rfl, ?_⟩, fun c t s htoggling htoggle hreach htick hch hseen => ⟨_, rfl, ?_⟩,
    fun c m t s htoggling htoggle hreach htick hfail => ⟨_, rfl, ?_⟩⟩
  · obtain ⟨hoff, hacked, hnone, -⟩ := State.retry_of_reached hreach hseen (.inl hch)
    exact ⟨hoff, hacked, hnone⟩
  · simp only [hclean]
    rw [if_pos hdue, State.updPort_port_self]
  · rw [if_pos (.inl ⟨hcool, henable⟩), State.updPort_port_self]
  · have hport := State.updPort_port_self (s.at t) c fun q => { q with toggling := false }
    have hreach' : reaches ((s.at t).updPort c fun q => { q with toggling := false }) c = true :=
      (reaches_updPort (s.at t) c _ rfl rfl).trans hreach
    rw [if_pos (by simp [htoggling, htoggle, hreach, tickNs, htick])]
    dsimp only
    rw [if_pos rfl, State.evalLines_pod, State.evalLines_port]
    refine State.toggle_of_pass hreach' ?_ hch (by rw [hport])
    unfold State.seen
    rw [hport]
    exact hseen
  · have hport := State.updPort_port_self (s.at t) c fun q => { q with toggling := false }
    have hreach' : reaches ((s.at t).updPort c fun q => { q with toggling := false }) c = true :=
      (reaches_updPort (s.at t) c _ rfl rfl).trans hreach
    rw [if_pos (by simp [htoggling, htoggle, hreach, tickNs, htick])]
    dsimp only
    rw [if_neg hfail, State.podNow_pod _ hreach', State.podNow_port _ hreach', hport]
    exact ⟨rfl, rfl, rfl, rfl⟩

end Sys2Proof.Machine

/-!
# Statements that a status store with a repeated key refutes

`Store.put` of an object's Default removes the first entry of its key. Where a store lists the key once more, the value of that
second entry shows. `storesOk` excludes such a store, but these statements quantify over every state. Each refutation runs the
command on a state that meets the premises of one clause and whose status store lists the object of that clause twice.
-/

namespace Sys2Proof.Machine

/-- A state whose status store lists an object twice, in front of the entries `l`. -/
def State.listsTwice (s : State) (o : Obj) (i k : Nat) (v w : Int) (l : Store := []) : State :=
  { s with status := (o.key i k, v) :: (o.key i k, w) :: l }

/-- Two tripped channels on one bus, whose count of bus faults is at its end. -/
def faultAtLastCount : State :=
  (wit (fun v => { v with ch := .tripped, startAt := some 0 }) id
    (fun q => { q with trip := { q.trip with set := addCause 0 .sc2, cause := Cause.sc2.code, time := 10 ^ 12 - 100000, seenN := 1,
                                             state := .tripped } })
    (fun s => act [(OD.CH_ROLE, 0, 1), (OD.CH_BUS, 0, 0), (OD.CH_ROLE, 1, 1), (OD.CH_BUS, 1, 0)]
      ((s.updPort 1 fun _ => s.port 0).updPod 1 fun _ => s.pod 0))).listsTwice OD.BUS_BF_COUNT 0 0 (2 ^ 32 - 1) 7

/-- Refutes O15: the bus fault that wraps `BUS_BF_COUNT` to its Default 0 leaves a second entry of the object to be read. -/
theorem not_busFaultAndLines : ¬ Obligations.BusFaultAndLines := by
  intro h
  obtain ⟨hclassify, -⟩ := h
  obtain ⟨u, hu, -, -, hcount⟩ :=
    hclassify 0 0 faultAtLastCount (by decide +kernel) (by decide +kernel) (by decide +kernel)
  have hread : (stateOf faultAtLastCount (exec (.busFaultClassify 0) faultAtLastCount)).stat OD.BUS_BF_COUNT 0 = 7 := by
    decide +kernel
  have hwrap : (faultAtLastCount.stat OD.BUS_BF_COUNT 0 + 1) % 2 ^ 32 = 0 := by decide +kernel
  rw [hu, stateOf_next] at hread
  exact absurd (hread.symm.trans (hcount.trans hwrap)) (by decide)

/-- A hub whose housekeeping converter is at input 3. -/
def hkAtPin : State :=
  (wit (h := fun s => act [(OD.ADC_HK_EN, 0, 8)] s)).listsTwice OD.ADC_HK_PIN 0 3 5 7

/-- Refutes O20: a mean of 0, the Default of `ADC_HK_PIN`, leaves a second entry of the object to be read. -/
theorem not_calibrationAndBursts : ¬ Obligations.CalibrationAndBursts := by
  intro h
  obtain ⟨-, -, -, -, -, -, hmean, -⟩ := h
  obtain ⟨u, hu, hsum, -⟩ :=
    hmean 3 [] hkAtPin (by decide) (by decide +kernel) (by decide +kernel) (by decide +kernel)
  have hread : (stateOf hkAtPin (exec (.hkMeanUpdate 3 []) hkAtPin)).stat OD.ADC_HK_PIN 0 3 = 7 := by decide +kernel
  rw [hu, stateOf_next] at hread
  exact absurd (hread.symm.trans hsum) (by decide +kernel)

/-- A hub that follows the reference clock of the ring. -/
def onRingClock : State := wit.listsTwice OD.HUB_XTAL_PPM 0 0 5 7 [(OD.HUB_CLK_STATE.key 0, 1)]

/-- Refutes O26: a measured deviation of 0, the Default of `HUB_XTAL_PPM`, leaves a second entry of the object to be read. -/
theorem not_supplyClockSleepWake : ¬ Obligations.SupplyClockSleepWake := by
  intro h
  obtain ⟨-, -, -, -, -, -, -, hxtal, -⟩ := h
  obtain ⟨u, hu, hppm⟩ := hxtal 0 onRingClock (by decide +kernel) (by decide +kernel) (by decide +kernel) (by decide) (by decide)
  have hread : (stateOf onRingClock (exec (.xtalMeasure 0) onRingClock)).status.get OD.HUB_XTAL_PPM = 7 := by decide +kernel
  rw [hu, stateOf_next] at hread
  exact absurd (hread.symm.trans hppm) (by decide)

end Sys2Proof.Machine

/-! # The precharge sequence (chapter 5) -/

namespace Sys2Proof.Machine

/-! ## Reading converters and choppers -/

/-- The plant, field by field. -/
theorem State.plant_fields {s u : State} (h : s.plant = u.plant) : s.now = u.now ∧ s.active = u.active ∧ s.pods = u.pods ∧
    s.ports = u.ports ∧ s.buses = u.buses ∧ s.pre = u.pre ∧ s.dis = u.dis ∧ s.hub = u.hub ∧ s.power = u.power := by
  simpa only [State.plant, Prod.mk.injEq] using h

theorem State.conv_of_plant {s u : State} (h : s.plant = u.plant) (p : Quad) : s.conv p = u.conv p := by
  obtain ⟨-, -, -, -, -, hpre, -⟩ := State.plant_fields h
  unfold State.conv
  rw [hpre]

theorem State.chop_of_plant {s u : State} (h : s.plant = u.plant) (d : Quad) : s.chop d = u.chop d := by
  obtain ⟨-, -, -, -, -, -, hdis, -⟩ := State.plant_fields h
  unfold State.chop
  rw [hdis]

theorem State.pod_of_plant {s u : State} (h : s.plant = u.plant) (c : Chan) : s.pod c = u.pod c := by
  obtain ⟨-, -, hpods, -⟩ := State.plant_fields h
  unfold State.pod
  rw [hpods]

theorem State.now_of_plant {s u : State} (h : s.plant = u.plant) : s.now = u.now := (State.plant_fields h).1
theorem State.active_of_plant {s u : State} (h : s.plant = u.plant) : s.active = u.active := (State.plant_fields h).2.1

/-- A state with this plant and nothing else. -/
def State.bare (s : State) : State :=
  { State.reset with now := s.now, active := s.active, pods := s.pods, ports := s.ports, buses := s.buses, pre := s.pre,
                     dis := s.dis, hub := s.hub, power := s.power }

theorem State.bare_of_plant {s u : State} (h : s.plant = u.plant) : s.bare = u.bare := by
  obtain ⟨hnow, hactive, hpods, hports, hbuses, hpre, hdis, hhub, hpower⟩ := State.plant_fields h
  simp only [State.bare, hnow, hactive, hpods, hports, hbuses, hpre, hdis, hhub, hpower]

/-- What stops a converter is read off the plant. -/
theorem preDue_of_plant {s u : State} (h : s.plant = u.plant) (p : Quad) : preDue s p = preDue u p :=
  (show preDue s p = preDue s.bare p from rfl).trans
    ((congrArg (fun x => preDue x p) (State.bare_of_plant h)).trans (show preDue u.bare p = preDue u p from rfl))

theorem inBand_of_plant {s u : State} (h : s.plant = u.plant) (p : Quad) : inBand s p = inBand u p :=
  (show inBand s p = inBand s.bare p from rfl).trans
    ((congrArg (fun x => inBand x p) (State.bare_of_plant h)).trans (show inBand u.bare p = inBand u p from rfl))

@[simp] theorem State.updPre_conv_self (s : State) (p : Quad) (f : Pre → Pre) : (s.updPre p f).conv p = f (s.conv p) :=
  Bank.get_upd_self ..
@[simp] theorem State.updDis_chop_self (s : State) (d : Quad) (f : Dis → Dis) : (s.updDis d f).chop d = f (s.chop d) :=
  Bank.get_upd_self ..
@[simp] theorem State.updDis_conv (s : State) (d : Quad) (f : Dis → Dis) (p : Quad) : (s.updDis d f).conv p = s.conv p := rfl
@[simp] theorem State.updGen_conv (s : State) (n : Oct) (f : Pwm → Pwm) (p : Quad) : (s.updGen n f).conv p = s.conv p := rfl
@[simp] theorem State.updGen_chop (s : State) (n : Oct) (f : Pwm → Pwm) (d : Quad) : (s.updGen n f).chop d = s.chop d := rfl
@[simp] theorem State.updGen_rdyLost (s : State) (n : Oct) (f : Pwm → Pwm) : (s.updGen n f).rdyLost = s.rdyLost := rfl
@[simp] theorem State.updPort_conv (s : State) (c : Chan) (f : Port → Port) (p : Quad) : (s.updPort c f).conv p = s.conv p := rfl
@[simp] theorem State.down_conv (s : State) (c : Chan) (f : CmdFrame → CmdFrame) (p : Quad) : (s.down c f).conv p = s.conv p := rfl
@[simp] theorem State.updPod_conv (s : State) (c : Chan) (f : Pod → Pod) (p : Quad) : (s.updPod c f).conv p = s.conv p := rfl
@[simp] theorem State.podNow_conv (s : State) (c : Chan) (f : Pod → Pod) (p : Quad) : (s.podNow c f).conv p = s.conv p := by
  unfold State.podNow
  split <;> rfl
@[simp] theorem State.selfUnmask_conv (s : State) (n : Oct) (p : Quad) : (s.selfUnmask n).conv p = s.conv p :=
  State.conv_of_plant (State.selfUnmask_plant ..) p
@[simp] theorem State.pwmFaults_conv (s : State) (p : Quad) : s.pwmFaults.conv p = s.conv p :=
  State.conv_of_plant s.pwmFaults_plant p
@[simp] theorem State.testFail_conv (s : State) (n : Oct) (p : Quad) : (s.testFail n).conv p = s.conv p := by
  unfold State.testFail
  exact State.conv_of_plant ((State.journal_plant ..).trans (State.count_plant ..)) p
@[simp] theorem State.disWait_conv (s : State) (d : Quad) (r : DisStatus) (p : Quad) : (s.disWait d r).conv p = s.conv p := rfl
@[simp] theorem State.pwmFaults_active (s : State) : s.pwmFaults.active = s.active := State.active_of_plant s.pwmFaults_plant
@[simp] theorem State.pwmFaults_now (s : State) : s.pwmFaults.now = s.now := State.now_of_plant s.pwmFaults_plant

/-! ## Stops -/

@[simp] theorem State.preFeedActs_conv (s : State) (p q : Quad) (ev : PreStatus) : (s.preFeedActs p ev).conv q = s.conv q := by
  unfold State.preFeedActs
  split
  · rfl
  · split <;> rfl

/-- A stop leaves a converter that runs ABORTED with the event as its status (R158). -/
theorem State.preStop_conv {s : State} {p : Quad} (ev : PreStatus) (hbusy : (s.conv p).state.busy = true) :
    ((s.preStop p ev).conv p).state = .aborted ∧ ((s.preStop p ev).conv p).status = ev := by
  unfold State.preStop
  rw [if_pos hbusy]
  dsimp only
  rw [State.preFeedActs_conv, State.updPre_conv_self]
  exact ⟨rfl, rfl⟩

/-- The first of the due events stops the converter (R158). -/
theorem State.preStopOn_conv {s : State} {p : Quad} {ev : PreStatus} (hbusy : (s.conv p).state.busy = true)
    (hdue : (preDue s p).head? = some ev) :
    ((s.preStopOn p [ev]).conv p).state = .aborted ∧ ((s.preStopOn p [ev]).conv p).status = ev := by
  obtain ⟨rest, hrest⟩ := List.head?_eq_some_iff.mp hdue
  unfold State.preStopOn
  rw [if_pos (by simp [hbusy, hrest]), hrest]
  exact State.preStop_conv ev hbusy

/-! ## The sequence -/

/-- The start at a tick: the converter in SELFTEST, its feed STARTING with the stack off (R114, R153). -/
theorem exec_prechargeStart_eq {p : Quad} {c : Chan} {s : State} (hfeed : feedOfPre s.active p = some c)
    (hcan : preCanStart s p = true) (hreach : reaches s c = true) (htick : s.now % 1000 = 0) :
    exec (.prechargeStart p) s =
      .next (((s.preSelftest p).down c fun f => { f with off := false }).podNow c fun x => x.askStackOff s.now) := by
  simp only [exec, execPrechargeStart, hfeed, hcan, hreach]
  rw [if_pos (by simpa using htick)]

theorem State.preSelftest_conv (s : State) (p : Quad) :
    ((s.preSelftest p).conv p).state = .selftest ∧ ((s.preSelftest p).conv p).selfAt = s.now := by
  unfold State.preSelftest
  rw [State.updPre_conv_self]
  exact ⟨rfl, rfl⟩

theorem Pod.askStackOff_of_acked {p : Pod} (t : Nat) (h : p.acked = true) : (p.askStackOff t).st.ch = .starting ∧
    (p.askStackOff t).waitOn = p.waitOn := by
  unfold Pod.askStackOff
  rw [if_pos h]
  exact ⟨rfl, rfl⟩

/-- Pulses begin in QUALIFY within the close band, else in CHARGING (R156). -/
theorem State.preBegin_conv (s : State) (p : Quad) :
    ((s.preBegin p).conv p).state = if inBand s p then .qualify else .charging := by
  unfold State.preBegin State.preRun State.preQualify State.preCharge
  rw [State.updGen_conv]
  split
  · rw [State.updPre_conv_self]
  · rw [State.updPre_conv_self]

/-- A self-test that passes with the ready inputs asserted and no stop due begins the pulses (R156). -/
theorem exec_prechargeSelftestDone_of_pass {p : Quad} {s : State} (hstate : (s.conv p).state = .selftest) (hdue : preDue s p = []) :
    exec (.prechargeSelftestDone p true true) s = .next ((s.selfUnmask (pwmOf p)).preBegin p) := by
  have hnone : (preDue (s.selfUnmask (pwmOf p)) p).isEmpty = true := by
    rw [preDue_of_plant (State.selfUnmask_plant ..), hdue]
    rfl
  simp only [exec, execPrechargeSelftestDone]
  rw [if_pos hstate, if_neg (by simp), if_neg (by simp), if_pos hnone]

/-- A self-test that fails stops the converter (R156). -/
theorem exec_prechargeSelftestDone_of_fail {p : Quad} (ready : Bool) {s : State} (hstate : (s.conv p).state = .selftest) :
    exec (.prechargeSelftestDone p false ready) s =
      .next (((s.selfUnmask (pwmOf p)).testFail (pwmOf p)).preStop p .sensorFault) := by
  simp only [exec, execPrechargeSelftestDone]
  rw [if_pos hstate, if_pos (by simp)]

/-! ## Ready inputs -/

/-- Setting a bit leaves those below it. -/
theorem testBit_setBit_below {i j : Nat} (h : j < i) (m : Nat) (b : Bool) : (setBit m i b).testBit j = m.testBit j := by
  unfold setBit
  split
  · rfl
  · rename_i hbit
    split
    · rw [Nat.add_comm, Nat.testBit_two_pow_add_gt h]
    · have hset : m.testBit i = true := by cases b <;> simp_all
      have hsplit := Nat.testBit_two_pow_add_gt h (m - 2 ^ i)
      rw [Nat.add_sub_cancel' (Nat.ge_two_pow_of_testBit hset)] at hsplit
      exact hsplit.symm

@[simp] theorem State.uncount_rdyLost (s : State) (o : Obj) (i : Nat) : (s.uncount o i).rdyLost = s.rdyLost := by
  unfold State.uncount
  rfl
@[simp] theorem State.untermed_rdyLost (s : State) (n : Oct) (t : Nat) : (s.untermed n t).rdyLost = s.rdyLost := by
  unfold State.untermed
  split
  · split
    · exact (State.updGen_rdyLost ..).trans (State.uncount_rdyLost ..)
    · rfl
  · rfl
@[simp] theorem State.pwmFault_rdyLost (s : State) (n : Oct) : (s.pwmFault n).rdyLost = s.rdyLost := by
  unfold State.pwmFault
  dsimp only
  split <;> simp
@[simp] theorem State.faultSee_rdyLost (s : State) (n : Oct) : (s.faultSee n).rdyLost = s.rdyLost := by
  unfold State.faultSee
  dsimp only
  repeat' split
  all_goals simp
@[simp] theorem State.pwmFaults_rdyLost (s : State) : s.pwmFaults.rdyLost = s.rdyLost := by
  refine foldl_keeps State.rdyLost _ (fun s n => ?_) _ s
  split
  · rfl
  · exact State.faultSee_rdyLost ..

theorem State.prePause_rdyLost (s : State) (p : Quad) : (s.prePause p).rdyLost = s.rdyLost := by
  unfold State.prePause
  dsimp only
  split <;> rfl

theorem State.prePause_conv {s : State} {p : Quad} (h : (s.conv p).state = .charging) :
    ((s.prePause p).conv p).state = .paused ∧ ((s.prePause p).conv p).resumeTo = .charging ∧
      ((s.prePause p).conv p).pauseAt = s.now := by
  unfold State.prePause
  dsimp only
  rw [if_pos (by simp [h]), State.updPre_conv_self]
  exact ⟨rfl, h, rfl⟩

/-- What the loss of a ready input does to the chopper that it guards (R165). -/
def State.driverGone (s : State) (n : Oct) : State :=
  match disOwner s n with
  | some d =>
    let s := s.updDis d fun x => { x with driverLow := true }
    if (s.chop d).state == .run || (s.chop d).state == .done then s.disWait d .driverLow else s
  | none => s

theorem State.driverGone_keeps (s : State) (n : Oct) : (s.driverGone n).rdyLost = s.rdyLost ∧ ∀ p, (s.driverGone n).conv p = s.conv p := by
  unfold State.driverGone
  dsimp only
  split
  · split
    · exact ⟨rfl, fun _ => rfl⟩
    · exact ⟨rfl, fun _ => rfl⟩
  · exact ⟨rfl, fun _ => rfl⟩

/-- The loss of the ready input of a converter that is CHARGING (R147, R389). -/
theorem State.readyLoss_of_pre {s : State} {n : Oct} {p : Quad} (howner : preOwner s (mainOf n) = some p) (hn : n.val < 4) :
    s.readyLoss n = (({ s with rdyLost := setBit s.rdyLost n.val true }.pwmFaults).prePause p).driverGone n := by
  have howner' : preOwner ({ s with rdyLost := setBit s.rdyLost n.val true }.pwmFaults) (mainOf n) = some p := by
    rw [← howner]
    unfold preOwner State.act
    rw [State.pwmFaults_active]
  simp only [State.readyLoss, howner', hn, decide_true, Bool.true_or, if_true]
  rfl

/-! ## The hand-over -/

theorem State.preHandover_of_feed {s : State} {p : Quad} {c : Chan} (h : feedOfPre s.active p = some c) :
    ((s.preHandover p).conv p).state = .handover ∧ ((s.preHandover p).conv p).closeAt = s.now ∧
      ((s.preHandover p).port c).down.start = true := by
  unfold State.preHandover
  rw [h]
  dsimp only
  rw [State.down_conv, State.updPre_conv_self]
  refine ⟨rfl, rfl, ?_⟩
  unfold State.down
  rw [State.updPort_port_self]

theorem State.preWindow_conv {s : State} {p : Quad} (hover : windowOver s p = true) (hprogress : noProgress s p = false) :
    ((s.preWindow p).conv p).winAt = s.now ∧ ((s.preWindow p).conv p).winV = preV s p := by
  unfold State.preWindow
  rw [if_pos (by simp [hover, hprogress]), State.updPre_conv_self]
  exact ⟨rfl, rfl⟩

theorem noProgress_of_due {s : State} {p : Quad} (h : (preDue s p).head? = some .noProgress) : noProgress s p = true := by
  have hmem : PreStatus.noProgress ∈ preDue s p := List.mem_of_head? h
  cases hno : noProgress s p with
  | true => rfl
  | false => simp [preDue, hno] at hmem

/-- Settles O16, one clause per command of the sequence. -/
theorem prechargeSequence : Obligations.PrechargeSequence := by
  refine ⟨fun p c s hfeed hcan hreach hacked htick => ⟨_, exec_prechargeStart_eq hfeed hcan hreach htick, ?_⟩,
    fun p s hstate hdue => ⟨_, exec_prechargeSelftestDone_of_pass hstate hdue, ?_⟩,
    fun p ready s hstate => ⟨_, exec_prechargeSelftestDone_of_fail ready hstate, State.preStop_conv .sensorFault ?_⟩,
    fun n p s howner hn hstate => ⟨_, rfl, ?_⟩, fun n s => ⟨_, rfl, ?_⟩, fun p s hstate hpause => ⟨_, rfl, ?_⟩,
    fun p s hbusy hdue => ⟨_, rfl, State.preStopOn_conv hbusy hdue⟩, fun p c s hstate hqual hdue hfeed => ⟨_, rfl, ?_⟩,
    fun p s hprogress hover => ⟨_, rfl, ?_⟩, fun p s hbusy hdue => ⟨_, rfl, ?_⟩,
    fun p s hbusy hdue => ⟨_, rfl, State.preStopOn_conv hbusy hdue⟩,
    fun p s hbusy hdue => ⟨_, rfl, State.preStopOn_conv hbusy hdue⟩⟩
  · obtain ⟨hselftest, hself⟩ := s.preSelftest_conv p
    have hreach' : reaches ((s.preSelftest p).down c fun f => { f with off := false }) c = true :=
      (reaches_updPort _ _ _ rfl rfl).trans hreach
    obtain ⟨hch, hwait⟩ := (s.pod c).askStackOff_of_acked s.now hacked
    rw [State.podNow_conv, State.podNow_pod _ hreach']
    exact ⟨hselftest, hself, hch, hwait⟩
  · rw [State.preBegin_conv, inBand_of_plant (State.selfUnmask_plant ..)]
  · rw [State.testFail_conv, State.selfUnmask_conv, hstate]
    rfl
  · rw [if_neg (by simp), State.readyLoss_of_pre howner hn]
    obtain ⟨hrdy, hconv⟩ := State.driverGone_keeps (({ s with rdyLost := setBit s.rdyLost n.val true }.pwmFaults).prePause p) n
    obtain ⟨hpaused, hresume, hat⟩ := State.prePause_conv (p := p) (s := { s with rdyLost := setBit s.rdyLost n.val true }.pwmFaults)
      (by rw [State.pwmFaults_conv]; exact hstate)
    rw [hconv, hrdy, State.prePause_rdyLost, State.pwmFaults_rdyLost]
    exact ⟨testBit_setBit_self .., hpaused, hresume, by rw [hat, State.pwmFaults_now]⟩
  · rw [if_pos rfl, State.pwmFaults_rdyLost]
    exact testBit_setBit_self ..
  · rw [if_pos ⟨hstate, hpause⟩, State.updPre_conv_self]
    refine ⟨rfl, ?_⟩
    rw [State.updPre_rdyLost]
    dsimp only
    split
    · rw [testBit_setBit_below (by omega)]
      exact testBit_setBit_self ..
    · exact testBit_setBit_self ..
  · rw [if_pos ⟨hstate, hqual⟩, if_pos (by rw [hdue]; rfl)]
    exact State.preHandover_of_feed hfeed
  · rw [if_neg (by simp [hprogress])]
    exact State.preWindow_conv hover hprogress
  · rw [if_pos (noProgress_of_due hdue)]
    exact State.preStopOn_conv hbusy hdue

end Sys2Proof.Machine

/-! # The discharge sequence (chapter 5) -/

namespace Sys2Proof.Machine

@[simp] theorem State.warn_plant (s : State) (src : JSrc) (code : Nat) (data : List (Nat × Nat)) :
    (s.warn src code data).plant = s.plant := by
  unfold State.warn
  exact State.journal_plant ..

@[simp] theorem State.disDuty_chop (s : State) (d : Quad) (v : Int) :
    (s.disDuty d v).chop d = { s.chop d with duty := disOn s d v } := by
  unfold State.disDuty
  rw [State.updGen_chop, State.updDis_chop_self]

/-- A stop leaves the chopper STOPPED with its status and no duty (R167, R168). -/
theorem State.disStop_chop (s : State) (d : Quad) (r : DisStatus) : ((s.disStop d r).chop d).state = .stopped ∧
    ((s.disStop d r).chop d).status = r ∧ ((s.disStop d r).chop d).duty = 0 := by
  unfold State.disStop
  dsimp only
  rw [State.chop_of_plant (State.warn_plant ..), State.updDis_chop_self]
  unfold State.disQuiet State.pwmStop
  rw [State.updGen_chop, State.updDis_chop_self]
  exact ⟨rfl, rfl, rfl⟩

/-- Settles O17, one clause per command of the sequence. -/
theorem dischargeSequence : Obligations.DischargeSequence := by
  refine ⟨fun d v s hstate hreq hruns hreason hv => ⟨_, rfl, ?_⟩, fun d s => ⟨_, rfl, ?_⟩,
    fun d f s hdone hstate hdue => ⟨_, rfl, ?_⟩, fun d s hstate hover => ⟨_, rfl, ?_⟩,
    fun d r s hrun hstate honce hdue => ⟨_, rfl, ?_⟩⟩
  · rw [if_pos ⟨hstate, hreq, hruns, hreason⟩, hv]
    dsimp only
    rw [State.updGen_chop, State.updDis_chop_self, State.disDuty_chop]
    exact ⟨rfl, rfl, rfl⟩
  · rw [State.updDis_chop_self]
    exact ⟨rfl, testBit_setBit_self ..⟩
  · rw [hdone]
    dsimp only
    rw [if_pos ⟨hstate, hdue⟩, State.updDis_chop_self]
  · rw [if_pos ⟨hstate, hover⟩]
    exact State.disStop_chop ..
  · rw [hrun]
    dsimp only
    rw [if_pos ⟨hstate, honce, hdue⟩]
    exact State.disStop_chop ..

end Sys2Proof.Machine

/-! # Transfers between feeds and the sharing loop (chapter 8) -/

namespace Sys2Proof.Machine

/-! ## Commands off -/

@[simp] theorem State.offBy_bus (s : State) (c : Chan) (b : BusId) : (s.offBy c).bus b = s.bus b := rfl
@[simp] theorem State.warn_bus (s : State) (src : JSrc) (code : Nat) (data : List (Nat × Nat)) (b : BusId) :
    (s.warn src code data).bus b = s.bus b := State.journal_bus ..
@[simp] theorem State.warn_port (s : State) (src : JSrc) (code : Nat) (data : List (Nat × Nat)) (c : Chan) :
    (s.warn src code data).port c = s.port c := State.journal_port ..
@[simp] theorem State.xferEnd_bus (s : State) (b k : BusId) : (s.xferEnd b).bus k = s.bus k := rfl
@[simp] theorem State.xferEnd_port (s : State) (b : BusId) (c : Chan) : (s.xferEnd b).port c = s.port c := rfl

theorem State.offBy_off (s : State) (c : Chan) : ((s.offBy c).port c).down.off = true := by
  unfold State.offBy State.down
  rw [State.updPort_port_self]

/-- A command off that waits in a frame stays there when a port changes otherwise. -/
theorem State.updPort_keeps_off {s : State} {c : Chan} (k : Chan) (f : Port → Port) (hf : ∀ q, q.down.off = true → (f q).down.off = true)
    (h : (s.port c).down.off = true) : ((s.updPort k f).port c).down.off = true := by
  by_cases hk : k = c
  · rw [hk, State.updPort_port_self]
    exact hf _ h
  · rwa [State.updPort_port_other _ _ _ _ hk]

theorem foldl_keeps_off {α : Type} {s : State} {c : Chan} (f : State → α → State) (l : List α)
    (hf : ∀ s x, (s.port c).down.off = true → ((f s x).port c).down.off = true) (h : (s.port c).down.off = true) :
    ((l.foldl f s).port c).down.off = true := by
  induction l generalizing s with
  | nil => exact h
  | cons x l ih => exact ih (hf s x h)

theorem State.branchesOff_off {s : State} {c : Chan} (b : BusId) (h : (s.port c).down.off = true) :
    ((s.branchesOff b).port c).down.off = true := by
  refine foldl_keeps_off _ _ (fun s k hs => ?_) h
  split
  · exact State.updPort_keeps_off _ _ (fun _ _ => rfl) hs
  · exact hs

@[simp] theorem State.branchesOff_bus (s : State) (b k : BusId) : (s.branchesOff b).bus k = s.bus k := by
  refine foldl_keeps (fun s : State => s.bus k) _ (fun s c => ?_) _ s
  split <;> rfl

/-! ## The parts of a transfer -/

/-- Choosing the new feed leaves the step of the transfer and the old feed as they are (R258, R260). -/
theorem State.xferChoose_bus (s : State) (b : BusId) (new : Chan) : ((s.xferChoose b new).bus b).xfer = (s.bus b).xfer ∧
    ((s.xferChoose b new).bus b).xOld = (s.bus b).xOld ∧ ((s.xferChoose b new).bus b).xNew = some new := by
  unfold State.xferChoose
  dsimp only
  split
  · rw [State.branchesOff_bus, State.updBus_bus_self]
    exact ⟨rfl, rfl, rfl⟩
  · rw [State.updBus_bus_self]
    exact ⟨rfl, rfl, rfl⟩

theorem State.xferChoose_off {s : State} {c : Chan} (b : BusId) (new : Chan) (h : (s.port c).down.off = true) :
    ((s.xferChoose b new).port c).down.off = true := by
  unfold State.xferChoose
  dsimp only
  split
  · exact State.branchesOff_off b h
  · exact h

theorem State.xferKeep_off {s : State} {c : Chan} (b : BusId) (h : (s.port c).down.off = true) :
    ((s.xferKeep b).port c).down.off = true :=
  foldl_keeps_off _ _ (fun _ _ hs => State.updPort_keeps_off _ _ (fun _ hq => hq) hs) h

theorem State.xferFailed_bus (s : State) (b : BusId) : ((s.xferFailed b).bus b).xfer = .failed := by
  unfold State.xferFailed
  dsimp only
  rw [State.updBus_bus_self]

theorem State.xferFailed_off {s : State} {c : Chan} (b : BusId) (h : (s.port c).down.off = true) :
    ((s.xferFailed b).port c).down.off = true := by
  unfold State.xferFailed
  dsimp only
  rw [State.updBus_port, State.warn_port]
  split
  · exact h
  · exact h

/-- A transfer that starts to a feed is in BREAK, from the old feed to it (R256, R258). -/
theorem State.xferStart_of_dest {s : State} {b : BusId} {old new : Chan} {dest : Option Chan}
    (h : (dest.orElse fun _ => nextFeed s b (2 ^ old.val)) = some new) : ((s.xferStart b old dest).bus b).xfer = .break_ ∧
    ((s.xferStart b old dest).bus b).xOld = some old ∧ ((s.xferStart b old dest).bus b).xNew = some new := by
  unfold State.xferStart
  rw [h]
  dsimp only
  obtain ⟨hxfer, hold, hnew⟩ := State.xferChoose_bus _ b new
  rw [hxfer, hold, hnew, State.updBus_bus_self]
  exact ⟨rfl, rfl, rfl⟩

theorem State.xferStart_of_none {s : State} {b : BusId} {old : Chan} (h : nextFeed s b (2 ^ old.val) = none) :
    s.xferStart b old none = s.xferFailed b := by
  unfold State.xferStart
  rw [show ((none : Option Chan).orElse fun _ => nextFeed s b (2 ^ old.val)) = none from h]

/-- A transfer that starts leaves a command off in its frame. -/
theorem State.xferStart_off {s : State} {c : Chan} (b : BusId) (old : Chan) (dest : Option Chan) (h : (s.port c).down.off = true) :
    ((s.xferStart b old dest).port c).down.off = true := by
  unfold State.xferStart
  split
  · exact State.xferFailed_off b h
  · refine State.xferChoose_off b _ (State.xferKeep_off b ?_)
    split
    · exact h
    · exact h

/-- The step of a transfer that the old feed leaves with no feed named. -/
theorem State.xferStart_xfer (s : State) (b : BusId) (old : Chan) :
    ((s.xferStart b old none).bus b).xfer = if (nextFeed s b (2 ^ old.val)).isSome then .break_ else .failed := by
  cases hnext : nextFeed s b (2 ^ old.val) with
  | none => rw [State.xferStart_of_none hnext, State.xferFailed_bus]; rfl
  | some new => exact (State.xferStart_of_dest (dest := none) hnext).1

theorem nextBy_offBy (s : State) (b : BusId) (c : Chan) (rank mask : Nat) : nextBy (s.offBy c) b rank mask = nextBy s b rank mask := rfl
theorem nextFeed_offBy (s : State) (b : BusId) (c : Chan) (mask : Nat) : nextFeed (s.offBy c) b mask = nextFeed s b mask := rfl

/-- A new feed that is late goes off, and the transfer goes on to the next one or fails (R259). -/
theorem State.xferNext_of_new {s : State} {b : BusId} {new : Chan} (h : (s.bus b).xNew = some new) :
    ((s.xferNext b).port new).down.off = true ∧
    ((s.xferNext b).bus b).xfer = if (nextBy s b (s.bus b).xRank (s.bus b).tried).isSome then .break_ else .failed := by
  have hoff : (((s.offBy new).count OD.BUS_XFER_FAILS b.val).port new).down.off = true := s.offBy_off new
  have hsame : nextBy ((s.offBy new).count OD.BUS_XFER_FAILS b.val) b (((s.offBy new).count OD.BUS_XFER_FAILS b.val).bus b).xRank
      (((s.offBy new).count OD.BUS_XFER_FAILS b.val).bus b).tried = nextBy s b (s.bus b).xRank (s.bus b).tried := rfl
  unfold State.xferNext
  rw [h]
  dsimp only
  rw [hsame]
  cases nextBy s b (s.bus b).xRank (s.bus b).tried with
  | none => exact ⟨State.xferFailed_off b hoff, State.xferFailed_bus ..⟩
  | some k =>
    refine ⟨State.xferChoose_off b k hoff, ?_⟩
    rw [(State.xferChoose_bus _ b k).1, State.updBus_bus_self]
    rfl

/-! ## The sharing loop -/

theorem intCast_min (a b : Nat) : ((min a b : Nat) : Int) = min (a : Int) (b : Int) := by omega

/-- Both targets go back to `BUS_OR_VFWD` below 5 % of the smaller I_FS (R274). -/
theorem State.shareStep_of_low {s : State} {b : BusId} {x y : Chan} {ix iy : Int}
    (hlow : (ix + iy) * 100 ≤ ((min (ifsAt s x) (ifsAt s y) : Nat) : Int) * 1000 * 5) (hx : orFrozen s x = false)
    (hy : orFrozen s y = false) : ((s.shareStep b x y ix iy).bus b).target1 = s.act OD.BUS_OR_VFWD b.val ∧
    ((s.shareStep b x y ix iy).bus b).target2 = s.act OD.BUS_OR_VFWD b.val := by
  rw [intCast_min] at hlow
  unfold State.shareStep
  dsimp only
  rw [if_pos (decide_eq_true hlow), State.updBus_bus_self, hx, hy]
  exact ⟨rfl, rfl⟩

/-- With too much current in the first feed its target steps up and the other one down (R274). -/
theorem State.shareStep_of_more {s : State} {b : BusId} {x y : Chan} {ix iy : Int}
    (hhigh : ((min (ifsAt s x) (ifsAt s y) : Nat) : Int) * 1000 * 5 < (ix + iy) * 100)
    (hmore : ((s.act OD.BUS_OR_RATIO b.val : Int) + 2) * (ix + iy) < 100 * ix) (hx : orFrozen s x = false)
    (hy : orFrozen s y = false) :
    ((s.shareStep b x y ix iy).bus b).target1 =
      stepTarget (s.act OD.BUS_OR_VFWD b.val) (s.act OD.BUS_OR_VMAX b.val) (s.bus b).target1 true ∧
    ((s.shareStep b x y ix iy).bus b).target2 =
      stepTarget (s.act OD.BUS_OR_VFWD b.val) (s.act OD.BUS_OR_VMAX b.val) (s.bus b).target2 false := by
  have hsum : 0 < ix + iy := by omega
  have hless : ¬ 100 * ix < ((s.act OD.BUS_OR_RATIO b.val : Int) - 2) * (ix + iy) := by
    have hspread := Int.mul_le_mul_of_nonneg_right
      (show (s.act OD.BUS_OR_RATIO b.val : Int) - 2 ≤ (s.act OD.BUS_OR_RATIO b.val : Int) + 2 by omega) (Int.le_of_lt hsum)
    exact Int.not_lt.mpr (Int.le_of_lt (Int.lt_of_le_of_lt hspread hmore))
  rw [intCast_min] at hhigh
  unfold State.shareStep
  dsimp only
  rw [if_neg (by simpa using hhigh), if_pos (by simp [hmore]), State.updBus_bus_self, hx, hy, decide_eq_true hmore,
    decide_eq_false hless]
  exact ⟨rfl, rfl⟩

theorem State.shareStep_shareAt (s : State) (b : BusId) (x y : Chan) (ix iy : Int) :
    ((s.shareStep b x y ix iy).bus b).shareAt = (s.bus b).shareAt := by
  unfold State.shareStep
  dsimp only
  split
  · rw [State.updBus_bus_self]
  · split
    · rw [State.updBus_bus_self]
    · rfl

/-- A step of the loop with both averages (R274). -/
theorem exec_oringShareStep_eq {b : BusId} {x y : Chan} {ix iy : Int} {s : State} (hruns : runsBus s b = true)
    (hfeeds : engineFeeds s b = some (x, y)) (hloop : orLoop s b = true) (hx : orOf s x = .conducting) (hy : orOf s y = .conducting)
    (hdue : (s.bus b).shareAt + 100000 ≤ s.now) (hix : (s.port x).mtr.meanI = some ix) (hiy : (s.port y).mtr.meanI = some iy) :
    exec (.oringShareStep b) s = .next ((s.updBus b fun k => { k with shareAt := s.now }).shareStep b x y ix iy) := by
  simp only [exec, execOringShareStep, hfeeds]
  rw [if_pos (by simp [hruns, hloop, hx, hy, hdue])]
  simp only [State.updBus_port, hix, hiy]

theorem State.noteBlocked (s : State) (b : BusId) (d : List (Nat × Nat)) :
    (((s.updBus b fun k => { k with blockedNoted := true }).warn (.bus b) 7 d).bus b).blockedNoted = true := by
  rw [State.warn_bus, State.updBus_bus_self]

/-- Settles O18, one clause per command. -/
theorem feedTransfersAndSharing : Obligations.FeedTransfersAndSharing := by
  refine ⟨fun b c f s hruns hsel hsteady hmode hrunning hloss hdue => ⟨_, rfl, ?_⟩,
    fun b c k s hruns hsel hsteady hmode hrevert hdue hrunning hto => ⟨_, rfl, ?_⟩,
    fun b new t s hruns hgap hstatic hnew hdue hsent hfree => ⟨_, rfl, ?_⟩,
    fun b new t s hruns hnew hfrom hon hdue => ⟨_, rfl, ?_⟩,
    fun b x y ix iy s hruns hfeeds hloop hx hy hdue hix hiy =>
      ⟨_, exec_oringShareStep_eq hruns hfeeds hloop hx hy hdue hix hiy, ?_, fun hlow hfx hfy => ?_, fun hhigh hmore hfx hfy => ?_⟩,
    fun b f s hruns hfrom hdue hblocked => ⟨_, rfl, ?_⟩⟩
  · rw [hsel]
    dsimp only
    rw [if_pos ⟨hruns, hsteady, hmode, hrunning⟩, hloss]
    dsimp only
    rw [if_pos hdue, State.xferStart_xfer, nextFeed_offBy]
    exact ⟨State.xferStart_off b c none (s.offBy_off c), rfl⟩
  · rw [hsel]
    dsimp only
    rw [if_pos ⟨hruns, hsteady, hmode, hrevert, hdue, hrunning⟩, hto]
    exact ⟨State.xferStart_off b c (some k) (s.offBy_off c), State.xferStart_of_dest (dest := some k) rfl⟩
  · rw [hgap, hstatic, hnew]
    dsimp only
    rw [if_pos ⟨hdue, hruns, hsent, hfree⟩]
    unfold State.down
    rw [State.updPort_bus, State.updBus_bus_self, State.updPort_port_self]
    exact ⟨rfl, rfl⟩
  · rw [hnew]
    dsimp only
    rw [hfrom]
    dsimp only
    rw [if_neg (by simp [hruns]), if_neg hon, if_pos hdue]
    exact State.xferNext_of_new hnew
  · rw [State.shareStep_shareAt, State.updBus_bus_self]
  · exact State.shareStep_of_low (s := s.updBus b fun k => { k with shareAt := s.now }) hlow hfx hfy
  · have hstep := State.shareStep_of_more (s := s.updBus b fun k => { k with shareAt := s.now }) (b := b) hhigh hmore hfx hfy
    rw [State.updBus_bus_self] at hstep
    exact hstep
  · rw [hfrom]
    dsimp only
    cases hnoted : (s.bus b).blockedNoted with
    | false =>
      rw [if_pos ⟨hdue, hruns, hblocked, rfl⟩]
      exact State.noteBlocked ..
    | true =>
      rw [if_neg (by simp)]
      exact hnoted

end Sys2Proof.Machine

/-! # Internal nodes, urgent lists, paired windows (chapter 9) -/

namespace Sys2Proof.Machine

/-! ## Internal nodes -/

theorem State.healthSeen_pod (s : State) (c : Chan) (old new : Nat) (mean : Int) (d : Chan) :
    (s.healthSeen c old new mean).pod d = s.pod d := by
  have hwarn (u : State) (code : Nat) (data : List (Nat × Nat)) : (u.podWarn c code data).pod d = u.pod d := by
    unfold State.podWarn
    split
    · exact State.pod_of_plant (State.warn_plant ..) d
    · rfl
  unfold State.healthSeen
  dsimp only
  split
  · rw [hwarn]
    split
    · rw [hwarn]
    · rfl
  · split
    · rw [hwarn]
    · rfl

theorem exec_intDwellComplete_pod {c : Chan} {d : Dwell} {l : List Dwell} {s : State} (h : (s.pod c).adc.dwells = d :: l) :
    ∃ u, exec (.intDwellComplete c) s = .next u ∧
      u.pod c = Pod.reading { s.pod c with adc := { (s.pod c).adc with dwells := l } } d := by
  refine ⟨_, rfl, ?_⟩
  rw [h]
  dsimp only
  rw [State.healthSeen_pod, State.updPod_pod_self]

@[simp] theorem Pod.reading_dwells (p : Pod) (d : Dwell) : (p.reading d).adc.dwells = p.adc.dwells := by
  unfold Pod.reading
  dsimp only
  split
  · rfl
  · split <;> rfl

theorem Pod.reading_of_empty (p : Pod) {d : Dwell} (h : d.n = 0) : p.reading d = p := if_pos h

/-- What a dwell with a valid conversion leaves to be read, by its node (R287, R288). -/
theorem Pod.reading_of_node (p : Pod) {d : Dwell} (h : d.n ≠ 0) :
    (d.node = 0 → (p.reading d).st.meas.vposMv = Config.nodeValue 0 d.sum d.n) ∧
    (d.node = 1 → (p.reading d).st.meas.vnegMv = Config.nodeValue 1 d.sum d.n) ∧
    (d.node = 2 → (p.reading d).st.meas.tempDie = Config.nodeValue 2 d.sum d.n) ∧
    (d.node = 3 → ((p.reading d).st.adc.health.testBit 0 = true ↔ 288 * d.n < (d.sum - 28800 * d.n).natAbs)) ∧
    (d.node = 4 → ((p.reading d).st.adc.health.testBit 1 = true ↔ 32 * d.n < d.sum.natAbs)) := by
  unfold Pod.reading
  dsimp only
  rw [if_neg h]
  refine ⟨fun hn => ?_, fun hn => ?_, fun hn => ?_, fun hn => ?_, fun hn => ?_⟩
  · rw [hn]
    rfl
  · rw [hn]
    rfl
  · rw [hn]
    rfl
  · rw [hn]
    change (setBit _ _ (decide _)).testBit _ = true ↔ _
    rw [testBit_setBit_self, decide_eq_true_iff]
  · rw [hn]
    change (setBit _ _ (decide _)).testBit _ = true ↔ _
    rw [testBit_setBit_self, decide_eq_true_iff]

/-! ## Urgent lists -/

/-- `q` is `p` but for what the results of an urgent list may change: tests, protection and metering. -/
def Pod.readsAs (p q : Pod) : Prop :=
  q = { p with tests := q.tests, mtr := q.mtr, st := { p.st with prot := q.st.prot } }

theorem Pod.readsAs.refl (p : Pod) : p.readsAs p := rfl

theorem Pod.sourceNode_eq (p : Pod) (vdi vdo : Int) : ∃ x, p.sourceNode vdi vdo = { p with st := { p.st with prot := x } } := by
  unfold Pod.sourceNode
  split
  · split
    · exact ⟨_, rfl⟩
    · exact ⟨p.st.prot, rfl⟩
  · exact ⟨p.st.prot, rfl⟩

/-- The results serve a request by what they change in tests, protection and metering alone. -/
theorem Pod.urgentFor_eq (p : Pod) (vdi vdo vdn : Int) (t : Nat) (k : Urgent) : ∃ x y z,
    p.urgentFor vdi vdo vdn t k = { p with tests := x, mtr := y, st := { p.st with prot := z } } := by
  unfold Pod.urgentFor
  cases k with
  | stackTest =>
    obtain ⟨x, hx⟩ := p.sourceNode_eq vdi vdo
    dsimp only
    rw [hx]
    split
    · exact ⟨p.tests, p.mtr, p.st.prot, rfl⟩
    · split
      · exact ⟨_, p.mtr, _, rfl⟩
      · exact ⟨_, p.mtr, p.st.prot, rfl⟩
  | confirm =>
    dsimp only
    split
    · exact ⟨_, p.mtr, p.st.prot, rfl⟩
    · exact ⟨p.tests, p.mtr, p.st.prot, rfl⟩
  | snapshot => exact ⟨p.tests, _, p.st.prot, rfl⟩

theorem Pod.readsAs.urgentFor {p q : Pod} (h : p.readsAs q) (vdi vdo vdn : Int) (t : Nat) (k : Urgent) :
    p.readsAs (q.urgentFor vdi vdo vdn t k) := by
  obtain ⟨x, y, z, he⟩ := q.urgentFor_eq vdi vdo vdn t k
  rw [he, h]
  rfl

/-- Codes of a list do not depend on what its results change. -/
theorem Pod.readsAs.runCode {p q : Pod} (h : p.readsAs q) (r : UrgRun) (x : Tap) : q.runCode r x = p.runCode r x := by
  rw [h]
  rfl

/-- One request served, as `urgentDone` folds it. -/
def Pod.serve (r : UrgRun) (t : Nat) (p : Pod) (k : Urgent) : Pod :=
  p.urgentFor (p.runCode r .vdi) (p.runCode r .vdo) (p.runCode r .vdn) t k

/-- The pod with the list delivered. -/
def Pod.delivered (p : Pod) (r d : UrgRun) : Pod := { p with adc := { p.adc with runs := p.adc.runs.map fun k => if k = r then d else k } }

theorem Pod.urgentDone_eq (p : Pod) (r : UrgRun) (codes : List Raw) (t : Nat) :
    p.urgentDone r codes t = r.causes.foldl (Pod.serve (r.deliver codes) t) (p.delivered r (r.deliver codes)) := rfl

theorem Pod.readsAs.serve {p q : Pod} (h : p.readsAs q) (r : UrgRun) (t : Nat) (k : Urgent) : p.readsAs (q.serve r t k) :=
  h.urgentFor ..

theorem Pod.readsAs.serves {p q : Pod} (h : p.readsAs q) (r : UrgRun) (t : Nat) (l : List Urgent) :
    p.readsAs (l.foldl (Pod.serve r t) q) := by
  induction l generalizing q with
  | nil => exact h
  | cons k l ih => exact ih (h.serve r t k)

/-- What one item of a fold brings about, and every item leaves, holds after a fold over a list with that item. -/
theorem foldl_reaches {α β : Type} {f : β → α → β} {inv good : β → Prop} {k : α} (hinv : ∀ b x, inv b → inv (f b x))
    (hown : ∀ b, inv b → good (f b k)) (hkeep : ∀ b x, inv b → good b → good (f b x)) {l : List α} (hmem : k ∈ l) {b : β}
    (hb : inv b) : good (l.foldl f b) := by
  have hrest (l : List α) (b : β) (hb : inv b) (hgood : good b) : good (l.foldl f b) := by
    induction l generalizing b with
    | nil => exact hgood
    | cons x l ih => exact ih _ (hinv b x hb) (hkeep b x hb hgood)
  induction l generalizing b with
  | nil => cases hmem
  | cons x l ih =>
    rcases List.mem_cons.mp hmem with rfl | hmem
    · exact hrest l _ (hinv b k hb) (hown b hb)
    · exact ih hmem (hinv b x hb)

/-- The voltages that a snapshot takes from a list (R337). -/
def Pod.snapOf (p : Pod) (r : UrgRun) : Int × Int :=
  (vUv (p.prm OD.CH_KDIV_IN) (p.runCode r .vdi) - vUv (p.prm OD.CH_KDIV_NEG) (p.runCode r .vdn),
   vUv (p.prm OD.CH_KDIV_OUT) (p.runCode r .vdo) - vUv (p.prm OD.CH_KDIV_NEG) (p.runCode r .vdn))

theorem Pod.readsAs.snapOf {p q : Pod} (h : p.readsAs q) (r : UrgRun) : q.snapOf r = p.snapOf r := by
  rw [h]
  rfl

theorem Pod.serve_snapshot (p : Pod) (r : UrgRun) (t : Nat) : (p.serve r t .snapshot).mtr.snapV = some (p.snapOf r) := rfl

theorem Pod.serve_snapV (p : Pod) (r : UrgRun) (t : Nat) {k : Urgent} (h : k ≠ .snapshot) : (p.serve r t k).mtr = p.mtr := by
  unfold Pod.serve Pod.urgentFor
  cases k with
  | stackTest =>
    obtain ⟨x, hx⟩ := p.sourceNode_eq (p.runCode r .vdi) (p.runCode r .vdo)
    dsimp only
    rw [hx]
    split
    · rfl
    · split <;> rfl
  | confirm =>
    dsimp only
    split <;> rfl
  | snapshot => exact absurd rfl h

/-- A stack test has found a suspect, and its tie tests are about to run (R211, R214). -/
def Pod.suspects (x : Side) (q : Pod) : Prop :=
  q.st.prot.suspect = some x ∧ q.st.prot.detail.testBit 3 = true ∧ q.st.prot.tieRun = true ∧ q.tests.tieLeft = PodCmp.tied ∧
    q.tests.stackRun = true

theorem Pod.sourceNode_of_damage {p : Pod} {vdi vdo : Int} {x : Side} (hcheck : p.nodeCheck vdi vdo = some (x, true))
    (hen : (p.prm OD.CH_DMG_EN).testBit 1 = true) (hphase : (p.gate x).phase = .staticClamp) :
    p.sourceNode vdi vdo = { p with st := { p.st with prot := { p.st.prot with suspect := some x } } }.detail 3 true := by
  unfold Pod.sourceNode
  rw [hcheck]
  dsimp only
  rw [if_pos (by simp [hen, hphase])]

theorem Pod.readsAs.sourceNode {p q : Pod} (h : p.readsAs q) {vdi vdo : Int} {x : Side} (hcheck : p.nodeCheck vdi vdo = some (x, true))
    (hen : (p.prm OD.CH_DMG_EN).testBit 1 = true) (hphase : (p.gate x).phase = .staticClamp) :
    q.sourceNode vdi vdo = { q with st := { q.st with prot := { q.st.prot with suspect := some x } } }.detail 3 true := by
  refine Pod.sourceNode_of_damage ?_ ?_ ?_
  · rw [← hcheck, h]
    rfl
  · rw [← hen, h]
    rfl
  · rw [← hphase, h]
    rfl

/-- The stack test of a pod that stays clamped, served, leaves the suspect and its tie tests, the test still running. -/
theorem Pod.serve_stackTest {p q : Pod} {r : UrgRun} {x : Side} (t : Nat) (h : p.readsAs q) (hclamped : p.bothClamped = true)
    (hcheck : p.nodeCheck (p.runCode r .vdi) (p.runCode r .vdo) = some (x, true))
    (hen : (p.prm OD.CH_DMG_EN).testBit 1 = true) (hphase : (p.gate x).phase = .staticClamp) (hrun : q.tests.stackRun = true) :
    (q.serve r t .stackTest).suspects x := by
  have hclamped' : q.bothClamped = true := by
    rw [← hclamped, h]
    rfl
  unfold Pod.serve Pod.urgentFor
  dsimp only
  rw [if_neg (by simp [hrun]), if_pos hclamped', h.runCode, h.runCode, h.sourceNode hcheck hen hphase]
  exact ⟨rfl, testBit_setBit_self .., rfl, rfl, hrun⟩

/-- Every request but the stack test leaves tests and protection of a suspect as they are. -/
theorem Pod.serve_keeps {q : Pod} (r : UrgRun) (t : Nat) {k : Urgent} (h : k ≠ .stackTest) :
    (q.serve r t k).st = q.st ∧ (q.serve r t k).tests.tieLeft = q.tests.tieLeft ∧
      (q.serve r t k).tests.stackRun = q.tests.stackRun := by
  unfold Pod.serve Pod.urgentFor
  cases k with
  | stackTest => exact absurd rfl h
  | confirm =>
    dsimp only
    split
    · exact ⟨rfl, rfl, rfl⟩
    · exact ⟨rfl, rfl, rfl⟩
  | snapshot => exact ⟨rfl, rfl, rfl⟩

theorem exec_urgentConversionDone_pod {c : Chan} {r : UrgRun} (codes : List Raw) {t : Nat} {s : State}
    (hhv : (s.pod c).st.hvOn = true) (hrun : (s.pod c).adc.openRun = some r) (hdue : r.lastListed + 225 ≤ max s.now t) :
    ∃ u, exec (.urgentConversionDone c codes t) s = .next u ∧ u.pod c = (s.pod c).urgentDone r codes (max s.now t) := by
  refine ⟨_, rfl, ?_⟩
  rw [hrun]
  exact State.podEvent_pod _ _ _ _ _ (by rw [hhv, decide_eq_true hdue]; rfl)

theorem Pod.deliver_mem_urgentDone {p : Pod} {r : UrgRun} (codes : List Raw) (t : Nat) (h : p.adc.openRun = some r) :
    r.deliver codes ∈ (p.urgentDone r codes t).adc.runs := by
  have hmem : r ∈ p.adc.runs := List.mem_of_find?_eq_some h
  have hruns : (p.urgentDone r codes t).adc = (p.delivered r (r.deliver codes)).adc := by
    rw [Pod.urgentDone_eq]
    exact (congrArg Pod.adc ((Pod.readsAs.refl _).serves (r.deliver codes) t r.causes) :)
  rw [hruns]
  exact List.mem_map.mpr ⟨r, hmem, if_pos rfl⟩

theorem Pod.urgentDone_snapV {p : Pod} {r : UrgRun} (codes : List Raw) (t : Nat) (h : Urgent.snapshot ∈ r.causes) :
    (p.urgentDone r codes t).mtr.snapV = some (p.snapOf (r.deliver codes)) := by
  rw [Pod.urgentDone_eq]
  refine foldl_reaches (inv := (p.delivered r (r.deliver codes)).readsAs)
    (good := fun q => q.mtr.snapV = some (p.snapOf (r.deliver codes))) (fun q k hq => hq.serve _ t k) (fun q hq => ?_)
    (fun q k hq hgood => ?_) h (Pod.readsAs.refl _)
  · rw [Pod.serve_snapshot, hq.snapOf]
    rfl
  · by_cases hk : k = .snapshot
    · rw [hk, Pod.serve_snapshot, hq.snapOf]
      rfl
    · rw [Pod.serve_snapV _ _ _ hk]
      exact hgood

theorem Pod.urgentDone_suspects {p : Pod} {r : UrgRun} {codes : List Raw} {x : Side} (t : Nat) (h : Urgent.stackTest ∈ r.causes)
    (hrun : p.tests.stackRun = true) (hclamped : p.bothClamped = true)
    (hcheck : p.nodeCheck (p.runCode (r.deliver codes) .vdi) (p.runCode (r.deliver codes) .vdo) = some (x, true))
    (hen : (p.prm OD.CH_DMG_EN).testBit 1 = true) (hphase : (p.gate x).phase = .staticClamp) :
    (p.urgentDone r codes t).suspects x := by
  have hserve (q : Pod) (hq : (p.delivered r (r.deliver codes)).readsAs q ∧ q.tests.stackRun = true) :
      (q.serve (r.deliver codes) t .stackTest).suspects x := Pod.serve_stackTest t hq.1 hclamped hcheck hen hphase hq.2
  rw [Pod.urgentDone_eq]
  refine foldl_reaches (inv := fun q => (p.delivered r (r.deliver codes)).readsAs q ∧ q.tests.stackRun = true)
    (good := Pod.suspects x) (fun q k hq => ⟨hq.1.serve _ t k, ?_⟩) hserve (fun q k hq hgood => ?_) h ⟨Pod.readsAs.refl _, hrun⟩
  · by_cases hk : k = .stackTest
    · obtain ⟨-, -, -, -, hstill⟩ := hserve q hq
      rw [hk, hstill]
    · obtain ⟨-, -, hsame⟩ := Pod.serve_keeps (q := q) (r.deliver codes) t hk
      rw [hsame, hq.2]
  · by_cases hk : k = .stackTest
    · rw [hk]
      exact hserve q hq
    · obtain ⟨hst, htie, hstack⟩ := Pod.serve_keeps (q := q) (r.deliver codes) t hk
      unfold Pod.suspects
      rw [hst, htie, hstack]
      exact hgood

/-! ## Paired windows -/

/-- A cell that is masked stays so until its test ends. -/
theorem Pod.masked_mono {p : Pod} {k : PodCmp} {a b : Nat} (hab : a ≤ b) (h : p.masked k b = false) : p.masked k a = false := by
  unfold Pod.masked Pod.tied at h ⊢
  rw [Bool.or_eq_false_iff] at h ⊢
  refine ⟨h.1, ?_⟩
  refine Bool.eq_false_iff.mpr fun hcon => ?_
  simp only [Bool.and_eq_true, decide_eq_true_eq] at hcon
  obtain ⟨hties, hfrom⟩ := hcon
  simp [hties, Nat.le_trans hfrom hab] at h

theorem exec_pairedWindowStart_of_cell {c : Chan} {k : PodCmp} {t : Nat} {s : State} (hhv : (s.pod c).st.hvOn = true)
    (hpair : (s.pod c).prm OD.ADC_PAIR = 1) (htrig : ((s.pod c).prm OD.ADC_PAIR_TRIG).testBit k.bit = true)
    (hmask : (s.pod c).masked k (max s.now t) = false) (hhold : (s.pod c).hold k = none) :
    ∃ u, exec (.pairedWindowStart c (some k) t) s = .next u ∧ u.pod c = (s.pod c).capture k.bit (max s.now t) := by
  refine ⟨_, rfl, State.podEvent_pod _ _ _ _ _ ?_⟩
  simp [hhv, hpair, htrig, Pod.masked_mono (Nat.le_max_right _ _) hmask, hhold]

theorem exec_pairedWindowStart_of_tick {c : Chan} {t : Nat} {s : State} (hhv : (s.pod c).st.hvOn = true)
    (hpair : (s.pod c).prm OD.ADC_PAIR = 2) :
    ∃ u, exec (.pairedWindowStart c none t) s = .next u ∧ u.pod c = (s.pod c).alternate (max s.now t) := by
  refine ⟨_, rfl, State.podEvent_pod _ _ _ _ _ ?_⟩
  simp [hhv, hpair]

theorem Pod.capture_of_idle {p : Pod} {trig t : Nat} (hwin : p.adc.winFrom = none)
    (hend : p.adc.winEnd = 0 ∨ p.adc.winEnd + 1000 ≤ t) (hroom : p.adc.pending < 16) (hroute : p.st.adc.routing = .normal) :
    p.capture trig t = p.openWin (halfUp t) trig false := by
  have hgap : (decide (0 < p.adc.winEnd) && decide (t < p.adc.winEnd + 1000)) = false := by
    rw [Bool.and_eq_false_iff, decide_eq_false_iff_not, decide_eq_false_iff_not]
    omega
  unfold Pod.capture
  rw [if_neg (by simp [hwin, hgap, hroom, hroute])]

theorem Pod.capture_of_open {p : Pod} (trig t : Nat) (h : p.adc.winFrom.isSome = true) :
    p.capture trig t = { p with st := { p.st with counts := { p.st.counts with missed := p.st.counts.missed + 1 } } } :=
  if_pos (by rw [h]; rfl)

theorem State.sendCaptures_pod (s : State) (c : Chan) :
    ∃ l, (s.sendCaptures c).pod c = { s.pod c with adc := { (s.pod c).adc with captures := l } } := by
  unfold State.sendCaptures
  dsimp only
  split
  · refine ⟨(s.pod c).adc.captures.drop (s.act OD.STR_CAP_RATE c.val - (s.port c).mtr.caps), ?_⟩
    split
    · exact State.updPod_pod_self ..
    · exact State.updPod_pod_self ..
  · exact ⟨_, rfl⟩

theorem exec_pairedWindowEnd_pod {c : Chan} {f t : Nat} {s : State} (hwin : (s.pod c).adc.winFrom = some f)
    (hdue : f + 1000 ≤ max s.now t) : ∃ u, exec (.pairedWindowEnd c t) s = .next u ∧ (u.pod c).adc.winFrom = none ∧
      (u.pod c).st = (s.pod c).windowEnd.st := by
  refine ⟨_, rfl, ?_⟩
  rw [hwin]
  dsimp only
  rw [if_pos hdue]
  obtain ⟨l, hl⟩ := State.sendCaptures_pod (((s.at t).updPod c Pod.windowEnd).queueWindows c) c
  rw [hl]
  unfold State.queueWindows
  dsimp only
  rw [State.updPod_pod_self, State.updPod_pod_self]
  exact ⟨rfl, rfl⟩

/-- Settles O19, one clause per event. -/
theorem nodesUrgentListsAndWindows : Obligations.NodesUrgentListsAndWindows := by
  refine ⟨fun c d l s hdwell => ?_, fun c r codes t s hhv hrun hdue => ?_,
    fun c r codes x t s hhv hrun hdue hcause hstack hclamped hcheck hen hphase => ?_,
    fun c k t s hhv hpair htrig hmask hhold hwin hend hroom hroute => ?_, fun c t s hhv hpair hwin hroute htick heven => ?_,
    fun c k t s hhv hpair htrig hmask hhold hopen => ?_, fun c f t s hwin hdue => ?_⟩
  · obtain ⟨u, hu, hpod⟩ := exec_intDwellComplete_pod hdwell
    refine ⟨u, hu, ?_⟩
    rw [hpod, Pod.reading_dwells]
    refine ⟨rfl, fun hn => ?_, fun hn => ?_, fun hn => ?_, fun hn => ?_, fun hn => ?_, fun hn => ?_⟩
    · rw [Pod.reading_of_empty _ hn]
      exact ⟨rfl, rfl⟩
    · exact (Pod.reading_of_node _ hn).1
    · exact (Pod.reading_of_node _ hn).2.1
    · exact (Pod.reading_of_node _ hn).2.2.1
    · exact (Pod.reading_of_node _ hn).2.2.2.1
    · exact (Pod.reading_of_node _ hn).2.2.2.2
  · obtain ⟨u, hu, hpod⟩ := exec_urgentConversionDone_pod codes hhv hrun hdue
    refine ⟨u, hu, ?_⟩
    rw [hpod]
    exact ⟨Pod.deliver_mem_urgentDone codes _ hrun, fun hsnap => Pod.urgentDone_snapV codes _ hsnap⟩
  · obtain ⟨u, hu, hpod⟩ := exec_urgentConversionDone_pod codes hhv hrun hdue
    refine ⟨u, hu, ?_⟩
    rw [hpod]
    obtain ⟨hsuspect, hdetail, htie, hleft, -⟩ :=
      Pod.urgentDone_suspects (max s.now t) hcause hstack hclamped hcheck hen hphase
    exact ⟨hsuspect, hdetail, htie, hleft⟩
  · obtain ⟨u, hu, hpod⟩ := exec_pairedWindowStart_of_cell hhv hpair htrig hmask hhold
    refine ⟨u, hu, ?_⟩
    rw [hpod, Pod.capture_of_idle hwin hend hroom hroute]
    exact ⟨rfl, rfl, rfl, rfl⟩
  · obtain ⟨u, hu, hpod⟩ := exec_pairedWindowStart_of_tick (t := t) hhv hpair
    refine ⟨u, hu, ?_⟩
    rw [hpod]
    unfold Pod.alternate
    rw [if_pos ⟨hroute, hwin, htick, heven⟩]
    exact ⟨rfl, rfl, rfl⟩
  · obtain ⟨u, hu, hpod⟩ := exec_pairedWindowStart_of_cell hhv hpair htrig hmask hhold
    refine ⟨u, hu, ?_⟩
    rw [hpod, Pod.capture_of_open _ _ hopen]
    exact ⟨rfl, rfl⟩
  · obtain ⟨u, hu, hfrom, hst⟩ := exec_pairedWindowEnd_pod hwin hdue
    refine ⟨u, hu, hfrom, ?_, fun hpaired => ?_⟩
    · rw [hst]
      rfl
    · rw [hst]
      exact if_pos hpaired

end Sys2Proof.Machine

/-! # Metering (chapter 10) -/

namespace Sys2Proof.Machine

/-! ## Averages and transfers -/

@[simp] theorem State.emit_pod (s : State) (r : StrRec) (c : Chan) : (s.emit r).pod c = s.pod c := by
  unfold State.emit
  split <;> rfl
@[simp] theorem State.emit_port (s : State) (r : StrRec) (c : Chan) : (s.emit r).port c = s.port c := by
  unfold State.emit
  split <;> rfl

theorem State.avgRecord_keeps (s : State) (c : Chan) (d : AvgDone) (word : Nat) :
    ((s.avgRecord c d word).port c).mtr.means = (s.port c).mtr.means ∧
      ∀ k, (s.avgRecord c d word).pod k = s.pod k := by
  unfold State.avgRecord
  dsimp only
  split
  · exact ⟨rfl, fun _ => rfl⟩
  · split
    · simp only [State.emit_port, State.emit_pod, State.updPort_port_self, State.updPort_pod]
      exact ⟨trivial, fun _ => trivial⟩
    · rw [State.updPort_port_self]
      exact ⟨rfl, fun _ => rfl⟩

@[simp] theorem State.engineering_port (s : State) (c k : Chan) : (s.engineering c).port k = s.port k := by
  unfold State.engineering
  simp only [State.set_port]
@[simp] theorem State.engineering_pod (s : State) (c k : Chan) : (s.engineering c).pod k = s.pod k := by
  unfold State.engineering
  simp only [State.set_pod]

/-- An average that reaches the hub is the latest of its source, and no pod moves (R321). -/
theorem State.averageIn_keeps {s : State} {c : Chan} {d : AvgDone} (h : d.src.idx < (s.port c).mtr.means.length) :
    ((s.averageIn c d).port c).mtr.means[d.src.idx]? = some (some d) ∧ (s.averageIn c d).pod c = s.pod c := by
  unfold State.averageIn
  simp -implicitDefEqProofs only [State.avgRecord_keeps, State.engineering_port, State.engineering_pod, State.set_port,
    State.set_pod, State.updPort_port_self, State.updPort_pod]
  exact ⟨List.getElem?_set_self h, trivial⟩

theorem exec_averageComplete_eq {c : Chan} {x : Source} {d : AvgDone} {r : List AvgDone} {s : State}
    (htake : takeAvg x (s.pod c).adc.ready = some (d, r)) (hhears : hears s c = true) (hholds : (s.pod c).st.pod.holds = false) :
    exec (.averageComplete c x) s =
      .next ((s.updPod c fun p => { p with adc := { p.adc with ready := r } }).averageIn c d) := by
  have hheard : hears (s.updPod c fun p => { p with adc := { p.adc with ready := r } }) c = true := hhears
  simp only [exec, execAverageComplete, htake, hheard, State.updPod_pod_self, hholds, Bool.not_false, Bool.and_self, if_true]

/-- A transfer that a hub hears moves its port alone (R331, R332). -/
theorem exec_meteringTransferReceived_port {c : Chan} {s : State} (h : hears s c = true) :
    ∃ u, exec (.meteringTransferReceived c true) s = .next u ∧
      (u.port c).mtr = (s.port c).mtr.heard (s.pod c).mtr.tx (s.pod c).mtr.txEpoch (s.pod c).mtr.sentAt := by
  refine ⟨_, rfl, ?_⟩
  rw [if_pos h, if_pos rfl, State.updPort_port_self]

/-- A transfer of the port's epoch, older than its base, adds nothing (R339). -/
theorem PortMeter.heard_of_older {m : PortMeter} (tx : Totals) {epoch t : Nat} (hepoch : epoch = m.baseEpoch) (hold : t < m.baseAt) :
    (m.heard tx epoch t).acc = m.acc ∧ (m.heard tx epoch t).base = m.base := by
  unfold PortMeter.heard
  dsimp only
  rw [if_pos ⟨hepoch, hold⟩]
  exact ⟨rfl, rfl⟩

theorem PortMeter.heard_of_newer {m : PortMeter} (tx : Totals) {epoch t : Nat} (hepoch : epoch = m.baseEpoch) (hnew : m.baseAt ≤ t) :
    (m.heard tx epoch t).acc = m.acc.rise m.base tx ∧ (m.heard tx epoch t).base = tx := by
  unfold PortMeter.heard PortMeter.transfer
  dsimp only
  rw [if_neg (by omega), if_pos hepoch]
  exact ⟨rfl, rfl⟩

theorem PortMeter.heard_of_epoch {m : PortMeter} (tx : Totals) {epoch : Nat} (t : Nat) (hepoch : epoch ≠ m.baseEpoch) :
    (m.heard tx epoch t).acc.q = m.acc.q ∧ (m.heard tx epoch t).base = tx ∧ (m.heard tx epoch t).baseEpoch = epoch := by
  unfold PortMeter.heard PortMeter.transfer
  dsimp only
  rw [if_neg (fun h => hepoch h.1), if_neg hepoch]
  exact ⟨rfl, rfl, rfl⟩

/-! ## Snapshot and windows -/

/-- What one item of a fold over distinct items brings about, and no other item takes back. -/
theorem foldl_settles {α β : Type} {f : β → α → β} {inv good : β → Prop} {k : α} (hinv : ∀ b x, x ≠ k → inv b → inv (f b x))
    (hown : ∀ b, inv b → good (f b k)) (hkeep : ∀ b x, x ≠ k → good b → good (f b x)) {l : List α} (hnodup : l.Nodup) (hmem : k ∈ l)
    {b : β} (hb : inv b) : good (l.foldl f b) := by
  have hafter (l : List α) (hk : k ∉ l) (b : β) (hgood : good b) : good (l.foldl f b) := by
    induction l generalizing b with
    | nil => exact hgood
    | cons x l ih =>
      obtain ⟨hx, hl⟩ := List.ne_and_not_mem_of_not_mem_cons hk
      exact ih hl _ (hkeep b x hx.symm hgood)
  induction l generalizing b with
  | nil => cases hmem
  | cons x l ih =>
    obtain ⟨hx, hl⟩ := List.nodup_cons.mp hnodup
    rcases List.mem_cons.mp hmem with rfl | hmem
    · exact hafter l hx _ (hown b hb)
    · exact ih hl hmem (hinv b x (fun he => hx (he ▸ hmem)) hb)

theorem Pod.startRun_mtr (p : Pod) (k : Urgent) (t : Nat) : (p.startRun k t).mtr = p.mtr := by
  unfold Pod.startRun
  dsimp only
  repeat' split
  all_goals rfl

theorem Pod.askUrgent_mtr (p : Pod) (k : Urgent) (t : Nat) : (p.askUrgent k t).mtr = p.mtr := by
  unfold Pod.askUrgent
  split
  · split <;> rfl
  · exact Pod.startRun_mtr ..

theorem Pod.snapshot_of_active {p : Pod} (t : Nat) (h : p.st.pod = .active) :
    (p.snapshot t).mtr.snap = p.mtr.total ∧ (p.snapshot t).mtr.snapTaken = true := by
  unfold Pod.snapshot
  rw [if_pos h]
  dsimp only
  split
  · rw [Pod.askUrgent_mtr]
    exact ⟨rfl, rfl⟩
  · exact ⟨rfl, rfl⟩

/-- The latch of a snapshot at the ports. -/
def State.snapAll (s : State) (T : Nat) : State :=
  ({ s with snapLatched := true } : State).forChans allChans fun s c => s.snapAt T c

theorem State.snapNow_of_due {s : State} {T : Nat} (hsnap : s.snap = some T) (hdue : T ≤ s.now) (hopen : s.snapLatched = false) :
    s.snapNow = s.snapAll T := by
  simp only [State.snapNow, hsnap, hdue, hopen, and_self, if_true, State.snapAll]

/-- What a snapshot leaves of the hub. -/
theorem State.snapNow_keeps {γ : Type} (part : State → γ) (hlatch : ∀ s : State, part { s with snapLatched := true } = part s)
    (hsnap : ∀ s T c, part (State.snapAt s T c) = part s) (s : State) : part s.snapNow = part s := by
  unfold State.snapNow
  split
  · rename_i T hT
    split
    · exact (foldl_keeps part _ (fun s c => hsnap s T c) _ _).trans (hlatch s)
    · rfl
  · rfl

/-- A hub owns a pod by what its port reports. -/
theorem owns_of_port {s u : State} {c : Chan} (hlink : (u.port c).linked = (s.port c).linked)
    (hseen : (u.port c).seen = (s.port c).seen) : owns u c = owns s c := by
  unfold owns State.seen
  rw [hlink, hseen]

theorem State.snapAt_owns (s : State) (T : Nat) (k c : Chan) : owns (s.snapAt T k) c = owns s c := by
  unfold State.snapAt
  dsimp only
  by_cases h : k = c
  · refine owns_of_port ?_ ?_ <;> rw [h, State.updPort_port_self, State.updPod_port]
  · refine owns_of_port ?_ ?_ <;> rw [State.updPort_port_other _ _ _ _ h, State.updPod_port]

theorem State.snapAt_pod_self (s : State) (T : Nat) (c : Chan) :
    (s.snapAt T c).pod c = if owns s c then (s.pod c).snapshot T else { s.pod c with mtr := { (s.pod c).mtr with snapTaken := false } } := by
  unfold State.snapAt
  dsimp only
  exact State.updPod_pod_self ..

theorem State.snapAt_pod_other (s : State) (T : Nat) {k c : Chan} (h : k ≠ c) : (s.snapAt T k).pod c = s.pod c := by
  unfold State.snapAt
  dsimp only
  exact State.updPod_pod_other _ _ _ _ h

theorem State.snapAll_pod {s : State} {c : Chan} (T : Nat) (howns : owns s c = true) :
    (s.snapAll T).pod c = (s.pod c).snapshot T := by
  unfold State.snapAll State.forChans
  refine foldl_settles (inv := fun u : State => owns u c = true ∧ u.pod c = s.pod c)
    (good := fun u : State => u.pod c = (s.pod c).snapshot T) (fun u k hk hu => ?_) (fun u hu => ?_) (fun u k hk hu => ?_)
    allChans_nodup (mem_allChans c) ⟨howns, rfl⟩
  · exact ⟨(u.snapAt_owns T k c).trans hu.1, (u.snapAt_pod_other T hk).trans hu.2⟩
  · rw [State.snapAt_pod_self, if_pos hu.1, hu.2]
  · exact (u.snapAt_pod_other T hk).trans hu

theorem State.snapAll_latched (s : State) (T : Nat) : (s.snapAll T).snapLatched = true := by
  have hkeep (u : State) (c : Chan) : (u.snapAt T c).snapLatched = u.snapLatched := by
    unfold State.snapAt State.updPort State.updPod
    rfl
  unfold State.snapAll State.forChans
  rw [foldl_keeps State.snapLatched _ hkeep]

/-! ## Windows -/

/-- The results of a window move status objects alone. -/
theorem State.publish_keeps {γ : Type} (part : State → γ) (hset : ∀ s o i v k, part (State.set s o i v k) = part s) (s : State)
    (c : Chan) (k : Trackers) (flags t : Nat) : part (s.publish c k flags t) = part s := by
  unfold State.publish
  dsimp only
  rw [hset, hset]
  refine foldl_keeps part _ (fun s e => ?_) _ _
  rw [hset, hset]

theorem State.publish_pod (s : State) (c : Chan) (k : Trackers) (flags t : Nat) (d : Chan) : (s.publish c k flags t).pod d = s.pod d :=
  State.publish_keeps (fun s => s.pod d) (fun _ _ _ _ _ => State.set_pod ..) s c k flags t
theorem State.publish_port (s : State) (c : Chan) (k : Trackers) (flags t : Nat) (d : Chan) :
    (s.publish c k flags t).port d = s.port d :=
  State.publish_keeps (fun s => s.port d) (fun _ _ _ _ _ => State.set_port ..) s c k flags t

theorem State.freshTrackers_self (s : State) (c : Chan) (part : Bool) :
    (s.freshTrackers c part).pod c = { s.pod c with mtr := { (s.pod c).mtr with trk := {} } } ∧
    (s.freshTrackers c part).port c = { s.port c with mtr := { (s.port c).mtr with trk := {}, partialWin := part } } := by
  unfold State.freshTrackers
  rw [State.updPort_port_self, State.updPod_port]
  exact ⟨State.updPod_pod_self .., rfl⟩

theorem State.freshTrackers_other (s : State) {k c : Chan} (part : Bool) (h : k ≠ c) :
    (s.freshTrackers k part).pod c = s.pod c ∧ (s.freshTrackers k part).port c = s.port c := by
  unfold State.freshTrackers
  rw [State.updPort_port_other _ _ _ _ h]
  exact ⟨State.updPod_pod_other _ _ _ _ h, rfl⟩

/-- What the stream port takes in is all that the end of a window does besides the results and the fresh trackers. -/
theorem State.windowEnds_keeps {γ : Type} (part : State → γ) (hemit : ∀ s r, part (State.emit s r) = part s) (s : State) (c : Chan) :
    ∃ k flags, part (s.windowEnds c) = part ((s.publish c k flags s.now).freshTrackers c false) := by
  refine ⟨extremesOf s c, mmFlags (extremesOf s c) (s.port c).mtr.partialWin, ?_⟩
  unfold State.windowEnds
  dsimp only
  split
  · rw [hemit]
  · rfl

theorem State.windowEnds_self (s : State) (c : Chan) :
    (s.windowEnds c).pod c = { s.pod c with mtr := { (s.pod c).mtr with trk := {} } } ∧
    (s.windowEnds c).port c = { s.port c with mtr := { (s.port c).mtr with trk := {}, partialWin := false } } := by
  obtain ⟨k, flags, hparts⟩ := s.windowEnds_keeps (fun s => (s.pod c, s.port c))
    (fun s r => Prod.ext (State.emit_pod ..) (State.emit_port ..)) c
  rw [Prod.mk.injEq] at hparts
  rw [hparts.1, hparts.2, (State.freshTrackers_self ..).1, (State.freshTrackers_self ..).2, State.publish_pod, State.publish_port]
  exact ⟨rfl, rfl⟩

theorem State.windowEnds_other (s : State) {k c : Chan} (h : k ≠ c) :
    (s.windowEnds k).pod c = s.pod c ∧ (s.windowEnds k).port c = s.port c := by
  obtain ⟨x, flags, hparts⟩ := s.windowEnds_keeps (fun s => (s.pod c, s.port c))
    (fun s r => Prod.ext (State.emit_pod ..) (State.emit_port ..)) k
  rw [Prod.mk.injEq] at hparts
  rw [hparts.1, hparts.2, (State.freshTrackers_other _ _ h).1, (State.freshTrackers_other _ _ h).2, State.publish_pod,
    State.publish_port]
  exact ⟨rfl, rfl⟩

theorem windowDue_snapNow (s : State) (c : Chan) : windowDue s.snapNow c = windowDue s c :=
  State.snapNow_keeps (fun s => windowDue s c) (fun _ => rfl) (fun _ _ _ => rfl) s

theorem State.windowsNow_of_due {s : State} {c : Chan} (h : windowDue s c = true) :
    (s.windowsNow.pod c).mtr.trk = {} ∧ (s.windowsNow.port c).mtr.partialWin = false := by
  refine foldl_settles (inv := fun _ => True) (good := fun u : State => (u.pod c).mtr.trk = {} ∧ (u.port c).mtr.partialWin = false)
    (fun _ _ _ _ => trivial) (fun u _ => ?_) (fun u k hk hu => ?_) (allChans_nodup.filter _)
    (List.mem_filter.mpr ⟨mem_allChans c, (windowDue_snapNow s c).trans h⟩) trivial
  · rw [(u.windowEnds_self c).1, (u.windowEnds_self c).2]
    exact ⟨rfl, rfl⟩
  · rw [(u.windowEnds_other hk).1, (u.windowEnds_other hk).2]
    exact hu

end Sys2Proof.Machine

/-! # Clears and checkpoints (chapter 10) -/

namespace Sys2Proof.Machine

/-- A status object that is set to another value than its Default reads as that value. -/
theorem State.stat_set_self (s : State) (o : Obj) (i k : Nat) {v : Int} (h : v ≠ o.dflt) : (s.set o i v k).stat o i k = v.toNat :=
  congrArg Int.toNat (Store.get_set_self _ _ _ _ _ h)

/-! ## What a checkpoint finds -/

theorem State.ckpt_of_units {s u : State} (h : s.units = u.units) : s.ckpt = u.ckpt := by
  simp only [State.units, Prod.mk.injEq] at h
  obtain ⟨-, -, -, -, -, -, -, hckpt, -⟩ := h
  exact hckpt

@[simp] theorem State.journalAt_ckpt (s : State) (t k : Nat) (src : JSrc) (c : Nat) (d : List (Nat × Nat)) (h cl : Bool) :
    (s.journalAt t k src c d h cl).ckpt = s.ckpt := State.ckpt_of_units (by simp)
@[simp] theorem State.journal_ckpt (s : State) (k : Nat) (src : JSrc) (c : Nat) (d : List (Nat × Nat)) :
    (s.journal k src c d).ckpt = s.ckpt := State.journalAt_ckpt ..
@[simp] theorem State.warn_ckpt (s : State) (src : JSrc) (code : Nat) (d : List (Nat × Nat)) : (s.warn src code d).ckpt = s.ckpt :=
  State.journal_ckpt ..
@[simp] theorem State.emit_ckpt (s : State) (r : StrRec) : (s.emit r).ckpt = s.ckpt := by
  unfold State.emit
  split <;> rfl
@[simp] theorem State.emit_now (s : State) (r : StrRec) : (s.emit r).now = s.now := by
  unfold State.emit
  split <;> rfl
theorem State.freshTrackers_keeps (s : State) (c : Chan) (part : Bool) :
    (s.freshTrackers c part).ckpt = s.ckpt ∧ (s.freshTrackers c part).now = s.now := by
  unfold State.freshTrackers State.updPort State.updPod
  exact ⟨rfl, rfl⟩

/-- Windows and a snapshot leave the checkpoint region and the time as they are. -/
theorem State.windowsNow_keeps (s : State) : s.windowsNow.ckpt = s.ckpt ∧ s.windowsNow.now = s.now := by
  have hsnap : (s.snapNow.ckpt, s.snapNow.now) = (s.ckpt, s.now) := by
    refine State.snapNow_keeps (fun s => (s.ckpt, s.now)) (fun _ => rfl) (fun s T c => ?_) s
    unfold State.snapAt State.updPort State.updPod
    rfl
  have hend (s : State) (c : Chan) : ((s.windowEnds c).ckpt, (s.windowEnds c).now) = (s.ckpt, s.now) := by
    obtain ⟨k, flags, hparts⟩ := s.windowEnds_keeps (fun s => (s.ckpt, s.now))
      (fun s r => Prod.ext (State.emit_ckpt ..) (State.emit_now ..)) c
    obtain ⟨hckpt, hnow⟩ := State.freshTrackers_keeps (s.publish c k flags s.now) c false
    rw [hparts, hckpt, hnow]
    exact State.publish_keeps (fun s => (s.ckpt, s.now)) (fun _ _ _ _ _ => rfl) s c k flags s.now
  have hall := (foldl_keeps (fun s : State => (s.ckpt, s.now)) State.windowEnds hend
    (allChans.filter (windowDue s.snapNow)) s.snapNow).trans hsnap
  exact Prod.mk.injEq _ _ _ _ ▸ hall

/-- Windows and a snapshot leave accumulators and clears of a port. -/
theorem State.windowsNow_port (s : State) (c : Chan) : (s.windowsNow.port c).mtr.clearMask = (s.port c).mtr.clearMask ∧
    (s.windowsNow.port c).mtr.clearAt = (s.port c).mtr.clearAt := by
  have hsnap : ((s.snapNow.port c).mtr.clearMask, (s.snapNow.port c).mtr.clearAt) =
      ((s.port c).mtr.clearMask, (s.port c).mtr.clearAt) := by
    refine State.snapNow_keeps (fun s => ((s.port c).mtr.clearMask, (s.port c).mtr.clearAt)) (fun _ => rfl) (fun s T k => ?_) s
    unfold State.snapAt
    dsimp only
    by_cases hk : k = c
    · rw [hk, State.updPort_port_self, State.updPod_port]
    · rw [State.updPort_port_other _ _ _ _ hk, State.updPod_port]
  have hend (s : State) (k : Chan) : (((s.windowEnds k).port c).mtr.clearMask, ((s.windowEnds k).port c).mtr.clearAt) =
      ((s.port c).mtr.clearMask, (s.port c).mtr.clearAt) := by
    by_cases hk : k = c
    · rw [hk, (s.windowEnds_self c).2]
    · rw [(s.windowEnds_other hk).2]
  have hall := (foldl_keeps (fun s : State => ((s.port c).mtr.clearMask, (s.port c).mtr.clearAt)) State.windowEnds hend
    (allChans.filter (windowDue s.snapNow)) s.snapNow).trans hsnap
  exact Prod.mk.injEq _ _ _ _ ▸ hall

/-! ## Clears -/

theorem PortMeter.clear_of_totals {m : PortMeter} {mask : Nat} (h : mask.testBit 0 = true) : (m.clear mask).acc.q = 0 ∧
    (m.clear mask).acc.e = 0 ∧ (m.clear mask).acc.i2t = 0 ∧ (m.clear mask).clearMask = 0 := by
  unfold PortMeter.clear
  dsimp only
  rw [if_pos h]
  split
  · exact ⟨rfl, rfl, rfl, rfl⟩
  · exact ⟨rfl, rfl, rfl, rfl⟩

/-- The clear of a port empties what its mask names, after taking in what its pod has counted (R339). -/
theorem State.clearNow_self (s : State) (c : Chan) : ∃ m : PortMeter,
    ((s.clearNow c).port c).mtr.acc = (m.clear (s.port c).mtr.clearMask).acc ∧
    ((s.clearNow c).port c).mtr.clearMask = (m.clear (s.port c).mtr.clearMask).clearMask := by
  unfold State.clearNow
  extract_lets meter mask taken q0 cleared aged fresh
  refine ⟨(taken.port c).mtr, ?_⟩
  have hcleared : (cleared.port c).mtr = (taken.port c).mtr.clear mask := by
    unfold cleared
    rw [State.updPort_port_self]
  have haged : aged.port c = cleared.port c := by
    unfold aged
    split
    · exact State.updPod_port ..
    · rfl
  have hfresh : (fresh.port c).mtr.acc = (cleared.port c).mtr.acc ∧ (fresh.port c).mtr.clearMask = (cleared.port c).mtr.clearMask := by
    unfold fresh
    split
    · rw [(aged.freshTrackers_self c true).2, haged]
      exact ⟨rfl, rfl⟩
    · rw [haged]
      exact ⟨rfl, rfl⟩
  rw [State.journal_port, State.set_port, hfresh.1, hfresh.2, hcleared]
  exact ⟨rfl, rfl⟩

theorem State.clearNow_other (s : State) {k c : Chan} (h : k ≠ c) : (s.clearNow k).port c = s.port c := by
  unfold State.clearNow
  extract_lets meter mask taken q0 cleared aged fresh
  have htaken : taken.port c = s.port c := by
    unfold taken
    split
    · exact State.updPort_port_other _ _ _ _ h
    · rfl
  have hcleared : cleared.port c = taken.port c := State.updPort_port_other _ _ _ _ h
  have haged : aged.port c = cleared.port c := by
    unfold aged
    split
    · exact State.updPod_port ..
    · rfl
  have hfresh : fresh.port c = aged.port c := by
    unfold fresh
    split
    · exact (aged.freshTrackers_other true h).2
    · rfl
  rw [State.journal_port, State.set_port, hfresh, haged, hcleared, htaken]

theorem State.clearNow_ckpt (s : State) (c : Chan) : (s.clearNow c).ckpt = s.ckpt ∧ (s.clearNow c).now = s.now := by
  unfold State.clearNow
  extract_lets meter mask taken q0 cleared aged fresh
  have htaken : taken.ckpt = s.ckpt ∧ taken.now = s.now := by
    unfold taken
    split
    · exact ⟨rfl, rfl⟩
    · exact ⟨rfl, rfl⟩
  have haged : aged.ckpt = taken.ckpt ∧ aged.now = taken.now := by
    unfold aged
    split
    · exact ⟨rfl, rfl⟩
    · exact ⟨rfl, rfl⟩
  have hfresh : fresh.ckpt = aged.ckpt ∧ fresh.now = aged.now := by
    unfold fresh
    split
    · exact aged.freshTrackers_keeps c true
    · exact ⟨rfl, rfl⟩
  rw [State.journal_ckpt, State.now_of_plant (State.journal_plant ..)]
  exact ⟨hfresh.1.trans (haged.1.trans htaken.1), hfresh.2.trans (haged.2.trans htaken.2)⟩

/-! ## Checkpoints -/

/-- A checkpoint that is latched while another one is written waits (R340). -/
theorem State.latch_of_writing {s : State} (h : s.ckpt.writing.isSome = true) :
    s.latch = { s with ckpt := { s.ckpt with waiting := some (ckptOf s) } } := if_pos h

theorem State.latch_of_idle {s : State} (h : s.ckpt.writing = none) : s.latch = { s with ckpt := s.ckpt.write (ckptOf s) } :=
  if_neg (by rw [h]; exact Bool.false_ne_true)

theorem State.latch_writing (s : State) : s.latch.ckpt.writing.isSome = true := by
  unfold State.latch
  split
  case isTrue h => exact h
  case isFalse => rfl

theorem State.latch_port (s : State) (c : Chan) : s.latch.port c = s.port c := by
  unfold State.latch
  split <;> rfl

theorem State.clearsNow_ckpt (s : State) : ∃ x : State, s.clearsNow = x.latch ∧ x.ckpt = s.ckpt ∧ x.now = s.now := by
  have hwindows : (if s.hubUp then s.windowsNow else s).ckpt = s.ckpt ∧ (if s.hubUp then s.windowsNow else s).now = s.now := by
    split
    · exact s.windowsNow_keeps
    · exact ⟨rfl, rfl⟩
  have hclears (u : State) (l : List Chan) : ((u.forChans l State.clearNow).ckpt, (u.forChans l State.clearNow).now) = (u.ckpt, u.now) :=
    foldl_keeps (fun s : State => (s.ckpt, s.now)) State.clearNow
      (fun s c => Prod.ext (s.clearNow_ckpt c).1 (s.clearNow_ckpt c).2) l u
  refine ⟨_, rfl, (congrArg Prod.fst (hclears _ _)).trans hwindows.1, (congrArg Prod.snd (hclears _ _)).trans hwindows.2⟩

/-- A clear of the totals that is due leaves them at 0 (R339). -/
theorem State.clearsNow_port {s : State} {c : Chan} (hmask : (s.port c).mtr.clearMask.testBit 0 = true)
    (hdue : (s.port c).mtr.clearAt ≤ s.now) : (s.clearsNow.port c).mtr.acc.q = 0 ∧ (s.clearsNow.port c).mtr.acc.e = 0 ∧
      (s.clearsNow.port c).mtr.acc.i2t = 0 ∧ (s.clearsNow.port c).mtr.clearMask = 0 := by
  have hwindows : ((if s.hubUp then s.windowsNow else s).port c).mtr.clearMask = (s.port c).mtr.clearMask ∧
      ((if s.hubUp then s.windowsNow else s).port c).mtr.clearAt = (s.port c).mtr.clearAt ∧
      (if s.hubUp then s.windowsNow else s).now = s.now := by
    split
    · exact ⟨(s.windowsNow_port c).1, (s.windowsNow_port c).2, s.windowsNow_keeps.2⟩
    · exact ⟨rfl, rfl, rfl⟩
  have hclear : clearDue (if s.hubUp then s.windowsNow else s) c = true := by
    have hne : (s.port c).mtr.clearMask ≠ 0 := fun h => by simp [h] at hmask
    simp [clearDue, hwindows, hdue, hne]
  unfold State.clearsNow
  extract_lets windows
  rw [State.latch_port]
  refine foldl_settles (inv := fun u : State => (u.port c).mtr.clearMask.testBit 0 = true)
    (good := fun u : State => (u.port c).mtr.acc.q = 0 ∧ (u.port c).mtr.acc.e = 0 ∧ (u.port c).mtr.acc.i2t = 0 ∧
      (u.port c).mtr.clearMask = 0)
    (fun u k hk hu => ?_) (fun u hu => ?_) (fun u k hk hu => ?_) (allChans_nodup.filter _)
    (List.mem_filter.mpr ⟨mem_allChans c, hclear⟩) (hwindows.1 ▸ hmask)
  · rw [u.clearNow_other hk]
    exact hu
  · obtain ⟨m, hacc, hzero⟩ := u.clearNow_self c
    rw [hacc, hzero]
    exact PortMeter.clear_of_totals hu
  · rw [u.clearNow_other hk]
    exact hu

/-- A checkpoint that is due is latched as of now, on the region as it was (R340). -/
theorem exec_checkpoint_eq {s : State} (h : ckptDue s = true) :
    ∃ x : State, exec .checkpoint s = .next x.latch ∧ x.ckpt = s.ckpt ∧ x.now = s.now := by
  simp only [exec, execCheckpoint]
  rw [if_pos h]
  split
  · obtain ⟨x, hx, hckpt, hnow⟩ := s.clearsNow_ckpt
    exact ⟨x, by rw [hx], hckpt, hnow⟩
  · exact ⟨s.windowsNow, rfl, s.windowsNow_keeps⟩

/-- The region once the write of a checkpoint has ended, well or not: its slot, and the one that waited is being written. -/
def CkptRegion.ended (r : CkptRegion) (k : Ckpt) (ok : Bool) : CkptRegion :=
  let slot := if ok then some k else none
  let r : CkptRegion := if k.seq % 2 = 0 then { r with slot0 := slot, writing := none } else { r with slot1 := slot, writing := none }
  match r.waiting with
  | some w => r.write w
  | none => r

theorem State.clearsDone_ckpt (s : State) : s.clearsDone.ckpt = s.ckpt := by
  unfold State.clearsDone State.forChans
  rw [foldl_keeps State.ckpt _ fun _ _ => State.set_ckpt ..]
theorem State.sealed_ckpt (s : State) : s.sealed.ckpt = s.ckpt := by
  unfold State.sealed
  extract_lets seq timed
  exact State.journalAt_ckpt ..

/-- What the end of a write leaves besides the region: its objects and the seal of a power warning, or the warning (R556, R558). -/
def State.ckptReported (s : State) (k : Ckpt) (ok : Bool) : State :=
  if ok then
    let s := ((s.set OD.MTR_CKPT_SEQ 0 (k.seq : Nat)).set OD.MTR_CKPT_TIME 0 (k.at_ : Nat)).clearsDone
    if s.pfw.saving && decide (s.pfw.from_ ≤ k.at_) then s.sealed else s
  else (s.count OD.MTR_CKPT_FAILS).warn .hub 0x0E [(4, k.seq)]

theorem State.ckptReported_ckpt (s : State) (k : Ckpt) (ok : Bool) : (s.ckptReported k ok).ckpt = s.ckpt := by
  unfold State.ckptReported
  dsimp only
  split
  · split
    · rw [State.sealed_ckpt, State.clearsDone_ckpt]
      rfl
    · rw [State.clearsDone_ckpt]
      rfl
  · exact State.warn_ckpt ..

theorem exec_checkpointWritten_ckpt {k : Ckpt} (ok : Bool) {s : State} (h : s.ckpt.writing = some k) :
    ∃ u, exec (.checkpointWritten ok) s = .next u ∧ u.ckpt = s.ckpt.ended k ok := by
  refine ⟨State.ckptReported { s with ckpt := s.ckpt.ended k ok } k ok, ?_, State.ckptReported_ckpt ..⟩
  simp only [exec, execCheckpointWritten, h]
  rfl

theorem CkptRegion.ended_of_none {r : CkptRegion} (k : Ckpt) (ok : Bool) (h : r.waiting = none) : (r.ended k ok).writing = none := by
  by_cases hk : k.seq % 2 = 0
  · simp only [CkptRegion.ended, hk, if_true, h]
  · simp only [CkptRegion.ended, hk, if_false, h]

theorem CkptRegion.ended_of_some {r : CkptRegion} (k : Ckpt) (ok : Bool) {w : Ckpt} (h : r.waiting = some w) :
    (r.ended k ok).waiting = none ∧ ∃ x, (r.ended k ok).writing = some x ∧ x.at_ = w.at_ ∧ x.ports = w.ports := by
  by_cases hk : k.seq % 2 = 0
  · simp only [CkptRegion.ended, hk, if_true, h]
    exact ⟨rfl, _, rfl, rfl, rfl⟩
  · simp only [CkptRegion.ended, hk, if_false, h]
    exact ⟨rfl, _, rfl, rfl, rfl⟩

theorem CkptRegion.ended_slots (r : CkptRegion) (k : Ckpt) (ok : Bool) :
    if k.seq % 2 = 0 then (r.ended k ok).slot0 = (if ok then some k else none) ∧ (r.ended k ok).slot1 = r.slot1
    else (r.ended k ok).slot1 = (if ok then some k else none) ∧ (r.ended k ok).slot0 = r.slot0 := by
  by_cases hk : k.seq % 2 = 0
  · simp only [CkptRegion.ended, hk, if_true]
    split <;> exact ⟨rfl, rfl⟩
  · simp only [CkptRegion.ended, hk, if_false]
    split <;> exact ⟨rfl, rfl⟩

/-- Settles O21, one clause per event and case. -/
theorem meteringMovesTotals : Obligations.MeteringMovesTotals := by
  refine ⟨fun c x d r s htake hhears hholds hidx => ⟨_, exec_averageComplete_eq htake hhears hholds, ?_⟩,
    fun c s hpow hlinking htick hdue => ⟨_, rfl, ?_⟩, fun c s hhears hepoch hold => ?_, fun c s hhears hepoch hnew => ?_,
    fun c s hhears hepoch => ?_, fun c s hup hdue => ⟨_, rfl, ?_⟩, fun c T s hsnap hdue hopen howns hactive => ⟨_, rfl, ?_⟩,
    fun T s hsnap hlatched => ⟨_, rfl, ?_⟩, fun c s hmask hdue hcan => ⟨_, rfl, ?_⟩, fun s hdue hwriting => ?_,
    fun s hdue hwriting => ?_, fun k s hwriting => ?_, fun k s hwriting => ?_⟩
  · obtain ⟨hmeans, hpod⟩ := State.averageIn_keeps (s := s.updPod c fun p => { p with adc := { p.adc with ready := r } }) (d := d) hidx
    rw [hpod, State.updPod_pod_self]
    exact ⟨rfl, hmeans⟩
  · rw [State.podEvent_pod _ _ _ _ _ (by simp [hpow, hlinking, htick, hdue])]
    exact ⟨rfl, by simp⟩
  · obtain ⟨u, hu, hmtr⟩ := exec_meteringTransferReceived_port hhears
    refine ⟨u, hu, ?_⟩
    rw [hmtr]
    exact PortMeter.heard_of_older _ hepoch hold
  · obtain ⟨u, hu, hmtr⟩ := exec_meteringTransferReceived_port hhears
    refine ⟨u, hu, ?_⟩
    rw [hmtr]
    exact PortMeter.heard_of_newer _ hepoch hnew
  · obtain ⟨u, hu, hmtr⟩ := exec_meteringTransferReceived_port hhears
    refine ⟨u, hu, ?_⟩
    rw [hmtr]
    exact PortMeter.heard_of_epoch _ _ hepoch
  · rw [if_pos hup]
    exact State.windowsNow_of_due hdue
  · obtain ⟨htotal, htaken⟩ := Pod.snapshot_of_active T hactive
    rw [State.snapNow_of_due hsnap hdue hopen, State.snapAll_pod T howns]
    exact ⟨s.snapAll_latched T, htotal, htaken⟩
  · simp only [hsnap, hlatched, if_true]
    exact ⟨rfl, State.stat_set_self _ _ _ _ (by decide)⟩
  · have hne : (s.port c).mtr.clearMask ≠ 0 := fun h => by simp [h] at hmask
    obtain ⟨x, hx, -, -⟩ := s.clearsNow_ckpt
    obtain ⟨hq, he, hi2t, hzero⟩ := State.clearsNow_port hmask hdue
    rw [if_pos (by simp [clearDue, hne, hdue, hcan])]
    exact ⟨hq, he, hi2t, hzero, by rw [hx]; exact x.latch_writing⟩
  · obtain ⟨x, hx, hckpt, hnow⟩ := exec_checkpoint_eq hdue
    refine ⟨_, ckptOf x, hx, ?_⟩
    rw [State.latch_of_writing (by rw [hckpt]; exact hwriting)]
    exact ⟨rfl, hnow, by rw [← hckpt]⟩
  · obtain ⟨x, hx, hckpt, hnow⟩ := exec_checkpoint_eq hdue
    refine ⟨_, { ckptOf x with seq := x.ckpt.last + 1 }, hx, ?_⟩
    rw [State.latch_of_idle (by rw [hckpt]; exact hwriting)]
    exact ⟨rfl, by rw [hckpt], hnow⟩
  · obtain ⟨u, hu, hckpt⟩ := exec_checkpointWritten_ckpt true hwriting
    refine ⟨u, hu, ?_⟩
    rw [hckpt]
    exact ⟨CkptRegion.ended_of_none k true, fun w => CkptRegion.ended_of_some k true, s.ckpt.ended_slots k true⟩
  · obtain ⟨u, hu, hckpt⟩ := exec_checkpointWritten_ckpt false hwriting
    refine ⟨u, hu, ?_⟩
    rw [hckpt]
    exact ⟨CkptRegion.ended_of_none k false, fun w => CkptRegion.ended_of_some k false, s.ckpt.ended_slots k false⟩

end Sys2Proof.Machine

/-! # Comparator cells (chapter 11) -/

namespace Sys2Proof.Machine

/-! ## Cells of the hub -/

/-- A cell but for what capture and event routes note in it. -/
def Cell.core (c : Cell) : Cell := { c with captTime := 0, captEdge := 0, lastEvent := none }

theorem Cell.core_fields {c d : Cell} (h : c.core = d.core) : c.out = d.out ∧ c.filt = d.filt ∧ c.rising = d.rising ∧
    c.test = d.test ∧ c.swap = d.swap ∧ c.holdUntil = d.holdUntil :=
  ⟨(congrArg Cell.out h :), (congrArg Cell.filt h :), (congrArg Cell.rising h :), (congrArg Cell.test h :), (congrArg Cell.swap h :),
    (congrArg Cell.holdUntil h :)⟩

@[simp] theorem State.updCell_cell_self (s : State) (n : Oct) (f : Cell → Cell) : (s.updCell n f).cell n = f (s.cell n) :=
  Bank.get_upd_self ..
theorem State.updCell_cell_other (s : State) {n k : Oct} (f : Cell → Cell) (h : n ≠ k) : (s.updCell n f).cell k = s.cell k :=
  Bank.get_upd_other _ _ _ _ h
theorem State.cell_of_cells {s u : State} (h : s.cells = u.cells) (n : Oct) : s.cell n = u.cell n := by
  unfold State.cell
  rw [h]

@[simp] theorem State.updGen_cells (s : State) (n : Oct) (f : Pwm → Pwm) : (s.updGen n f).cells = s.cells := by unfold State.updGen; rfl
@[simp] theorem State.uncount_cells (s : State) (o : Obj) (i : Nat) : (s.uncount o i).cells = s.cells := by unfold State.uncount; rfl
@[simp] theorem State.untermed_cells (s : State) (n : Oct) (t : Nat) : (s.untermed n t).cells = s.cells := by
  unfold State.untermed
  split
  · split <;> simp
  · rfl
@[simp] theorem State.pwmFault_cells (s : State) (n : Oct) : (s.pwmFault n).cells = s.cells := by
  unfold State.pwmFault
  dsimp only
  split <;> simp
@[simp] theorem State.faultSee_cells (s : State) (n : Oct) : (s.faultSee n).cells = s.cells := by
  unfold State.faultSee
  dsimp only
  repeat' split
  all_goals simp
@[simp] theorem State.pwmFaults_cells (s : State) : s.pwmFaults.cells = s.cells := by
  refine foldl_keeps State.cells _ (fun s n => ?_) _ s
  split
  · rfl
  · exact State.faultSee_cells ..
theorem State.count_cells_eq (s : State) (o : Obj) (i : Nat) : (s.count o i).cells = s.cells := by unfold State.count State.set; rfl
@[simp] theorem State.pwmTerminate_cells (s : State) (n : Oct) (t : Nat) : (s.pwmTerminate n t).cells = s.cells := by
  unfold State.pwmTerminate
  dsimp only
  split
  · rfl
  · split
    · split
      · rfl
      · exact (State.updGen_cells ..).trans (State.count_cells_eq ..)
    · split
      · split
        · refine (State.updGen_cells ..).trans ((State.count_cells_eq ..).trans ?_)
          split
          · exact State.uncount_cells ..
          · rfl
        · rfl
      · rfl
@[simp] theorem State.termRoute_cells (s : State) (n : Oct) (t : Nat) : (s.termRoute n t).cells = s.cells := by
  unfold State.termRoute
  split <;> simp
/-- Routes act on generators, not on cells. -/
@[simp] theorem State.routesAct_cells (s old : State) (t : Nat) : (s.routesAct old t).cells = s.cells := by
  refine (foldl_keeps State.cells _ (fun s k => ?_) _ _).trans s.pwmFaults_cells
  split
  · exact State.termRoute_cells ..
  · rfl

theorem State.updCell_core {s : State} (k : Oct) {f : Cell → Cell} (hf : ∀ c, (f c).core = c.core) (n : Oct) :
    ((s.updCell k f).cell n).core = (s.cell n).core := by
  by_cases h : k = n
  · rw [h, State.updCell_cell_self, hf]
  · rw [State.updCell_cell_other _ _ h]

theorem State.cmpCapture_core (s : State) (k : Oct) (a : Bool) (t : Nat) (n : Oct) :
    ((s.cmpCapture k a t).cell n).core = (s.cell n).core := by
  unfold State.cmpCapture
  exact State.updCell_core (f := fun c => { c with captTime := t, captEdge := if a then 1 else 2 }) k (fun _ => rfl) n
theorem State.cmpEvent_core (s : State) (k : Oct) (a : Bool) (t : Nat) (n : Oct) :
    ((s.cmpEvent k a t).cell n).core = (s.cell n).core := by
  have hjournal (x : State) (src : JSrc) (data : List (Nat × Nat)) : (x.journalAt t 0x0B src 1 data).cell n = x.cell n :=
    State.cell_of_cells (State.units_fields (State.journalAt_units ..)).2.2.2.2.2.2.2.2.1 n
  unfold State.cmpEvent
  extract_lets soon
  split
  · rfl
  · exact (State.updCell_core (f := fun c => { c with lastEvent := some t }) k (fun _ => rfl) n).trans
      (congrArg Cell.core (hjournal ..))
theorem State.slowRoutes_core (s : State) (k : Oct) (a : Bool) (t : Nat) (n : Oct) :
    ((s.slowRoutes k a t).cell n).core = (s.cell n).core := by
  unfold State.slowRoutes
  split
  · extract_lets captured
    have hcaptured : (captured.cell n).core = (s.cell n).core := by
      unfold captured
      split
      · exact State.cmpCapture_core ..
      · rfl
    split
    · exact (State.cmpEvent_core ..).trans hcaptured
    · exact hcaptured
  · rfl

/-- A filtered edge of a cell (R361). -/
theorem State.filtEdge_core (s : State) (n : Oct) (a : Bool) (t : Nat) : ((s.filtEdge n a t).cell n).core =
    Cell.core { s.cell n with filt := a, rising := none, init := (s.cell n).init && a } := by
  have hcell := State.updCell_cell_self s n fun c => { c with filt := a, rising := none, init := c.init && a }
  unfold State.filtEdge
  dsimp only
  split
  · rw [hcell]
  · refine (foldl_keeps (fun s : State => (s.cell n).core) _ (fun s k => ?_) _ _).trans (congrArg Cell.core hcell)
    split
    · exact State.slowRoutes_core ..
    · rfl

theorem State.filtEdge_cell (s : State) (n : Oct) (a : Bool) (t : Nat) : ((s.filtEdge n a t).cell n).out = (s.cell n).out ∧
    ((s.filtEdge n a t).cell n).filt = a ∧ ((s.filtEdge n a t).cell n).rising = none ∧
    ((s.filtEdge n a t).cell n).test = (s.cell n).test ∧ ((s.filtEdge n a t).cell n).swap = (s.cell n).swap ∧
    ((s.filtEdge n a t).cell n).holdUntil = (s.cell n).holdUntil := Cell.core_fields (s.filtEdge_core n a t)

/-- The unfiltered output of a cell changes (R361). -/
theorem State.cellOut_cell (s : State) (n : Oct) (a : Bool) (t : Nat) : (s.cellOut n a t).cell n =
    { s.cell n with out := a, outAt := if a then t else (s.cell n).outAt, wait := (s.cell n).wait && a } := by
  unfold State.cellOut
  rw [State.cell_of_cells (State.routesAct_cells ..), State.updCell_cell_self]

theorem State.filterOf_of_plant {s u : State} (h : s.plant = u.plant) (n : Oct) : s.filterOf n = u.filterOf n := by
  unfold State.filterOf State.act
  rw [State.active_of_plant h]

theorem State.cellFilter_keeps (s : State) (n : Oct) (t : Nat) : ((s.cellFilter n t).cell n).out = (s.cell n).out ∧
    ((s.cellFilter n t).cell n).test = (s.cell n).test ∧ ((s.cellFilter n t).cell n).swap = (s.cell n).swap ∧
    ((s.cellFilter n t).cell n).holdUntil = (s.cell n).holdUntil := by
  unfold State.cellFilter
  split
  · rename_i a e _
    split
    · obtain ⟨hout, -, -, htest, hswap, hhold⟩ := s.filtEdge_cell n true a
      exact ⟨hout, htest, hswap, hhold⟩
    · exact ⟨rfl, rfl, rfl, rfl⟩
  · exact ⟨rfl, rfl, rfl, rfl⟩

/-- The active sense passes the filter first (R361). -/
theorem State.cellEdge_rise (s : State) (n : Oct) (t : Nat) : ((s.cellEdge n true t).cell n).out = true ∧
    (s.filterOf n = 0 → ((s.cellEdge n true t).cell n).filt = true) ∧
    (s.filterOf n ≠ 0 → ((s.cellEdge n true t).cell n).filt = (s.cell n).filt ∧
      ((s.cellEdge n true t).cell n).rising = some (t, t + s.filterOf n)) ∧
    ((s.cellEdge n true t).cell n).test = (s.cell n).test ∧ ((s.cellEdge n true t).cell n).swap = (s.cell n).swap ∧
    ((s.cellEdge n true t).cell n).holdUntil = (s.cell n).holdUntil := by
  have hcell := s.cellOut_cell n true t
  unfold State.cellEdge
  rw [if_pos rfl]
  dsimp only
  by_cases hf : s.filterOf n = 0
  · rw [if_pos hf]
    obtain ⟨hout, hfilt, hrising, htest, hswap, hhold⟩ := (s.cellOut n true t).filtEdge_cell n true t
    rw [hout, hfilt, htest, hswap, hhold, hcell]
    exact ⟨rfl, fun _ => rfl, fun h => absurd hf h, rfl, rfl, rfl⟩
  · rw [if_neg hf, State.updCell_cell_self, hcell]
    exact ⟨rfl, fun h => absurd h hf, fun _ => ⟨rfl, rfl⟩, rfl, rfl, rfl⟩

/-- The safe sense ends a filter that runs, and passes at once (R361). -/
theorem State.cellEdge_fall (s : State) (n : Oct) (t : Nat) : ((s.cellEdge n false t).cell n).out = false ∧
    ((s.cellEdge n false t).cell n).filt = false ∧ ((s.cellEdge n false t).cell n).rising = none ∧
    ((s.cellEdge n false t).cell n).test = (s.cell n).test ∧ ((s.cellEdge n false t).cell n).swap = (s.cell n).swap ∧
    ((s.cellEdge n false t).cell n).holdUntil = (s.cell n).holdUntil := by
  obtain ⟨-, htest', hswap', hhold'⟩ := s.cellFilter_keeps n (t - 1)
  unfold State.cellEdge
  rw [if_neg Bool.false_ne_true]
  obtain ⟨hout, hfilt, hrising, htest, hswap, hhold⟩ := ((s.cellFilter n (t - 1)).cellOut n false t).filtEdge_cell n false t
  rw [hout, hfilt, hrising, htest, hswap, hhold, State.cellOut_cell]
  exact ⟨rfl, rfl, rfl, htest', hswap', hhold'⟩

/-- What a pin shows reaches the output of its cell, and leaves its test and its hold (R361). -/
theorem State.cellAt_cell (s : State) (n : Oct) (a : Bool) (t : Nat) : ((s.cellAt n a t).cell n).out = a ∧
    ((s.cellAt n a t).cell n).test = (s.cell n).test ∧ ((s.cellAt n a t).cell n).swap = (s.cell n).swap ∧
    ((s.cellAt n a t).cell n).holdUntil = (s.cell n).holdUntil := by
  unfold State.cellAt
  split
  case isTrue =>
    cases a with
    | true =>
      obtain ⟨hout, -, -, htest, hswap, hhold⟩ := s.cellEdge_rise n t
      exact ⟨hout, htest, hswap, hhold⟩
    | false =>
      obtain ⟨hout, -, -, htest, hswap, hhold⟩ := s.cellEdge_fall n t
      exact ⟨hout, htest, hswap, hhold⟩
  case isFalse hsame =>
    obtain ⟨hout, htest, hswap, hhold⟩ := s.cellFilter_keeps n t
    exact ⟨hout.trans (by simpa using hsame), htest, hswap, hhold⟩

/-- An edge at a cell that sees it (R361). -/
theorem exec_hubCmpEdge_of_sees {n : Oct} (a mid : Bool) (t : Nat) {s : State} (h : (s.cell n).sees = true)
    (hedge : (s.cell n).out = !a) : exec (.hubCmpEdge n a mid t) s =
      .next (((s.updCell n fun c => { c with mid := mid }).at t).cellEdge n a (stepOf (max s.now t))) := by
  have hcell := State.updCell_cell_self s n fun c => { c with mid := mid }
  have hsees : ((s.updCell n fun c => { c with mid := mid }).cell n).sees = true := by
    rw [hcell]
    exact h
  have hout : (((s.updCell n fun c => { c with mid := mid }).at t).cell n).out = !a := by
    change ((s.updCell n _).cell n).out = !a
    rw [hcell]
    exact hedge
  simp only [exec, execHubCmpEdge]
  rw [if_pos hsees]
  unfold State.cellAt
  rw [if_pos (by rw [hout]; cases a <;> rfl)]
  rfl

theorem State.holdEnd_cell (s : State) (n : Oct) (a : Bool) (t : Nat) : ((s.holdEnd n a t).cell n).holdUntil = none ∧
    ((s.holdEnd n a t).cell n).out = a := by
  have hcell := State.updCell_cell_self s n fun c => { c with holdUntil := none, later := none }
  obtain ⟨hout, -, -, hhold⟩ := (s.updCell n fun c => { c with holdUntil := none, later := none }).cellAt_cell n a t
  rw [hcell] at hhold
  unfold State.holdEnd
  dsimp only
  split
  · unfold State.testBegin
    rw [State.updCell_cell_self]
    exact ⟨hhold, hout⟩
  · exact ⟨hhold, hout⟩

theorem State.testFail_cell (s : State) (n k : Oct) : (s.testFail n).cell k = s.cell k := by
  unfold State.testFail
  rw [State.cell_of_cells (State.units_fields (State.journal_units ..)).2.2.2.2.2.2.2.2.1]
  rfl

/-- The code that the end of a test leaves (R367). -/
theorem State.testEnd_test (s : State) (n : Oct) (r : TestResult) : ((s.testEnd n r).cell n).test =
    match r with
    | .pass => 2
    | .fail => 3
    | .void => if (s.cell n).swap then 4 else 3 := by
  unfold State.testEnd
  extract_lets code seen ended taken
  have hended : (ended.cell n).test = code := by
    unfold ended
    rw [State.updCell_cell_self]
  have htaken : (taken.cell n).test = code := by
    unfold taken
    rcases seen with _ | a
    · exact hended
    · obtain ⟨-, hkept, -⟩ := ended.cellAt_cell n a ended.now
      exact hkept.trans hended
  by_cases hfail : code = 3
  · rw [if_pos hfail, State.testFail_cell]
    exact htaken
  · rw [if_neg hfail]
    exact htaken

/-! ## Cells of a pod -/

theorem Pod.cmpRules_keeps (p : Pod) (t : Nat) : (p.cmpRules t).st.prot = p.st.prot ∧ ∀ k, (p.cmpRules t).hold k = p.hold k := by
  have hocl : (p.oclRule t).st.prot = p.st.prot ∧ ∀ k, (p.oclRule t).hold k = p.hold k := by
    unfold Pod.oclRule Pod.exitRule
    dsimp only
    repeat' split
    all_goals exact ⟨rfl, fun k => by cases k <;> rfl⟩
  unfold Pod.cmpRules Pod.revRule Pod.busRule Pod.outpRule
  dsimp only
  split
  · exact ⟨hocl.1, fun k => (by cases k <;> rfl : _ = (p.oclRule t).hold k).trans (hocl.2 k)⟩
  · exact ⟨hocl.1, fun k => (by cases k <;> rfl : _ = (p.oclRule t).hold k).trans (hocl.2 k)⟩

/-- The hold of a pod cell ends: it is over, and the output follows its input (R350). -/
theorem Pod.holdEnd_cell (p : Pod) (k : PodCmp) (a : Bool) (t : Nat) : (p.holdEnd k a t).hold k = none ∧
    (p.holdEnd k a t).st.prot.cmpOut.testBit k.bit = a := by
  have hoff : (p.holdOff k).hold k = none := by cases k <;> rfl
  unfold Pod.holdEnd
  dsimp only
  rw [(Pod.cmpRules_keeps _ t).1, (Pod.cmpRules_keeps _ t).2]
  split
  case isTrue h =>
    rw [Bool.and_eq_true] at h
    obtain ⟨ha, hsafe⟩ := h
    unfold Pod.crossed
    rw [if_neg (by simpa using hsafe), ha]
    exact ⟨(by cases k <;> rfl : _ = (p.holdOff k).hold k).trans hoff, testBit_setBit_self ..⟩
  case isFalse => exact ⟨(by cases k <;> rfl : _ = (p.holdOff k).hold k).trans hoff, testBit_setBit_self ..⟩

/-- Settles O22, one clause per event and case. -/
theorem comparatorEvents : Obligations.ComparatorEvents := by
  refine ⟨fun n mid t s hsees hout => ⟨_, exec_hubCmpEdge_of_sees true mid t hsees hout, ?_⟩,
    fun n mid t s hsees hout => ⟨_, exec_hubCmpEdge_of_sees false mid t hsees hout, ?_⟩,
    fun n active mid t s hsees => ⟨_, rfl, ?_⟩, fun n active h s hhold hdue => ⟨_, rfl, ?_⟩,
    fun c k active h s hhold hdue => ⟨_, rfl, ?_⟩, fun n r s htest hdue => ⟨_, rfl, ?_⟩⟩
  · have hcell := State.updCell_cell_self s n fun c => { c with mid := mid }
    obtain ⟨hrise, hzero, hfilter, -⟩ :=
      ((s.updCell n fun c => { c with mid := mid }).at t).cellEdge_rise n (stepOf (max s.now t))
    refine ⟨hrise, hzero, fun hne => ?_⟩
    obtain ⟨hfilt, hrising⟩ := hfilter hne
    refine ⟨hfilt.trans ?_, hrising⟩
    change ((s.updCell n _).cell n).filt = _
    rw [hcell]
  · obtain ⟨hfall, hfilt, hrising, -⟩ :=
      ((s.updCell n fun c => { c with mid := mid }).at t).cellEdge_fall n (stepOf (max s.now t))
    exact ⟨hfall, hfilt, hrising⟩
  · have hcell := State.updCell_cell_self s n fun c => { c with mid := mid }
    rw [if_neg (by rw [hcell]; exact fun h => Bool.false_ne_true (hsees.symm.trans h)), State.updCell_cell_self, hcell]
    exact ⟨rfl, rfl⟩
  · simp only [hhold]
    rw [if_pos hdue]
    exact State.holdEnd_cell ..
  · simp only [hhold]
    rw [if_pos hdue, State.updPod_pod_self]
    exact Pod.holdEnd_cell ..
  · rw [if_pos ⟨htest, hdue⟩]
    exact State.testEnd_test ..

end Sys2Proof.Machine

/-! # PWM generators (chapter 12) -/

namespace Sys2Proof.Machine

@[simp] theorem State.updGen_gen_self (s : State) (n : Oct) (f : Pwm → Pwm) : (s.updGen n f).gen n = f (s.gen n) :=
  Bank.get_upd_self ..
theorem State.updGen_gen_other (s : State) {n k : Oct} (f : Pwm → Pwm) (h : n ≠ k) : (s.updGen n f).gen k = s.gen k :=
  Bank.get_upd_other _ _ _ _ h

/-- What every step of a generator but its reloads keeps of it holds of the state with that generator changed. -/
theorem State.updGen_part {γ : Type} (part : Pwm → γ) {s : State} {k : Oct} {f : Pwm → Pwm} (hf : ∀ g, part (f g) = part g) (n : Oct) :
    part ((s.updGen k f).gen n) = part (s.gen n) := by
  by_cases h : k = n
  · rw [h, State.updGen_gen_self, hf]
  · rw [State.updGen_gen_other _ _ h]

@[simp] theorem State.count_gen (s : State) (o : Obj) (i : Nat) (n : Oct) : (s.count o i).gen n = s.gen n := rfl
@[simp] theorem State.uncount_gen (s : State) (o : Obj) (i : Nat) (n : Oct) : (s.uncount o i).gen n = s.gen n := rfl
@[simp] theorem State.updPre_gen (s : State) (p : Quad) (f : Pre → Pre) (n : Oct) : (s.updPre p f).gen n = s.gen n := rfl
@[simp] theorem State.updCell_gen (s : State) (k : Oct) (f : Cell → Cell) (n : Oct) : (s.updCell k f).gen n = s.gen n := rfl
@[simp] theorem State.down_gen (s : State) (c : Chan) (f : CmdFrame → CmdFrame) (n : Oct) : (s.down c f).gen n = s.gen n := rfl

/-! ## The clock of a generator -/

/-- When the period that runs began, when the first one begins, and its number: only period boundaries and starts move these. -/
def Pwm.clock (g : Pwm) : Nat × Option Nat × Nat := (g.periodAt, g.startAt, g.pcount)

theorem State.untermed_clock (s : State) (k : Oct) (t : Nat) (n : Oct) : ((s.untermed k t).gen n).clock = (s.gen n).clock := by
  unfold State.untermed
  split
  · split
    · exact State.updGen_part Pwm.clock (s := s.uncount OD.PWM_TERMS k.val) (by intro _; rfl) n |>.trans
        (congrArg Pwm.clock (State.uncount_gen ..))
    · rfl
  · rfl

theorem State.pwmFault_clock (s : State) (k n : Oct) : ((s.pwmFault k).gen n).clock = (s.gen n).clock := by
  unfold State.pwmFault
  extract_lets kept counted
  have hcounted : counted.gen n = kept.gen n := by
    unfold counted
    split
    · rfl
    · rfl
  refine (State.updGen_part Pwm.clock (by intro _; rfl) n).trans ?_
  rw [hcounted]
  exact s.untermed_clock k s.now n

theorem State.faultSee_clock (s : State) (k n : Oct) : ((s.faultSee k).gen n).clock = (s.gen n).clock := by
  unfold State.faultSee
  extract_lets mask g fresh code seen
  have hseen : (seen.gen n).clock = (s.gen n).clock := State.updGen_part Pwm.clock (by intro _; rfl) n
  split
  · exact hseen
  · split
    · split
      · exact (seen.pwmFault_clock k n).trans hseen
      · exact hseen
    · exact (State.updGen_part Pwm.clock (by intro _; rfl) n).trans hseen

theorem State.period_clock (s : State) (k : Oct) (t : Nat) (emit skip : State → State) (hemit : ∀ u n, (emit u).gen n = u.gen n)
    (hskip : ∀ u n, (skip u).gen n = u.gen n) (n : Oct) : ((s.period k t emit skip).gen n).clock = (s.gen n).clock := by
  have hquiet : ((s.updGen k Pwm.quiet).gen n).clock = (s.gen n).clock := State.updGen_part Pwm.clock (by intro _; rfl) n
  unfold State.period
  dsimp only
  split
  · split
    · refine (State.updGen_part Pwm.clock (by intro _; rfl) n).trans ?_
      rw [hskip, State.count_gen]
      exact hquiet
    · rw [hskip, State.count_gen]
      exact hquiet
  · split
    · exact (State.updGen_part Pwm.clock (by intro _; rfl) n).trans hquiet
    · split
      · rw [State.count_gen]
        exact hquiet
      · unfold State.mainStarts
        dsimp only
        rw [hemit]
        exact (State.updGen_part Pwm.clock (by intro _; rfl) n).trans (State.updGen_part Pwm.clock (by intro _; rfl) n)

/-- A new period begins at its boundary, with the next number, or 0 for the first (R376, R387). -/
theorem Pwm.newPeriod_clock (g : Pwm) (t : Nat) :
    (g.newPeriod t).clock = (t, none, if g.startAt.isSome then 0 else (g.pcount + 1) % 2 ^ 32) := by
  have hoffered (g : Pwm) (t : Nat) : (g.offered t).clock = g.clock := by
    unfold Pwm.offered
    split <;> rfl
  unfold Pwm.newPeriod
  extract_lets begun mid fresh
  have hfresh : fresh.clock = (t, none, if g.startAt.isSome then 0 else (g.pcount + 1) % 2 ^ 32) := by
    change begun.clock = _
    unfold begun
    split
    · rfl
    case isFalse hnone =>
      have hstart : g.startAt = none := by simpa using hnone
      simp only [Pwm.clock, hstart]
  split
  · exact (hoffered fresh t).trans hfresh
  · exact hfresh
  · exact hfresh

theorem State.pwmBoundary_clock (s : State) (n : Oct) (t : Nat) (emit skip : State → State)
    (hemit : ∀ u n, (emit u).gen n = u.gen n) (hskip : ∀ u n, (skip u).gen n = u.gen n) :
    ((s.pwmBoundary n t emit skip).gen n).clock = ((s.gen n).newPeriod t).clock := by
  have hseen : (((s.updGen n fun g => g.newPeriod t).faultSee n).gen n).clock = ((s.gen n).newPeriod t).clock := by
    rw [State.faultSee_clock, State.updGen_gen_self]
  unfold State.pwmBoundary
  dsimp only
  split
  · split
    · rw [State.period_clock _ _ _ _ _ hemit hskip]
      exact (State.updGen_part Pwm.clock (by intro _; rfl) n).trans hseen
    · split
      · exact (State.updGen_part Pwm.clock (by intro _; rfl) n).trans hseen
      · exact hseen
  · rw [State.period_clock _ _ _ _ _ hemit hskip]
    exact hseen

theorem State.refresh_clock (s : State) (n : Oct) (t : Nat) : ((s.refresh n t).gen n).clock = ((s.gen n).newPeriod t).clock := by
  unfold State.refresh
  dsimp only
  split
  · refine (State.updGen_part Pwm.clock (by intro _; rfl) n).trans ?_
    rw [State.updGen_gen_self]
    rfl
  · rw [State.updGen_gen_self]
    rfl

theorem State.preEmit_gen (s : State) (k n : Oct) : (s.preEmit k).gen n = s.gen n := by
  unfold State.preEmit
  split <;> rfl
theorem State.preSkip_gen (s : State) (k n : Oct) : (s.preSkip k).gen n = s.gen n := by
  unfold State.preSkip
  split <;> rfl
theorem State.preEmit_now (s : State) (k : Oct) : (s.preEmit k).now = s.now := by
  unfold State.preEmit
  split <;> rfl
theorem State.preSkip_now (s : State) (k : Oct) : (s.preSkip k).now = s.now := by
  unfold State.preSkip
  split <;> rfl

theorem State.period_now (s : State) (k : Oct) (t : Nat) (emit skip : State → State) (hemit : ∀ u, (emit u).now = u.now)
    (hskip : ∀ u, (skip u).now = u.now) : (s.period k t emit skip).now = s.now := by
  unfold State.period
  dsimp only
  split
  · split
    · exact hskip _
    · exact hskip _
  · split
    · rfl
    · split
      · rfl
      · exact hemit _

theorem State.pwmBoundary_now (s : State) (n : Oct) (t : Nat) (emit skip : State → State) (hemit : ∀ u, (emit u).now = u.now)
    (hskip : ∀ u, (skip u).now = u.now) : (s.pwmBoundary n t emit skip).now = s.now := by
  have hseen : ((s.updGen n fun g => g.newPeriod t).faultSee n).now = s.now :=
    (State.now_of_plant (State.faultSee_plant ..)).trans (State.now_of_plant (State.updGen_plant ..))
  unfold State.pwmBoundary
  dsimp only
  split
  · split
    · exact (State.period_now _ _ _ _ _ hemit hskip).trans hseen
    · split
      · exact hseen
      · exact hseen
  · exact (State.period_now _ _ _ _ _ hemit hskip).trans hseen

/-- The state at a period boundary, its ready inputs taken (R376, R389). -/
def State.readyTaken (s : State) (n : Oct) (rdy : Nat) : State :=
  let s := s.at (s.gen n).boundaryAt
  { s with rdyLost := setBit (setBit s.rdyLost n.val (!rdy.testBit n.val)) (partnerOf n).val (!rdy.testBit (partnerOf n).val) }

theorem exec_pwmPeriodBoundary_clock {n : Oct} (rdy : Nat) {s : State} (hrun : (s.gen n).run = true) (hmain : isPartner s n = false)
    (hup : s.hubUp = true) : ∃ u, exec (.pwmPeriodBoundary n rdy) s = .next u ∧
      (u.gen n).clock = ((s.gen n).newPeriod (s.gen n).boundaryAt).clock ∧ u.now = max s.now (s.gen n).boundaryAt := by
  have htaken : (s.readyTaken n rdy).gen n = s.gen n := rfl
  refine ⟨match preOwner (s.readyTaken n rdy) n with
    | some p => if ((s.readyTaken n rdy).conv p).state = .paused then (s.readyTaken n rdy).refresh n (s.gen n).boundaryAt
                else (s.readyTaken n rdy).pwmBoundary n (s.gen n).boundaryAt (fun s => s.preEmit n) (fun s => s.preSkip n)
    | none => (s.readyTaken n rdy).pwmBoundary n (s.gen n).boundaryAt id id, ?_, ?_⟩
  · simp only [exec, execPwmPeriodBoundary]
    rw [if_pos (by simp [hrun, hmain, hup])]
    rfl
  · split
    · split
      · refine ⟨(State.refresh_clock ..).trans (by rw [htaken]), ?_⟩
        unfold State.refresh
        dsimp only
        split <;> rfl
      · refine ⟨(State.pwmBoundary_clock _ _ _ _ _ (fun u k => u.preEmit_gen n k) (fun u k => u.preSkip_gen n k)).trans
          (by rw [htaken]), ?_⟩
        rw [State.pwmBoundary_now _ _ _ _ _ (fun u => u.preEmit_now n) (fun u => u.preSkip_now n)]
        rfl
    · refine ⟨(State.pwmBoundary_clock _ _ _ _ _ (fun _ _ => rfl) (fun _ _ => rfl)).trans (by rw [htaken]), ?_⟩
      rw [State.pwmBoundary_now _ _ _ id id (fun _ => rfl) (fun _ => rfl)]
      rfl

/-! ## The midperiod reload -/

/-- The midperiod edge takes the D of a visible word (R386). -/
theorem State.pwmMid_of_visible {s : State} {n : Oct} (h : (s.gen n).visible (s.gen n).midAt = true) :
    ((s.pwmMid n).gen n).word = { (s.gen n).word with d := (s.gen n).reload.d } ∧ ((s.pwmMid n).gen n).reloadAt = none := by
  have hoffer : (s.gen n).offer (s.gen n).midAt = some (s.gen n).reload := if_pos h
  have htake : ((s.updGen n fun g => g.midTake (s.gen n).reload).gen n).word = { (s.gen n).word with d := (s.gen n).reload.d } ∧
      ((s.updGen n fun g => g.midTake (s.gen n).reload).gen n).reloadAt = none := by
    rw [State.updGen_gen_self]
    unfold Pwm.midTake Pwm.offered
    rw [if_pos h]
    exact ⟨rfl, rfl⟩
  have hword {u : State} {f : Pwm → Pwm} (hf : ∀ g, ((f g).word, (f g).reloadAt) = (g.word, g.reloadAt))
      (hu : (u.gen n).word = { (s.gen n).word with d := (s.gen n).reload.d } ∧ (u.gen n).reloadAt = none) :
      ((u.updGen n f).gen n).word = { (s.gen n).word with d := (s.gen n).reload.d } ∧ ((u.updGen n f).gen n).reloadAt = none := by
    obtain ⟨hw, hr⟩ := Prod.mk.injEq _ _ _ _ ▸ hf (u.gen n)
    rw [State.updGen_gen_self, hw, hr]
    exact hu
  unfold State.pwmMid
  dsimp only
  rw [hoffer]
  dsimp only
  split
  · repeat' split
    all_goals exact hword (by intro _; rfl) htake
  · exact htake

/-! ## The end of a main pulse -/

/-- No main pulse of a generator runs. -/
def State.mainOff (s : State) (n : Oct) : Prop := (s.gen n).main = false ∧ (s.gen n).until_ = none

theorem State.mainOff_of_gen {s u : State} {n : Oct} (h : u.gen n = s.gen n) (hs : s.mainOff n) : u.mainOff n := by
  unfold State.mainOff
  rw [h]
  exact hs

/-- A generator changed otherwise leaves a pulse that has ended. -/
theorem State.mainOff.updGen {s : State} {n : Oct} (h : s.mainOff n) (k : Oct) {f : Pwm → Pwm}
    (hf : ∀ g, g.main = false ∧ g.until_ = none → (f g).main = false ∧ (f g).until_ = none) : (s.updGen k f).mainOff n := by
  by_cases hk : k = n
  · unfold State.mainOff
    rw [hk, State.updGen_gen_self]
    exact hf _ h
  · exact State.mainOff_of_gen (State.updGen_gen_other _ _ hk) h

theorem State.mainOff.untermed {s : State} {n : Oct} (h : s.mainOff n) (k : Oct) (t : Nat) : (s.untermed k t).mainOff n := by
  unfold State.untermed
  split
  · split
    · exact State.mainOff.updGen (State.mainOff_of_gen (State.uncount_gen ..) h) k fun _ hg => hg
    · exact h
  · exact h

theorem State.mainOff.pwmFault {s : State} {n : Oct} (h : s.mainOff n) (k : Oct) : (s.pwmFault k).mainOff n := by
  unfold State.pwmFault
  extract_lets kept counted
  have hcounted : counted.mainOff n := by
    unfold counted
    split
    · exact h.untermed k s.now
    · exact h.untermed k s.now
  exact hcounted.updGen k fun _ _ => ⟨rfl, rfl⟩

theorem State.mainOff.faultSee {s : State} {n : Oct} (h : s.mainOff n) (k : Oct) : (s.faultSee k).mainOff n := by
  unfold State.faultSee
  extract_lets mask g fresh code seen
  have hseen : seen.mainOff n := h.updGen k fun _ hg => hg
  split
  · exact hseen
  · split
    · split
      · exact hseen.pwmFault k
      · exact hseen
    · exact hseen.updGen k fun _ hg => hg

theorem foldl_mainOff {α : Type} {n : Oct} (f : State → α → State) (hf : ∀ s x, s.mainOff n → (f s x).mainOff n) (l : List α)
    {s : State} (h : s.mainOff n) : (l.foldl f s).mainOff n := by
  induction l generalizing s with
  | nil => exact h
  | cons x l ih => exact ih (hf s x h)

theorem State.mainOff.pwmFaults {s : State} {n : Oct} (h : s.mainOff n) : s.pwmFaults.mainOff n := by
  refine foldl_mainOff _ (fun s k hs => ?_) _ h
  split
  · exact hs
  · exact hs.faultSee k

/-- A termination acts on a main pulse that runs, or notes itself (R383). -/
theorem State.mainOff.pwmTerminate {s : State} {n : Oct} (h : s.mainOff n) (k : Oct) (t : Nat) : (s.pwmTerminate k t).mainOff n := by
  unfold State.pwmTerminate
  dsimp only
  split
  · exact h
  · split
    case isTrue hmain =>
      have hk : k ≠ n := fun he => by
        rw [he, h.1] at hmain
        cases hmain
      split
      · exact h
      · exact State.mainOff_of_gen ((State.updGen_gen_other _ _ hk).trans (State.count_gen ..)) h
    case isFalse =>
      split
      · split
        · refine State.mainOff.updGen (State.mainOff_of_gen (State.count_gen ..) ?_) k fun _ hg => hg
          split
          · exact State.mainOff_of_gen (State.uncount_gen ..) h
          · exact h
        · exact h
      · exact h

theorem State.mainOff.cellAt {s : State} {n : Oct} (h : s.mainOff n) (k : Oct) (a : Bool) (t : Nat) : (s.cellAt k a t).mainOff n := by
  have hjournal (u : State) (hu : u.mainOff n) (j : Oct) (b : Bool) (x : Nat) : (u.slowRoutes j b x).mainOff n := by
    refine State.mainOff_of_gen ?_ hu
    have hevent (v : State) : (v.cmpEvent j b x).gen n = v.gen n := by
      unfold State.cmpEvent
      extract_lets soon
      split
      · rfl
      · have hpwm := (State.units_fields (State.journalAt_units v x 0x0B (.cmp j) 1 [(1, if b then 1 else 2)] false false)).2.2.2.2.2.2.2.1
        unfold State.gen
        rw [State.updCell]
        exact congrArg (Bank.get · n) hpwm
    unfold State.slowRoutes
    split
    · extract_lets captured
      have hcaptured : captured.gen n = u.gen n := by
        unfold captured
        split
        · rfl
        · rfl
      split
      · exact (hevent _).trans hcaptured
      · exact hcaptured
    · rfl
  have hfilt (u : State) (hu : u.mainOff n) (b : Bool) (x : Nat) : (u.filtEdge k b x).mainOff n := by
    unfold State.filtEdge
    dsimp only
    split
    · exact hu
    · refine foldl_mainOff _ (fun v j hv => ?_) _ hu
      split
      · exact hjournal v hv j _ x
      · exact hv
  have hroutes (u old : State) (hu : u.mainOff n) (x : Nat) : (u.routesAct old x).mainOff n := by
    refine foldl_mainOff _ (fun v j hv => ?_) _ hu.pwmFaults
    split
    · unfold State.termRoute
      split
      · exact hv.pwmTerminate _ x
      · exact hv
    · exact hv
  have hout (u : State) (hu : u.mainOff n) (b : Bool) (x : Nat) : (u.cellOut k b x).mainOff n :=
    hroutes (u.updCell k fun c => { c with out := b, outAt := if b then x else c.outAt, wait := c.wait && b }) u hu x
  have hfilter (u : State) (hu : u.mainOff n) (x : Nat) : (u.cellFilter k x).mainOff n := by
    unfold State.cellFilter
    split
    · split
      · exact hfilt u hu _ _
      · exact hu
    · exact hu
  unfold State.cellAt State.cellEdge
  dsimp only
  split
  · split
    · split
      · exact hfilt _ (hout s h _ t) _ t
      · exact hout s h _ t
    · exact hfilt _ (hout _ (hfilter s h _) _ t) _ t
  · exact hfilter s h t

theorem State.mainOff.preStop {s : State} {n : Oct} (h : s.mainOff n) (p : Quad) (ev : PreStatus) : (s.preStop p ev).mainOff n := by
  have hunmask : (s.selfUnmask (pwmOf p)).mainOff n := by
    unfold State.selfUnmask
    dsimp only
    split
    · split
      · exact State.mainOff.cellAt (s := s.updCell (pwmOf p) fun c => { c with mask := false, later := none }) h _ _ _
      · exact h
    · exact h
  have hquiet : ((s.selfUnmask (pwmOf p)).preQuiet p).mainOff n := hunmask.updGen _ fun _ _ => ⟨rfl, rfl⟩
  unfold State.preStop State.preFeedActs
  dsimp only
  split
  · split
    · exact hquiet
    · split
      case h_9 => exact hquiet
      all_goals exact hquiet
  · exact h

theorem State.mainOff.missedTrip {s : State} {n : Oct} (h : s.mainOff n) (k : Oct) : (s.missedTrip k).mainOff n := by
  unfold State.missedTrip
  split
  · split
    · exact h.preStop _ _
    · exact h
  · exact h

theorem State.mainEnds_mainOff (s : State) (n : Oct) (t : Nat) : (s.mainEnds n t).mainOff n := by
  unfold State.mainEnds State.mainOff
  dsimp only
  rw [State.updGen_gen_self]
  exact ⟨rfl, rfl⟩

theorem State.preStop_now (s : State) (p : Quad) (ev : PreStatus) : (s.preStop p ev).now = s.now := by
  have hquiet : (((s.selfUnmask (pwmOf p)).preQuiet p)).now = s.now := State.now_of_plant (State.selfUnmask_plant ..)
  unfold State.preStop State.preFeedActs
  dsimp only
  split
  · split
    · exact hquiet
    · split
      case h_9 => exact hquiet
      all_goals exact hquiet
  · rfl

theorem State.missedTrip_now (s : State) (n : Oct) : (s.missedTrip n).now = s.now := by
  unfold State.missedTrip
  split
  · split
    · exact State.preStop_now ..
    · rfl
  · rfl

/-- The end of a main pulse: the pulse is over, at its end (R377, R379, R383). -/
theorem exec_pwmPulseEnd_main {n : Oct} {e : Nat} {s : State} (huntil : (s.gen n).until_ = some e) (hmain : (s.gen n).main = true) :
    ∃ u, exec (.pwmPulseEnd n) s = .next u ∧ u.mainOff n ∧ u.now = max s.now e := by
  refine ⟨_, rfl, ?_⟩
  dsimp only
  rw [huntil]
  dsimp only
  rw [if_pos hmain]
  generalize hcounted : (if ((s.gen n).clipped && !(s.gen n).terminated) = true then (s.at e).count OD.PWM_CLIPPED n.val else s.at e) = u
  have hnow : u.now = max s.now e := by
    rw [← hcounted]
    split <;> rfl
  have hoff : ((u.mainEnds n e).updGen n fun x => { x with
      endAt := if (s.gen n).terminated then none else some (e, (s.gen n).clipped && !(s.gen n).terminated) }).mainOff n :=
    (u.mainEnds_mainOff n e).updGen n fun _ hg => hg
  split
  · exact ⟨hoff, hnow⟩
  · exact ⟨hoff.missedTrip n, (State.missedTrip_now ..).trans hnow⟩

/-! ## A period -/

/-- A comparator in its active sense skips the main pulse (R384). -/
theorem State.period_of_term {s : State} {n : Oct} (t : Nat) (hcompl : compl s n = false) (hterm : cmpTerm s n = true) :
    ((s.period n t id id).gen n).main = false := by
  have hcompl' : compl ((s.updGen n Pwm.quiet).count OD.PWM_TSKIPS n.val) n = false := hcompl
  unfold State.period
  dsimp only [id]
  rw [if_pos hterm, hcompl', if_neg (by simp), State.count_gen, State.updGen_gen_self]
  rfl

/-- A request of 0 gives no pulse and carries the dither on (R378). -/
theorem State.period_of_zero {s : State} {n : Oct} (t : Nat) (hterm : cmpTerm s n = false)
    (hreq : (s.gen n).word.d + ((s.gen n).acc + (s.gen n).word.dith) / 16 = 0) :
    ((s.period n t id id).gen n).main = false ∧
    ((s.period n t id id).gen n).acc = ((s.gen n).acc + (s.gen n).word.dith) % 16 := by
  unfold State.period
  dsimp only
  rw [if_neg (by simp [hterm]), if_pos hreq, State.updGen_gen_self, State.updGen_gen_self]
  exact ⟨rfl, rfl⟩

theorem pwmLeast_of_single {s : State} {n : Oct} (h : compl s n = false) : pwmLeast s n = s.act OD.PWM_TMIN n.val := by
  unfold pwmLeast
  rw [h]
  rfl

/-- A request below the least on-time is dropped (R381). -/
theorem State.period_of_short {s : State} {n : Oct} (t : Nat) {req on : Nat} (hcompl : compl s n = false) (hterm : cmpTerm s n = false)
    (hreq : req = (s.gen n).word.d + ((s.gen n).acc + (s.gen n).word.dith) / 16)
    (hon : on = min req (pwmLimit s n (s.gen n).word.p)) (hne : req ≠ 0) (hshort : on < s.act OD.PWM_TMIN n.val) :
    ((s.period n t id id).gen n).main = false := by
  unfold State.period
  dsimp only
  rw [← hreq, ← hon, if_neg (by simp [hterm]), if_neg hne, pwmLeast_of_single hcompl, if_pos hshort, State.count_gen,
    State.updGen_gen_self]
  rfl

/-- A request gives a main pulse of its length within the limit L (R377). -/
theorem State.period_of_request {s : State} {n : Oct} (t : Nat) {req on : Nat} (hcompl : compl s n = false)
    (hterm : cmpTerm s n = false) (hreq : req = (s.gen n).word.d + ((s.gen n).acc + (s.gen n).word.dith) / 16)
    (hon : on = min req (pwmLimit s n (s.gen n).word.p)) (hne : req ≠ 0) (hlong : s.act OD.PWM_TMIN n.val ≤ on)
    (hpart : on < (s.gen n).word.p) :
    ((s.period n t id id).gen n).main = true ∧ ((s.period n t id id).gen n).from_ = t ∧
    ((s.period n t id id).gen n).until_ = some (t + on * stepNs) ∧
    ((s.period n t id id).gen n).acc = ((s.gen n).acc + (s.gen n).word.dith) % 16 := by
  have hcompl' : compl (s.updGen n fun g => { g with acc := ((s.gen n).acc + (s.gen n).word.dith) % 16 }) n = false := hcompl
  unfold State.period State.mainStarts
  dsimp only [id]
  rw [← hreq, ← hon, if_neg (by simp [hterm]), if_neg hne, pwmLeast_of_single hcompl, if_neg (by omega), hcompl',
    State.updGen_gen_self, State.updGen_gen_self]
  simp [hpart, Nat.not_le_of_lt hpart]

/-- Settles O23, one clause per event and case. -/
theorem pwmEvents : Obligations.PwmEvents := by
  refine ⟨fun n rdy s hrun hmain hup => ?_, fun n s hrun hstart hupd hmain hvisible => ⟨_, rfl, ?_⟩, fun n e s huntil hmain => ?_,
    fun n e s huntil hmain hpartner => ⟨_, rfl, ?_⟩, fun n t s hat hfault => ⟨_, rfl, ?_⟩,
    fun n t s hcompl => ⟨fun hterm => State.period_of_term t hcompl hterm, fun hterm hreq => State.period_of_zero t hterm hreq,
      fun req on hterm hreq hon hne => ⟨fun hshort => State.period_of_short t hcompl hterm hreq hon hne hshort,
        fun hlong hpart => State.period_of_request t hcompl hterm hreq hon hne hlong hpart⟩⟩⟩
  · obtain ⟨u, hu, hclock, hnow⟩ := exec_pwmPeriodBoundary_clock rdy hrun hmain hup
    rw [Pwm.newPeriod_clock] at hclock
    simp only [Pwm.clock, Prod.mk.injEq] at hclock
    obtain ⟨hperiod, hstart, hcount⟩ := hclock
    exact ⟨u, hu, hperiod, hstart, hcount, hnow⟩
  · obtain ⟨hword, hreload⟩ := State.pwmMid_of_visible (s := s.at (s.gen n).midAt) (n := n) hvisible
    rw [if_pos (by simp [hrun, hstart, hupd, hmain]), hword, hreload]
    exact ⟨rfl, rfl, rfl⟩
  · obtain ⟨u, hu, hoff, hnow⟩ := exec_pwmPulseEnd_main huntil hmain
    exact ⟨u, hu, hoff.1, hoff.2, hnow⟩
  · dsimp only
    rw [huntil]
    dsimp only
    rw [if_neg (by simp [hmain]), if_pos hpartner, State.updGen_gen_self]
    exact ⟨rfl, rfl⟩
  · rw [hat]
    dsimp only
    rw [if_neg (by simp [hfault]), State.updGen_gen_self]
    exact ⟨rfl, rfl⟩

end Sys2Proof.Machine

/-!
# The always-on power-on reset clears a counter that a status store lists twice
-/

namespace Sys2Proof.Machine

/-- A hub whose status store lists its count of resets twice. -/
def countsResetsTwice : State := wit.listsTwice OD.HUB_RST_COUNT 0 0 5 7

/-- Refutes O24: the always-on reset sets `HUB_RST_COUNT` to its Default 0, which leaves a second entry of the object to be read. -/
theorem not_resetSources : ¬ Obligations.ResetSources := by
  intro h
  obtain ⟨-, -, halways, -⟩ := h
  obtain ⟨u, hu, -, -, -, -, hcount, -⟩ := halways countsResetsTwice
  have hread : (stateOf countsResetsTwice (exec .alwaysOnPowerOnReset countsResetsTwice)).stat OD.HUB_RST_COUNT = 7 := by
    decide +kernel
  rw [hu, stateOf_next] at hread
  exact absurd (hread.symm.trans hcount) (by decide)

end Sys2Proof.Machine

/-!
# The events of the stream port (R509 to R523)
-/

namespace Sys2Proof.Machine

/-! ## Records and blocks -/

/-- A dropped record raises the loss count of its type, and no other (R520). -/
theorem State.dropRecord_loss (s : State) (r : StrRec) (htype : r.type - 1 < s.str.loss.length) :
    (s.dropRecord r).str.loss[r.type - 1]? = (s.str.loss[r.type - 1]?).map fun n => n + 1 := by
  change (s.str.loss.set (r.type - 1) (s.str.loss.getD (r.type - 1) 0 + 1))[r.type - 1]? = _
  rw [List.getElem?_set_self htype, List.getD_eq_getElem?_getD, List.getElem?_eq_getElem htype]
  rfl

/-- A block that may start takes a credit and the next number (R510, R511, R513). -/
theorem exec_blockSend_of_ready {s : State} (hready : blockReady s = true) : ∃ u, exec .blockSend s = .next u ∧
    u.str.block = blockOf s ∧ u.str.bseq = (s.str.bseq + 1) % 65536 ∧ u.str.credits = s.str.credits - 1 ∧
    u.str.blockAt = some s.now := by
  change ∃ u, execBlockSend s = .next u ∧ _
  rw [execBlockSend, if_pos hready]
  exact ⟨_, rfl, rfl, rfl, rfl, rfl⟩

/-- The oldest byte of a partly filled block has waited long enough (R512). -/
theorem exec_streamFlush_of_waited {r : StrRec} {rest : List StrRec} {s : State} (hqueue : s.str.queue = r :: rest)
    (hen : s.str.en = true) (hpart : bufUsed s < 256) (hwaited : r.since + s.act OD.STR_FLUSH * usNs ≤ s.now) :
    exec .streamFlush s = .next { s with str := { s.str with flush := true } } := by
  change execStreamFlush s = _
  rw [execStreamFlush, hqueue]
  exact congrArg Host.Outcome.next (if_pos ⟨hen, hpart, hwaited⟩)

/-! ## READY -/

/-- A short high level of READY grants a credit (R513). -/
theorem exec_readyHighEnd_of_short {ns : Nat} {s : State} (hen : s.str.en = true) (hlow : 20 ≤ ns) (hhigh : ns ≤ 200)
    (hroom : s.str.credits < s.act OD.STR_CREDIT_MAX) :
    exec (.readyHighEnd ns) s = .next { s with str := { s.str with credits := s.str.credits + 1 } } := by
  change execReadyHighEnd ns s = _
  rw [execReadyHighEnd, if_neg (by simp [hen, hlow]), if_pos hhigh, if_pos hroom]

/-- A long high level of READY takes every credit back and starts the block numbers afresh (R514). -/
theorem exec_readyHighEnd_of_long {ns : Nat} {s : State} (hen : s.str.en = true) (hlong : 1000 < ns) :
    exec (.readyHighEnd ns) s = .next { s with str := { s.str with credits := 0, bseq := 0 } } := by
  change execReadyHighEnd ns s = _
  rw [execReadyHighEnd, if_neg (by simp [hen]; omega), if_neg (by omega), if_neg (by omega)]

/-- Settles O32, one clause per event and case. -/
theorem streamPort : Obligations.StreamPort := by
  refine ⟨fun r rest s harriving hen hroom => ⟨_, exec_streamRecord_of_arriving harriving hen, ?_⟩,
    fun r rest s harriving hen hfull htype => ⟨_, exec_streamRecord_of_arriving harriving hen, ?_⟩,
    fun s hready => exec_blockSend_of_ready hready,
    fun r rest s hqueue hen hpart hwaited => ⟨_, exec_streamFlush_of_waited hqueue hen hpart hwaited, rfl⟩,
    fun ns s hen hlow hhigh hroom => ⟨_, exec_readyHighEnd_of_short hen hlow hhigh hroom, rfl⟩,
    fun ns s hen hlong => ⟨_, exec_readyHighEnd_of_long hen hlong, rfl, rfl⟩⟩
  · rw [if_pos hroom]
    exact ⟨rfl, State.enqueue_queue_getLast? ..⟩
  · rw [if_neg (Nat.not_le.mpr hfull)]
    exact ⟨State.dropRecord_queue .., State.dropRecord_loss (s.withArriving rest) r htype⟩

end Sys2Proof.Machine

/-!
# A core reset (R401, R402)

Of the state before it a core reset takes the banks of seals and of pods through two operations, which touch nothing else. So each
field of the state after it is read off the definition.
-/

namespace Sys2Proof.Machine

/-! ## What the two operations touch -/

theorem State.podSwitches_eq (s : State) (old : Nat) : s.podSwitches old = { s with pods := (s.podSwitches old).pods } := by
  unfold State.podSwitches
  generalize allChans.filter _ = l
  induction l generalizing s with
  | nil => rfl
  | cons c l ih =>
    rw [List.foldl_cons]
    exact ih (s.feedA c)

theorem State.sealCut_eq (s : State) : s.sealCut = { s with seals := s.sealCut.seals } := by
  unfold State.sealCut
  split
  · split <;> rfl
  · rfl

/-- What does not depend on the pods, the switches leave as it is. -/
theorem State.podSwitches_part {α : Type} (part : State → α) (hpart : ∀ (s : State) (p : Bank Pod 16), part { s with pods := p } = part s)
    (s : State) (old : Nat) : part (s.podSwitches old) = part s := by
  rw [State.podSwitches_eq]
  exact hpart ..

/-- What does not depend on the seals, the cut of a slot leaves as it is. -/
theorem State.sealCut_part {α : Type} (part : State → α)
    (hpart : ∀ (s : State) (b : Bank SealBank 64), part { s with seals := b } = part s) (s : State) : part s.sealCut = part s := by
  rw [State.sealCut_eq]
  exact hpart ..

/-- The switches report to input A of a pod, and to nothing else of it (R396). -/
theorem State.podSwitches_pod (s : State) (old : Nat) (c : Chan) :
    (s.podSwitches old).pod c = { s.pod c with st := { (s.pod c).st with lvA := ((s.podSwitches old).pod c).st.lvA } } := by
  unfold State.podSwitches
  generalize allChans.filter _ = l
  induction l generalizing s with
  | nil => rfl
  | cons d l ih =>
    rw [List.foldl_cons]
    have hfed : (s.feedA d).pod c = { s.pod c with st := { (s.pod c).st with lvA := ((s.feedA d).pod c).st.lvA } } := by
      unfold State.feedA
      by_cases hd : d = c
      · subst hd
        rw [State.updPod_pod_self]
        split <;> rfl
      · rw [State.updPod_pod_other _ _ _ _ hd]
    rw [ih (s.feedA d), hfed]

/-- With the mask as it was, no switch moves. -/
theorem State.podSwitches_same {s : State} {old : Nat} (hsame : old = s.act OD.HUB_PODSUP_EN) : s.podSwitches old = s := by
  unfold State.podSwitches
  rw [List.filter_eq_nil_iff.mpr fun c _ => by rw [hsame]; simp]
  rfl

/-! ## The reset -/

theorem State.coreLost_podsKept (s : State) : podsKept s s.coreLost := by
  have hcut : s.sealCut.pods = s.pods := State.sealCut_part State.pods (fun _ _ => rfl) s
  have hact : s.sealCut.act OD.HUB_PODSUP_EN = s.act OD.HUB_PODSUP_EN :=
    State.sealCut_part (fun u => u.act OD.HUB_PODSUP_EN) (fun _ _ => rfl) s
  refine ⟨fun c => ?_, fun hdefault => ?_⟩
  · have hpod : s.sealCut.pod c = s.pod c := congrArg (·.get c) hcut
    rw [← hpod]
    exact State.podSwitches_pod _ _ c
  · refine Eq.trans (congrArg State.pods (State.podSwitches_same ?_)) hcut
    exact hact.trans hdefault

theorem State.coreReset_resets (s : State) (bit : Nat) : coreResetTo s (s.coreReset bit) bit := by
  refine ⟨rfl, ?_, s.coreLost_podsKept, ?_, ?_, ?_, ?_, ?_, ?_⟩
  · exact congrArg (fun n => setBit n bit true) ((State.podSwitches_part (fun u => u.power.latch) (fun _ _ => rfl) _ _).trans
      (State.sealCut_part (fun u => u.power.latch) (fun _ _ => rfl) s))
  · exact State.podSwitches_part State.sessions (fun _ _ => rfl) _ _
  · exact State.podSwitches_part State.active (fun _ _ => rfl) _ _
  · exact State.podSwitches_part State.shadow (fun _ _ => rfl) _ _
  · exact (State.podSwitches_part (fun u => u.jnl.recs) (fun _ _ => rfl) _ _).trans
      (State.sealCut_part (fun u => u.jnl.recs) (fun _ _ => rfl) s)
  · exact (State.podSwitches_part (fun u => u.fw.selB) (fun _ _ => rfl) _ _).trans
      (State.sealCut_part (fun u => u.fw.selB) (fun _ _ => rfl) s)
  · exact (State.podSwitches_part State.now (fun _ _ => rfl) _ _).trans (State.sealCut_part State.now (fun _ _ => rfl) s)

/-- The MRAM keeps whether the image is on trial. -/
theorem State.coreReset_trial (s : State) (bit : Nat) : (s.coreReset bit).fw.trial = s.fw.trial :=
  (State.podSwitches_part (fun u => u.fw.trial) (fun _ _ => rfl) _ _).trans
    (State.sealCut_part (fun u => u.fw.trial) (fun _ _ => rfl) s)

end Sys2Proof.Machine

/-!
# What the hub stores, its firmware, and the power warning (R492, R495, R498, R549 to R552, R558)
-/

namespace Sys2Proof.Machine

/-! ## A status object and a journal record -/

/-- A status object is read as it was after a write to another one. -/
theorem State.stat_set_other (s : State) {o p : Obj} {i j k l : Nat} (v : Int) (hkey : o.key i k ≠ p.key j l) :
    (s.set o i v k).stat p j l = s.stat p j l := by
  unfold State.stat Store.getN Store.get State.set Store.set
  rw [Store.find_put_other _ _ _ _ _ hkey]

/-- A journal record writes two counters of the status, and no other object. -/
theorem State.journal_stat (s : State) (kind : Nat) (src : JSrc) (code : Nat) (data : List (Nat × Nat)) {p : Obj} {j l : Nat}
    (hwrites : OD.JNL_WRITES.key 0 ≠ p.key j l) (hdrops : OD.RING_OUTQ_DROPS.key 0 ≠ p.key j l) :
    (s.journal kind src code data).stat p j l = s.stat p j l := by
  have hcounted (u : State) : (u.count64 OD.JNL_WRITES).stat p j l = u.stat p j l := State.stat_set_other _ _ hwrites
  have hsent (u : State) (r : JRec) : (u.sendEvent r).stat p j l = u.stat p j l := by
    unfold State.sendEvent State.pushOrDrop
    split
    · split
      · exact State.stat_set_other u _ hdrops
      · rfl
    · split
      · obtain ⟨out, hout⟩ := u.nextSeq.sendOwn_eq 5 u.ring.seq 0 r.bytes
        rw [hout]
        rfl
      · rfl
  exact (hsent _ _).trans (hcounted _)

/-- A journal record sends its EVENT, and leaves the requests in flight as they are. -/
theorem State.journal_sent (s : State) (kind : Nat) (src : JSrc) (code : Nat) (data : List (Nat × Nat)) :
    (s.journal kind src code data).ring.sent = s.ring.sent := by
  have hsent (u : State) (r : JRec) : (u.sendEvent r).ring.sent = u.ring.sent := by
    unfold State.sendEvent State.pushOrDrop
    split
    · split <;> rfl
    · split
      · obtain ⟨out, hout⟩ := u.nextSeq.sendOwn_eq 5 u.ring.seq 0 r.bytes
        rw [hout]
        rfl
      · rfl
  exact hsent _ _

theorem State.journal_fw (s : State) (kind : Nat) (src : JSrc) (code : Nat) (data : List (Nat × Nat)) :
    (s.journal kind src code data).fw = s.fw := by
  obtain ⟨-, -, -, -, -, -, -, -, -, -, -, -, -, hfw⟩ := State.units_fields (s.journal_units kind src code data)
  exact hfw

theorem State.journal_power (s : State) (kind : Nat) (src : JSrc) (code : Nat) (data : List (Nat × Nat)) :
    (s.journal kind src code data).power = s.power := by
  obtain ⟨-, -, -, -, -, -, -, -, -, -, -, hpower, -⟩ := State.units_fields (s.journal_units kind src code data)
  exact hpower

/-! ## A save of the configuration (R492) -/

theorem exec_cfgSaveComplete_of_writing {img : CfgImage} {s : State} (hwriting : s.cfg.writing = some img) :
    (∃ u, exec (.cfgSaveComplete true) s = .next u ∧ u.cfg = s.cfg.putOlder (some img) ∧ u.stat OD.HUB_CFG_STATE = 2) ∧
    ∃ u, exec (.cfgSaveComplete false) s = .next u ∧ u.cfg = s.cfg.putOlder none ∧ u.stat OD.HUB_CFG_STATE = 3 := by
  change (∃ u, execCfgSaveComplete true s = .next u ∧ _) ∧ ∃ u, execCfgSaveComplete false s = .next u ∧ _
  unfold execCfgSaveComplete
  rw [hwriting]
  refine ⟨⟨_, rfl, rfl, ?_⟩, ⟨_, rfl, rfl, ?_⟩⟩
  · refine (State.stat_set_other _ _ (by decide)).trans ((State.stat_set_other _ _ (by decide)).trans ?_)
    exact State.stat_set_self _ _ _ _ (by decide)
  · exact State.stat_set_self _ _ _ _ (by decide)

/-! ## A sealed slot (R498) -/

/-- A slot joins those of its object. -/
theorem State.slotsAt_sealSlot (s : State) (i : Fin 64) (value : List Byte) (ok : Bool) :
    slotsAt (s.sealSlot i.val value ok) i = slotsAt s i ++ [{ value := value, ok := ok }] ∧
    ∀ j : Fin 64, j ≠ i → slotsAt (s.sealSlot i.val value ok) j = slotsAt s j := by
  unfold State.sealSlot slotsAt
  rw [dif_pos i.isLt]
  refine ⟨?_, fun j hj => ?_⟩
  · rw [Bank.get_upd_self]
    rfl
  · rw [Bank.get_upd_other _ _ _ _ hj.symm]

theorem exec_sealProgramDone_of_sealing {ok : Bool} {i : Fin 64} {x : Sealing} {s : State} (hx : s.sealing = some x)
    (hindex : x.index = 0x7800 + i.val) : ∃ u, exec (.sealProgramDone ok) s = .next u ∧ u.sealing = none ∧
      slotsAt u i = slotsAt s i ++ [{ value := x.value, ok := ok }] ∧ ∀ j : Fin 64, j ≠ i → slotsAt u j = slotsAt s j := by
  have hi : x.index - 0x7800 = i.val := by omega
  change ∃ u, execSealProgramDone ok s = .next u ∧ _
  unfold execSealProgramDone
  rw [hx]
  refine ⟨_, rfl, ?_⟩
  dsimp only
  rw [hi]
  obtain ⟨-, hseals, hsealing, -⟩ := vault_fields
    ((({ s with sealing := none } : State).sealSlot i.val x.value ok).journal 0x13 .hub (if ok then 0 else Err.hw.code)
      [(2, x.index), (1, (sealBank s x.index).slots.length)])
  obtain ⟨hself, hothers⟩ := State.slotsAt_sealSlot { s with sealing := none } i x.value ok
  rw [State.journal_vault] at hseals hsealing
  have hslots (j : Fin 64) : slotsAt ((({ s with sealing := none } : State).sealSlot i.val x.value ok).journal 0x13 .hub
      (if ok then 0 else Err.hw.code) [(2, x.index), (1, (sealBank s x.index).slots.length)]) j =
      slotsAt (({ s with sealing := none } : State).sealSlot i.val x.value ok) j := congrArg (fun b => (b.get j).slots) hseals
  refine ⟨hsealing.trans ?_, (hslots i).trans hself, fun j hj => (hslots j).trans (hothers j hj)⟩
  unfold State.sealSlot
  rw [dif_pos i.isLt]
  rfl

/-! ## Firmware (R549 to R552) -/

/-- What is put in the slot that does not run is found there. -/
theorem Fw.idle_putIdle (f : Fw) (x : FwSlot) : (f.putIdle x).idle = x := by
  unfold Fw.putIdle
  split
  · next hb => simp [Fw.idle, Fw.slot, hb]
  · next hb => simp [Fw.idle, Fw.slot, hb]

theorem exec_fwCheckDone_of_checking {s : State} (hchecking : s.fw.idle.state = 2) : ∃ u, exec .fwCheckDone s = .next u ∧
    u.fw.idle.state = imageState s s.fw.idle.image ∧ (u.fw.idle.sound = true ↔ u.fw.idle.state = 3) := by
  change ∃ u, execFwCheckDone s = .next u ∧ _
  unfold execFwCheckDone
  dsimp only
  rw [if_pos hchecking]
  refine ⟨_, rfl, ?_⟩
  split
  · rw [State.journal_fw, Fw.idle_putIdle]
    exact ⟨rfl, by simp⟩
  · rw [Fw.idle_putIdle]
    exact ⟨rfl, by simp⟩

theorem exec_fwTrialExpiry_of_due {s : State} (hup : s.hubUp = true) (htrial : s.fw.trial = true)
    (hdue : s.fw.trialAt + s.act OD.FW_TTRIAL * secNs ≤ s.now) : ∃ u, exec .fwTrialExpiry s = .next u ∧ u.hub = .reset ∧
      u.fw.trial = false ∧ u.fw.selB = (!s.fw.runsB) ∧ u.power.latch = setBit s.power.latch 8 true := by
  change ∃ u, execFwTrialExpiry s = .next u ∧ _
  unfold execFwTrialExpiry
  rw [if_pos (by simp [hup, htrial, hdue])]
  refine ⟨_, rfl, ?_⟩
  dsimp only
  generalize hlast : State.journal _ _ _ _ _ = v
  obtain ⟨hhub, hlatch, -, -, -, -, -, hsel, -⟩ := v.coreReset_resets 8
  rw [State.coreReset_trial, hsel, hlatch, hhub, ← hlast, State.journal_fw, State.journal_power]
  exact ⟨rfl, rfl, rfl, rfl⟩

/-! ## The power warning (R558) -/

/-- The state in which a warning has begun: no request is in flight, and no entry into SLEEP goes on. -/
def State.withWarning (s : State) : State :=
  { s with pfw := { on := true, from_ := s.now, latch := true, saving := true }, ring := { s.ring with sent := [] },
           power := { s.power with sleep := none } }

/-- A save that is given up touches the stored configuration and its status alone. -/
theorem State.cfgFail_keeps (s : State) : s.cfgFail.pfw = s.pfw ∧ s.cfgFail.ring = s.ring ∧ s.cfgFail.power = s.power := by
  unfold State.cfgFail
  split <;> exact ⟨rfl, rfl, rfl⟩

theorem exec_pfwN_of_up {s : State} (hup : s.hubUp = true) (hoff : s.pfw.on = false) : ∃ u, exec .pfwN s = .next u ∧
    u.pfw.on = true ∧ u.pfw.from_ = s.now ∧ u.ring.sent = [] ∧ u.power.sleep = none ∧ u.stat OD.HUB_PFW_STATE = 1 := by
  have hexec : exec .pfwN s = .next (((s.withWarning.cfgFail.count OD.HUB_PFW_COUNT).set OD.HUB_PFW_STATE 0 1).journal 0x16 .hub 1
      [(4, s.stat OD.MTR_CKPT_SEQ)]) := congrArg Host.Outcome.next (if_pos (by simp [hup, hoff]))
  refine ⟨_, hexec, ?_⟩
  rw [State.journal_pfw, State.journal_sent, State.journal_power, State.journal_stat _ _ _ _ _ (by decide) (by decide)]
  obtain ⟨hpfw, hring, hpower⟩ := s.withWarning.cfgFail_keeps
  exact ⟨congrArg Pfw.on hpfw, congrArg Pfw.from_ hpfw, congrArg Ring.sent hring, congrArg Power.sleep hpower,
    State.stat_set_self _ _ _ _ (by decide)⟩

/-- Settles O35, one clause per event and case. -/
theorem storedThingsAndFirmware : Obligations.StoredThingsAndFirmware :=
  ⟨fun _ _ hwriting => (exec_cfgSaveComplete_of_writing hwriting).1, fun _ _ hwriting => (exec_cfgSaveComplete_of_writing hwriting).2,
    fun _ _ _ _ hx hindex => exec_sealProgramDone_of_sealing hx hindex, fun _ hchecking => exec_fwCheckDone_of_checking hchecking,
    fun _ hup htrial hdue => exec_fwTrialExpiry_of_due hup htrial hdue, fun _ hup hoff => exec_pfwN_of_up hup hoff⟩

end Sys2Proof.Machine

/-!
# A command of the table, as one write of one value (R467, R468, R473)

`isOrder` is what the Rack says of one of the objects of a command. A write that the dictionary lets through then leaves the state
that the command of the object gives, but for the ring's sequence number, what has been sent, and the answer: `State.replied`.
-/

namespace Sys2Proof.Machine

/-! ## The row of a command object -/

/-- Instance `i` of an object is a command of an unsigned type of `size` bytes, which no unit has for its COMMIT. -/
def isOrder (o : Obj) (i size : Nat) : Bool :=
  (match objRow (o.index + o.stride * i) o.sub with
   | some r => r.access == .cmd && r.index == o.index && r.first == o.sub && r.instanceOf (o.index + o.stride * i) == some i &&
       r.type.size == size && !r.type.isSigned
   | none => false) && (commitUnit (o.index + o.stride * i)).isNone

theorem isOrder_row {o : Obj} {i size : Nat} (h : isOrder o i size = true) : commitUnit (o.index + o.stride * i) = none ∧
    ∃ r, objRow (o.index + o.stride * i) o.sub = some r ∧ r.access = .cmd ∧ r.index = o.index ∧ r.first = o.sub ∧
      r.instanceOf (o.index + o.stride * i) = some i ∧ r.type.size = size ∧ r.type.isSigned = false := by
  unfold isOrder at h
  obtain ⟨hrow, hunit⟩ := (Bool.and_eq_true ..).mp h
  refine ⟨Option.isNone_iff_eq_none.mp hunit, ?_⟩
  split at hrow
  · next r hr =>
    simp only [Bool.and_eq_true, beq_iff_eq, Bool.not_eq_true'] at hrow
    obtain ⟨⟨⟨⟨⟨haccess, hindex⟩, hfirst⟩, hinst⟩, hsize⟩, hsign⟩ := hrow
    exact ⟨r, hr, haccess, hindex, hfirst, hinst, hsize, hsign⟩
  · cases hrow

/-- The row of an object, as far as the table of commands looks at it. -/
def orderStub (o : Obj) : ObjRow :=
  { index := o.index, stride := o.stride, count := 1, first := o.sub, last := o.sub, type := .u8, access := .cmd, dflt := 0, lo := 0,
    hi := 0 }

/-- The table of commands knows a row by its first index and subindex. -/
theorem findCommand_stub {o : Obj} {r : ObjRow} (hindex : r.index = o.index) (hfirst : r.first = o.sub)
    (l : List (Obj × Command)) : findCommand r l = findCommand (orderStub o) l := by
  induction l with
  | nil => rfl
  | cons e l ih =>
    unfold findCommand
    rw [hindex, hfirst, ih]
    rfl

/-! ## What a write leaves -/

/-- The state of an outcome, answered at once: the sequence number `n` of the ring and what has been sent are what mirroring leaves. -/
def State.replied (x : State × Err) (n : Nat) (sent : List RingOut) : State :=
  { x.1 with ring := { x.1.ring with seq := n }, out := sent, resp := some (.direct, { err := x.2 }) }

theorem State.replied_answers (x : State × Err) (n : Nat) (sent : List RingOut) : answers (State.replied x n sent) x.2 := rfl

@[simp] theorem State.replied_port (x : State × Err) (n : Nat) (sent : List RingOut) (c : Chan) :
    (State.replied x n sent).port c = x.1.port c := rfl
@[simp] theorem State.replied_bus (x : State × Err) (n : Nat) (sent : List RingOut) (b : BusId) :
    (State.replied x n sent).bus b = x.1.bus b := rfl
@[simp] theorem State.replied_pods (x : State × Err) (n : Nat) (sent : List RingOut) : (State.replied x n sent).pods = x.1.pods := rfl
@[simp] theorem State.replied_gen (x : State × Err) (n : Nat) (sent : List RingOut) (k : Oct) :
    (State.replied x n sent).gen k = x.1.gen k := rfl
@[simp] theorem State.replied_cell (x : State × Err) (n : Nat) (sent : List RingOut) (k : Oct) :
    (State.replied x n sent).cell k = x.1.cell k := rfl
@[simp] theorem State.replied_chop (x : State × Err) (n : Nat) (sent : List RingOut) (d : Quad) :
    (State.replied x n sent).chop d = x.1.chop d := rfl
@[simp] theorem State.replied_power (x : State × Err) (n : Nat) (sent : List RingOut) :
    (State.replied x n sent).power = x.1.power := rfl
@[simp] theorem State.replied_stat (x : State × Err) (n : Nat) (sent : List RingOut) (o : Obj) (i k : Nat) :
    (State.replied x n sent).stat o i k = x.1.stat o i k := rfl

/-- A write of an object that is let through, and whose operation answers at once without a reset. -/
theorem State.doWrite_replied {s : State} {q : Req} {d : List Byte} {r : ObjRow} {f : Role → State × Err} (hadmits : admits s q d = true)
    (hvia : q.via = .direct) (hr : objRow q.index q.sub = some r) (hhub : ∀ role, (f role).1.hub = s.hub)
    (hf : ∀ role, (s.touch q).operate q role r d = ((f role).1, some (f role).2)) :
    ∃ role n sent, standing s q true = some role ∧ s.doWrite q d.length d = State.replied (f role) n sent := by
  obtain ⟨hserves, -, -⟩ := admits_iff hadmits
  obtain ⟨role, hrole, hdone⟩ := State.doWrite_eq hadmits hr
  obtain ⟨n, sent, a, hfinish, hanswer⟩ := State.finish_eq (f role) s q r d hvia
  refine ⟨role, n, sent, hrole, ?_⟩
  rw [hdone (f role) (hf role), hfinish, hanswer (hhub role ▸ hub_ne_reset_of_serves hserves)]
  rfl

/-- The operation of a command object. -/
theorem State.operate_command {s : State} {rq : Requester} {o : Obj} {i v size : Nat} {f : Command} (hpower : s.pfw.on = false)
    (horder : isOrder o i size = true) (hv : v < 256 ^ size) (hf : findCommand (orderStub o) commands = some f) :
    ∃ r, objRow (orderOf rq o i).index (orderOf rq o i).sub = some r ∧ ∀ role,
      s.operate (orderOf rq o i) role r (objBytes (orderOf rq o i).index (orderOf rq o i).sub v) =
        ((f s (orderOf rq o i) role i v).1, some (f s (orderOf rq o i) role i v).2) := by
  obtain ⟨hunit, r, hr, haccess, hindex, hfirst, hinst, hsize, hsign⟩ := isOrder_row horder
  refine ⟨r, hr, fun role => ?_⟩
  have hvalue : valueOf r (objBytes (orderOf rq o i).index (orderOf rq o i).sub v) = v := valueOf_objBytes hr hsign (by rwa [hsize])
  have hinst' : r.instanceOf (orderOf rq o i).index = some i := hinst
  have hunit' : commitUnit (orderOf rq o i).index = none := hunit
  unfold State.operate State.command
  rw [hvalue, hunit', findCommand_stub hindex hfirst, hf, hinst', haccess, hpower]
  rfl

/-- A command that is let through runs on the state in which its handle has been used. -/
theorem State.order_replied {s : State} {rq : Requester} {o : Obj} {i v size : Nat} {f : Command}
    (hadmits : admitsOrder s rq o i v = true) (horder : isOrder o i size = true) (hv : v < 256 ^ size)
    (hf : findCommand (orderStub o) commands = some f)
    (hhub : ∀ l role, (f { s with sessions := l } (orderOf rq o i) role i v).1.hub = s.hub) :
    ∃ role l n sent, standing s (orderOf rq o i) true = some role ∧ s.touch (orderOf rq o i) = { s with sessions := l } ∧
      s.order rq o i v = State.replied (f { s with sessions := l } (orderOf rq o i) role i v) n sent := by
  obtain ⟨-, hpower, -⟩ := admits_iff hadmits
  obtain ⟨l, hl⟩ := State.touch_eq s (orderOf rq o i)
  obtain ⟨r, hr, hrun⟩ := State.operate_command (s := { s with sessions := l }) (rq := rq) hpower horder hv hf
  obtain ⟨role, n, sent, hrole, hdone⟩ := State.doWrite_replied
    (f := fun role => f { s with sessions := l } (orderOf rq o i) role i v) hadmits rfl hr (hhub l)
    fun role => by rw [hl]; exact hrun role
  exact ⟨role, l, n, sent, hrole, hl, hdone⟩

/-- A command that looks at neither the request nor the role. -/
theorem State.order_runs {s : State} {rq : Requester} {o : Obj} {i v size : Nat} {f : Command} {g : State → State × Err}
    (hadmits : admitsOrder s rq o i v = true) (horder : isOrder o i size = true) (hv : v < 256 ^ size)
    (hf : findCommand (orderStub o) commands = some f) (hg : ∀ s q role, f s q role i v = g s) (hhub : ∀ s, (g s).1.hub = s.hub) :
    ∃ l n sent, s.order rq o i v = State.replied (g { s with sessions := l }) n sent := by
  obtain ⟨role, l, n, sent, -, -, hrun⟩ := State.order_replied hadmits horder hv hf fun l role =>
    (congrArg (fun x => x.1.hub) (hg { s with sessions := l } _ role)).trans (hhub _)
  exact ⟨l, n, sent, hrun.trans (congrArg (State.replied · n sent) (hg ..))⟩

/-! ## The instances of a command object -/

theorem chanAt_val (c : Chan) : chanAt c.val = c := Fin.ext (Nat.mod_eq_of_lt c.isLt)
theorem busAt_val (b : BusId) : busAt b.val = b := Fin.ext (Nat.mod_eq_of_lt b.isLt)
theorem quadAt_val (p : Quad) : quadAt p.val = p := Fin.ext (Nat.mod_eq_of_lt p.isLt)
theorem octAt_val (n : Oct) : octAt n.val = n := Fin.ext (Nat.mod_eq_of_lt n.isLt)
theorem abAt_val (x : AB) : abAt x.val = x := Fin.ext (Nat.mod_eq_of_lt x.isLt)

/-! ## The rows of the commands -/

/-- The objects of the commands, with the number of their instances and the size of their values in bytes. -/
def orderTable : List (Obj × Nat × Nat) :=
  [(OD.CH_ENABLE, 16, 1), (OD.CH_DMG_CLEAR, 16, 1), (OD.BUS_BF_CLEAR, 8, 1), (OD.BUS_XFER_RESUME, 8, 1), (OD.DIS_REQ, 4, 1),
    (OD.HUB_FLTO_ACK, 2, 1), (OD.ADC_CAL, 16, 1), (OD.ADC_RECAL, 16, 1), (OD.MTR_SNAP, 1, 1), (OD.MTR_CLEAR, 16, 1),
    (OD.CMP_TEST, 8, 1), (OD.PWM_RUN, 8, 1), (OD.PWM_FREL, 8, 1), (OD.HUB_RESET, 1, 1), (OD.HUB_SLEEP, 1, 1),
    (OD.RING_ENUM, 1, 1), (OD.RING_MAP_CLEAR, 1, 1), (OD.RING_WAKE, 1, 1), (OD.HUB_CFG_SAVE, 1, 1),
    (OD.HUB_CFG_DEFAULTS, 1, 1), (OD.STR_EN, 1, 1), (OD.STR_CAPTURE, 1, 2), (OD.STR_JNL_EXPORT, 1, 2), (OD.HUB_PX_MOVE, 1, 2),
    (OD.FW_LOAD, 1, 1), (OD.FW_ACTIVATE, 1, 1), (OD.FW_CONFIRM, 1, 1), (OD.SES_OPEN, 1, 1), (OD.SES_CLOSE, 1, 2),
    (OD.SES_VIEW, 1, 1)]

theorem isOrder_of_table : ∀ e ∈ orderTable, ∀ i < e.2.1, isOrder e.1 i e.2.2 = true := by decide +kernel

theorem isOrder_of_mem {o : Obj} {n size i : Nat} (h : (o, n, size) ∈ orderTable) (hi : i < n) : isOrder o i size = true :=
  isOrder_of_table _ h i hi

/-! ## The rows of some objects that are no commands -/

/-- Access and type of an object, and whether it is kept secret. -/
def rowKind (i sub : Nat) : Option (Access × OType × Bool) := (objRow i sub).map fun r => (r.access, r.type, r.secret)

theorem objRow_of_kind {i sub : Nat} {access : Access} {type : OType} {secret : Bool} (h : rowKind i sub = some (access, type, secret)) :
    ∃ r, objRow i sub = some r ∧ r.access = access ∧ r.type = type ∧ r.secret = secret := by
  obtain ⟨r, hr, hkind⟩ := Option.map_eq_some_iff.mp h
  simp only [Prod.mk.injEq] at hkind
  exact ⟨r, hr, hkind⟩

/-- Objects that the proofs about `PWM_WORD`, `HUB_PODSUP_EN`, `HUB_FLTI_CH`, the image of the firmware and the sessions look up. -/
theorem rowKinds : (∀ n : Oct, rowKind (OD.PWM_WORD.index + OD.PWM_WORD.stride * n.val) OD.PWM_WORD.sub = some (.rw, .u64, false)) ∧
    rowKind OD.HUB_PODSUP_EN.index OD.HUB_PODSUP_EN.sub = some (.rw, .u16, false) ∧ rowKind 0x7200 7 = some (.wo, .blob, false) ∧
    hasIndex 0x7100 = true ∧ rowKind 0x7100 2 = some (.ro, .blob, false) ∧ rowKind 0x7100 3 = some (.wo, .blob, false) ∧
    rowKind OD.HUB_FLTI_CH.index OD.HUB_FLTI_CH.sub = some (.rw, .u16, false) := by
  decide +kernel

end Sys2Proof.Machine

/-!
# The commands to a channel (R88, R119, R132 to R135, R238, R240)
-/

namespace Sys2Proof.Machine

/-! ## The rows of the commands -/

theorem isOrder_chEnable (c : Chan) : isOrder OD.CH_ENABLE c.val 1 = true := isOrder_of_mem (n := 16) (by simp [orderTable]) c.isLt
theorem isOrder_chDmgClear (c : Chan) : isOrder OD.CH_DMG_CLEAR c.val 1 = true := isOrder_of_mem (n := 16) (by simp [orderTable]) c.isLt

/-- What the host keeps names the state of the hub. -/
theorem State.hub_of_host {s t : State} (h : s.host = t.host) : s.hub = t.hub := congrArg (fun x => x.2.2.2.2.1) h

/-! ## Parts of a port that a command leaves as they are -/

section
variable {α : Type} (part : Port → α)

theorem State.updPort_part {f : Port → Port} (hf : ∀ q, part (f q) = part q) (s : State) (k c : Chan) :
    part ((s.updPort k f).port c) = part (s.port c) := by
  by_cases hk : k = c
  · rw [hk, State.updPort_port_self]
    exact hf _
  · rw [State.updPort_port_other _ _ _ _ hk]

variable (hdown : ∀ (q : Port) (d : CmdFrame), part { q with down := d } = part q)
include hdown

theorem State.down_part (s : State) (k c : Chan) (f : CmdFrame → CmdFrame) : part ((s.down k f).port c) = part (s.port c) :=
  State.updPort_part part (fun q => hdown q (f q.down)) s k c

theorem State.activatePod_part (s : State) (k c : Chan) : part ((s.activatePod k).port c) = part (s.port c) := by
  unfold State.activatePod
  split
  · exact State.down_part part hdown ..
  · rfl

/-- The stop of a precharge writes to the frame of its feed, and nothing else of a port (R158). -/
theorem State.preStop_part (s : State) (p : Quad) (ev : PreStatus) (c : Chan) : part ((s.preStop p ev).port c) = part (s.port c) := by
  unfold State.preStop State.preFeedActs
  split
  · have hquiet : (((s.selfUnmask (pwmOf p)).preQuiet p).updPre p fun x =>
        { x with state := .aborted, status := ev, elapsed := (s.now - x.selfAt) / usNs, leftAt := some s.now }).port c = s.port c :=
      State.plant_port (s := s.selfUnmask (pwmOf p)) (State.selfUnmask_plant ..) c
    dsimp only
    split
    · exact congrArg part hquiet
    · split
      case h_9 => exact congrArg part hquiet
      all_goals exact (State.down_part part hdown ..).trans (congrArg part hquiet)
  · rfl

theorem State.preStopOn_part (s : State) (p : Quad) (ev : List PreStatus) (c : Chan) :
    part ((s.preStopOn p ev).port c) = part (s.port c) := by
  unfold State.preStopOn
  split
  · split
    · exact State.preStop_part part hdown ..
    · rfl
  · rfl

end

/-! ## CH_ENABLE written 1 (R132, R133, R239) -/

theorem State.enableSet_hub (s : State) (c : Chan) : (s.enableSet c).1.hub = s.hub := by
  refine State.hub_of_host ?_
  unfold State.enableSet State.clearLatch
  dsimp only
  split
  · split
    · rfl
    · split <;> simp
  · simp

theorem exec_chEnableSet_of_admitted {c : Chan} {rq : Requester} {s : State} (hadmits : admitsOrder s rq OD.CH_ENABLE c.val 1 = true) :
    ∃ l n sent, exec (.chEnableSet c rq) s = .next (State.replied (State.enableSet { s with sessions := l } c) n sent) := by
  obtain ⟨l, n, sent, hrun⟩ := State.order_runs (v := 1) (g := fun s => s.enableSet c) hadmits (isOrder_chEnable c) (by decide) rfl
    (fun s _ _ => congrArg s.enableSet (chanAt_val c)) fun s => s.enableSet_hub c
  exact ⟨l, n, sent, congrArg Host.Outcome.next hrun⟩

/-- A channel that is not LATCHED takes its enable. -/
theorem State.enableSet_of_unlatched {s : State} {c : Chan} (h : hubCh s c ≠ .latched) :
    s.enableSet c = (s.updPort c fun q => { q with enable := true }, .ok) := by
  unfold State.enableSet
  exact if_neg h

/-- A latch whose enable is set, or whose cool-down runs, holds (R133). -/
theorem State.enableSet_of_held {s : State} {c : Chan} (h : hubCh s c = .latched) (hheld : (s.port c).enable = true ∨ s.now < coolEnd s c) :
    s.enableSet c = (s, .state) := by
  unfold State.enableSet
  dsimp only
  rw [if_pos h, if_pos]
  rcases hheld with henable | hcool
  · simp [henable]
  · simp [hcool]

/-- A latch of SC2 clears with the enable (R132, R238). -/
theorem State.enableSet_of_sc2 {s : State} {c : Chan} (h : hubCh s c = .latched) (henable : (s.port c).enable = false)
    (hcool : coolEnd s c ≤ s.now) (hset : (s.port c).trip.set = addCause 0 .sc2) :
    s.enableSet c = (((s.updPort c fun q => { q with enable := true }).clearLatch c).evalLines, .ok) := by
  have hcauses : causesOf (addCause 0 .sc2) = [.sc2] := by decide
  have hfail : hasCause (addCause 0 .sc2) .selftestFail = false := by decide
  unfold State.enableSet
  dsimp only
  rw [if_pos h, hset, hcauses, hfail, if_neg, if_neg (by decide)]
  simp [henable, waitMet, hcool]

/-- The clear of a latch leaves the enable, and the retry count at 0 (R238). -/
theorem State.clearLatch_port (s : State) (c : Chan) :
    ((s.clearLatch c).port c).enable = (s.port c).enable ∧ ((s.clearLatch c).port c).trip.retryN = 0 := by
  obtain ⟨-, hretry, -⟩ := State.latchCleared_keeps ((s.activatePod c).release c) c 0
  unfold State.clearLatch
  refine ⟨?_, hretry⟩
  have hcleared (s : State) : ((s.clearPod c).port c).enable = (s.port c).enable := by
    unfold State.clearPod
    dsimp only
    split
    · rw [State.updPod_port, State.updPort_port_self]
    · rw [State.updPort_port_self]
  have hreleased : (((s.activatePod c).release c).port c).enable = (s.port c).enable := by
    unfold State.release
    dsimp only
    rw [State.down_part Port.enable (fun _ _ => rfl), State.updPort_port_self]
    exact State.activatePod_part Port.enable (fun _ _ => rfl) s c c
  unfold State.latchCleared
  dsimp only
  rw [State.journal_port, State.latchGone_port, State.updPort_port_self]
  exact (hcleared _).trans hreleased

/-! ## CH_ENABLE written 0 (R88, R119, R158) -/

theorem State.disable_enable (s : State) (c : Chan) : ((s.disable c).port c).enable = false := by
  unfold State.disable
  split
  · rw [State.updPort_port_self]
  · next h => exact Bool.eq_false_iff.mpr h

/-- The stops that follow the enable of a feed. -/
def State.feedStops (s : State) (c : Chan) : State :=
  allQuads.foldl (fun s p => if feedOfPre s.active p == some c then s.preStopOn p [.commanded] else s) s

theorem State.feedStops_enable (s : State) (c : Chan) : ((s.feedStops c).port c).enable = (s.port c).enable := by
  refine foldl_keeps (fun s : State => (s.port c).enable) _ (fun s p => ?_) _ s
  split
  · exact State.preStopOn_part Port.enable (fun _ _ => rfl) ..
  · rfl

/-- A fold whose every step leaves its start as it is. -/
theorem foldl_of_fixed {α β : Type} {f : α → β → α} {a : α} (h : ∀ b, f a b = a) (l : List β) : l.foldl f a = a := by
  induction l with
  | nil => rfl
  | cons b l ih => rw [List.foldl_cons, h b, ih]

/-- A channel that feeds no precharge stops none. -/
theorem State.feedStops_of_none {s : State} {c : Chan} (h : ∀ p : Quad, feedOfPre s.active p ≠ some c) : s.feedStops c = s := by
  refine foldl_of_fixed (fun p => ?_) _
  rw [if_neg (by simpa using h p)]

theorem State.enableClear_eq (s : State) (c : Chan) : s.enableClear c = if !(s.port c).enable then (s, .ok) else
    (if (hubCh ((s.disable c).feedStops c) c).running || (((s.disable c).feedStops c).port c).down.start then
      ((s.disable c).feedStops c).offBy c else (s.disable c).feedStops c, .ok) := by
  unfold State.enableClear State.feedStops
  rfl

theorem State.enableClear_hub (s : State) (c : Chan) : (s.enableClear c).1.hub = s.hub := by
  have hstops (s : State) : (s.feedStops c).host = s.host := by
    refine foldl_keeps State.host _ (fun s p => ?_) _ s
    split
    · exact State.preStopOn_host ..
    · rfl
  refine State.hub_of_host ?_
  rw [State.enableClear_eq]
  split
  · rfl
  · split <;> simp [hstops]

theorem State.enableClear_ok (s : State) (c : Chan) : (s.enableClear c).2 = .ok ∧ ((s.enableClear c).1.port c).enable = false := by
  rw [State.enableClear_eq]
  split
  · next h => exact ⟨rfl, by simpa using h⟩
  · refine ⟨rfl, ?_⟩
    dsimp only
    have hstopped : (((s.disable c).feedStops c).port c).enable = false :=
      (State.feedStops_enable ..).trans (State.disable_enable ..)
    split
    · exact (State.down_part Port.enable (fun _ _ => rfl) ..).trans hstopped
    · exact hstopped

/-- A channel that feeds no precharge and runs is commanded off by the next frame; no pod changes before. -/
theorem State.enableClear_off {s : State} {c : Chan} (hfeeds : ∀ p : Quad, feedOfPre s.active p ≠ some c) :
    ((s.port c).enable = true → (hubCh s c).running = true → ((s.enableClear c).1.port c).down.off = true) ∧
    (s.enableClear c).1.pods = s.pods := by
  have hactive : (s.disable c).active = s.active := by
    obtain ⟨_, _, -, h⟩ := s.disable_port c
    exact h
  have hstops : (s.disable c).feedStops c = s.disable c := State.feedStops_of_none (by rwa [hactive])
  have hch : hubCh (s.disable c) c = hubCh s c := by
    obtain ⟨_, _, hport, -⟩ := s.disable_port c
    unfold hubCh State.seen
    rw [hport]
  rw [State.enableClear_eq, hstops, hch]
  refine ⟨fun henable hrun => ?_, ?_⟩
  · rw [if_neg (by simp [henable]), if_pos (by simp [hrun])]
    exact State.offBy_off ..
  · have hpods : (s.disable c).pods = s.pods := State.disable_podBank s c
    split
    · rfl
    · dsimp only
      split
      · exact hpods
      · exact hpods

theorem exec_chEnableClear_of_admitted {c : Chan} {rq : Requester} {s : State} (hadmits : admitsOrder s rq OD.CH_ENABLE c.val 0 = true) :
    ∃ l n sent, exec (.chEnableClear c rq) s = .next (State.replied (State.enableClear { s with sessions := l } c) n sent) := by
  obtain ⟨l, n, sent, hrun⟩ := State.order_runs (v := 0) (g := fun s => s.enableClear c) hadmits (isOrder_chEnable c) (by decide) rfl
    (fun s _ _ => congrArg s.enableClear (chanAt_val c)) fun s => s.enableClear_hub c
  exact ⟨l, n, sent, congrArg Host.Outcome.next hrun⟩

/-- A running channel without a trip of the same tick turns off with NORMAL, and is OFF at a boundary after (R88, R119). -/
theorem Pod.commandOff_of_running {p : Pod} (t : Nat) (hrun : p.st.ch.running = true) (hdue : p.coll.due = false)
    (hopen : p.bothClamped = false) (hnone : p.turnOff = none) :
    (p.commandOff t).st.leaving = true ∧ (p.commandOff t).turnOff = some .normal ∧ (p.commandOff t).st.ch = p.st.ch := by
  have hoff : p.commandOff t = { p.off .normal t with st := { (p.off .normal t).st with leaving := true } } :=
    if_pos (by simp [hrun, hdue])
  rw [hoff]
  exact ⟨rfl, Pod.off_turnOff .normal t hopen hnone, congrArg (fun x => x.2.1) (Pod.off_tripPart p .normal t)⟩

/-! ## CH_DMG_CLEAR (R240) -/

theorem State.dmgClear_hub (s : State) (c : Chan) : (s.dmgClear c).1.hub = s.hub := by
  refine State.hub_of_host ?_
  unfold State.dmgClear
  split
  · rfl
  · simp

theorem exec_chDmgClear_of_admitted {c : Chan} {rq : Requester} {s : State} (hadmits : admitsOrder s rq OD.CH_DMG_CLEAR c.val 1 = true) :
    ∃ l n sent, exec (.chDmgClear c rq) s = .next (State.replied (State.dmgClear { s with sessions := l } c) n sent) := by
  obtain ⟨l, n, sent, hrun⟩ := State.order_runs (v := 1) (g := fun s => s.dmgClear c) hadmits (isOrder_chDmgClear c) (by decide) rfl
    (fun s _ _ => congrArg s.dmgClear (chanAt_val c)) fun s => s.dmgClear_hub c
  exact ⟨l, n, sent, congrArg Host.Outcome.next hrun⟩

theorem State.dmgClear_of_damaged {s : State} {c : Chan} (h : hubCh s c = .damaged) : (s.dmgClear c).2 = .ok ∧
    ((s.dmgClear c).1.port c).damaged = false ∧ ((s.dmgClear c).1.port c).trip.state = .latched ∧
    ((s.dmgClear c).1.port c).tLatch = s.now := by
  have hnow : (s.activatePod c).now = s.now := by
    unfold State.activatePod
    split <;> rfl
  unfold State.dmgClear
  rw [if_neg (not_not_intro h)]
  dsimp only
  rw [State.journal_port, State.updPort_port_self]
  exact ⟨rfl, rfl, rfl, hnow⟩

/-! ## The statement -/

/-- Settles O41: what each command leaves of its port, read off the state that answers it. -/
theorem channelCommands : Obligations.ChannelCommands := by
  refine ⟨fun c rq s hadmits hfree => ?_, fun c rq s hadmits hlatched hheld => ?_,
    fun c rq s hadmits hlatched henable hcool hset => ?_, fun c rq s hadmits => ?_, fun c rq s hadmits hfeeds => ?_,
    fun p t hrun hdue hopen hnone => Pod.commandOff_of_running t hrun hdue hopen hnone, fun c rq s hadmits hdamaged => ?_,
    fun c rq s hadmits hwhole => ?_⟩
  · obtain ⟨l, n, sent, hexec⟩ := exec_chEnableSet_of_admitted hadmits
    rw [State.enableSet_of_unlatched (s := { s with sessions := l }) hfree] at hexec
    exact ⟨_, hexec, rfl, congrArg Port.enable (State.updPort_port_self { s with sessions := l } c _), rfl⟩
  · obtain ⟨l, n, sent, hexec⟩ := exec_chEnableSet_of_admitted hadmits
    rw [State.enableSet_of_held (s := { s with sessions := l }) hlatched hheld] at hexec
    exact ⟨_, hexec, rfl, rfl, rfl⟩
  · obtain ⟨l, n, sent, hexec⟩ := exec_chEnableSet_of_admitted hadmits
    rw [State.enableSet_of_sc2 (s := { s with sessions := l }) hlatched henable hcool hset] at hexec
    obtain ⟨hkept, hretry⟩ := (State.updPort { s with sessions := l } c fun q => { q with enable := true }).clearLatch_port c
    refine ⟨_, hexec, rfl, ?_, ?_⟩
    · rw [State.replied_port, State.evalLines_port, hkept, State.updPort_port_self]
    · rw [State.replied_port, State.evalLines_port, hretry]
  · obtain ⟨l, n, sent, hexec⟩ := exec_chEnableClear_of_admitted hadmits
    obtain ⟨hok, henable⟩ := State.enableClear_ok { s with sessions := l } c
    exact ⟨_, hexec, hok ▸ State.replied_answers .., henable⟩
  · obtain ⟨l, n, sent, hexec⟩ := exec_chEnableClear_of_admitted hadmits
    obtain ⟨hok, henable⟩ := State.enableClear_ok { s with sessions := l } c
    obtain ⟨hoff, hpods⟩ := State.enableClear_off (s := { s with sessions := l }) hfeeds
    exact ⟨_, hexec, hok ▸ State.replied_answers .., henable, hoff, hpods⟩
  · obtain ⟨l, n, sent, hexec⟩ := exec_chDmgClear_of_admitted hadmits
    obtain ⟨hok, hrest⟩ := State.dmgClear_of_damaged (s := { s with sessions := l }) hdamaged
    exact ⟨_, hexec, hok ▸ State.replied_answers .., hrest⟩
  · obtain ⟨l, n, sent, hexec⟩ := exec_chDmgClear_of_admitted hadmits
    rw [show State.dmgClear { s with sessions := l } c = ({ s with sessions := l }, .state) from if_pos hwhole] at hexec
    exact ⟨_, hexec, rfl, rfl⟩

end Sys2Proof.Machine

/-!
# The commands to buses, choppers and fault outputs (R163, R167, R168, R243, R245, R261)
-/

namespace Sys2Proof.Machine

/-! ## The rows of the commands -/

theorem isOrder_busBfClear (b : BusId) : isOrder OD.BUS_BF_CLEAR b.val 1 = true := isOrder_of_mem (n := 8) (by simp [orderTable]) b.isLt
theorem isOrder_busXferResume (b : BusId) : isOrder OD.BUS_XFER_RESUME b.val 1 = true := isOrder_of_mem (n := 8) (by simp [orderTable]) b.isLt
theorem isOrder_disReq (d : Quad) : isOrder OD.DIS_REQ d.val 1 = true := isOrder_of_mem (n := 4) (by simp [orderTable]) d.isLt
theorem isOrder_fltoAck (x : AB) : isOrder OD.HUB_FLTO_ACK x.val 1 = true := isOrder_of_mem (n := 2) (by simp [orderTable]) x.isLt

/-! ## BUS_BF_CLEAR and BUS_XFER_RESUME (R243, R261) -/

theorem State.busBfClear_hub (s : State) (b : BusId) : (s.busBfClear b).1.hub = s.hub := by
  refine State.hub_of_host ?_
  unfold State.busBfClear
  split
  · simp
  · rfl

/-- The latch clears, whatever holds the fault; no pod changes. -/
theorem State.busBfClear_bus (s : State) (b : BusId) : (s.busBfClear b).2 = .ok ∧ ((s.busBfClear b).1.bus b).bf = false ∧
    ((s.busBfClear b).1.bus b).bfOn = (s.bus b).bfOn ∧ (s.busBfClear b).1.pods = s.pods := by
  unfold State.busBfClear
  split
  · have hpods : (((s.updBus b fun x => { x with bf := false }).journal 0x07 (.bus b) 0).evalLines).podBank = s.podBank := by simp
    dsimp only
    rw [State.evalLines_bus, State.journal_bus, State.updBus_bus_self]
    exact ⟨rfl, rfl, rfl, hpods⟩
  · next h => exact ⟨rfl, by simpa using h, rfl, rfl⟩

theorem exec_busBfClear_of_admitted {b : BusId} {rq : Requester} {s : State} (hadmits : admitsOrder s rq OD.BUS_BF_CLEAR b.val 1 = true) :
    ∃ l n sent, exec (.busBfClear b rq) s = .next (State.replied (State.busBfClear { s with sessions := l } b) n sent) := by
  obtain ⟨l, n, sent, hrun⟩ := State.order_runs (v := 1) (g := fun s => s.busBfClear b) hadmits (isOrder_busBfClear b) (by decide) rfl
    (fun s _ _ => congrArg s.busBfClear (busAt_val b)) fun s => s.busBfClear_hub b
  exact ⟨l, n, sent, congrArg Host.Outcome.next hrun⟩

theorem State.xferResume_hub (s : State) (b : BusId) : (s.xferResume b).1.hub = s.hub := by
  refine State.hub_of_host ?_
  unfold State.xferResume
  dsimp only
  split <;> simp

/-- A HALTED transfer is to go on; the selection stays (R261). -/
theorem State.xferResume_of_halted {s : State} {b : BusId} (h : (s.bus b).xfer = .halted) :
    s.xferResume b = (s.updBus b fun x => { x with resume := true }, .ok) := by
  unfold State.xferResume
  rw [if_pos h]

theorem exec_busXferResume_of_admitted {b : BusId} {rq : Requester} {s : State}
    (hadmits : admitsOrder s rq OD.BUS_XFER_RESUME b.val 1 = true) :
    ∃ l n sent, exec (.busXferResume b rq) s = .next (State.replied (State.xferResume { s with sessions := l } b) n sent) := by
  obtain ⟨l, n, sent, hrun⟩ := State.order_runs (v := 1) (g := fun s => s.xferResume b) hadmits (isOrder_busXferResume b) (by decide) rfl
    (fun s _ _ => congrArg s.xferResume (busAt_val b)) fun s => s.xferResume_hub b
  exact ⟨l, n, sent, congrArg Host.Outcome.next hrun⟩

/-! ## DIS_REQ written 1 (R163, R168, R262) -/

theorem State.preStop_dis (s : State) (p : Quad) (ev : PreStatus) : (s.preStop p ev).dis = s.dis := by
  have hmask : (s.selfUnmask (pwmOf p)).dis = s.dis := by
    have hplant := s.selfUnmask_plant (pwmOf p)
    simp only [State.plant, Prod.mk.injEq] at hplant
    obtain ⟨-, -, -, -, -, -, hdis, -⟩ := hplant
    exact hdis
  unfold State.preStop
  split
  · dsimp only
    generalize hquiet : State.updPre _ p _ = quiet
    have hdis : quiet.dis = s.dis := by
      rw [← hquiet]
      exact hmask
    unfold State.preFeedActs
    split
    · exact hdis
    · split <;> exact hdis
  · rfl

theorem State.preStopOn_dis (s : State) (p : Quad) (ev : List PreStatus) : (s.preStopOn p ev).dis = s.dis := by
  unfold State.preStopOn
  split
  · split
    · exact State.preStop_dis ..
    · rfl
  · rfl

theorem State.disOff_dis (s : State) (d : Quad) : (s.disOff d).dis = s.dis := by
  unfold State.disOff
  split
  · refine foldl_keeps State.dis _ (fun s c => ?_) _ s
    split <;> rfl
  · rfl

theorem State.activatePod_dis (s : State) (c : Chan) : (s.activatePod c).dis = s.dis := by
  unfold State.activatePod
  split <;> rfl

theorem State.noFeed_dis (s : State) (b : BusId) : (s.noFeed b).dis = s.dis := by
  unfold State.noFeed
  split <;> rfl

/-- A bus without a feed selects none, and no transfer of it runs. -/
theorem State.noFeed_bus (s : State) (b : BusId) : ((s.noFeed b).bus b).sel = none ∧ ((s.noFeed b).bus b).xfer = .steady := by
  unfold State.noFeed
  rw [State.updBus_bus_self]
  exact ⟨rfl, rfl⟩

/-- The request is taken: the chopper waits from its beginning. -/
def State.disAsked (s : State) (d : Quad) : State :=
  (s.disQuiet d).updDis d fun x =>
    { x with req := true, state := .wait, status := .none, runAt := none, doneOnce := false, doneFrom := none, elapsedMs := 0 }

/-- The precharge of the bus stops, its feeds are commanded off, its pods are wanted ACTIVE. -/
def State.disPrepared (s : State) (d : Quad) (b : BusId) : State :=
  let s := match preOf s.active b with
    | some p => s.preStopOn p [.discharge]
    | none => s
  (membersOf s.active b).foldl State.activatePod (s.disOff d)

theorem State.disPrepared_dis (s : State) (d : Quad) (b : BusId) : (s.disPrepared d b).dis = s.dis := by
  unfold State.disPrepared
  dsimp only
  refine (foldl_keeps State.dis _ (fun s c => s.activatePod_dis c) _ _).trans ((State.disOff_dis ..).trans ?_)
  split
  · exact State.preStopOn_dis ..
  · rfl

theorem State.disReqSet_of_new {s : State} {d : Quad} {b : BusId} (hbus : busOfDis s.active d = some b)
    (htarget : s.act OD.DIS_PTARGET d.val ≠ 0) (hnew : (s.chop d).req = false) :
    s.disReqSet d = (((s.disAsked d).disPrepared d b).noFeed b, .ok) := by
  unfold State.disReqSet State.disPrepared State.disAsked
  rw [hbus]
  dsimp only
  rw [if_neg htarget, if_neg (by simp [hnew])] <;> rfl

theorem State.disPrepared_host (s : State) (d : Quad) (b : BusId) : (s.disPrepared d b).host = s.host := by
  have hoff (s : State) : (s.disOff d).host = s.host := by
    unfold State.disOff
    split
    · refine foldl_keeps State.host _ (fun s c => ?_) _ s
      split <;> simp
    · rfl
  unfold State.disPrepared
  dsimp only
  refine (foldl_keeps State.host _ (fun s c => s.activatePod_host c) _ _).trans ((hoff _).trans ?_)
  split
  · exact State.preStopOn_host ..
  · rfl

theorem State.disReqSet_hub (s : State) (d : Quad) : (s.disReqSet d).1.hub = s.hub := by
  rcases hbus : busOfDis s.active d with _ | b
  · unfold State.disReqSet
    rw [hbus]
  · by_cases htarget : s.act OD.DIS_PTARGET d.val = 0
    · unfold State.disReqSet
      rw [hbus]
      dsimp only
      rw [if_pos htarget]
    · rcases hreq : (s.chop d).req
      · rw [State.disReqSet_of_new hbus htarget hreq]
        refine State.hub_of_host ((State.noFeed_host ..).trans ((State.disPrepared_host ..).trans ?_))
        unfold State.disAsked
        simp
      · unfold State.disReqSet
        rw [hbus]
        dsimp only
        rw [if_neg htarget, if_pos hreq]

theorem exec_disReqSet_of_admitted {d : Quad} {rq : Requester} {s : State} (hadmits : admitsOrder s rq OD.DIS_REQ d.val 1 = true) :
    ∃ l n sent, exec (.disReqSet d rq) s = .next (State.replied (State.disReqSet { s with sessions := l } d) n sent) := by
  obtain ⟨l, n, sent, hrun⟩ := State.order_runs (v := 1) (g := fun s => s.disReqSet d) hadmits (isOrder_disReq d) (by decide) rfl
    (fun s _ _ => congrArg s.disReqSet (quadAt_val d)) fun s => s.disReqSet_hub d
  exact ⟨l, n, sent, congrArg Host.Outcome.next hrun⟩

/-! ## DIS_REQ written 0 (R167, R172) -/

theorem exec_disReqClear_of_admitted {d : Quad} {rq : Requester} {s : State} (hadmits : admitsOrder s rq OD.DIS_REQ d.val 0 = true) :
    ∃ l n sent, exec (.disReqClear d rq) s = .next (State.replied (State.disReqClear { s with sessions := l } d) n sent) := by
  obtain ⟨l, n, sent, hrun⟩ := State.order_runs (v := 0) (g := fun s => s.disReqClear d) hadmits (isOrder_disReq d) (by decide) rfl
    (fun s _ _ => congrArg s.disReqClear (quadAt_val d)) fun _ => rfl
  exact ⟨l, n, sent, congrArg Host.Outcome.next hrun⟩

/-- At the next tick a chopper without its request is IDLE with its output inactive. -/
theorem State.disTick_of_released {s : State} {d : Quad} (hbus : (busOfDis s.active d).isSome = true) (hreq : (s.chop d).req = false)
    (hstate : (s.chop d).state ≠ .idle) : s.disTick d = (s.disQuiet d).updDis d fun x => { x with state := .idle, doneFrom := none } := by
  unfold State.disTick
  rw [if_neg (by simpa using Option.ne_none_iff_isSome.mpr hbus)]
  rcases hrun : (s.chop d).runAt with _ | r
  · dsimp only
    rw [hrun]
    dsimp only
    rw [if_pos (by simp [hreq]), if_neg hstate]
  · dsimp only
    rw [hrun]
    dsimp only
    rw [if_pos (by simp [hreq]), if_neg hstate, if_neg (by simp [hreq])]

/-! ## HUB_FLTO_ACK (R245) -/

theorem State.fltoAck_hub (s : State) (x : AB) : (s.fltoAck x).1.hub = s.hub := by
  unfold State.fltoAck
  split
  · rfl
  · split <;> rfl

theorem exec_hubFltoAck_of_admitted {x : AB} {rq : Requester} {s : State} (hadmits : admitsOrder s rq OD.HUB_FLTO_ACK x.val 1 = true) :
    ∃ l n sent, exec (.hubFltoAck x rq) s = .next (State.replied (State.fltoAck { s with sessions := l } x) n sent) := by
  obtain ⟨l, n, sent, hrun⟩ := State.order_runs (v := 1) (g := fun s => s.fltoAck x) hadmits (isOrder_fltoAck x) (by decide) rfl
    (fun s _ _ => congrArg s.fltoAck (abAt_val x)) fun s => s.fltoAck_hub x
  exact ⟨l, n, sent, congrArg Host.Outcome.next hrun⟩

/-! ## The statement -/

/-- Settles O42: what each command leaves of its unit, read off the state that answers it. -/
theorem busAndLineCommands : Obligations.BusAndLineCommands := by
  refine ⟨fun b rq s hadmits => ?_, fun b rq s hadmits hhalted => ?_, fun d b rq s hadmits hbus htarget hnew => ?_,
    fun d rq s hadmits hbus => ?_, fun d rq s hadmits => ?_, fun d s hbus hreq hstate => ?_,
    fun x rq s hadmits hcond hhold hheld => ?_, fun x rq s hadmits hcond => ?_⟩
  · obtain ⟨l, n, sent, hexec⟩ := exec_busBfClear_of_admitted hadmits
    obtain ⟨hok, hbf, hbfOn, hpods⟩ := State.busBfClear_bus { s with sessions := l } b
    exact ⟨_, hexec, hok ▸ State.replied_answers .., hbf, hbfOn, hpods⟩
  · obtain ⟨l, n, sent, hexec⟩ := exec_busXferResume_of_admitted hadmits
    rw [State.xferResume_of_halted (s := { s with sessions := l }) hhalted] at hexec
    refine ⟨_, hexec, rfl, ?_⟩
    rw [State.replied_bus, State.updBus_bus_self]
    exact ⟨rfl, rfl⟩
  · obtain ⟨l, n, sent, hexec⟩ := exec_disReqSet_of_admitted hadmits
    rw [State.disReqSet_of_new (s := { s with sessions := l }) hbus htarget hnew] at hexec
    have hchop (u : State) : (((u.disAsked d).disPrepared d b).noFeed b).chop d = (u.disAsked d).chop d := by
      unfold State.chop
      rw [State.noFeed_dis, State.disPrepared_dis]
    refine ⟨_, hexec, rfl, ?_⟩
    rw [State.replied_chop, State.replied_bus, hchop]
    unfold State.disAsked
    rw [State.updDis_chop_self]
    exact ⟨rfl, rfl, State.noFeed_bus ..⟩
  · obtain ⟨l, n, sent, hexec⟩ := exec_disReqSet_of_admitted hadmits
    have hfree : State.disReqSet { s with sessions := l } d = ({ s with sessions := l }, .state) := by
      unfold State.disReqSet
      rw [show busOfDis ({ s with sessions := l } : State).active d = none from hbus]
    rw [hfree] at hexec
    exact ⟨_, hexec, rfl, rfl⟩
  · obtain ⟨l, n, sent, hexec⟩ := exec_disReqClear_of_admitted hadmits
    refine ⟨_, hexec, rfl, ?_⟩
    unfold State.disReqClear
    rw [State.replied_chop, State.updDis_chop_self]
    exact ⟨rfl, rfl⟩
  · rw [State.disTick_of_released hbus hreq hstate, State.updDis_chop_self]
    refine ⟨rfl, ?_⟩
    change ((s.updDis d fun x => { x with duty := 0 }).chop d).duty = 0
    rw [State.updDis_chop_self]
  · obtain ⟨l, n, sent, hexec⟩ := exec_hubFltoAck_of_admitted hadmits
    have hack : State.fltoAck { s with sessions := l } x = (State.updFlto { s with sessions := l } x fun _ => {}, .ok) :=
      (if_neg (by rw [show fltoCond { s with sessions := l } x = false from hcond]; decide)).trans
        (if_pos (Bool.and_eq_true_iff.mpr ⟨hhold, hheld⟩))
    have hout : ((State.updFlto { s with sessions := l } x fun _ => {}).out_ x) = {} := Bank.get_upd_self ..
    rw [hack] at hexec
    exact ⟨_, hexec, rfl, congrArg Flto.asserted hout, congrArg Flto.held hout⟩
  · obtain ⟨l, n, sent, hexec⟩ := exec_hubFltoAck_of_admitted hadmits
    have hack : State.fltoAck { s with sessions := l } x = ({ s with sessions := l }, .state) := if_pos hcond
    rw [hack] at hexec
    exact ⟨_, hexec, rfl, rfl⟩

end Sys2Proof.Machine

/-!
# The commands to the converters of a pod and to metering (R303, R310, R337, R339)
-/

namespace Sys2Proof.Machine

/-! ## The rows of the commands -/

theorem isOrder_adcCal (c : Chan) : isOrder OD.ADC_CAL c.val 1 = true := isOrder_of_mem (n := 16) (by simp [orderTable]) c.isLt
theorem isOrder_adcRecal (c : Chan) : isOrder OD.ADC_RECAL c.val 1 = true := isOrder_of_mem (n := 16) (by simp [orderTable]) c.isLt
theorem isOrder_mtrSnap : isOrder OD.MTR_SNAP 0 1 = true := isOrder_of_mem (n := 1) (by simp [orderTable]) (by decide)
theorem isOrder_mtrClear (c : Chan) : isOrder OD.MTR_CLEAR c.val 1 = true := isOrder_of_mem (n := 16) (by simp [orderTable]) c.isLt

/-! ## CAL and recalibration (R303, R310) -/

theorem State.adcCal_hub (s : State) (c : Chan) : (s.adcCal c).1.hub = s.hub := by
  unfold State.adcCal
  dsimp only
  split
  · rfl
  · split <;> rfl

theorem exec_adcCal_of_admitted {c : Chan} {rq : Requester} {s : State} (hadmits : admitsOrder s rq OD.ADC_CAL c.val 1 = true) :
    ∃ l n sent, exec (.adcCal c rq) s = .next (State.replied (State.adcCal { s with sessions := l } c) n sent) := by
  obtain ⟨l, n, sent, hrun⟩ := State.order_runs (v := 1) (g := fun s => s.adcCal c) hadmits (isOrder_adcCal c) (by decide) rfl
    (fun s _ _ => congrArg s.adcCal (chanAt_val c)) fun s => s.adcCal_hub c
  exact ⟨l, n, sent, congrArg Host.Outcome.next hrun⟩

theorem State.adcCal_of_off {s : State} {c : Chan} (hpod : hubPod s c = .active) (hch : hubCh s c = .off)
    (hfree : (s.port c).calBusy = false) :
    s.adcCal c = ((s.updPort c fun q => { q with cal := 1 }).down c fun f => { f with cal := some 0 }, .ok) := by
  unfold State.adcCal
  dsimp only
  rw [if_neg (by simp [hpod, hch]), if_neg (by simp [hfree])]

theorem State.adcCal_of_on {s : State} {c : Chan} (hch : hubCh s c = .on) : s.adcCal c = (s, .state) := by
  unfold State.adcCal
  dsimp only
  rw [if_pos (by rw [hch]; exact .inr (by decide))]

theorem State.adcRecal_hub (s : State) (c : Chan) (kind : Nat) : (s.adcRecal c kind).1.hub = s.hub := by
  unfold State.adcRecal
  split
  · rfl
  · split <;> rfl

theorem exec_adcRecal_of_admitted {c : Chan} {kind : Nat} {rq : Requester} {s : State} (hkind : kind < 256)
    (hadmits : admitsOrder s rq OD.ADC_RECAL c.val kind = true) :
    ∃ l n sent, exec (.adcRecal c kind rq) s = .next (State.replied (State.adcRecal { s with sessions := l } c kind) n sent) := by
  obtain ⟨l, n, sent, hrun⟩ := State.order_runs (g := fun s => s.adcRecal c kind) hadmits (isOrder_adcRecal c) hkind rfl
    (fun s _ _ => congrArg (s.adcRecal · kind) (chanAt_val c)) fun s => s.adcRecal_hub c kind
  exact ⟨l, n, sent, congrArg Host.Outcome.next hrun⟩

theorem State.adcRecal_of_calibrated {s : State} {c : Chan} (kind : Nat) (hpod : hubPod s c = .active)
    (hcal : (s.seen c).adc.calibrated = true) (hfree : (s.port c).calBusy = false) : s.adcRecal c kind =
      ((s.updPort c fun q => { q with recal := 1 }).down c fun f => { f with cal := some kind }, .ok) := by
  unfold State.adcRecal
  rw [if_neg (by simp [hpod, hcal]), if_neg (by simp [hfree])]

theorem State.adcRecal_of_uncalibrated {s : State} {c : Chan} (kind : Nat) (hcal : (s.seen c).adc.calibrated = false) :
    s.adcRecal c kind = (s, .state) := if_pos (.inr hcal)

/-! ## Snapshot and clear (R337, R339) -/

theorem State.mtrSnap_hub (s : State) : s.mtrSnap.1.hub = s.hub := by
  unfold State.mtrSnap
  split <;> rfl

theorem State.mtrSnap_of_free {s : State} (hfree : s.snap = none) : s.mtrSnap =
    ({ s with snap := some (ceilTick (s.now + 2500)), snapLatched := false }.set OD.MTR_SNAP 0 1, .ok) :=
  if_neg (by simp [hfree])

theorem exec_mtrSnap_of_admitted {rq : Requester} {s : State} (hadmits : admitsOrder s rq OD.MTR_SNAP 0 1 = true) :
    ∃ l n sent, exec (.mtrSnap rq) s = .next (State.replied (State.mtrSnap { s with sessions := l }) n sent) := by
  obtain ⟨l, n, sent, hrun⟩ := State.order_runs (v := 1) (g := State.mtrSnap) hadmits isOrder_mtrSnap (by decide) rfl
    (fun _ _ _ => rfl) State.mtrSnap_hub
  exact ⟨l, n, sent, congrArg Host.Outcome.next hrun⟩

theorem State.mtrClear_hub (s : State) (c : Chan) (mask : Nat) : (s.mtrClear c mask).1.hub = s.hub := by
  unfold State.mtrClear
  split <;> rfl

theorem exec_mtrClear_of_admitted {c : Chan} {mask : Nat} {rq : Requester} {s : State} (hmask : mask < 256)
    (hadmits : admitsOrder s rq OD.MTR_CLEAR c.val mask = true) :
    ∃ l n sent, exec (.mtrClear c mask rq) s = .next (State.replied (State.mtrClear { s with sessions := l } c mask) n sent) := by
  obtain ⟨l, n, sent, hrun⟩ := State.order_runs (g := fun s => s.mtrClear c mask) hadmits (isOrder_mtrClear c) hmask rfl
    (fun s _ _ => congrArg (s.mtrClear · mask) (chanAt_val c)) fun s => s.mtrClear_hub c mask
  exact ⟨l, n, sent, congrArg Host.Outcome.next hrun⟩

theorem State.mtrClear_of_mask {s : State} {mask : Nat} (c : Chan) (hsome : mask ≠ 0) (hmask : mask ≤ 7) : s.mtrClear c mask =
    ((s.updPort c fun q => { q with mtr := { q.mtr with clearMask := q.mtr.clearMask ||| mask, clearAt := nextTick s.now } }).set
      OD.MTR_CLEAR c.val 1, .ok) := if_neg (by omega)

/-! ## The statement -/

/-- Settles O43: what each command leaves of its port, read off the state that answers it. -/
theorem converterAndMeteringCommands : Obligations.ConverterAndMeteringCommands := by
  refine ⟨fun c rq s hadmits hpod hch hfree => ?_, fun c rq s hadmits hch => ?_, fun c k rq s hk hadmits hpod hcal hfree => ?_,
    fun c k rq s hk hadmits hcal => ?_, fun rq s hadmits hfree => ?_, fun T rq s hadmits hsnap => ?_,
    fun c m rq s hsome hmask hadmits => ?_⟩
  · obtain ⟨l, n, sent, hexec⟩ := exec_adcCal_of_admitted hadmits
    rw [State.adcCal_of_off (s := { s with sessions := l }) hpod hch hfree] at hexec
    refine ⟨_, hexec, rfl, ?_⟩
    unfold State.down
    rw [State.replied_port, State.updPort_port_self, State.updPort_port_self]
    exact ⟨rfl, rfl, rfl⟩
  · obtain ⟨l, n, sent, hexec⟩ := exec_adcCal_of_admitted hadmits
    rw [State.adcCal_of_on (s := { s with sessions := l }) hch] at hexec
    exact ⟨_, hexec, rfl, rfl⟩
  · obtain ⟨l, n, sent, hexec⟩ := exec_adcRecal_of_admitted (by omega) hadmits
    rw [State.adcRecal_of_calibrated (s := { s with sessions := l }) k hpod hcal hfree] at hexec
    refine ⟨_, hexec, rfl, ?_⟩
    unfold State.down
    rw [State.replied_port, State.updPort_port_self, State.updPort_port_self]
    exact ⟨rfl, rfl, rfl⟩
  · obtain ⟨l, n, sent, hexec⟩ := exec_adcRecal_of_admitted (by omega) hadmits
    rw [State.adcRecal_of_uncalibrated (s := { s with sessions := l }) k hcal] at hexec
    exact ⟨_, hexec, rfl, rfl⟩
  · obtain ⟨l, n, sent, hexec⟩ := exec_mtrSnap_of_admitted hadmits
    rw [State.mtrSnap_of_free (s := { s with sessions := l }) hfree] at hexec
    refine ⟨_, hexec, rfl, rfl, rfl, ?_⟩
    rw [State.replied_stat]
    exact State.stat_set_self _ _ _ _ (by decide)
  · obtain ⟨l, n, sent, hexec⟩ := exec_mtrSnap_of_admitted hadmits
    rw [show State.mtrSnap { s with sessions := l } = ({ s with sessions := l }, .busy) from if_pos (by simp [hsnap])] at hexec
    exact ⟨_, hexec, rfl, hsnap⟩
  · obtain ⟨l, n, sent, hexec⟩ := exec_mtrClear_of_admitted (by omega) hadmits
    rw [State.mtrClear_of_mask (s := { s with sessions := l }) c hsome hmask] at hexec
    refine ⟨_, hexec, rfl, ?_⟩
    rw [State.replied_port, State.set_port, State.updPort_port_self]
    exact ⟨rfl, rfl⟩

end Sys2Proof.Machine

/-!
# The commands to comparators and PWM generators (R366 to R369, R374, R375, R385, R390)
-/

namespace Sys2Proof.Machine

/-! ## The rows of the commands -/

theorem isOrder_cmpTest (n : Oct) : isOrder OD.CMP_TEST n.val 1 = true := isOrder_of_mem (n := 8) (by simp [orderTable]) n.isLt
theorem isOrder_pwmRun (n : Oct) : isOrder OD.PWM_RUN n.val 1 = true := isOrder_of_mem (n := 8) (by simp [orderTable]) n.isLt
theorem isOrder_pwmFrel (n : Oct) : isOrder OD.PWM_FREL n.val 1 = true := isOrder_of_mem (n := 8) (by simp [orderTable]) n.isLt

/-! ## CMP_TEST (R366 to R369) -/

theorem State.cmpTest_hub (s : State) (n : Oct) (swap : Bool) : (s.cmpTest n swap).1.hub = s.hub := by
  unfold State.cmpTest
  split
  · rfl
  · split
    · rfl
    · split <;> rfl

theorem exec_cmpTieTest_of_admitted {n : Oct} {rq : Requester} {s : State} (hadmits : admitsOrder s rq OD.CMP_TEST n.val 1 = true) :
    ∃ l m sent, exec (.cmpTieTest n rq) s = .next (State.replied (State.cmpTest { s with sessions := l } n false) m sent) := by
  obtain ⟨l, m, sent, hrun⟩ := State.order_runs (v := 1) (g := fun s => s.cmpTest n false) hadmits (isOrder_cmpTest n) (by decide) rfl
    (fun s _ _ => congrArg (s.cmpTest · false) (octAt_val n)) fun s => s.cmpTest_hub n false
  exact ⟨l, m, sent, congrArg Host.Outcome.next hrun⟩

theorem exec_cmpSwapTest_of_admitted {n : Oct} {rq : Requester} {s : State} (hadmits : admitsOrder s rq OD.CMP_TEST n.val 2 = true) :
    ∃ l m sent, exec (.cmpSwapTest n rq) s = .next (State.replied (State.cmpTest { s with sessions := l } n true) m sent) := by
  obtain ⟨l, m, sent, hrun⟩ := State.order_runs (v := 2) (g := fun s => s.cmpTest n true) hadmits (isOrder_cmpTest n) (by decide) rfl
    (fun s _ _ => congrArg (s.cmpTest · true) (octAt_val n)) fun s => s.cmpTest_hub n true
  exact ⟨l, m, sent, congrArg Host.Outcome.next hrun⟩

/-- A cell that is enabled, whose routes do not run, that is not under test and not held begins its test at once. -/
theorem State.cmpTest_of_free {s : State} {n : Oct} (swap : Bool) (hen : s.actB OD.CMP_EN n.val = true)
    (hroutes : routesRunning s n = false) (hfree : testRunning s n = false) (hsingle : paired s n = false)
    (hhold : (s.cell n).holdUntil = none) : s.cmpTest n swap = (s.testBegin n swap, .ok) := by
  unfold State.cmpTest
  rw [if_neg (by simp [hen, hroutes]), if_neg (by simp [hfree, hsingle]), if_neg (by simp [hhold])]

theorem State.testBegin_cell (s : State) (n : Oct) (swap : Bool) : ((s.testBegin n swap).cell n).test = 1 ∧
    ((s.testBegin n swap).cell n).swap = swap ∧ ((s.testBegin n swap).cell n).kept = (s.cell n).out := by
  unfold State.testBegin
  rw [State.updCell_cell_self]
  exact ⟨rfl, rfl, rfl⟩

/-! ## PWM_WORD (R375, R385) -/

/-- `PWM_WORD` is an RW object of 64 bits. -/
theorem objRow_pwmWord (n : Oct) : ∃ r, objRow (OD.PWM_WORD.index + OD.PWM_WORD.stride * n.val) OD.PWM_WORD.sub = some r ∧
    r.access = .rw ∧ r.type = .u64 := by
  obtain ⟨hword, -⟩ := rowKinds
  obtain ⟨r, hr, haccess, htype, -⟩ := objRow_of_kind (hword n)
  exact ⟨r, hr, haccess, htype⟩

/-- The key of a PWM word names its generator, and no object that applies otherwise. -/
theorem writeRw_pwmWord (s : State) (rq : Requester) (n : Oct) (v : Nat) :
    s.writeRw (orderOf rq OD.PWM_WORD n.val) v = s.pwmWord n v := by
  have hkeys : ∀ n : Oct, OD.PWM_WORD.key n.val ≠ OD.HUB_PODSUP_EN.key 0 ∧ OD.PWM_WORD.key n.val ≠ OD.HUB_PX_PORTS.key 0 ∧
      OD.PWM_WORD.key n.val ≠ OD.HUB_PX_ADDR.key 0 ∧
      ¬ atNextTick (OD.PWM_WORD.index + OD.PWM_WORD.stride * n.val) = true ∧
      (allOct.find? fun m => OD.PWM_WORD.key m.val == OD.PWM_WORD.key n.val) = some n := by
    decide +kernel
  have hkey : keyOf (orderOf rq OD.PWM_WORD n.val).index (orderOf rq OD.PWM_WORD n.val).sub = OD.PWM_WORD.key n.val := rfl
  obtain ⟨hpodsup, hports, haddr, htick, hfind⟩ := hkeys n
  have htick' : ¬ atNextTick (orderOf rq OD.PWM_WORD n.val).index = true := htick
  unfold State.writeRw
  dsimp only
  rw [hkey, if_neg hpodsup, if_neg hports, if_neg haddr, if_neg htick', hfind]
  rfl

/-- The word waits in the reload register of its generator. -/
theorem State.pwmWord_of_free {s : State} {n : Oct} {v : Nat} (hsome : v % 2 ^ 16 ≠ 0) (hv : v < 2 ^ 36) (hfree : pwmOwned s n = false) :
    (s.pwmWord n v).2 = .ok ∧ (s.pwmWord n v).1.gen n = (s.gen n).load (PwmWord.unpack v) s.now := by
  unfold State.pwmWord
  rw [if_neg (by omega), if_neg (by simp [hfree])]
  exact ⟨rfl, State.updGen_gen_self ..⟩

theorem State.pwmWord_hub (s : State) (n : Oct) (v : Nat) : (s.pwmWord n v).1.hub = s.hub := by
  unfold State.pwmWord
  split
  · rfl
  · split <;> rfl

theorem exec_pwmWord_of_admitted {n : Oct} {v t : Nat} {rq : Requester} {s : State} (hv : v < 2 ^ 36)
    (hadmits : admitsOrder (s.at t) rq OD.PWM_WORD n.val v = true) :
    ∃ l m sent, exec (.pwmWord n v rq t) s = .next (State.replied (State.pwmWord { s.at t with sessions := l } n v) m sent) := by
  obtain ⟨-, hpower, -⟩ := admits_iff hadmits
  obtain ⟨r, hr, haccess, htype⟩ := objRow_pwmWord n
  obtain ⟨l, hl⟩ := State.touch_eq (s.at t) (orderOf rq OD.PWM_WORD n.val)
  have hvalue : valueOf r (objBytes (orderOf rq OD.PWM_WORD n.val).index (orderOf rq OD.PWM_WORD n.val).sub v) = v :=
    valueOf_objBytes hr (by rw [htype]; rfl) (by rw [htype]; exact Nat.lt_trans hv (by decide))
  obtain ⟨_, m, sent, -, hdone⟩ := State.doWrite_replied
    (f := fun _ => State.pwmWord { s.at t with sessions := l } n v) hadmits rfl hr (fun _ => State.pwmWord_hub ..) fun role => by
      unfold State.operate
      rw [hl, if_neg (by rw [show State.pfw _ = (s.at t).pfw from rfl, hpower]; decide), haccess, hvalue]
      dsimp only
      rw [writeRw_pwmWord]
  exact ⟨l, m, sent, congrArg Host.Outcome.next hdone⟩

/-! ## PWM_RUN (R374, R390) -/

/-- The generator runs, between pulses, with the accumulator of the dither at 0. -/
def Pwm.starting (g : Pwm) : Prop := g.run = true ∧ g.main = false ∧ g.acc = 0

theorem State.untermed_starting {s : State} {n : Oct} (t : Nat) (h : (s.gen n).starting) : ((s.untermed n t).gen n).starting := by
  unfold State.untermed
  split
  · split
    · rw [State.updGen_gen_self, State.uncount_gen]
      exact h
    · exact h
  · exact h

/-- A fault of a generator between pulses takes no dither back. -/
theorem State.pwmFault_starting {s : State} {n : Oct} (h : (s.gen n).starting) : ((s.pwmFault n).gen n).starting := by
  have huntermed := State.untermed_starting s.now h
  unfold State.pwmFault
  extract_lets kept counted
  have hcounted : (counted.gen n).starting := by
    unfold counted
    split <;> exact huntermed
  obtain ⟨hrun, hmain, hacc⟩ := hcounted
  rw [State.updGen_gen_self]
  refine ⟨hrun, rfl, ?_⟩
  dsimp only
  rw [if_neg (by simp [hmain]), hacc]

theorem State.faultSee_starting {s : State} {n : Oct} (h : (s.gen n).starting) : ((s.faultSee n).gen n).starting := by
  unfold State.faultSee
  extract_lets mask g fresh code seen
  have hseen : (seen.gen n).starting := by
    unfold seen
    rw [State.updGen_gen_self]
    exact h
  split
  · exact hseen
  · split
    · split
      · exact State.pwmFault_starting hseen
      · exact hseen
    · rw [State.updGen_gen_self]
      exact hseen

theorem State.lastReload_fault (s : State) (n : Oct) (t : Nat) : ((s.lastReload n t).gen n).fault = (s.gen n).fault := by
  have hoffered (g : Pwm) (t : Nat) : (g.offered t).fault = g.fault := by
    unfold Pwm.offered
    split <;> rfl
  have hperiod (g : Pwm) (t : Nat) : (g.newPeriod t).fault = g.fault := by
    unfold Pwm.newPeriod
    extract_lets begun mid clean
    have hclean : clean.fault = g.fault := by
      unfold clean begun
      split <;> rfl
    split
    · exact (hoffered clean t).trans hclean
    · exact hclean
    · exact hclean
  unfold State.lastReload
  dsimp only
  split
  · rfl
  · split
    · rw [State.updGen_gen_self]
      exact hperiod ..
    · split
      · split
        · rw [State.updGen_gen_self]
          exact hoffered ..
        · rfl
      · rfl

/-- What does not depend on the generators, the last reload leaves as it is. -/
theorem State.lastReload_part {α : Type} (part : State → α) {n : Oct} (hpart : ∀ (s : State) (f : Pwm → Pwm), part (s.updGen n f) = part s)
    (s : State) (t : Nat) : part (s.lastReload n t) = part s := by
  unfold State.lastReload
  dsimp only
  split
  · rfl
  · split
    · exact hpart ..
    · split
      · split
        · exact hpart ..
        · rfl
      · rfl

theorem State.pwmRun_hub (s : State) (n : Oct) (on : Bool) : (s.pwmRun n on).1.hub = s.hub := by
  refine State.hub_of_host ?_
  unfold State.pwmRun
  split
  · rfl
  · split
    · simp
    · exact (State.pwmStop_host ..).trans (State.lastReload_part State.host (fun s f => s.updGen_host n f) s s.now)

theorem exec_pwmRunStart_of_admitted {n : Oct} {rq : Requester} {s : State} (hadmits : admitsOrder s rq OD.PWM_RUN n.val 1 = true) :
    ∃ l m sent, exec (.pwmRunStart n rq) s = .next (State.replied (State.pwmRun { s with sessions := l } n true) m sent) := by
  obtain ⟨l, m, sent, hrun⟩ := State.order_runs (v := 1) (g := fun s => s.pwmRun n true) hadmits (isOrder_pwmRun n) (by decide) rfl
    (fun s _ _ => congrArg (s.pwmRun · true) (octAt_val n)) fun s => s.pwmRun_hub n true
  exact ⟨l, m, sent, congrArg Host.Outcome.next hrun⟩

theorem exec_pwmRunStop_of_admitted {n : Oct} {rq : Requester} {s : State} (hadmits : admitsOrder s rq OD.PWM_RUN n.val 0 = true) :
    ∃ l m sent, exec (.pwmRunStop n rq) s = .next (State.replied (State.pwmRun { s with sessions := l } n false) m sent) := by
  obtain ⟨l, m, sent, hrun⟩ := State.order_runs (v := 0) (g := fun s => s.pwmRun n false) hadmits (isOrder_pwmRun n) (by decide) rfl
    (fun s _ _ => congrArg (s.pwmRun · false) (octAt_val n)) fun s => s.pwmRun_hub n false
  exact ⟨l, m, sent, congrArg Host.Outcome.next hrun⟩

/-- A stopped generator starts at the next tick. -/
theorem State.pwmRun_start {s : State} {n : Oct} (hfree : pwmOwned s n = false) (hstopped : (s.gen n).run = false) :
    (s.pwmRun n true).2 = .ok ∧ ((s.pwmRun n true).1.gen n).run = true ∧
      ((s.pwmRun n true).1.gen n).startAt = some (nextTick s.now) ∧ ((s.pwmRun n true).1.gen n).acc = 0 := by
  have hstart : (s.gen n).start s.now =
      { (s.gen n).quiet with run := true, startAt := some (nextTick s.now), acc := 0, pcount := 0 } := if_neg (by simp [hstopped])
  have hgen : ((s.updGen n fun g => g.start s.now).gen n) =
      { (s.gen n).quiet with run := true, startAt := some (nextTick s.now), acc := 0, pcount := 0 } :=
    (State.updGen_gen_self ..).trans hstart
  have hclock := congrArg (·.2.1) ((s.updGen n fun g => g.start s.now).faultSee_clock n n)
  obtain ⟨hrun, -, hacc⟩ := State.faultSee_starting (s := s.updGen n fun g => g.start s.now) (n := n) (by
    rw [hgen]
    exact ⟨rfl, rfl, rfl⟩)
  unfold State.pwmRun
  rw [if_neg (by simp [hfree]), if_pos rfl]
  exact ⟨rfl, hrun, hclock.trans (congrArg Pwm.startAt hgen), hacc⟩

/-- A generator that is stopped keeps its fault under LATCH only (R390). -/
theorem State.pwmRun_stop {s : State} {n : Oct} (hfree : pwmOwned s n = false) : (s.pwmRun n false).2 = .ok ∧
    ((s.pwmRun n false).1.gen n).run = false ∧
    ((s.pwmRun n false).1.gen n).fault = ((s.gen n).fault && s.act OD.PWM_FLTMODE n.val == 1) := by
  unfold State.pwmRun State.pwmStop
  rw [if_neg (by simp [hfree]), if_neg (by decide)]
  dsimp only
  rw [State.updGen_gen_self, State.lastReload_part (fun u => u.act OD.PWM_FLTMODE n.val) (fun _ _ => rfl)]
  unfold Pwm.stop
  dsimp only
  rw [← State.lastReload_fault s n s.now]
  exact ⟨rfl, rfl, rfl⟩

/-! ## PWM_FREL (R390) -/

theorem State.pwmFrel_hub (s : State) (n : Oct) : (s.pwmFrel n).1.hub = s.hub := by
  unfold State.pwmFrel
  split <;> rfl

theorem exec_pwmFrel_of_admitted {n : Oct} {rq : Requester} {s : State} (hadmits : admitsOrder s rq OD.PWM_FREL n.val 1 = true) :
    ∃ l m sent, exec (.pwmFrel n rq) s = .next (State.replied (State.pwmFrel { s with sessions := l } n) m sent) := by
  obtain ⟨l, m, sent, hrun⟩ := State.order_runs (v := 1) (g := fun s => s.pwmFrel n) hadmits (isOrder_pwmFrel n) (by decide) rfl
    (fun s _ _ => congrArg s.pwmFrel (octAt_val n)) fun s => s.pwmFrel_hub n
  exact ⟨l, m, sent, congrArg Host.Outcome.next hrun⟩

/-! ## The statement -/

/-- Settles O44: what each command leaves of its cell or generator, read off the state that answers it. -/
theorem comparatorAndPwmCommands : Obligations.ComparatorAndPwmCommands := by
  refine ⟨fun n rq s hadmits hen hroutes hfree hsingle hhold => ?_, fun n rq s hadmits hen hroutes hfree hsingle hhold => ?_,
    fun n rq s hadmits hoff => ?_, fun n v rq t s hsome hv hadmits hfree => ?_, fun n rq s hadmits hfree hstopped => ?_,
    fun n rq s hadmits hfree => ?_, fun n rq s hadmits hsource => ?_, fun n rq s hadmits hsource => ?_⟩
  · obtain ⟨l, m, sent, hexec⟩ := exec_cmpTieTest_of_admitted hadmits
    rw [State.cmpTest_of_free (s := { s with sessions := l }) false hen hroutes hfree hsingle hhold] at hexec
    exact ⟨_, hexec, rfl, State.testBegin_cell { s with sessions := l } n false⟩
  · obtain ⟨l, m, sent, hexec⟩ := exec_cmpSwapTest_of_admitted hadmits
    rw [State.cmpTest_of_free (s := { s with sessions := l }) true hen hroutes hfree hsingle hhold] at hexec
    obtain ⟨htest, hswap, -⟩ := State.testBegin_cell { s with sessions := l } n true
    exact ⟨_, hexec, rfl, htest, hswap⟩
  · obtain ⟨l, m, sent, hexec⟩ := exec_cmpSwapTest_of_admitted hadmits
    have hrefused : State.cmpTest { s with sessions := l } n true = ({ s with sessions := l }, .state) :=
      if_pos (by rw [show State.actB { s with sessions := l } OD.CMP_EN n.val = false from hoff]; rfl)
    rw [hrefused] at hexec
    exact ⟨_, hexec, rfl, rfl⟩
  · obtain ⟨l, m, sent, hexec⟩ := exec_pwmWord_of_admitted hv hadmits
    obtain ⟨hok, hgen⟩ := State.pwmWord_of_free (s := { s.at t with sessions := l }) hsome hv hfree
    refine ⟨_, hexec, hok ▸ State.replied_answers .., ?_⟩
    rw [State.replied_gen, hgen]
    exact ⟨rfl, rfl, rfl⟩
  · obtain ⟨l, m, sent, hexec⟩ := exec_pwmRunStart_of_admitted hadmits
    obtain ⟨hok, hstart⟩ := State.pwmRun_start (s := { s with sessions := l }) hfree hstopped
    exact ⟨_, hexec, hok ▸ State.replied_answers .., hstart⟩
  · obtain ⟨l, m, sent, hexec⟩ := exec_pwmRunStop_of_admitted hadmits
    obtain ⟨hok, hstop⟩ := State.pwmRun_stop (s := { s with sessions := l }) hfree
    exact ⟨_, hexec, hok ▸ State.replied_answers .., hstop⟩
  · obtain ⟨l, m, sent, hexec⟩ := exec_pwmFrel_of_admitted hadmits
    have hfrel : State.pwmFrel { s with sessions := l } n = (State.updGen { s with sessions := l } n fun g =>
        { g with released := g.fault && g.run, fault := g.fault && g.run }, .ok) :=
      if_neg (by rw [show faultSource { s with sessions := l } n = false from hsource]; decide)
    rw [hfrel] at hexec
    refine ⟨_, hexec, rfl, ?_⟩
    rw [State.replied_gen, State.updGen_gen_self]
    exact ⟨rfl, rfl⟩
  · obtain ⟨l, m, sent, hexec⟩ := exec_pwmFrel_of_admitted hadmits
    have hfrel : State.pwmFrel { s with sessions := l } n = ({ s with sessions := l }, .state) := if_pos hsource
    rw [hfrel] at hexec
    exact ⟨_, hexec, rfl, rfl⟩

end Sys2Proof.Machine

/-!
# The commands to the hub and to the ring (R397, R401, R408, R437, R438, R455, R492, R496)
-/

namespace Sys2Proof.Machine

/-! ## The rows of the commands -/

theorem isOrder_hubReset : isOrder OD.HUB_RESET 0 1 = true := isOrder_of_mem (n := 1) (by simp [orderTable]) (by decide)
theorem isOrder_hubSleep : isOrder OD.HUB_SLEEP 0 1 = true := isOrder_of_mem (n := 1) (by simp [orderTable]) (by decide)
theorem isOrder_ringEnum : isOrder OD.RING_ENUM 0 1 = true := isOrder_of_mem (n := 1) (by simp [orderTable]) (by decide)
theorem isOrder_ringMapClear : isOrder OD.RING_MAP_CLEAR 0 1 = true := isOrder_of_mem (n := 1) (by simp [orderTable]) (by decide)
theorem isOrder_ringWake : isOrder OD.RING_WAKE 0 1 = true := isOrder_of_mem (n := 1) (by simp [orderTable]) (by decide)
theorem isOrder_cfgSave : isOrder OD.HUB_CFG_SAVE 0 1 = true := isOrder_of_mem (n := 1) (by simp [orderTable]) (by decide)
theorem isOrder_cfgDefaults : isOrder OD.HUB_CFG_DEFAULTS 0 1 = true := isOrder_of_mem (n := 1) (by simp [orderTable]) (by decide)

/-- A command of type BOOL acts on a 1. -/
theorem onOne_one {i : Nat} (f : State → Nat → State × Err) (s : State) (q : Req) (role : Role) : onOne f s q role i 1 = f s i :=
  if_pos rfl

/-! ## A command that resets the core (R401) -/

/-- A command after which the core is in RESET answers nothing. -/
theorem State.order_resets {s : State} {rq : Requester} {o : Obj} {i v size : Nat} {f : Command} {g : State → State × Err}
    (hadmits : admitsOrder s rq o i v = true) (horder : isOrder o i size = true) (hv : v < 256 ^ size)
    (hf : findCommand (orderStub o) commands = some f) (hg : ∀ s q role, f s q role i v = g s) :
    ∃ l n sent resp, s.order rq o i v = { (g { s with sessions := l }).1 with
      ring := { (g { s with sessions := l }).1.ring with seq := n }, out := sent, resp := resp } := by
  obtain ⟨-, hpower, -⟩ := admits_iff hadmits
  obtain ⟨l, hl⟩ := State.touch_eq s (orderOf rq o i)
  obtain ⟨r, hr, hrun⟩ := State.operate_command (s := { s with sessions := l }) (rq := rq) hpower horder hv hf
  obtain ⟨role, -, hdone⟩ := State.doWrite_eq hadmits hr
  obtain ⟨n, sent, resp, hfinish, -⟩ := State.finish_eq (g { s with sessions := l }) s (orderOf rq o i) r
    (objBytes (orderOf rq o i).index (orderOf rq o i).sub v) rfl
  refine ⟨l, n, sent, resp, (hdone (g { s with sessions := l }) ?_).trans hfinish⟩
  rw [hl, hrun role, hg]

theorem exec_hubReset_of_admitted {rq : Requester} {s : State} (hadmits : admitsOrder s rq OD.HUB_RESET 0 1 = true) :
    ∃ u, exec (.hubReset rq) s = .next u ∧ coreResetTo s u 7 := by
  obtain ⟨l, n, sent, resp, hrun⟩ := State.order_resets (v := 1) (g := State.hubReset) hadmits isOrder_hubReset (by decide) rfl
    fun _ _ _ => rfl
  refine ⟨_, congrArg Host.Outcome.next hrun, ?_⟩
  exact State.coreReset_resets { s with sessions := l } 7

/-! ## HUB_PODSUP_EN (R397) -/

/-- `HUB_PODSUP_EN` is an RW object of 16 bits. -/
theorem objRow_podsupEn : ∃ r, objRow OD.HUB_PODSUP_EN.index OD.HUB_PODSUP_EN.sub = some r ∧ r.access = .rw ∧ r.type = .u16 := by
  obtain ⟨-, hsupply, -⟩ := rowKinds
  obtain ⟨r, hr, haccess, htype, -⟩ := objRow_of_kind hsupply
  exact ⟨r, hr, haccess, htype⟩

theorem writeRw_podsupEn (s : State) (rq : Requester) (m : Nat) :
    s.writeRw (orderOf rq OD.HUB_PODSUP_EN 0) m = s.podsupEn m := by
  have hkey : keyOf (orderOf rq OD.HUB_PODSUP_EN 0).index (orderOf rq OD.HUB_PODSUP_EN 0).sub = OD.HUB_PODSUP_EN.key 0 := rfl
  unfold State.writeRw
  dsimp only
  rw [if_pos hkey, Int.toNat_natCast]

theorem State.podsupEn_hub (s : State) (m : Nat) : (s.podsupEn m).1.hub = s.hub := rfl

theorem exec_hubPodsupEn_of_admitted {m : Nat} {rq : Requester} {s : State} (hm : m < 65536)
    (hadmits : admitsOrder s rq OD.HUB_PODSUP_EN 0 m = true) :
    ∃ l n sent, exec (.hubPodsupEn m rq) s = .next (State.replied (State.podsupEn { s with sessions := l } m) n sent) := by
  obtain ⟨-, hpower, -⟩ := admits_iff hadmits
  obtain ⟨r, hr, haccess, htype⟩ := objRow_podsupEn
  obtain ⟨l, hl⟩ := State.touch_eq s (orderOf rq OD.HUB_PODSUP_EN 0)
  have hvalue : valueOf r (objBytes (orderOf rq OD.HUB_PODSUP_EN 0).index (orderOf rq OD.HUB_PODSUP_EN 0).sub m) = m :=
    valueOf_objBytes hr (by rw [htype]; rfl) (by rw [htype]; exact hm)
  obtain ⟨_, n, sent, -, hdone⟩ := State.doWrite_replied
    (f := fun _ => State.podsupEn { s with sessions := l } m) hadmits rfl hr (fun _ => State.podsupEn_hub ..) fun role => by
      unfold State.operate
      rw [hl, if_neg (by rw [show State.pfw _ = s.pfw from rfl, hpower]; decide), haccess, hvalue]
      dsimp only
      rw [writeRw_podsupEn]
  exact ⟨l, n, sent, congrArg Host.Outcome.next hdone⟩

/-- The ports whose supply a write would take from a live channel. -/
def soleLost (s : State) (mask : Nat) : List Chan :=
  allChans.filter fun c => (s.act OD.HUB_PODSUP_EN).testBit c.val && !mask.testBit c.val && soleSupply s c

/-- Their bits. -/
def soleBits (s : State) (mask : Nat) : Nat := (soleLost s mask).foldl (fun (m : Nat) c => m + 2 ^ c.val) 0

theorem State.podsupEn_eq (s : State) (m : Nat) : s.podsupEn m =
    ({ s with rwNext := s.rwNext ++ [(OD.HUB_PODSUP_EN.key 0, ((m % 65536 ||| soleBits s m : Nat) : Int))] },
      if soleBits s m = 0 then .ok else .state) := rfl

/-- A write that takes no live channel's supply is taken whole. -/
theorem State.podsupEn_of_safe {s : State} {m : Nat} (hm : m < 65536)
    (hsafe : ∀ c : Chan, (s.act OD.HUB_PODSUP_EN).testBit c.val = true → m.testBit c.val = false → soleSupply s c = false) :
    s.podsupEn m = ({ s with rwNext := s.rwNext ++ [(OD.HUB_PODSUP_EN.key 0, (m : Int))] }, .ok) := by
  have hlost : soleLost s m = [] := by
    refine List.filter_eq_nil_iff.mpr fun c _ hbad => ?_
    simp only [Bool.and_eq_true, Bool.not_eq_true'] at hbad
    obtain ⟨⟨hold, hnew⟩, hsole⟩ := hbad
    exact absurd ((hsafe c hold hnew).symm.trans hsole) (by decide)
  have hbits : soleBits s m = 0 := by
    unfold soleBits
    rw [hlost, List.foldl_nil]
  rw [State.podsupEn_eq, hbits, Nat.or_zero, Nat.mod_eq_of_lt hm, if_pos rfl]

/-- A write that takes a live channel's supply is refused in part. -/
theorem State.podsupEn_of_sole {s : State} {m : Nat} {c : Chan} (hold : (s.act OD.HUB_PODSUP_EN).testBit c.val = true)
    (hnew : m.testBit c.val = false) (hsole : soleSupply s c = true) : ∃ v : Nat,
    s.podsupEn m = ({ s with rwNext := s.rwNext ++ [(OD.HUB_PODSUP_EN.key 0, (v : Int))] }, .state) := by
  have hgrows (l : List Chan) (n : Nat) : n ≤ l.foldl (fun (m : Nat) (c : Chan) => m + 2 ^ c.val) n := by
    induction l generalizing n with
    | nil => exact Nat.le_refl n
    | cons d l ih => exact Nat.le_trans (Nat.le_add_right n _) (ih _)
  have hmem : c ∈ soleLost s m := List.mem_filter.mpr ⟨mem_allChans c, by simp [hold, hnew, hsole]⟩
  have hbits : soleBits s m ≠ 0 := by
    unfold soleBits
    rcases hlost : soleLost s m with _ | ⟨d, l⟩
    · rw [hlost] at hmem
      cases hmem
    · have hd := hgrows l (0 + 2 ^ d.val)
      have hpos := Nat.two_pow_pos d.val
      rw [List.foldl_cons]
      omega
  refine ⟨m % 65536 ||| soleBits s m, ?_⟩
  rw [State.podsupEn_eq, if_neg hbits]

/-! ## HUB_SLEEP (R408 to R410) -/

/-- The pods of a list are to be parked, and rest. -/
def State.parkAll (s : State) (l : List Chan) : State := l.foldl (fun s c => s.down c fun f => { f with ask := .parkRest }) s

/-- The entry into SLEEP has begun. -/
def State.sleeping (s : State) : State := { s with power := { s.power with sleep := some s.now } }

theorem State.hubSleep_eq (s : State) : s.hubSleep = if sleepBlock s ≠ 0 then (s, .state) else if s.power.sleep.isSome then (s, .busy)
    else (s.sleeping.parkAll (allChans.filter fun c => (s.port c).linked && (s.port c).own), .ok) := by
  unfold State.hubSleep State.parkAll State.sleeping
  rfl

theorem State.parkAll_port (s : State) {c : Chan} {l : List Chan} (hmem : c ∈ l) : ((s.parkAll l).port c).down.ask = .parkRest := by
  refine foldl_reaches (inv := fun _ => True) (good := fun s : State => (s.port c).down.ask = .parkRest) (k := c) (fun _ _ _ => trivial)
    (fun s _ => ?_) (fun s k _ hgood => ?_) hmem trivial
  · unfold State.down
    rw [State.updPort_port_self]
  · unfold State.down
    by_cases hk : k = c
    · rw [hk, State.updPort_port_self]
    · rwa [State.updPort_port_other _ _ _ _ hk]

theorem State.parkAll_part {α : Type} (part : State → α) (hpart : ∀ (s : State) (p : Bank Port 16), part { s with ports := p } = part s)
    (s : State) (l : List Chan) : part (s.parkAll l) = part s :=
  foldl_keeps part _ (fun _ _ => hpart ..) l s

theorem State.hubSleep_hub (s : State) : s.hubSleep.1.hub = s.hub := by
  rw [State.hubSleep_eq]
  split
  · rfl
  · split
    · rfl
    · exact State.parkAll_part State.hub (fun _ _ => rfl) ..

theorem exec_hubSleep_of_admitted {rq : Requester} {s : State} (hadmits : admitsOrder s rq OD.HUB_SLEEP 0 1 = true) :
    ∃ l n sent, exec (.hubSleep rq) s = .next (State.replied (State.hubSleep { s with sessions := l }) n sent) := by
  obtain ⟨l, n, sent, hrun⟩ := State.order_runs (v := 1) (g := State.hubSleep) hadmits isOrder_hubSleep (by decide) rfl
    (onOne_one fun s _ => s.hubSleep) State.hubSleep_hub
  exact ⟨l, n, sent, congrArg Host.Outcome.next hrun⟩

/-- Nothing that holds SLEEP back is a session. -/
theorem sleepBlock_sessions (s : State) (l : List Session) : sleepBlock { s with sessions := l } = sleepBlock s := by
  have hadd {a b c d : Nat} (h : a = b) (h' : c = d) : a + c = b + d := by rw [h, h']
  unfold sleepBlock
  iterate 8 refine hadd ?_ (by rfl)
  rfl

/-- Every pod that the hub holds is to be parked, and rests. -/
theorem State.hubSleep_of_ready {s : State} (hsleep : s.power.sleep = none) (hfree : sleepBlock s = 0) :
    s.hubSleep.2 = .ok ∧ s.hubSleep.1.power.sleep = some s.now ∧
      ∀ c : Chan, (s.port c).linked = true → (s.port c).own = true → (s.hubSleep.1.port c).down.ask = .parkRest := by
  rw [State.hubSleep_eq, if_neg (not_not_intro hfree), if_neg (by simp [hsleep])]
  refine ⟨rfl, State.parkAll_part (fun u => u.power.sleep) (fun _ _ => rfl) .., fun c hlinked hown => State.parkAll_port _ ?_⟩
  exact List.mem_filter.mpr ⟨mem_allChans c, by simp [hlinked, hown]⟩

theorem State.hubSleep_of_blocked {s : State} (hblock : sleepBlock s ≠ 0) : s.hubSleep = (s, .state) := by
  rw [State.hubSleep_eq, if_pos hblock]

theorem State.hubSleep_of_asleep {s : State} (hsleep : s.power.sleep.isSome = true) (hfree : sleepBlock s = 0) :
    s.hubSleep = (s, .busy) := by
  rw [State.hubSleep_eq, if_neg (not_not_intro hfree), if_pos hsleep]

/-! ## RING_ENUM, RING_MAP_CLEAR, RING_WAKE (R437, R438, R455) -/

theorem State.enumerate_ring (s : State) : s.enumerate.ring.enumAt = some s.now ∧ s.enumerate.ring.gen = (s.ring.gen + 1) % 65536 ∧
    s.enumerate.ring.found = [] ∧ s.enumerate.hub = s.hub := by
  unfold State.enumerate
  dsimp only
  generalize hv : State.nextSeq _ = v
  obtain ⟨out, hout⟩ := v.sendOwn_eq 7 s.ring.seq 0xFFF (leBytes 2 0 ++ leBytes 2 ((s.ring.gen + 1) % 65536))
  rw [hout, ← hv]
  exact ⟨rfl, rfl, rfl, rfl⟩

theorem State.ringEnum_hub (s : State) : s.ringEnum.1.hub = s.hub := by
  obtain ⟨-, -, -, hhub⟩ := s.enumerate_ring
  unfold State.ringEnum
  split
  · rfl
  · split
    · rfl
    · exact hhub

theorem exec_ringEnum_of_admitted {rq : Requester} {s : State} (hadmits : admitsOrder s rq OD.RING_ENUM 0 1 = true) :
    ∃ l n sent, exec (.ringEnum rq) s = .next (State.replied (State.ringEnum { s with sessions := l }) n sent) := by
  obtain ⟨l, n, sent, hrun⟩ := State.order_runs (v := 1) (g := State.ringEnum) hadmits isOrder_ringEnum (by decide) rfl
    (fun _ _ _ => rfl) State.ringEnum_hub
  exact ⟨l, n, sent, congrArg Host.Outcome.next hrun⟩

theorem State.ringEnum_of_head {s : State} (hhead : isHead s = true) (hidle : s.ring.enumAt = none) :
    s.ringEnum = (s.enumerate, .ok) := by
  unfold State.ringEnum
  rw [if_neg (by simp [hhead]), if_neg (by simp [hidle])]

theorem exec_ringMapClear_of_admitted {rq : Requester} {s : State} (hadmits : admitsOrder s rq OD.RING_MAP_CLEAR 0 1 = true) :
    ∃ l n sent, exec (.ringMapClear rq) s = .next (State.replied (State.ringMapClear { s with sessions := l }) n sent) := by
  obtain ⟨l, n, sent, hrun⟩ := State.order_runs (v := 1) (g := State.ringMapClear) hadmits isOrder_ringMapClear (by decide) rfl
    (fun _ _ _ => rfl) fun _ => rfl
  exact ⟨l, n, sent, congrArg Host.Outcome.next hrun⟩

/-- A named port that is DOWN is among those that get the tone. -/
theorem wakePorts_testBit {m up : Nat} {k : KPort} (hm : m < 8) (hnamed : m.testBit k.val = true) (hdown : up.testBit k.val = false) :
    (m % 8 - (m % 8 &&& up)).testBit k.val = true := by
  have hlow : m % 8 &&& up = m % 8 &&& up % 8 := by
    refine Nat.eq_of_testBit_eq fun i => ?_
    rw [Nat.testBit_and, Nat.testBit_and, show (8 : Nat) = 2 ^ 3 from rfl, Nat.testBit_mod_two_pow, Nat.testBit_mod_two_pow]
    cases decide (i < 3) <;> simp
  have hdown' : (up % 8).testBit k.val = false := by
    rw [show (8 : Nat) = 2 ^ 3 from rfl, Nat.testBit_mod_two_pow, hdown, Bool.and_false]
  have hall : ∀ (m up : Fin 8) (k : Fin 3), m.val.testBit k.val = true → up.val.testBit k.val = false →
      (m.val - (m.val &&& up.val)).testBit k.val = true := by
    decide
  rw [hlow, Nat.mod_eq_of_lt hm]
  exact hall ⟨m, hm⟩ ⟨up % 8, Nat.mod_lt _ (by decide)⟩ k hnamed hdown'

/-- The tone runs on one port. -/
def State.tone (s : State) (k : KPort) : State :=
  { s with ring := { s.ring with ports := s.ring.ports.upd k fun p => { p with toneUntil := some (s.now + 100000) } } }

/-- The tone on every port of a mask. -/
def State.tones (s : State) (ports : Nat) : State :=
  ([0, 1, 2] : List KPort).foldl (fun s k => if ports.testBit k.val then s.tone k else s) s

theorem State.ringWake_eq (s : State) (mask : Nat) : s.ringWake mask =
    (if mask % 8 - (mask % 8 &&& s.ringUp) = 0 then s.tones (mask % 8 - (mask % 8 &&& s.ringUp))
     else { s.tones (mask % 8 - (mask % 8 &&& s.ringUp)) with
       out := .tone (mask % 8 - (mask % 8 &&& s.ringUp)) :: (s.tones (mask % 8 - (mask % 8 &&& s.ringUp))).out }, .ok) := rfl

theorem State.tones_tone {s : State} {ports : Nat} {k : KPort} (hk : ports.testBit k.val = true) :
    ((s.tones ports).ring.ports.get k).toneUntil = some (s.now + 100000) := by
  have hmem : ∀ k : KPort, k ∈ ([0, 1, 2] : List KPort) := by decide
  have hnow (a : State) (j : KPort) : (if ports.testBit j.val then a.tone j else a).now = a.now := by split <;> rfl
  refine foldl_reaches (inv := fun a : State => a.now = s.now)
    (good := fun a : State => (a.ring.ports.get k).toneUntil = some (s.now + 100000)) (fun a j hs => (hnow a j).trans hs)
    (fun a hs => ?_) (fun a j hs hgood => ?_) (hmem k) rfl
  · rw [if_pos hk, ← hs]
    exact congrArg RingPort.toneUntil (Bank.get_upd_self ..)
  · split
    · by_cases hj : j = k
      · rw [hj, ← hs]
        exact congrArg RingPort.toneUntil (Bank.get_upd_self ..)
      · exact (congrArg RingPort.toneUntil (Bank.get_upd_other _ _ _ _ hj)).trans hgood
    · exact hgood

theorem State.tones_hub (s : State) (ports : Nat) : (s.tones ports).hub = s.hub := by
  refine foldl_keeps State.hub _ (fun a k => ?_) _ s
  split <;> rfl

theorem State.ringWake_hub (s : State) (mask : Nat) : (s.ringWake mask).1.hub = s.hub := by
  rw [State.ringWake_eq]
  dsimp only
  split
  · exact State.tones_hub ..
  · exact State.tones_hub ..

theorem exec_ringWake_of_admitted {m : Nat} {rq : Requester} {s : State} (hm : m < 256)
    (hadmits : admitsOrder s rq OD.RING_WAKE 0 m = true) :
    ∃ l n sent, exec (.ringWake m rq) s = .next (State.replied (State.ringWake { s with sessions := l } m) n sent) := by
  obtain ⟨l, n, sent, hrun⟩ := State.order_runs (g := fun s => s.ringWake m) hadmits isOrder_ringWake hm rfl
    (fun _ _ _ => rfl) fun s => s.ringWake_hub m
  exact ⟨l, n, sent, congrArg Host.Outcome.next hrun⟩

theorem State.ringWake_tone {s : State} {m : Nat} {k : KPort} (hm : m < 8) (hnamed : m.testBit k.val = true)
    (hdown : s.ringUp.testBit k.val = false) : (s.ringWake m).2 = .ok ∧
    ((s.ringWake m).1.ring.ports.get k).toneUntil = some (s.now + 100000) := by
  have htone := State.tones_tone (s := s) (wakePorts_testBit hm hnamed hdown)
  rw [State.ringWake_eq]
  dsimp only
  split
  · exact ⟨rfl, htone⟩
  · exact ⟨rfl, htone⟩

/-! ## HUB_CFG_SAVE and HUB_CFG_DEFAULTS (R492, R496) -/

theorem State.cfgSave_hub (s : State) : s.cfgSave.1.hub = s.hub := by
  unfold State.cfgSave
  split <;> rfl

theorem exec_hubCfgSave_of_admitted {rq : Requester} {s : State} (hadmits : admitsOrder s rq OD.HUB_CFG_SAVE 0 1 = true) :
    ∃ l n sent, exec (.hubCfgSave rq) s = .next (State.replied (State.cfgSave { s with sessions := l }) n sent) := by
  obtain ⟨l, n, sent, hrun⟩ := State.order_runs (v := 1) (g := State.cfgSave) hadmits isOrder_cfgSave (by decide) rfl
    (fun _ _ _ => rfl) State.cfgSave_hub
  exact ⟨l, n, sent, congrArg Host.Outcome.next hrun⟩

theorem State.cfgSave_of_free {s : State} (hdue : s.cfg.due = none) (hwriting : s.cfg.writing = none) : s.cfgSave =
    ({ s with cfg := { s.cfg with due := some s.now } }.set OD.HUB_CFG_STATE 0 1, .ok) := if_neg (by simp [hdue, hwriting])

theorem exec_hubCfgDefaults_of_admitted {rq : Requester} {s : State} (hadmits : admitsOrder s rq OD.HUB_CFG_DEFAULTS 0 1 = true) :
    ∃ l n sent, exec (.hubCfgDefaults rq) s = .next (State.replied (State.cfgDefaults { s with sessions := l }) n sent) := by
  obtain ⟨l, n, sent, hrun⟩ := State.order_runs (v := 1) (g := State.cfgDefaults) hadmits isOrder_cfgDefaults (by decide) rfl
    (fun _ _ _ => rfl) fun _ => rfl
  exact ⟨l, n, sent, congrArg Host.Outcome.next hrun⟩

/-! ## The statement -/

/-- Settles O45: what each command leaves of the hub and of the ring, read off the state that answers it. -/
theorem hubAndRingCommands : Obligations.HubAndRingCommands := by
  refine ⟨fun rq s hadmits => exec_hubReset_of_admitted hadmits, fun m rq s hm hadmits hsafe => ?_,
    fun c m rq s hm hadmits hold hnew hsole => ?_, fun rq s hadmits hsleep hfree => ?_, fun rq s hadmits hblock => ?_,
    fun rq s hadmits hsleep hfree => ?_, fun rq s hadmits hhead hidle => ?_, fun rq s hadmits => ?_,
    fun k m rq s hm hadmits hnamed hdown => ?_, fun rq s hadmits hdue hwriting => ?_, fun rq s hadmits => ?_⟩
  · obtain ⟨l, n, sent, hexec⟩ := exec_hubPodsupEn_of_admitted hm hadmits
    rw [State.podsupEn_of_safe (s := { s with sessions := l }) hm hsafe] at hexec
    exact ⟨_, hexec, rfl, rfl⟩
  · obtain ⟨l, n, sent, hexec⟩ := exec_hubPodsupEn_of_admitted hm hadmits
    obtain ⟨v, hv⟩ := State.podsupEn_of_sole (s := { s with sessions := l }) hold hnew hsole
    rw [hv] at hexec
    exact ⟨_, v, hexec, rfl, rfl⟩
  · obtain ⟨l, n, sent, hexec⟩ := exec_hubSleep_of_admitted hadmits
    obtain ⟨hok, hsleep', hparked⟩ := State.hubSleep_of_ready (s := { s with sessions := l }) hsleep ((sleepBlock_sessions s l).trans hfree)
    refine ⟨_, hexec, hok ▸ State.replied_answers .., ?_, fun c hlinked hown => ?_⟩
    · rw [State.replied_power, hsleep']
    · rw [State.replied_port]
      exact hparked c hlinked hown
  · obtain ⟨l, n, sent, hexec⟩ := exec_hubSleep_of_admitted hadmits
    rw [State.hubSleep_of_blocked (s := { s with sessions := l }) (by rwa [sleepBlock_sessions])] at hexec
    exact ⟨_, hexec, rfl, rfl⟩
  · obtain ⟨l, n, sent, hexec⟩ := exec_hubSleep_of_admitted hadmits
    rw [State.hubSleep_of_asleep (s := { s with sessions := l }) hsleep ((sleepBlock_sessions s l).trans hfree)] at hexec
    exact ⟨_, hexec, rfl, rfl⟩
  · obtain ⟨l, n, sent, hexec⟩ := exec_ringEnum_of_admitted hadmits
    rw [State.ringEnum_of_head (s := { s with sessions := l }) hhead hidle] at hexec
    obtain ⟨hat, hgen, hfound, -⟩ := State.enumerate_ring { s with sessions := l }
    exact ⟨_, hexec, rfl, hat, hgen, hfound⟩
  · obtain ⟨l, n, sent, hexec⟩ := exec_ringMapClear_of_admitted hadmits
    exact ⟨_, hexec, rfl, rfl⟩
  · obtain ⟨l, n, sent, hexec⟩ := exec_ringWake_of_admitted (by omega) hadmits
    obtain ⟨hok, htone⟩ := State.ringWake_tone (s := { s with sessions := l }) hm hnamed hdown
    exact ⟨_, hexec, hok ▸ State.replied_answers .., htone⟩
  · obtain ⟨l, n, sent, hexec⟩ := exec_hubCfgSave_of_admitted hadmits
    rw [State.cfgSave_of_free (s := { s with sessions := l }) hdue hwriting] at hexec
    refine ⟨_, hexec, rfl, rfl, ?_⟩
    rw [State.replied_stat]
    exact State.stat_set_self _ _ _ _ (by decide)
  · obtain ⟨l, n, sent, hexec⟩ := exec_hubCfgDefaults_of_admitted hadmits
    exact ⟨_, hexec, rfl, rfl, rfl⟩

end Sys2Proof.Machine

/-!
# The commands to the stream port, to the partner, to the seals and to the firmware slots (R497 to R499, R513, R519, R536, R550 to R552)
-/

namespace Sys2Proof.Machine

/-! ## The rows of the commands -/

theorem isOrder_strEn : isOrder OD.STR_EN 0 1 = true := isOrder_of_mem (n := 1) (by simp [orderTable]) (by decide)
theorem isOrder_strCapture : isOrder OD.STR_CAPTURE 0 2 = true := isOrder_of_mem (n := 1) (by simp [orderTable]) (by decide)
theorem isOrder_strJnlExport : isOrder OD.STR_JNL_EXPORT 0 2 = true := isOrder_of_mem (n := 1) (by simp [orderTable]) (by decide)
theorem isOrder_pxMove : isOrder OD.HUB_PX_MOVE 0 2 = true := isOrder_of_mem (n := 1) (by simp [orderTable]) (by decide)
theorem isOrder_fwLoad : isOrder OD.FW_LOAD 0 1 = true := isOrder_of_mem (n := 1) (by simp [orderTable]) (by decide)
theorem isOrder_fwActivate : isOrder OD.FW_ACTIVATE 0 1 = true := isOrder_of_mem (n := 1) (by simp [orderTable]) (by decide)
theorem isOrder_fwConfirm : isOrder OD.FW_CONFIRM 0 1 = true := isOrder_of_mem (n := 1) (by simp [orderTable]) (by decide)

theorem State.journal_hub (s : State) (kind : Nat) (src : JSrc) (code : Nat) (data : List (Nat × Nat)) :
    (s.journal kind src code data).hub = s.hub := State.hub_of_host (State.journal_host ..)

theorem State.replied_fw (x : State × Err) (n : Nat) (sent : List RingOut) : (State.replied x n sent).fw = x.1.fw := rfl

/-! ## The stream port (R513, R518, R519, R523) -/

theorem State.strStart_hub (s : State) : s.strStart.1.hub = s.hub := by
  unfold State.strStart
  split <;> rfl

theorem exec_strEnSet_of_admitted {rq : Requester} {s : State} (hadmits : admitsOrder s rq OD.STR_EN 0 1 = true) :
    ∃ l n sent, exec (.strEnSet rq) s = .next (State.replied (State.strStart { s with sessions := l }) n sent) := by
  obtain ⟨l, n, sent, hrun⟩ := State.order_runs (v := 1) (g := State.strStart) hadmits isOrder_strEn (by decide) rfl
    (fun _ _ _ => if_pos rfl) State.strStart_hub
  exact ⟨l, n, sent, congrArg Host.Outcome.next hrun⟩

theorem State.strHalt_str (s : State) : s.strHalt.str.en = false ∧ s.strHalt.str.queue = [] ∧ s.strHalt.str.left = 0 ∧
    s.strHalt.hub = s.hub := by
  unfold State.strHalt
  refine ⟨rfl, rfl, rfl, foldl_keeps State.hub _ (fun s r => ?_) _ s⟩
  split <;> rfl

theorem State.strStop_hub (s : State) : s.strStop.1.hub = s.hub := by
  obtain ⟨-, -, -, hhub⟩ := s.strHalt_str
  unfold State.strStop
  dsimp only
  split
  · exact hhub
  · rfl

theorem exec_strEnClear_of_admitted {rq : Requester} {s : State} (hadmits : admitsOrder s rq OD.STR_EN 0 0 = true) :
    ∃ l n sent, exec (.strEnClear rq) s = .next (State.replied (State.strStop { s with sessions := l }) n sent) := by
  obtain ⟨l, n, sent, hrun⟩ := State.order_runs (v := 0) (g := State.strStop) hadmits isOrder_strEn (by decide) rfl
    (fun _ _ _ => if_neg (by decide)) State.strStop_hub
  exact ⟨l, n, sent, congrArg Host.Outcome.next hrun⟩

theorem State.strCapture_hub (s : State) (mask : Nat) : (s.strCapture mask).1.hub = s.hub := by
  refine foldl_keeps State.hub _ (fun s c => ?_) _ s
  rfl

theorem exec_strCapture_of_admitted {m : Nat} {rq : Requester} {s : State} (hm : m < 65536)
    (hadmits : admitsOrder s rq OD.STR_CAPTURE 0 m = true) :
    ∃ l n sent, exec (.strCapture m rq) s = .next (State.replied (State.strCapture { s with sessions := l } m) n sent) := by
  obtain ⟨l, n, sent, hrun⟩ := State.order_runs (g := fun s => s.strCapture m) hadmits isOrder_strCapture hm rfl
    (fun _ _ _ => rfl) fun s => s.strCapture_hub m
  exact ⟨l, n, sent, congrArg Host.Outcome.next hrun⟩

/-- The next frame to a channel of the mask carries the command. -/
theorem State.strCapture_port (s : State) {m : Nat} {c : Chan} (hc : m.testBit c.val = true) :
    (((s.strCapture m).1.port c).down.capture) = true := by
  refine foldl_reaches (inv := fun _ => True) (good := fun s : State => (s.port c).down.capture = true) (k := c) (fun _ _ _ => trivial)
    (fun s _ => ?_) (fun s k _ hgood => ?_) (List.mem_filter.mpr ⟨mem_allChans c, hc⟩) trivial
  · unfold State.down
    rw [State.updPort_port_self]
  · unfold State.down
    by_cases hk : k = c
    · rw [hk, State.updPort_port_self]
    · rwa [State.updPort_port_other _ _ _ _ hk]

theorem State.strExport_hub (s : State) (n : Nat) : (s.strExport n).1.hub = s.hub := by
  unfold State.strExport
  split
  · rfl
  · split
    · rfl
    · split <;> rfl

theorem exec_strJnlExport_of_admitted {k : Nat} {rq : Requester} {s : State} (hk : k < 65536)
    (hadmits : admitsOrder s rq OD.STR_JNL_EXPORT 0 k = true) :
    ∃ l n sent, exec (.strJnlExport k rq) s = .next (State.replied (State.strExport { s with sessions := l } k) n sent) := by
  obtain ⟨l, n, sent, hrun⟩ := State.order_runs (g := fun s => s.strExport k) hadmits isOrder_strJnlExport hk rfl
    (fun _ _ _ => rfl) fun s => s.strExport_hub k
  exact ⟨l, n, sent, congrArg Host.Outcome.next hrun⟩

theorem State.strExport_of_idle {s : State} {k : Nat} (hen : s.str.en = true) (hleft : s.str.left = 0) (hk : k ≠ 0)
    (hrecs : s.jnl.recs ≠ []) : (s.strExport k).2 = .ok ∧ (s.strExport k).1.str.left = k ∧ (s.strExport k).1.str.exportAt = s.now := by
  unfold State.strExport
  rw [if_neg (by simp [hen]), if_neg (by simp [hleft]), if_neg (by simp [hk, hrecs])]
  exact ⟨rfl, rfl, rfl⟩

/-! ## HUB_PX_MOVE (R536, R538) -/

theorem State.preStop_port_of_feedLost (s : State) (p : Quad) (c : Chan) : (s.preStop p .feedLost).port c = s.port c ∧
    (s.preStop p .feedLost).now = s.now := by
  refine ⟨?_, State.preStop_now ..⟩
  unfold State.preStop State.preFeedActs
  split
  · have hquiet : (((s.selfUnmask (pwmOf p)).preQuiet p).updPre p fun x =>
        { x with state := .aborted, status := .feedLost, elapsed := (s.now - x.selfAt) / usNs, leftAt := some s.now }).port c =
        s.port c := State.plant_port (s := s.selfUnmask (pwmOf p)) (State.selfUnmask_plant ..) c
    dsimp only
    split <;> exact hquiet
  · rfl

/-- Giving a group up marks its port, now; no other port is marked or unmarked. -/
theorem State.releaseGroup_port (s : State) (k c : Chan) : (s.releaseGroup k).now = s.now ∧
    ((s.releaseGroup k).port c).releasing = (if k = c then some s.now else (s.port c).releasing) := by
  have hstopped (b : BusId) : (match preOf s.active b with
      | some p => s.preStop p .feedLost
      | none => s).now = s.now ∧ (match preOf s.active b with
      | some p => s.preStop p .feedLost
      | none => s).port c = s.port c := by
    rcases preOf s.active b with _ | p
    · exact ⟨rfl, rfl⟩
    · exact ⟨(s.preStop_port_of_feedLost p c).2, (s.preStop_port_of_feedLost p c).1⟩
  have hmarked (u : State) (hnow : u.now = s.now) (hport : u.port c = s.port c) :
      (u.updPort k fun q => { q with releasing := some u.now }).now = s.now ∧
      ((u.updPort k fun q => { q with releasing := some u.now }).port c).releasing =
        (if k = c then some s.now else (s.port c).releasing) := by
    refine ⟨hnow, ?_⟩
    by_cases hk : k = c
    · rw [hk, State.updPort_port_self, if_pos rfl, hnow]
    · rw [State.updPort_port_other _ _ _ _ hk, if_neg hk, hport]
  unfold State.releaseGroup
  dsimp only
  split
  · next b _ => exact hmarked _ (hstopped b).1 (hstopped b).2
  · exact hmarked s rfl rfl

theorem State.releaseGroup_host (s : State) (k : Chan) : (s.releaseGroup k).host = s.host := by
  unfold State.releaseGroup
  dsimp only
  rw [State.updPort_host]
  split
  · split
    · exact State.preStop_host ..
    · rfl
  · rfl

theorem State.pxMove_hub (s : State) (mask : Nat) : (s.pxMove mask).1.hub = s.hub := by
  unfold State.pxMove
  dsimp only
  split
  · rfl
  · split
    · rfl
    · exact State.hub_of_host (foldl_keeps State.host _ (fun s k => s.releaseGroup_host k) _ s)

theorem exec_hubPxMove_of_admitted {m : Nat} {rq : Requester} {s : State} (hm : m < 65536)
    (hadmits : admitsOrder s rq OD.HUB_PX_MOVE 0 m = true) :
    ∃ l n sent, exec (.hubPxMove m rq) s = .next (State.replied (State.pxMove { s with sessions := l } m) n sent) := by
  obtain ⟨l, n, sent, hrun⟩ := State.order_runs (g := fun s => s.pxMove m) hadmits isOrder_pxMove hm rfl
    (fun _ _ _ => rfl) fun s => s.pxMove_hub m
  exact ⟨l, n, sent, congrArg Host.Outcome.next hrun⟩

/-- A move of whole groups that this hub holds and that nothing keeps back. -/
theorem State.pxMove_of_movable {s : State} {m : Nat} (hstate : pxState s = 3)
    (hmovable : ∀ k : Chan, m.testBit k.val = true → (s.port k).own = true ∧ (s.port k).releasing = none ∧ partnered s k = true ∧
      moveHeld s k = false ∧ ∀ j ∈ groupOf s k, m.testBit j.val = true) :
    s.pxMove m = ((maskChans m).foldl State.releaseGroup s, .ok) := by
  have hnamed {k : Chan} (hk : k ∈ maskChans m) : m.testBit k.val = true := (List.mem_filter.mp hk).2
  have hheld : (maskChans m).any (moveHeld s) = false := by
    refine List.any_eq_false.mpr fun k hk => ?_
    obtain ⟨-, -, -, hheld, -⟩ := hmovable k (hnamed hk)
    simp [hheld]
  have hrange : ((maskChans m).any fun c => !(s.port c).own || (s.port c).releasing.isSome || !partnered s c ||
      (groupOf s c).any fun k => !m.testBit k.val) = false := by
    refine List.any_eq_false.mpr fun k hk => ?_
    obtain ⟨hown, hfree, hpartner, -, hgroup⟩ := hmovable k (hnamed hk)
    have hwhole : ((groupOf s k).any fun j => !m.testBit j.val) = false :=
      List.any_eq_false.mpr fun j hj => by simp [hgroup j hj]
    simp [hown, hfree, hpartner, hwhole]
  unfold State.pxMove
  dsimp only
  rw [hrange, hheld, hstate]
  rfl

theorem State.pxMove_port {s : State} {m : Nat} {c : Chan} (hc : m.testBit c.val = true) :
    (((maskChans m).foldl State.releaseGroup s).port c).releasing = some s.now := by
  refine foldl_reaches (inv := fun u : State => u.now = s.now) (good := fun u : State => (u.port c).releasing = some s.now) (k := c)
    (fun u k hnow => ?_) (fun u hnow => ?_) (fun u k hnow hgood => ?_) (List.mem_filter.mpr ⟨mem_allChans c, hc⟩) rfl
  · obtain ⟨hnow', -⟩ := u.releaseGroup_port k c
    exact hnow'.trans hnow
  · obtain ⟨-, hport⟩ := u.releaseGroup_port c c
    rw [hport, if_pos rfl, hnow]
  · obtain ⟨-, hport⟩ := u.releaseGroup_port k c
    rw [hport, hgood, hnow]
    split <;> rfl

/-! ## SEAL (R497 to R499) -/

/-- Sub 01 of a sealed object is its value. -/
theorem objRow_sealed {i : Nat} (h : sealedIndex i = true) : i - 0x7800 < 64 ∧ ∃ r, objRow i 1 = some r ∧ r.access = .seal := by
  have hall : ∀ j : Fin 64, sealedIndex (0x7800 + j.val) = true → (objRow (0x7800 + j.val) 1).map (·.access) = some .seal := by
    decide +kernel
  have hrange : 0x7800 ≤ i ∧ i - 0x7800 < 64 := by
    simp only [sealedIndex, Bool.or_eq_true, Bool.and_eq_true, decide_eq_true_eq, beq_iff_eq] at h
    omega
  obtain ⟨hlow, hlt⟩ := hrange
  have hi : 0x7800 + (i - 0x7800) = i := by omega
  have hrow := hall ⟨i - 0x7800, hlt⟩
  simp only [hi] at hrow
  obtain ⟨r, hr, haccess⟩ := Option.map_eq_some_iff.mp (hrow h)
  exact ⟨hlt, r, hr, haccess⟩

theorem State.seal_hub (s : State) (i : Nat) (d : List Byte) : (s.seal i d).1.hub = s.hub := by
  unfold State.seal
  split
  · rfl
  · split
    · rfl
    · split
      · rfl
      · dsimp only
        split <;> rfl

theorem exec_sealWrite_of_admitted {i : Nat} {d : List Byte} {rq : Requester} {s : State} (hsealed : sealedIndex i = true)
    (hadmits : admits s { rq := rq, index := i, sub := 1 } d = true) :
    ∃ l n sent, exec (.sealWrite rq i d) s = .next (State.replied (State.seal { s with sessions := l } i d) n sent) := by
  obtain ⟨-, hpower, -⟩ := admits_iff hadmits
  obtain ⟨-, r, hr, haccess⟩ := objRow_sealed hsealed
  obtain ⟨l, hl⟩ := State.touch_eq s { rq := rq, index := i, sub := 1 }
  obtain ⟨_, n, sent, -, hdone⟩ := State.doWrite_replied (f := fun _ => State.seal { s with sessions := l } i d) hadmits rfl hr
    (fun _ => State.seal_hub ..) fun role => by
      unfold State.operate
      rw [hl, if_neg (by rw [show State.pfw _ = s.pfw from rfl, hpower]; decide), haccess]
  exact ⟨l, n, sent, congrArg Host.Outcome.next hdone⟩

/-- A new value claims the next slot; the slots in use stay. -/
theorem State.seal_of_room {s : State} {i : Nat} {d : List Byte} (hi : i - 0x7800 < 64) (hfree : s.sealing = none)
    (hnew : sealValue s (i - 0x7800) ≠ some d) (hroom : (sealBank s i).slots.length < 16) : (s.seal i d).2 = .ok ∧
    (s.seal i d).1.sealing = some { index := i, value := d } ∧ (sealBank (s.seal i d).1 i).slots = (sealBank s i).slots := by
  unfold State.seal
  rw [if_neg (by simp [hfree]), if_neg hnew, if_neg (by omega)]
  dsimp only
  rw [dif_pos hi]
  refine ⟨rfl, rfl, ?_⟩
  unfold sealBank
  rw [dif_pos hi, dif_pos hi]
  dsimp only
  rw [Bank.get_upd_self]

theorem State.seal_of_full {s : State} {i : Nat} {d : List Byte} (hfree : s.sealing = none)
    (hnew : sealValue s (i - 0x7800) ≠ some d) (hfull : 16 ≤ (sealBank s i).slots.length) : s.seal i d = (s, .sealExhausted) := by
  unfold State.seal
  rw [if_neg (by simp [hfree]), if_neg hnew, if_pos hfull]

/-! ## FW_LOAD and FW_IMAGE (R550) -/

/-- What a write to `FW_LOAD` does. -/
def State.fwLoad (s : State) (v : Nat) : State × Err := if v = 1 then s.fwBegin else if v = 2 then s.fwFinish else s.fwCancel

theorem State.fwLoad_hub (s : State) (v : Nat) : (s.fwLoad v).1.hub = s.hub := by
  have hbegin : s.fwBegin.1.hub = s.hub := by
    unfold State.fwBegin
    split
    · rfl
    · split <;> rfl
  have hfinish : s.fwFinish.1.hub = s.hub := by
    unfold State.fwFinish
    dsimp only
    split
    · rfl
    · split <;> rfl
  have hcancel : s.fwCancel.1.hub = s.hub := by
    unfold State.fwCancel
    split
    · rfl
    · split <;> rfl
  unfold State.fwLoad
  split
  · exact hbegin
  · split
    · exact hfinish
    · exact hcancel

theorem State.order_fwLoad {v : Nat} {rq : Requester} {s : State} (hv : v < 256) (hadmits : admitsOrder s rq OD.FW_LOAD 0 v = true) :
    ∃ l n sent, s.order rq OD.FW_LOAD 0 v = State.replied (State.fwLoad { s with sessions := l } v) n sent :=
  State.order_runs (g := fun s => s.fwLoad v) hadmits isOrder_fwLoad hv rfl (fun _ _ _ => rfl) fun s => s.fwLoad_hub v

theorem State.fwLoad_begin {s : State} (htrial : s.fw.trial = false) (hfree : s.fw.idle.state ≠ 2) :
    s.fwLoad 1 = ({ s with fw := s.fw.putIdle { state := 1 } }, .ok) := by
  unfold State.fwLoad State.fwBegin
  rw [if_pos rfl, if_neg (by simp [htrial]), if_neg hfree]

theorem State.fwLoad_finish {s : State} (hstate : s.fw.idle.state = 1) :
    (s.fwLoad 2).2 = .ok ∧ (s.fwLoad 2).1.fw = s.fw.putIdle { s.fw.idle with state := 2 } := by
  unfold State.fwLoad State.fwFinish
  dsimp only
  rw [if_neg (by decide), if_pos rfl, if_neg (by omega), if_neg (by omega)]
  exact ⟨rfl, rfl⟩

theorem State.fwLoad_cancel {s : State} (htrial : s.fw.trial = false) (hfree : s.fw.idle.state ≠ 2) :
    s.fwLoad 3 = ({ s with fw := s.fw.putIdle {} }, .ok) := by
  unfold State.fwLoad State.fwCancel
  rw [if_neg (by decide), if_neg (by decide), if_neg (by simp [htrial]), if_neg hfree]

theorem objRow_fwImage : ∃ r, objRow 0x7200 7 = some r ∧ r.access = .wo := by
  obtain ⟨-, -, himage, -⟩ := rowKinds
  obtain ⟨r, hr, haccess, -⟩ := objRow_of_kind himage
  exact ⟨r, hr, haccess⟩

theorem State.fwImage_hub (s : State) (off : Nat) (d : List Byte) : (s.fwImage off d).1.hub = s.hub := by
  unfold State.fwImage
  dsimp only
  split
  · rfl
  · split <;> rfl

theorem exec_fwImage_of_admitted {off : Nat} {d : List Byte} {rq : Requester} {s : State}
    (hadmits : admits s { rq := rq, index := 0x7200, sub := 7, off := off } d = true) :
    ∃ l n sent, exec (.fwImage rq off d) s = .next (State.replied (State.fwImage { s with sessions := l } off d) n sent) := by
  obtain ⟨-, hpower, -⟩ := admits_iff hadmits
  obtain ⟨r, hr, haccess⟩ := objRow_fwImage
  obtain ⟨l, hl⟩ := State.touch_eq s { rq := rq, index := 0x7200, sub := 7, off := off }
  obtain ⟨_, n, sent, -, hdone⟩ := State.doWrite_replied (f := fun _ => State.fwImage { s with sessions := l } off d) hadmits rfl hr
    (fun _ => State.fwImage_hub ..) fun role => by
      unfold State.operate State.writeWo
      rw [hl, if_neg (by rw [show State.pfw _ = s.pfw from rfl, hpower]; decide), haccess]
      dsimp only
      rw [if_pos rfl]
  exact ⟨l, n, sent, congrArg Host.Outcome.next hdone⟩

/-- The next bytes join an image that is loading. -/
theorem State.fwImage_of_next {s : State} {off : Nat} {d : List Byte} (hstate : s.fw.idle.state = 1)
    (hoff : off = s.fw.idle.image.length) (hlen : off + d.length ≤ 262144) : (s.fwImage off d).2 = .ok ∧
      (s.fwImage off d).1.fw = s.fw.putIdle { s.fw.idle with image := s.fw.idle.image ++ d } := by
  unfold State.fwImage
  dsimp only
  rw [if_neg (by omega), if_neg (by omega)]
  exact ⟨rfl, rfl⟩

/-! ## FW_ACTIVATE and FW_CONFIRM (R551, R552) -/

/-- Nothing that holds an activation back is a session. -/
theorem fwBlock_sessions (s : State) (l : List Session) : fwBlock { s with sessions := l } = fwBlock s := by
  have hadd {a b c d : Nat} (h : a = b) (h' : c = d) : a + c = b + d := by rw [h, h']
  unfold fwBlock
  iterate 6 refine hadd ?_ (by rfl)
  rfl

/-- The boot selection names the other slot, in trial. -/
def State.onTrial (s : State) : State := { s with fw := { s.fw with selB := !s.fw.runsB, trial := true } }

theorem State.fwActivate_of_free {s : State} (hfree : fwBlock s = 0) :
    s.fwActivate = ((s.onTrial.journal 0x12 .hub 2 [(4, s.fw.idle.ver)]).coreReset 8, .ok) := by
  unfold State.fwActivate State.onTrial
  rw [if_neg (not_not_intro hfree)]

theorem exec_fwActivate_of_admitted {rq : Requester} {s : State} (hadmits : admitsOrder s rq OD.FW_ACTIVATE 0 1 = true)
    (hfree : fwBlock s = 0) : ∃ u, exec (.fwActivate rq) s = .next u ∧ u.hub = .reset ∧ u.fw.trial = true ∧
      u.fw.selB = (!s.fw.runsB) ∧ u.power.latch = setBit s.power.latch 8 true ∧ podsKept s u := by
  obtain ⟨l, n, sent, resp, hrun⟩ := State.order_resets (v := 1) (g := State.fwActivate) hadmits isOrder_fwActivate (by decide) rfl
    (onOne_one fun s _ => s.fwActivate)
  rw [State.fwActivate_of_free (s := { s with sessions := l }) ((fwBlock_sessions s l).trans hfree)] at hrun
  refine ⟨_, congrArg Host.Outcome.next hrun, ?_⟩
  generalize hlogged : (State.onTrial { s with sessions := l }).journal 0x12 .hub 2 [(4, s.fw.idle.ver)] = v
  have hunits : v.units = (State.onTrial { s with sessions := l }).units := by
    rw [← hlogged]
    exact State.journal_units ..
  obtain ⟨-, hactive, hpods, -, -, -, -, -, -, -, -, hpower, -, hfw⟩ := State.units_fields hunits
  obtain ⟨hhub, hlatch, ⟨heach, hall⟩, -, -, -, -, hsel, -⟩ := v.coreReset_resets 8
  have hpod (c : Chan) : v.pod c = s.pod c := congrArg (·.get c) hpods
  have hact : v.act OD.HUB_PODSUP_EN = s.act OD.HUB_PODSUP_EN := congrArg (Store.getN · OD.HUB_PODSUP_EN) hactive
  refine ⟨hhub, ?_, hsel.trans (congrArg Fw.selB hfw), hlatch.trans (congrArg (fun p : Power => setBit p.latch 8 true) hpower), ?_, ?_⟩
  · exact (v.coreReset_trial 8).trans (congrArg Fw.trial hfw)
  · intro c
    have hc := heach c
    rw [hpod] at hc
    exact hc
  · intro hdefault
    exact (hall (hact.trans hdefault)).trans hpods

theorem State.fwConfirm_hub (s : State) : s.fwConfirm.1.hub = s.hub := by
  unfold State.fwConfirm
  split
  · exact State.journal_hub ..
  · rfl

theorem exec_fwConfirm_of_admitted {rq : Requester} {s : State} (hadmits : admitsOrder s rq OD.FW_CONFIRM 0 1 = true) :
    ∃ l n sent, exec (.fwConfirm rq) s = .next (State.replied (State.fwConfirm { s with sessions := l }) n sent) := by
  obtain ⟨l, n, sent, hrun⟩ := State.order_runs (v := 1) (g := State.fwConfirm) hadmits isOrder_fwConfirm (by decide) rfl
    (onOne_one fun s _ => s.fwConfirm) State.fwConfirm_hub
  exact ⟨l, n, sent, congrArg Host.Outcome.next hrun⟩

theorem State.fwConfirm_of_trial {s : State} (htrial : s.fw.trial = true) : s.fwConfirm.2 = .ok ∧ s.fwConfirm.1.fw.trial = false := by
  unfold State.fwConfirm
  rw [if_pos htrial]
  dsimp only
  rw [State.journal_fw]
  exact ⟨rfl, rfl⟩

/-! ## The statement -/

/-- Settles O46: what each command leaves of what it names, read off the state that answers it. -/
theorem streamSealAndFirmwareCommands : Obligations.StreamSealAndFirmwareCommands := by
  refine ⟨fun rq s hadmits hoff => ?_, fun rq s hadmits hon => ?_, fun m c rq s hm hadmits hc => ?_,
    fun k rq s hk hadmits hen hleft hsome hrecs => ?_, fun m c rq s hm hadmits hc hstate hmovable => ?_,
    fun i d rq s hsealed hadmits hfree hnew hroom => ?_, fun i d rq s hsealed hadmits hfree hnew hfull => ?_,
    fun rq s hadmits htrial hfree => ?_, fun off d rq s hadmits hstate hoff hlen => ?_, fun rq s hadmits hstate => ?_,
    fun rq s hadmits htrial hfree => ?_, fun rq s hadmits hfree => exec_fwActivate_of_admitted hadmits hfree,
    fun rq s hadmits htrial => ?_⟩
  · obtain ⟨l, n, sent, hexec⟩ := exec_strEnSet_of_admitted hadmits
    rw [State.strStart, if_neg (by simp [hoff])] at hexec
    exact ⟨_, hexec, rfl, rfl, rfl, rfl⟩
  · obtain ⟨l, n, sent, hexec⟩ := exec_strEnClear_of_admitted hadmits
    rw [State.strStop, if_pos (by simp [hon])] at hexec
    obtain ⟨hoff, hqueue, hleft, -⟩ := State.strHalt_str { s with sessions := l }
    exact ⟨_, hexec, rfl, hoff, hqueue, hleft⟩
  · obtain ⟨l, n, sent, hexec⟩ := exec_strCapture_of_admitted hm hadmits
    exact ⟨_, hexec, rfl, State.strCapture_port { s with sessions := l } hc⟩
  · obtain ⟨l, n, sent, hexec⟩ := exec_strJnlExport_of_admitted hk hadmits
    obtain ⟨hok, hexport⟩ := State.strExport_of_idle (s := { s with sessions := l }) hen hleft hsome hrecs
    exact ⟨_, hexec, hok ▸ State.replied_answers .., hexport⟩
  · obtain ⟨l, n, sent, hexec⟩ := exec_hubPxMove_of_admitted hm hadmits
    rw [State.pxMove_of_movable (s := { s with sessions := l }) hstate hmovable] at hexec
    exact ⟨_, hexec, rfl, State.pxMove_port (s := { s with sessions := l }) hc⟩
  · obtain ⟨l, n, sent, hexec⟩ := exec_sealWrite_of_admitted hsealed hadmits
    obtain ⟨hi, -⟩ := objRow_sealed hsealed
    obtain ⟨hok, hseal⟩ := State.seal_of_room (s := { s with sessions := l }) hi hfree hnew hroom
    exact ⟨_, hexec, hok ▸ State.replied_answers .., hseal⟩
  · obtain ⟨l, n, sent, hexec⟩ := exec_sealWrite_of_admitted hsealed hadmits
    rw [State.seal_of_full (s := { s with sessions := l }) hfree hnew hfull] at hexec
    exact ⟨_, hexec, rfl, rfl, hfree⟩
  · obtain ⟨l, n, sent, hrun⟩ := State.order_fwLoad (v := 1) (by decide) hadmits
    rw [State.fwLoad_begin (s := { s with sessions := l }) htrial hfree] at hrun
    exact ⟨_, congrArg Host.Outcome.next hrun, rfl, rfl⟩
  · obtain ⟨l, n, sent, hexec⟩ := exec_fwImage_of_admitted hadmits
    obtain ⟨hok, hfw⟩ := State.fwImage_of_next (s := { s with sessions := l }) hstate hoff hlen
    refine ⟨_, hexec, hok ▸ State.replied_answers .., ?_⟩
    rw [State.replied_fw, hfw, Fw.idle_putIdle]
    exact ⟨rfl, hstate⟩
  · obtain ⟨l, n, sent, hrun⟩ := State.order_fwLoad (v := 2) (by decide) hadmits
    obtain ⟨hok, hfw⟩ := State.fwLoad_finish (s := { s with sessions := l }) hstate
    refine ⟨_, congrArg Host.Outcome.next hrun, hok ▸ State.replied_answers .., ?_⟩
    rw [State.replied_fw, hfw, Fw.idle_putIdle]
    exact ⟨rfl, rfl⟩
  · obtain ⟨l, n, sent, hrun⟩ := State.order_fwLoad (v := 3) (by decide) hadmits
    rw [State.fwLoad_cancel (s := { s with sessions := l }) htrial hfree] at hrun
    exact ⟨_, congrArg Host.Outcome.next hrun, rfl, rfl⟩
  · obtain ⟨l, n, sent, hexec⟩ := exec_fwConfirm_of_admitted hadmits
    obtain ⟨hok, hconfirmed⟩ := State.fwConfirm_of_trial (s := { s with sessions := l }) htrial
    exact ⟨_, hexec, hok ▸ State.replied_answers .., hconfirmed⟩

end Sys2Proof.Machine

/-!
# Sessions: open, challenge, response, lapse, lock, close, time-out, view (R474 to R479)
-/

namespace Sys2Proof.Machine

/-! ## The table of sessions -/

theorem sessionOf_handle {s : State} {h : Nat} {x : Session} (hx : sessionOf s h = some x) : x.handle = h := by
  have hfound := List.find?_some hx
  exact beq_iff_eq.mp hfound

/-- A change that keeps the handles is found in the sessions of its handle, and in no other. -/
theorem sessionOf_updSession {f : Session → Session} (hf : ∀ x, (f x).handle = x.handle) (s : State) (h g : Nat) :
    sessionOf (s.updSession h f) g = (sessionOf s g).map fun x => if x.handle == h then f x else x := by
  have hsame : ((fun x : Session => x.handle == g) ∘ fun x => if x.handle == h then f x else x) = fun x => x.handle == g := by
    funext x
    dsimp only [Function.comp]
    split
    · rw [hf]
    · rfl
  unfold sessionOf State.updSession
  rw [List.find?_map, hsame]

theorem sessionOf_endSession_self (s : State) (h : Nat) : sessionOf (s.endSession h) h = none := by
  refine List.find?_eq_none.mpr fun x hx => ?_
  obtain ⟨-, hne⟩ := List.mem_filter.mp hx
  simpa using hne

theorem sessionOf_endSession_other (s : State) {h g : Nat} (hg : g ≠ h) : sessionOf (s.endSession h) g = sessionOf s g := by
  unfold sessionOf State.endSession
  rw [List.find?_filter]
  refine congrArg (fun p => List.find? p s.sessions) (funext fun x => ?_)
  by_cases hx : x.handle = g
  · simp [hx, hg]
  · simp [hx]

/-- Sessions are found in the vault. -/
theorem sessionOf_vault {s t : State} (h : s.vault = t.vault) (g : Nat) : sessionOf s g = sessionOf t g := by
  obtain ⟨-, -, -, hs⟩ := vault_fields s
  obtain ⟨-, -, -, ht⟩ := vault_fields t
  unfold sessionOf
  rw [hs, ht, h]

/-- The use of a handle moves idle times only. -/
theorem State.touch_sessions (s : State) (q : Req) : ∃ t : Session → Nat, (s.touch q).sessions =
    s.sessions.map fun x => { x with idleFrom := t x } := by
  have hnone : s.sessions = s.sessions.map fun x => { x with idleFrom := x.idleFrom } := (List.map_id _).symm
  unfold State.touch
  split
  · next y _ =>
    split
    · refine ⟨fun x => if x.handle == y.handle then s.now else x.idleFrom, List.map_congr_left fun x _ => ?_⟩
      dsimp only
      split <;> rfl
    · exact ⟨_, hnone⟩
  · exact ⟨_, hnone⟩

theorem State.touch_length (s : State) (q : Req) : (s.touch q).sessions.length = s.sessions.length := by
  obtain ⟨t, ht⟩ := s.touch_sessions q
  rw [ht, List.length_map]

theorem sessionOf_touch (s : State) (q : Req) (h : Nat) : ∃ t : Session → Nat,
    sessionOf (s.touch q) h = (sessionOf s h).map fun x => { x with idleFrom := t x } := by
  obtain ⟨t, ht⟩ := s.touch_sessions q
  refine ⟨t, ?_⟩
  unfold sessionOf
  rw [ht, List.find?_map]
  rfl

/-- A pending session is not in use. -/
theorem State.touch_of_pending {s : State} {q : Req} {x : Session} (hx : sessionOf s q.rq.session = some x) (hopen : x.isOpen = false) :
    s.touch q = s := by
  unfold State.touch
  rw [hx]
  dsimp only
  rw [hopen, Bool.false_and]
  rfl

/-! ## SES_OPEN (R474) -/

theorem isOrder_sesOpen : isOrder OD.SES_OPEN 0 1 = true := isOrder_of_mem (n := 1) (by simp [orderTable]) (by decide)
theorem isOrder_sesClose : isOrder OD.SES_CLOSE 0 2 = true := isOrder_of_mem (n := 1) (by simp [orderTable]) (by decide)
theorem isOrder_sesView : isOrder OD.SES_VIEW 0 1 = true := isOrder_of_mem (n := 1) (by simp [orderTable]) (by decide)

theorem State.sesOpen_hub (s : State) (rq : Requester) (role : Nat) : (s.sesOpen rq role).1.hub = s.hub := by
  unfold State.sesOpen
  dsimp only
  split
  · rfl
  · split <;> rfl

/-- A pending session of the role joins the others. -/
theorem State.sesOpen_of_room {s : State} {rq : Requester} {role : Nat} (hlock : (lockOf s (roleOf role)).lockedAt = none)
    (hkey : (roleKey s (roleOf role)).isSome = true) (hroom : s.sessions.length < 8) : ∃ x : Session,
    (s.sesOpen rq role).2 = .ok ∧ (s.sesOpen rq role).1.sessions = s.sessions ++ [x] ∧ x.role = roleOf role ∧ x.src = rq.src ∧
      x.isOpen = false ∧ x.readAt = none := by
  unfold State.sesOpen
  dsimp only
  rw [if_neg, if_neg (by omega)]
  · exact ⟨_, rfl, rfl, rfl, rfl, rfl, rfl⟩
  · rw [hlock, Option.isNone_eq_false_iff.mpr hkey]
    decide

theorem exec_sesOpen_of_room {role : Nat} {rq : Requester} {s : State} (hrole : role ≤ 3)
    (hadmits : admitsOrder s rq OD.SES_OPEN 0 role = true) (hlock : (lockOf s (roleOf role)).lockedAt = none)
    (hkey : (roleKey s (roleOf role)).isSome = true) (hroom : s.sessions.length < 8) :
    ∃ u x, exec (.sesOpen role rq) s = .next u ∧ answers u .ok ∧ u.sessions.getLast? = some x ∧ x.role = roleOf role ∧
      x.src = rq.src ∧ x.isOpen = false ∧ x.readAt = none ∧ u.sessions.length = s.sessions.length + 1 := by
  obtain ⟨_, l, n, sent, -, htouch, hrun⟩ := State.order_replied (f := fun s q _ _ v => s.sesOpen q.rq v) hadmits isOrder_sesOpen
    (by omega) rfl fun l _ => State.sesOpen_hub { s with sessions := l } rq role
  have hlength : l.length = s.sessions.length := by
    have h := s.touch_length (orderOf rq OD.SES_OPEN 0)
    rw [htouch] at h
    exact h
  obtain ⟨x, hok, hsessions, hx⟩ := State.sesOpen_of_room (s := { s with sessions := l }) (rq := rq) hlock hkey (hlength ▸ hroom)
  have hlast : (State.replied (State.sesOpen { s with sessions := l } rq role) n sent).sessions = l ++ [x] := hsessions
  obtain ⟨hr, hsrc, hopen, hread⟩ := hx
  refine ⟨_, x, congrArg Host.Outcome.next hrun, hok ▸ State.replied_answers .., ?_, hr, hsrc, hopen, hread, ?_⟩
  · exact (congrArg List.getLast? hlast).trans (List.getLast?_concat ..)
  · exact (congrArg List.length hlast).trans (by rw [List.length_append, hlength]; rfl)

/-! ## SES_CHALLENGE (R475) -/

/-- `SES_CHALLENGE` is a byte string that is read. -/
theorem objRow_sesChallenge : hasIndex 0x7100 = true ∧ ∃ r, objRow 0x7100 2 = some r ∧ r.access = .ro ∧ r.secret = false ∧
    r.type = .blob := by
  obtain ⟨-, -, -, hindex, hchallenge, -⟩ := rowKinds
  obtain ⟨r, hr, haccess, htype, hsecret⟩ := objRow_of_kind hchallenge
  exact ⟨hindex, r, hr, haccess, hsecret, htype⟩

/-- A source reads the handle and the challenge of its pending session. -/
theorem readBytes_challenge {s : State} {src : Nat} {x : Session} (hx : pendingOf s src = some x) (hlen : x.challenge.length = 32) :
    readBytes s src 0x7100 2 0 34 = leBytes 2 x.handle ++ x.challenge := by
  have hrecord : isRecord 0x7100 = false := by decide
  have hall : (leBytes 2 x.handle ++ x.challenge).length ≤ 34 := by simp [length_leBytes, hlen]
  unfold readBytes challengeOf
  dsimp only
  rw [if_neg (by rw [hrecord]; decide), if_neg (by decide), if_neg (by decide), if_neg (by decide), if_neg (by decide),
    if_pos (by decide), hx]
  dsimp only
  rw [List.drop_zero, List.take_of_length_le hall]

theorem pendingOf_mem {s : State} {src : Nat} {x : Session} (hx : pendingOf s src = some x) : x ∈ s.sessions ∧ x.isOpen = false := by
  obtain ⟨hmem, hpending⟩ := List.mem_filter.mp (List.mem_of_getLast? hx)
  simp only [Bool.and_eq_true, Bool.not_eq_true'] at hpending
  exact ⟨hmem, hpending.1⟩

/-- Idle times do not decide which session is pending. -/
theorem pendingOf_touch {s : State} (q : Req) {src : Nat} {x : Session} (hx : pendingOf s src = some x) :
    ∃ y, pendingOf (s.touch q) src = some y ∧ y.handle = x.handle := by
  obtain ⟨t, ht⟩ := s.touch_sessions q
  refine ⟨{ x with idleFrom := t x }, ?_, rfl⟩
  unfold pendingOf at hx ⊢
  rw [ht, List.filter_map, List.getLast?_map]
  exact congrArg (Option.map _) hx

/-- The first read of a challenge is timed in every session of its handle. -/
theorem sessionOf_readChallenge {s : State} {src h : Nat} {x : Session} (hx : pendingOf s src = some x) (hh : x.handle = h) :
    ∃ y, sessionOf (s.readChallenge src) h = some y ∧ y.readAt.isSome = true := by
  obtain ⟨hmem, -⟩ := pendingOf_mem hx
  obtain ⟨z, hz⟩ : ∃ z, sessionOf s h = some z := by
    refine Option.ne_none_iff_exists'.mp fun hnone => ?_
    have hne := List.find?_eq_none.mp hnone x hmem
    exact hne (beq_iff_eq.mpr hh)
  have hzh := sessionOf_handle hz
  unfold State.readChallenge
  rw [hx]
  dsimp only
  refine ⟨{ z with readAt := some (z.readAt.getD s.now) }, ?_, rfl⟩
  refine (sessionOf_updSession (f := fun x => { x with readAt := some (x.readAt.getD s.now) }) (fun _ => rfl) s x.handle h).trans ?_
  rw [hz, Option.map_some, hh, if_pos (beq_iff_eq.mpr hzh)]

theorem exec_sesChallenge_of_pending {src : Nat} {x : Session} {s : State} (hserves : serves s 0x7100 2 = true)
    (hx : pendingOf s src = some x) (hlen : x.challenge.length = 32) : ∃ u y, exec (.sesChallenge src) s = .next u ∧
      u.resp = some (.direct, { err := .ok, data := leBytes 2 x.handle ++ x.challenge }) ∧
      sessionOf u x.handle = some y ∧ y.readAt.isSome = true := by
  obtain ⟨hindex, r, hr, haccess, hsecret, htype⟩ := objRow_sesChallenge
  have hread : s.read { rq := { src := src, session := 0 }, index := 0x7100, sub := 2 } 34 =
      ((s.touch { rq := { src := src, session := 0 }, index := 0x7100, sub := 2 }).readChallenge src,
        { err := .ok, data := leBytes 2 x.handle ++ x.challenge }) := by
    unfold State.read standing
    dsimp only
    rw [if_pos rfl, hindex, hr]
    dsimp only
    rw [if_neg (by decide), if_neg (by rw [haccess, hsecret]; decide), if_neg (by decide), htype, if_pos (by decide),
      if_pos rfl, readBytes_challenge hx hlen]
  obtain ⟨x', hx', hhandle⟩ := pendingOf_touch { rq := { src := src, session := 0 }, index := 0x7100, sub := 2 } hx
  obtain ⟨y, hy, hread'⟩ := sessionOf_readChallenge hx' hhandle
  refine ⟨_, y, rfl, ?_⟩
  unfold State.doRead
  rw [if_pos hserves, hread]
  dsimp only
  rw [State.answer_direct _ _ _ rfl]
  exact ⟨rfl, hy, hread'⟩

/-! ## SES_RESPONSE (R475, R476) -/

theorem objRow_sesResponse : ∃ r, objRow 0x7100 3 = some r ∧ r.access = .wo := by
  obtain ⟨-, -, -, -, -, hresponse, -⟩ := rowKinds
  obtain ⟨r, hr, haccess, -⟩ := objRow_of_kind hresponse
  exact ⟨r, hr, haccess⟩

theorem State.sesRespond_hub (s : State) (x : Session) (d : List Byte) : (s.sesRespond x d).1.hub = s.hub := by
  refine State.hub_of_host ?_
  unfold State.sesRespond State.sesFail
  split
  · rfl
  · split
    · rfl
    · split
      · dsimp only
        rw [State.journal_host]
        rfl
      · dsimp only
        split
        · exact (State.journal_host ..).trans (State.count_host ..)
        · rw [State.journal_host]
          exact (State.journal_host ..).trans (State.count_host ..)

/-- A response goes to the pending session that it names. -/
theorem exec_sesResponse_of_pending {rq : Requester} {d : List Byte} {x : Session} {s : State}
    (hadmits : admits s { rq := rq, index := 0x7100, sub := 3 } d = true) (hx : sessionOf s rq.session = some x)
    (hopen : x.isOpen = false) : ∃ n sent, exec (.sesResponse rq d) s = .next (State.replied (s.sesRespond x d) n sent) := by
  obtain ⟨-, hpower, -⟩ := admits_iff hadmits
  obtain ⟨r, hr, haccess⟩ := objRow_sesResponse
  obtain ⟨_, n, sent, -, hdone⟩ := State.doWrite_replied (f := fun _ => s.sesRespond x d) hadmits rfl hr
    (fun _ => State.sesRespond_hub ..) fun role => by
      rw [State.touch_of_pending hx hopen]
      unfold State.operate State.writeWo
      rw [if_neg (by rw [hpower]; decide), haccess]
      dsimp only
      rw [if_neg (by decide), hx]
      dsimp only
      rw [if_neg (by rw [hopen]; decide)]
  exact ⟨n, sent, congrArg Host.Outcome.next hdone⟩

/-- The locks are not written by a journal record. -/
theorem State.journal_locks (s : State) (kind : Nat) (src : JSrc) (code : Nat) (data : List (Nat × Nat)) :
    (s.journal kind src code data).locks = s.locks := by
  have hunits := s.journal_units kind src code data
  simp only [State.units, Prod.mk.injEq] at hunits
  obtain ⟨-, -, -, -, -, -, -, -, -, -, -, hlocks, -⟩ := hunits
  exact hlocks

/-- The right response opens the session and ends the count of failures. -/
theorem State.sesRespond_of_right {s : State} {x : Session} {d key : List Byte} (hx : sessionOf s x.handle = some x)
    (hlapsed : lapsed s x = false) (hkey : roleKey s x.role = some key) (hd : d = hmac key (sesMessage x)) :
    (s.sesRespond x d).2 = .ok ∧ (∃ y, sessionOf (s.sesRespond x d).1 x.handle = some y ∧ y.isOpen = true ∧ y.role = x.role) ∧
      (lockOf (s.sesRespond x d).1 x.role).fails = 0 := by
  unfold State.sesRespond
  rw [if_neg (by rw [hlapsed]; decide), hkey]
  dsimp only
  rw [if_pos hd]
  refine ⟨rfl, ?_, ?_⟩
  · refine ⟨{ x with isOpen := true, challenge := [], idleFrom := s.now }, ?_, rfl, rfl⟩
    rw [sessionOf_vault (State.journal_vault ..)]
    refine (sessionOf_updSession (f := fun x => { x with isOpen := true, challenge := [], idleFrom := s.now })
      (fun _ => rfl) s x.handle x.handle).trans ?_
    rw [hx, Option.map_some, if_pos (beq_iff_eq.mpr rfl)]
  · unfold lockOf
    rw [State.journal_locks]
    exact congrArg RoleLock.fails (Bank.get_upd_self ..)

/-- A wrong response frees the handle; the third in a row locks the role. -/
theorem State.sesRespond_of_wrong {s : State} {x : Session} {d key : List Byte} (hlapsed : lapsed s x = false)
    (hkey : roleKey s x.role = some key) (hd : d ≠ hmac key (sesMessage x)) : (s.sesRespond x d).2 = .auth ∧
    sessionOf (s.sesRespond x d).1 x.handle = none ∧
      (2 ≤ (lockOf s x.role).fails → (lockOf (s.sesRespond x d).1 x.role).lockedAt = some s.now) := by
  unfold State.sesRespond
  rw [if_neg (by rw [hlapsed]; decide), hkey]
  dsimp only
  rw [if_neg hd]
  refine ⟨rfl, ?_⟩
  generalize hlogged : (((s.endSession x.handle).count OD.SES_AUTH_FAILS).journal 0x0C .hub 2 [(1, x.role.code), (2, x.handle)]) = v
  have hended : sessionOf v x.handle = none := by
    rw [← hlogged, sessionOf_vault (State.journal_vault ..)]
    exact sessionOf_endSession_self s x.handle
  have hnow : v.now = s.now := by
    obtain ⟨hnow, -⟩ := State.units_fields (State.journal_units ((s.endSession x.handle).count OD.SES_AUTH_FAILS) 0x0C .hub 2
      [(1, x.role.code), (2, x.handle)])
    rw [← hlogged]
    exact hnow
  unfold State.sesFail
  dsimp only
  rw [hlogged]
  split
  · exact ⟨hended, fun hthird => absurd hthird (by omega)⟩
  · refine ⟨(sessionOf_vault (State.journal_vault ..) _).trans hended, fun _ => ?_⟩
    unfold lockOf
    rw [State.journal_locks]
    refine (congrArg RoleLock.lockedAt (Bank.get_upd_self ..)).trans ?_
    rw [hnow]

/-! ## Lapse, lock, time-out (R475, R476, R478) -/

theorem exec_challengeLapse_of_read {t : Nat} {x : Session} {s : State} (hx : x ∈ s.sessions) (hread : x.readAt = some t)
    (hopen : x.isOpen = false) (hdue : t + 10 * secNs ≤ s.now) :
    ∃ u, exec .challengeLapse s = .next u ∧ { x with late := true } ∈ u.sessions := by
  refine ⟨_, rfl, List.mem_map.mpr ⟨x, hx, ?_⟩⟩
  rw [hread]
  dsimp only
  rw [if_pos (by simp [hopen, hdue])]

theorem exec_roleLockEnd_of_due {i : Quad} {t : Nat} {s : State} (hlocked : (s.locks.get i).lockedAt = some t)
    (hdue : t + 10 * secNs ≤ s.now) : ∃ u, exec .roleLockEnd s = .next u ∧ (u.locks.get i).lockedAt = none := by
  refine ⟨_, rfl, ?_⟩
  dsimp only
  rw [Bank.get_all, hlocked]
  dsimp only
  rw [if_pos hdue]

theorem exec_sesTimeout_of_idle {h : Nat} {x : Session} {s : State} (hx : sessionOf s h = some x)
    (hidle : x.idleFrom + s.act OD.SES_TIMEOUT * secNs ≤ s.now) : exec (.sesTimeout h) s = .next (s.endSession h) := by
  change execSesTimeout h s = _
  rw [execSesTimeout, hx]
  dsimp only
  rw [if_pos hidle]

/-! ## SES_CLOSE and SES_VIEW (R470, R478) -/

theorem State.sesClose_hub (s : State) (by_ : Nat) (r : Role) (h : Nat) : (s.sesClose by_ r h).1.hub = s.hub := by
  unfold State.sesClose
  split
  · rfl
  · split <;> rfl

/-- A session closes itself. -/
theorem State.sesClose_of_own {s : State} {h : Nat} (r : Role) (hx : (sessionOf s h).isSome = true) :
    s.sesClose h r h = (s.endSession h, .ok) := by
  obtain ⟨x, hx⟩ := Option.isSome_iff_exists.mp hx
  unfold State.sesClose
  rw [hx]
  exact if_pos (.inl rfl)

theorem exec_sesClose_of_own {h : Nat} {rq : Requester} {s : State} (hh : h < 65536) (hown : rq.session = h)
    (hadmits : admitsOrder s rq OD.SES_CLOSE 0 h = true) (hx : (sessionOf s h).isSome = true) :
    ∃ u, exec (.sesClose h rq) s = .next u ∧ answers u .ok ∧ sessionOf u h = none := by
  obtain ⟨role, l, n, sent, -, htouch, hrun⟩ := State.order_replied (f := fun s q role _ v => s.sesClose q.rq.session role v)
    hadmits isOrder_sesClose hh rfl fun l role => State.sesClose_hub { s with sessions := l } rq.session role h
  obtain ⟨t, ht⟩ := sessionOf_touch s (orderOf rq OD.SES_CLOSE 0) h
  rw [htouch] at ht
  have hclose : State.sesClose { s with sessions := l } rq.session role h = (State.endSession { s with sessions := l } h, .ok) := by
    rw [hown]
    exact State.sesClose_of_own role (by rw [ht, Option.isSome_map, hx])
  refine ⟨_, congrArg Host.Outcome.next (hrun.trans (congrArg (State.replied · n sent) hclose)), rfl, ?_⟩
  exact sessionOf_endSession_self { s with sessions := l } h

theorem exec_sesView_of_session {v : Nat} {rq : Requester} {s : State} (hv : v ≤ 1) (hadmits : admitsOrder s rq OD.SES_VIEW 0 v = true)
    (hx : (sessionOf s rq.session).isSome = true) : ∃ u y, exec (.sesView v rq) s = .next u ∧ answers u .ok ∧
      sessionOf u rq.session = some y ∧ y.shadowView = (v == 1) := by
  obtain ⟨role, l, n, sent, -, htouch, hrun⟩ := State.order_replied (f := fun s q _ _ v => s.sesView q.rq.session v)
    hadmits isOrder_sesView (by omega) rfl fun l role => rfl
  obtain ⟨t, ht⟩ := sessionOf_touch s (orderOf rq OD.SES_VIEW 0) rq.session
  rw [htouch] at ht
  obtain ⟨x, hx⟩ := Option.isSome_iff_exists.mp hx
  rw [hx, Option.map_some] at ht
  have hview := sessionOf_updSession (f := fun x => { x with shadowView := v == 1 }) (fun _ => rfl) { s with sessions := l } rq.session
    rq.session
  rw [ht, Option.map_some, if_pos (beq_iff_eq.mpr (sessionOf_handle hx))] at hview
  exact ⟨_, _, congrArg Host.Outcome.next hrun, rfl, hview, rfl⟩

/-! ## The statement -/

/-- Settles O37, one clause per event and case. -/
theorem sessions : Obligations.Sessions := by
  refine ⟨fun role rq s hrole hadmits hlock hkey hroom => exec_sesOpen_of_room hrole hadmits hlock hkey hroom,
    fun src x s hserves hx hlen => exec_sesChallenge_of_pending hserves hx hlen,
    fun rq d key x s hadmits hx hopen hlapsed hkey hd => ?_, fun rq d key x s hadmits hx hopen hlapsed hkey hd => ?_,
    fun t x s hx hread hopen hdue => exec_challengeLapse_of_read hx hread hopen hdue,
    fun i t s hlocked hdue => exec_roleLockEnd_of_due hlocked hdue,
    fun h rq s hh hown hadmits hx => exec_sesClose_of_own hh hown hadmits hx,
    fun h x s hx hidle => ⟨_, exec_sesTimeout_of_idle hx hidle, sessionOf_endSession_self s h,
      fun g hg => sessionOf_endSession_other s hg⟩,
    fun v rq s hv hadmits hx => exec_sesView_of_session hv hadmits hx⟩
  · obtain ⟨n, sent, hexec⟩ := exec_sesResponse_of_pending hadmits hx hopen
    have hhandle := sessionOf_handle hx
    rw [← hhandle] at hx
    obtain ⟨hok, ⟨y, hy, hyopen, hyrole⟩, hfails⟩ := State.sesRespond_of_right hx hlapsed hkey hd
    rw [hhandle] at hy
    exact ⟨_, y, hexec, hok ▸ State.replied_answers .., hy, hyopen, hyrole, hfails⟩
  · obtain ⟨n, sent, hexec⟩ := exec_sesResponse_of_pending hadmits hx hopen
    obtain ⟨hauth, hended, hlock⟩ := State.sesRespond_of_wrong hlapsed hkey hd
    rw [sessionOf_handle hx] at hended
    exact ⟨_, hexec, hauth ▸ State.replied_answers .., hended, hlock⟩

end Sys2Proof.Machine

/-!
# Accesses of the dictionary, direct and over the ring (R434, R436, R468 to R472)

What a served access does is said once: a refused write, a write under a power warning, a write of a staged object, a read of a
value. A frame that brings a request for this hub alone is such an access of `asked`, and its answer leaves and is kept.
-/

namespace Sys2Proof.Machine

/-! ## Accesses (R468) -/

/-- A write that is answered at once, on a hub that stays up. -/
theorem State.doWrite_of_answered {s t : State} {q : Req} {len : Nat} {d : List Byte} {e : Err}
    (hserves : serves s q.index q.sub = true) (hwrite : s.write q len d = (t, some e)) (hhub : t.hub = s.hub) :
    s.doWrite q len d = t.answer q { err := e } := by
  unfold State.doWrite
  rw [if_pos hserves, hwrite]
  dsimp only
  rw [if_neg (hhub ▸ hub_ne_reset_of_serves hserves)]

theorem State.write_of_refused {s : State} {q : Req} {len : Nat} {d : List Byte} {e : Err} (h : writeCheck s q len d = .error e) :
    s.write q len d = (s.touch q, some e) := by
  unfold State.write
  rw [h]

theorem State.touch_pfw (s : State) (q : Req) : (s.touch q).pfw = s.pfw := by
  obtain ⟨l, hl⟩ := s.touch_eq q
  rw [hl]

/-- A power warning has every write that passes the checks answered BUSY (R558). -/
theorem State.write_of_warning {s : State} {q : Req} {len : Nat} {d : List Byte} {x : Role × ObjRow}
    (h : writeCheck s q len d = .ok x) (hpower : s.pfw.on = true) : s.write q len d = (s.touch q, some .busy) := by
  unfold State.write State.operate State.passOn
  rw [h]
  dsimp only
  rw [if_pos ((congrArg Pfw.on (s.touch_pfw q)).trans hpower)]
  dsimp only
  rw [if_neg (by simp)]

/-- The shadow set after a write of a staged object (R480). -/
def State.staged (s : State) (q : Req) (r : ObjRow) (d : List Byte) : State :=
  { s with shadow := s.shadow.put (keyOf q.index q.sub) r.dflt (valueOf r d) }

theorem State.write_of_staged {s : State} {q : Req} {len : Nat} {d : List Byte} {role : Role} {r : ObjRow}
    (h : writeCheck s q len d = .ok (role, r)) (hpower : s.pfw.on = false) (haccess : r.access = .rws) :
    s.write q len d = (((s.touch q).staged q r d).passOn s q r d (some .ok), some .ok) := by
  have hoperate : (s.touch q).operate q role r d = ((s.touch q).staged q r d, some .ok) := by
    unfold State.operate
    rw [if_neg (by rw [s.touch_pfw q, hpower]; decide), haccess] <;> rfl
  unfold State.write
  rw [h]
  dsimp only
  rw [hoperate]

/-- The object of a row that is written may be read: its access is no secret, its value is asked for whole (R464, R465). -/
theorem State.read_of_value {s : State} {q : Req} {len : Nat} {r : ObjRow} (hstanding : (standing s q false).isSome = true)
    (hindex : hasIndex q.index = true) (hr : objRow q.index q.sub = some r) (haccess : r.access ≠ .wo) (hsecret : r.secret = false)
    (hsize : r.type.size ≠ 0) (hoff : q.off = 0) (hall : r.type.size ≤ len) (hlen : len ≤ 248) :
    s.read q len = (s.touch q, { err := .ok, data := leInt r.type.size (readInt s q.rq.session r q.index q.sub) }) := by
  obtain ⟨role, hrole⟩ := Option.isSome_iff_exists.mp hstanding
  unfold State.read
  rw [hrole, hindex, hr]
  dsimp only
  rw [if_neg (by decide), if_neg (by simp [haccess, hsecret]), if_neg (by omega), if_neg hsize, if_neg (by omega),
    if_neg (by omega), if_neg (by omega)]

/-! ## Direct writes -/

theorem exec_objectWrite_of_answered {rq : Requester} {i j : Nat} {d : List Byte} {e : Err} {s t : State}
    (hserves : serves s i j = true) (hwrite : s.write { rq := rq, index := i, sub := j } d.length d = (t, some e)) (hhub : t.hub = s.hub) :
    exec (.objectWrite rq i j d) s = .next { t with resp := some (.direct, { err := e }) } := by
  refine congrArg Host.Outcome.next ?_
  rw [State.doWrite_of_answered hserves hwrite hhub, State.answer_direct _ _ _ rfl]

theorem exec_objectWrite_of_refused {rq : Requester} {i j : Nat} {d : List Byte} {e : Err} {s : State} (hserves : serves s i j = true)
    (hcheck : writeCheck s { rq := rq, index := i, sub := j } d.length d = .error e) :
    ∃ l, exec (.objectWrite rq i j d) s = .next { s with sessions := l, resp := some (.direct, { err := e }) } := by
  obtain ⟨l, hl⟩ := s.touch_eq { rq := rq, index := i, sub := j }
  refine ⟨l, (exec_objectWrite_of_answered hserves (State.write_of_refused hcheck) ?_).trans ?_⟩
  · rw [hl]
  · rw [hl]

theorem exec_objectWrite_of_warning {rq : Requester} {i j : Nat} {d : List Byte} {x : Role × ObjRow} {s : State}
    (hserves : serves s i j = true) (hpower : s.pfw.on = true)
    (hcheck : writeCheck s { rq := rq, index := i, sub := j } d.length d = .ok x) :
    ∃ l, exec (.objectWrite rq i j d) s = .next { s with sessions := l, resp := some (.direct, { err := .busy }) } := by
  obtain ⟨l, hl⟩ := s.touch_eq { rq := rq, index := i, sub := j }
  refine ⟨l, (exec_objectWrite_of_answered hserves (State.write_of_warning hcheck hpower) ?_).trans ?_⟩
  · rw [hl]
  · rw [hl]

theorem exec_objectWrite_of_staged {rq : Requester} {i j : Nat} {d : List Byte} {r : ObjRow} {s : State}
    (hadmits : admits s { rq := rq, index := i, sub := j } d = true) (hr : objRow i j = some r) (haccess : r.access = .rws) :
    ∃ u, exec (.objectWrite rq i j d) s = .next u ∧ answers u .ok ∧ u.active = s.active ∧
      u.shadow = s.shadow.put (keyOf i j) r.dflt (valueOf r d) := by
  obtain ⟨hserves, hpower, role, r', hcheck⟩ := admits_iff hadmits
  obtain ⟨hr', -⟩ := writeCheck_row hcheck
  obtain rfl : r = r' := Option.some.inj (hr.symm.trans hr')
  obtain ⟨l, hl⟩ := s.touch_eq { rq := rq, index := i, sub := j }
  obtain ⟨n, out, hpass⟩ := State.passOn_eq ((s.touch { rq := rq, index := i, sub := j }).staged { rq := rq, index := i, sub := j } r d) s
    { rq := rq, index := i, sub := j } r d (some .ok)
  have hwrite := State.write_of_staged hcheck hpower haccess
  rw [hpass, hl] at hwrite
  exact ⟨_, exec_objectWrite_of_answered hserves hwrite rfl, rfl, rfl, rfl⟩

/-! ## An RW object of the hub (R461) -/

theorem objRow_fltiCh : ∃ r, objRow OD.HUB_FLTI_CH.index OD.HUB_FLTI_CH.sub = some r ∧ r.access = .rw ∧ r.type = .u16 := by
  obtain ⟨-, -, -, -, -, -, hlines⟩ := rowKinds
  obtain ⟨r, hr, haccess, htype, -⟩ := objRow_of_kind hlines
  exact ⟨r, hr, haccess, htype⟩

/-- `HUB_FLTI_CH` waits for the next tick. -/
theorem State.writeRw_fltiCh (s : State) (rq : Requester) (v : Int) : s.writeRw (orderOf rq OD.HUB_FLTI_CH 0) v =
    ({ s with rwNext := s.rwNext ++ [(OD.HUB_FLTI_CH.key 0, v)] }, .ok) := by
  have hkey : keyOf (orderOf rq OD.HUB_FLTI_CH 0).index (orderOf rq OD.HUB_FLTI_CH 0).sub = OD.HUB_FLTI_CH.key 0 := rfl
  have htick : atNextTick (orderOf rq OD.HUB_FLTI_CH 0).index = true := rfl
  unfold State.writeRw
  dsimp only
  rw [hkey, if_neg (by decide), if_neg (by decide), if_neg (by decide), if_pos htick]

theorem exec_objectWrite_fltiCh {rq : Requester} {v : Nat} {s : State} (hv : v < 65536)
    (hadmits : admitsOrder s rq OD.HUB_FLTI_CH 0 v = true) :
    ∃ u, exec (.objectWrite rq OD.HUB_FLTI_CH.index OD.HUB_FLTI_CH.sub (objBytes OD.HUB_FLTI_CH.index OD.HUB_FLTI_CH.sub v)) s =
        .next u ∧ answers u .ok ∧ u.active = s.active ∧ u.rwNext = s.rwNext ++ [(OD.HUB_FLTI_CH.key 0, (v : Int))] := by
  obtain ⟨-, hpower, -⟩ := admits_iff hadmits
  obtain ⟨r, hr, haccess, htype⟩ := objRow_fltiCh
  have hvalue : valueOf r (objBytes OD.HUB_FLTI_CH.index OD.HUB_FLTI_CH.sub v) = v :=
    valueOf_objBytes hr (by rw [htype]; rfl) (by rw [htype]; exact hv)
  obtain ⟨l, hl⟩ := State.touch_eq s (orderOf rq OD.HUB_FLTI_CH 0)
  obtain ⟨role, -, hdone⟩ := State.doWrite_eq (q := orderOf rq OD.HUB_FLTI_CH 0) hadmits hr
  have hoperate : (s.touch (orderOf rq OD.HUB_FLTI_CH 0)).operate (orderOf rq OD.HUB_FLTI_CH 0) role r
      (objBytes OD.HUB_FLTI_CH.index OD.HUB_FLTI_CH.sub v) =
      ({ s with sessions := l, rwNext := s.rwNext ++ [(OD.HUB_FLTI_CH.key 0, (v : Int))] }, some .ok) := by
    rw [hl]
    unfold State.operate
    rw [if_neg (by rw [hpower]; decide), haccess]
    dsimp only
    rw [hvalue, State.writeRw_fltiCh]
  obtain ⟨n, sent, a, hfinish, hanswer⟩ := State.finish_eq
    ({ s with sessions := l, rwNext := s.rwNext ++ [(OD.HUB_FLTI_CH.key 0, (v : Int))] }, Err.ok) s (orderOf rq OD.HUB_FLTI_CH 0) r
    (objBytes OD.HUB_FLTI_CH.index OD.HUB_FLTI_CH.sub v) rfl
  obtain ⟨hserves, -⟩ := admits_iff hadmits
  refine ⟨_, congrArg Host.Outcome.next ((hdone (_, Err.ok) hoperate).trans hfinish), ?_, rfl, rfl⟩
  exact hanswer (hub_ne_reset_of_serves hserves)

/-! ## Requests that arrive (R434, R436) -/

theorem asks_iff {s : State} {k : KPort} {f : Frame} {type : Nat} (h : asks s k f type = true) :
    heard s k f = true ∧ f.type = type ∧ (f.dst = s.ring.addr ∧ f.dst ≠ 0xFFF) ∧ 9 ≤ f.payload.length ∧
      (s.ring.kept.find? fun m => m.src == f.src && m.seq == f.seq) = none ∧ serves s (askOf f).index (askOf f).sub = true := by
  simp only [asks, Bool.and_eq_true, beq_iff_eq, bne_iff_ne, decide_eq_true_eq, Bool.not_eq_true'] at h
  obtain ⟨⟨⟨⟨⟨⟨hheard, htype⟩, hdst⟩, hone⟩, hlen⟩, hnew⟩, hserves⟩ := h
  refine ⟨hheard, htype, ⟨hdst, hone⟩, hlen, List.find?_eq_none.mpr fun m hm => ?_, hserves⟩
  have hno := List.any_eq_false.mp hnew m hm
  exact hno

theorem unknownFrame_of_request {f : Frame} (h : f.type = 2 ∨ f.type = 3) : unknownFrame f = false := by
  rcases h with h | h <;> simp [unknownFrame, h]

/-- A frame with the address of this hub is for it, however many code violations came before. -/
theorem forMe_codeErrs {s : State} {f : Frame} (n : Nat) (hdst : f.dst = s.ring.addr) (hone : f.dst ≠ 0xFFF) :
    forMe (s.codeErrs n) f = true := by
  obtain ⟨m, hm⟩ := s.codeErrs_eq n
  rw [hm]
  unfold forMe
  rw [if_neg hone]
  exact beq_iff_eq.mpr hdst

/-- A new request for this hub alone is remembered and executed. -/
theorem State.requestIn_of_new {s : State} {f : Frame} (hone : f.dst ≠ 0xFFF) (hlen : 9 ≤ f.payload.length)
    (hnew : (s.ring.kept.find? fun m => m.src == f.src && m.seq == f.seq) = none)
    (hserves : serves s (askOf f).index (askOf f).sub = true) : (s.codeErrs f.violations).requestIn f =
      (asked s f).request f.type (askOf f) f.payload := by
  obtain ⟨m, hm⟩ := s.codeErrs_eq f.violations
  have hserves' : serves { s with status := m } (requestOf f.src (.ring f.src f.seq) f.payload).index
      (requestOf f.src (.ring f.src f.seq) f.payload).sub = true := hserves
  unfold asked
  rw [hm]
  unfold State.requestIn
  rw [if_neg (by omega)]
  dsimp only
  rw [hnew]
  dsimp only
  rw [hserves', if_neg (by decide), if_neg hone]
  rfl

/-- A repeat of a request gets the response that was kept. -/
theorem State.requestIn_of_repeat {s : State} {f : Frame} {m : Kept} {b : List Byte} (hlen : 9 ≤ f.payload.length)
    (hkept : (s.ring.kept.find? fun m => m.src == f.src && m.seq == f.seq) = some m) (hanswered : m.answered = some b) :
    (s.codeErrs f.violations).requestIn f = (s.codeErrs f.violations).sendOwn 4 f.seq f.src b := by
  obtain ⟨x, hx⟩ := s.codeErrs_eq f.violations
  rw [hx]
  unfold State.requestIn
  rw [if_neg (by omega)]
  dsimp only
  rw [hkept]
  dsimp only
  rw [hanswered]

/-- A heard OD_READ for this hub alone is taken as a request. -/
theorem exec_odRead_of_heard {k : KPort} {f : Frame} {s : State} (hheard : heard s k f = true) (htype : f.type = 2)
    (hdst : f.dst = s.ring.addr) (hone : f.dst ≠ 0xFFF) :
    exec (.odRead k f) s = .next ((s.codeErrs f.violations).requestIn f) := by
  refine congrArg Host.Outcome.next ((State.take__of_heard _ hheard (unknownFrame_of_request (.inl htype))).trans ?_)
  exact if_pos ⟨htype, forMe_codeErrs f.violations hdst hone, hone⟩

theorem exec_odWrite_of_heard {k : KPort} {f : Frame} {s : State} (hheard : heard s k f = true) (htype : f.type = 3)
    (hdst : f.dst = s.ring.addr) (hone : f.dst ≠ 0xFFF) :
    exec (.odWrite k f) s = .next ((s.codeErrs f.violations).requestIn f) := by
  refine congrArg Host.Outcome.next ((State.take__of_heard _ hheard (unknownFrame_of_request (.inr htype))).trans ?_)
  exact if_pos ⟨htype, forMe_codeErrs f.violations hdst hone⟩

theorem exec_odRead_of_asks {k : KPort} {f : Frame} {s : State} (h : asks s k f 2 = true) :
    exec (.odRead k f) s = .next ((asked s f).doRead (askOf f) (fieldAt f.payload 7 2)) := by
  obtain ⟨hheard, htype, ⟨hdst, hone⟩, hlen, hnew, hserves⟩ := asks_iff h
  rw [exec_odRead_of_heard hheard htype hdst hone, State.requestIn_of_new hone hlen hnew hserves]
  exact congrArg Host.Outcome.next (if_pos htype)

theorem exec_odWrite_of_asks {k : KPort} {f : Frame} {s : State} (h : asks s k f 3 = true) :
    exec (.odWrite k f) s = .next ((asked s f).doWrite (askOf f) (fieldAt f.payload 7 2) (f.payload.drop 9)) := by
  obtain ⟨hheard, htype, ⟨hdst, hone⟩, hlen, hnew, hserves⟩ := asks_iff h
  rw [exec_odWrite_of_heard hheard htype hdst hone, State.requestIn_of_new hone hlen hnew hserves]
  exact congrArg Host.Outcome.next (if_neg (by omega))

/-- A broadcast read is discarded (R436). -/
theorem exec_odRead_of_broadcast {k : KPort} {f : Frame} {s : State} (hheard : heard s k f = true) (htype : f.type = 2)
    (hdst : f.dst = 0xFFF) : exec (.odRead k f) s = .next (s.codeErrs f.violations) := by
  refine congrArg Host.Outcome.next ((State.take__of_heard _ hheard (unknownFrame_of_request (.inl htype))).trans ?_)
  exact if_neg fun h => h.2.2 hdst

/-! ## The answer to a frame -/

/-- `asked` adds to the status values and to what is kept. -/
theorem asked_eq (s : State) (f : Frame) : ∃ m, asked s f =
    { s with status := m, ring := { s.ring with kept := remember s.ring.kept f.src f.seq } } := by
  obtain ⟨m, hm⟩ := s.codeErrs_eq f.violations
  refine ⟨m, ?_⟩
  unfold asked
  rw [hm]

theorem serves_asked {s : State} {k : KPort} {f : Frame} {type : Nat} (h : asks s k f type = true) :
    serves (asked s f) (askOf f).index (askOf f).sub = true := by
  obtain ⟨-, -, -, -, -, hserves⟩ := asks_iff h
  obtain ⟨m, hm⟩ := asked_eq s f
  rw [hm]
  exact hserves

/-- The answer to a frame is recorded, kept for a repeat, and sent. -/
theorem State.answer_askOf (s : State) (f : Frame) (a : Answer) : ∃ l, s.answer (askOf f) a =
    { s with resp := some (.ring f.src f.seq, a), out := l,
             ring := { s.ring with kept := keepResp s.ring.kept f.src f.seq (respPayload (askOf f) a) } } ∧
      l = (s.sendOwn 4 f.seq f.src (respPayload (askOf f) a)).out := by
  have hvia : (askOf f).via = .ring f.src f.seq := rfl
  unfold State.answer
  rw [hvia]
  dsimp only
  obtain ⟨l, hl⟩ := State.sendOwn_eq { s with resp := some (.ring f.src f.seq, a), ring := { s.ring with
    kept := keepResp s.ring.kept f.src f.seq (respPayload (askOf f) a) } } 4 f.seq f.src (respPayload (askOf f) a)
  refine ⟨l, hl, ?_⟩
  refine (congrArg State.out hl).symm.trans ?_
  simp only [State.sendOwn, State.sendOn_out]
  rfl

/-- The request that is remembered last is the one that the answer is kept for. -/
theorem mem_keepResp_remember (l : List Kept) (src seq : Nat) (b : List Byte) :
    { src := src, seq := seq, answered := some b } ∈ keepResp (remember l src seq) src seq b := by
  refine List.mem_map.mpr ⟨{ src := src, seq := seq }, List.mem_append_right _ (List.mem_singleton_self _), ?_⟩
  simp

theorem keptAnswer_answer {s t : State} {f : Frame} (a : Answer) (hkept : t.ring.kept = (asked s f).ring.kept) :
    keptAnswer (t.answer (askOf f) a) f a := by
  obtain ⟨l, hl, -⟩ := t.answer_askOf f a
  obtain ⟨m, hm⟩ := asked_eq s f
  rw [hm] at hkept
  rw [hl]
  refine ⟨rfl, { src := f.src, seq := f.seq, answered := some (respPayload (askOf f) a) }, ?_, rfl, rfl, rfl⟩
  dsimp only at hkept ⊢
  rw [hkept]
  exact mem_keepResp_remember ..

/-- What an answer sends depends on the hub's place on the ring alone, which neither an access of the sessions nor one of the
shadow set moves. -/
theorem sendOwn_out_asked (s : State) (f : Frame) (l : List Session) (c : Store) (type seq dst : Nat) (b : List Byte) :
    ((State.sendOwn { asked s f with sessions := l, shadow := c } type seq dst b).out = (s.sendOwn type seq dst b).out) := by
  obtain ⟨m, hm⟩ := asked_eq s f
  rw [hm]
  simp only [State.sendOwn, State.sendOn_out]
  rfl

/-! ## OD_READ and OD_WRITE of a value -/

section
variable {k : KPort} {f : Frame} {r : ObjRow} {s : State}

theorem exec_odRead_of_value (hasks : asks s k f 2 = true) (hstanding : (standing (asked s f) (askOf f) false).isSome = true)
    (hindex : hasIndex (askOf f).index = true) (hr : objRow (askOf f).index (askOf f).sub = some r) (haccess : r.access ≠ .wo)
    (hsecret : r.secret = false) (hsize : r.type.size ≠ 0) (hoff : (askOf f).off = 0) (hall : r.type.size ≤ fieldAt f.payload 7 2)
    (hlen : fieldAt f.payload 7 2 ≤ 248) {a : Answer}
    (ha : a = { err := .ok, data := leInt r.type.size (readInt (asked s f) (askOf f).rq.session r (askOf f).index (askOf f).sub) }) :
    ∃ u, exec (.odRead k f) s = .next u ∧ keptAnswer u f a ∧ u.out = (s.sendOwn 4 f.seq f.src (respPayload (askOf f) a)).out ∧
      u.active = s.active ∧ u.shadow = s.shadow ∧ u.pods = s.pods ∧ u.ports = s.ports := by
  have hdone : (asked s f).doRead (askOf f) (fieldAt f.payload 7 2) = ((asked s f).touch (askOf f)).answer (askOf f) a := by
    unfold State.doRead
    rw [if_pos (serves_asked hasks), State.read_of_value hstanding hindex hr haccess hsecret hsize hoff hall hlen, ha]
  obtain ⟨l, hl⟩ := State.touch_eq (asked s f) (askOf f)
  obtain ⟨m, hm⟩ := asked_eq s f
  obtain ⟨sent, hsent, hout⟩ := State.answer_askOf ((asked s f).touch (askOf f)) f a
  refine ⟨_, (exec_odRead_of_asks hasks).trans (congrArg Host.Outcome.next hdone), keptAnswer_answer a (by rw [hl]), ?_, ?_⟩
  · rw [hsent]
    refine hout.trans ?_
    rw [hl]
    exact sendOwn_out_asked s f l (asked s f).shadow ..
  · rw [hsent, hl, hm]
    exact ⟨rfl, rfl, rfl, rfl⟩

theorem exec_odWrite_of_staged {role : Role} (hasks : asks s k f 3 = true) (hpower : s.pfw.on = false)
    (hcheck : writeCheck (asked s f) (askOf f) (fieldAt f.payload 7 2) (f.payload.drop 9) = .ok (role, r)) (haccess : r.access = .rws) :
    ∃ u, exec (.odWrite k f) s = .next u ∧ keptAnswer u f { err := .ok } ∧ u.active = s.active ∧
      u.shadow = s.shadow.put (keyOf (askOf f).index (askOf f).sub) r.dflt (valueOf r (f.payload.drop 9)) ∧
      (mirrored (asked s f) (askOf f) r = false →
        u.out = (s.sendOwn 4 f.seq f.src (respPayload (askOf f) { err := .ok })).out) := by
  obtain ⟨l, hl⟩ := State.touch_eq (asked s f) (askOf f)
  obtain ⟨m, hm⟩ := asked_eq s f
  have hpower' : (asked s f).pfw.on = false := by rw [hm]; exact hpower
  have hwrite := State.write_of_staged hcheck hpower' haccess
  obtain ⟨n, out, hpass⟩ := State.passOn_eq (((asked s f).touch (askOf f)).staged (askOf f) r (f.payload.drop 9)) (asked s f) (askOf f) r
    (f.payload.drop 9) (some .ok)
  have hhub : ((((asked s f).touch (askOf f)).staged (askOf f) r (f.payload.drop 9)).passOn (asked s f) (askOf f) r (f.payload.drop 9)
      (some .ok)).hub = (asked s f).hub := by
    rw [hpass, hl]
    rfl
  have hdone := State.doWrite_of_answered (serves_asked hasks) hwrite hhub
  refine ⟨_, (exec_odWrite_of_asks hasks).trans (congrArg Host.Outcome.next hdone), ?_, ?_, ?_, fun hmirror => ?_⟩
  · refine keptAnswer_answer (s := s) { err := .ok } ?_
    rw [hpass, hl]
    rfl
  · obtain ⟨sent, hsent, -⟩ := State.answer_askOf ((((asked s f).touch (askOf f)).staged (askOf f) r (f.payload.drop 9)).passOn (asked s f)
      (askOf f) r (f.payload.drop 9) (some .ok)) f { err := .ok }
    rw [hsent, hpass, hl, hm]
    rfl
  · obtain ⟨sent, hsent, -⟩ := State.answer_askOf ((((asked s f).touch (askOf f)).staged (askOf f) r (f.payload.drop 9)).passOn (asked s f)
      (askOf f) r (f.payload.drop 9) (some .ok)) f { err := .ok }
    rw [hsent, hpass, hl, hm]
    rfl
  · have hstay : (((asked s f).touch (askOf f)).staged (askOf f) r (f.payload.drop 9)).passOn (asked s f) (askOf f) r (f.payload.drop 9)
        (some .ok) = ((asked s f).touch (askOf f)).staged (askOf f) r (f.payload.drop 9) := by
      unfold State.passOn
      rw [hmirror, if_neg (by simp)]
    rw [hstay]
    obtain ⟨sent, hsent, hout⟩ := State.answer_askOf (((asked s f).touch (askOf f)).staged (askOf f) r (f.payload.drop 9)) f { err := .ok }
    rw [hsent]
    refine hout.trans ?_
    rw [hl]
    exact sendOwn_out_asked s f l _ ..

theorem exec_odWrite_of_refused {e : Err} (hasks : asks s k f 3 = true)
    (hcheck : writeCheck (asked s f) (askOf f) (fieldAt f.payload 7 2) (f.payload.drop 9) = .error e) :
    ∃ u, exec (.odWrite k f) s = .next u ∧ keptAnswer u f { err := e } ∧
      u.out = (s.sendOwn 4 f.seq f.src (respPayload (askOf f) { err := e })).out ∧ u.active = s.active ∧ u.shadow = s.shadow ∧
      u.pods = s.pods ∧ u.ports = s.ports := by
  obtain ⟨l, hl⟩ := State.touch_eq (asked s f) (askOf f)
  obtain ⟨m, hm⟩ := asked_eq s f
  have hdone := State.doWrite_of_answered (serves_asked hasks) (State.write_of_refused hcheck) (by rw [hl])
  obtain ⟨sent, hsent, hout⟩ := State.answer_askOf ((asked s f).touch (askOf f)) f { err := e }
  refine ⟨_, (exec_odWrite_of_asks hasks).trans (congrArg Host.Outcome.next hdone), keptAnswer_answer _ (by rw [hl]), ?_, ?_⟩
  · rw [hsent]
    refine hout.trans ?_
    rw [hl]
    exact sendOwn_out_asked s f l (asked s f).shadow ..
  · rw [hsent, hl, hm]
    exact ⟨rfl, rfl, rfl, rfl⟩

end

/-! ## The statements -/

/-- Settles O29, one clause per request and response. -/
theorem ringRequests : Obligations.RingRequests := by
  refine ⟨fun k f r a s hasks hstanding hindex hr haccess hsecret hsize hoff hall hlen ha =>
      exec_odRead_of_value hasks hstanding hindex hr haccess hsecret hsize hoff hall hlen ha,
    fun k f role r s hasks hpower hcheck haccess => exec_odWrite_of_staged hasks hpower hcheck haccess,
    fun k f e s hasks hcheck => exec_odWrite_of_refused hasks hcheck,
    fun k f m b s hheard hdst hone hlen hkept hanswered => ⟨fun htype => ?_, fun htype => ?_⟩,
    fun k f s hheard htype hdst => exec_odRead_of_broadcast hheard htype hdst,
    fun k f x s hheard htype hdst hsent => ?_⟩
  · rw [exec_odRead_of_heard hheard htype hdst hone, State.requestIn_of_repeat hlen hkept hanswered]
  · rw [exec_odWrite_of_heard hheard htype hdst hone, State.requestIn_of_repeat hlen hkept hanswered]
  · obtain ⟨m, hm⟩ := s.codeErrs_eq f.violations
    refine ⟨_, exec_odResp_of_sentFor hheard htype hdst hsent, ?_⟩
    simp only [State.sentDone_sent, State.sentDone_items, hm, and_self]

/-- A session that reads the active set reads a staged object there (R470, R479). -/
theorem readInt_of_active {s : State} {h i j : Nat} {r : ObjRow} (haccess : r.access = .rws) (hmask : r.mask = none)
    (hview : sessionOf s h = none) : readInt s h r i j = (s.active.find (keyOf i j)).getD r.dflt := by
  unfold readInt
  rw [haccess, hview, hmask]
  rfl

/-- Settles O40, one clause per outcome of an access. -/
theorem objectWrites : Obligations.ObjectWrites := by
  refine ⟨fun rq i j d s hserves => ?_, fun rq i j d e s hserves hcheck => ?_, fun rq i j d x s hserves hpower hcheck => ?_,
    fun rq i j d r s hadmits hr haccess => exec_objectWrite_of_staged hadmits hr haccess,
    fun rq v s hv hadmits => exec_objectWrite_fltiCh hv hadmits,
    fun k f r s hasks hsession hindex hr haccess hsecret hmask hsize hoff hall hlen hview => ?_,
    fun k f role r s hasks hpower hcheck haccess => ?_⟩
  · exact congrArg Host.Outcome.next (if_neg (by rw [hserves]; decide))
  · obtain ⟨l, hexec⟩ := exec_objectWrite_of_refused hserves hcheck
    exact ⟨_, hexec, rfl, rfl, rfl, rfl, rfl, rfl⟩
  · obtain ⟨l, hexec⟩ := exec_objectWrite_of_warning hserves hpower hcheck
    exact ⟨_, hexec, rfl, rfl, rfl⟩
  · obtain ⟨m, hm⟩ := asked_eq s f
    have hstanding : (standing (asked s f) (askOf f) false).isSome = true := by
      unfold standing
      rw [if_pos hsession] <;> rfl
    have hvalue : readInt (asked s f) (askOf f).rq.session r (askOf f).index (askOf f).sub =
        (s.active.find (keyOf (askOf f).index (askOf f).sub)).getD r.dflt := by
      rw [hsession, hm]
      exact readInt_of_active (s := { s with status := m, ring := { s.ring with kept := remember s.ring.kept f.src f.seq } }) haccess
        hmask hview
    obtain ⟨u, hexec, ⟨hresp, -⟩, -, hactive, hshadow, -⟩ := exec_odRead_of_value hasks hstanding hindex hr (by rw [haccess]; decide)
      hsecret hsize hoff hall hlen rfl
    exact ⟨u, hexec, hactive, hshadow, hvalue ▸ hresp⟩
  · obtain ⟨u, hexec, ⟨hresp, -⟩, hactive, hshadow, -⟩ := exec_odWrite_of_staged hasks hpower hcheck haccess
    exact ⟨u, hexec, hresp, hactive, hshadow⟩

end Sys2Proof.Machine

/-!
# The head's SPI port (R456 to R460)
-/

namespace Sys2Proof.Machine

/-! ## A transfer (R457) -/

/-- A transfer with a good CRC has begun. -/
def State.spiReply (s : State) (sdo : List Byte) : State :=
  { s with spi := { s.spi with badCrc := false, refused := false, sdo := sdo } }

/-- A transfer has ended, refused or not. -/
def State.spiEnd (x : State × Bool) : State := { x.1 with spi := { x.1.spi with refused := x.2 } }

theorem State.transfer_of_good {s : State} {op : Nat} {body data : List Byte} {act : State → State × Bool} (hon : spiOn s = true) :
    s.transfer op body (crc16 (spiBytes op body)) data act = State.spiEnd (act (s.spiReply (sdoBytes s (4 + body.length) data))) := by
  unfold State.transfer
  rw [hon, if_neg (by decide), if_pos rfl]
  rfl

/-- A transfer with a bad CRC is discarded and counted. -/
theorem State.transfer_of_bad {s : State} {op crc : Nat} {body data : List Byte} {act : State → State × Bool} (hon : spiOn s = true)
    (hcrc : crc ≠ crc16 (spiBytes op body)) : ∃ m, s.transfer op body crc data act =
      { s with status := m, spi := { s.spi with badCrc := true, refused := false, sdo := sdoBytes s (4 + body.length) [] } } := by
  unfold State.transfer
  rw [hon, if_neg (by decide), if_neg hcrc]
  exact ⟨_, rfl⟩

theorem exec_of_badCrc {i : Instr} {op crc : Nat} {body : List Byte} {s : State} (hon : spiOn s = true)
    (htransfer : transferOf i = some (op, body, crc)) (hcrc : crc ≠ crc16 (spiBytes op body)) : ∃ m, exec i s =
      .next { s with status := m, spi := { s.spi with badCrc := true, refused := false, sdo := sdoBytes s (4 + body.length) [] } } := by
  have hbad {data : List Byte} {act : State → State × Bool} := State.transfer_of_bad (data := data) (act := act) hon hcrc
  unfold transferOf at htransfer
  split at htransfer
  case h_6 => cases htransfer
  all_goals
    simp only [Option.some.injEq, Prod.mk.injEq] at htransfer
    obtain ⟨rfl, rfl, rfl⟩ := htransfer
    obtain ⟨m, hm⟩ := hbad
    exact ⟨m, congrArg Host.Outcome.next hm⟩

/-! ## SUBMIT (R458, R459) -/

theorem submitRoom_spiReply (s : State) (sdo : List Byte) : submitRoom (s.spiReply sdo) = submitRoom s := rfl

/-- A submission waits for its response; `l` has been sent. -/
def State.submitted (s : State) (x : Sent) (l : List RingOut) : State :=
  { s with out := l, ring := { s.ring with seq := (s.ring.seq + 1) % 256, sent := s.ring.sent ++ [x] } }

/-- A submission to another hub leaves, and waits for its response. -/
theorem State.submit_of_room {s : State} {type tag dst : Nat} {p : List Byte} (hroom : submitRoom s = true)
    (htype : type = 2 ∨ type = 3) (hlow : 9 ≤ p.length) (hhigh : p.length ≤ 256) (hhub : s.hub ≠ .boot) (hdst : dst ≠ 0)
    (hone : dst ≠ 0xFFF) : ∃ f l, s.submit type tag dst p = (s.submitted { tag := tag, frame := f, at_ := s.now } l, false) ∧
      f.type = type ∧ f.dst = dst ∧ f.payload = p ∧ f.seq = s.ring.seq := by
  obtain ⟨l, hl⟩ := s.nextSeq.sendOwn_eq type s.ring.seq dst p
  refine ⟨{ type := type, seq := s.ring.seq, dst := dst, src := 0, len := p.length, payload := p }, l, ?_, rfl, rfl, rfl, rfl⟩
  unfold State.submit
  dsimp only
  rw [hroom, if_neg (by decide), if_neg (by omega), if_neg (fun h => hhub h.1), if_neg hdst, if_neg hone, hl]
  rfl

theorem exec_submit_of_room {type tag dst : Nat} {p : List Byte} {s : State} (hon : spiOn s = true) (hroom : submitRoom s = true)
    (htype : type = 2 ∨ type = 3) (hlow : 9 ≤ p.length) (hhigh : p.length ≤ 256) (hhub : s.hub ≠ .boot) (hdst : dst ≠ 0)
    (hone : dst ≠ 0xFFF) : ∃ u f, exec (.submit type tag dst p (crc16 (spiBytes 1 (submitBody type tag dst p)))) s = .next u ∧
      u.spi.refused = false ∧ u.ring.sent = s.ring.sent ++ [{ tag := tag, frame := f, at_ := s.now }] ∧ f.type = type ∧
      f.dst = dst ∧ f.payload = p ∧ f.seq = s.ring.seq := by
  obtain ⟨f, l, hsubmit, hframe⟩ := State.submit_of_room (s := s.spiReply (sdoBytes s (4 + (submitBody type tag dst p).length) []))
    (tag := tag) hroom htype hlow hhigh hhub hdst hone
  refine ⟨_, f, congrArg Host.Outcome.next ((State.transfer_of_good hon).trans (congrArg State.spiEnd hsubmit)), rfl, rfl, hframe⟩

theorem State.submit_of_full {s : State} {type tag dst : Nat} {p : List Byte} (hroom : submitRoom s = false) :
    s.submit type tag dst p = (s, true) := by
  unfold State.submit
  dsimp only
  rw [hroom, if_pos (by decide)]

theorem exec_submit_of_full {type tag dst : Nat} {p : List Byte} {s : State} (hon : spiOn s = true) (hroom : submitRoom s = false) :
    ∃ u, exec (.submit type tag dst p (crc16 (spiBytes 1 (submitBody type tag dst p)))) s = .next u ∧ u.spi.refused = true ∧
      u.ring = s.ring := by
  have hsubmit := State.submit_of_full (s := s.spiReply (sdoBytes s (4 + (submitBody type tag dst p).length) [])) (type := type)
    (tag := tag) (dst := dst) (p := p) hroom
  exact ⟨_, congrArg Host.Outcome.next ((State.transfer_of_good hon).trans (congrArg State.spiEnd hsubmit)), rfl, rfl⟩

/-! ## FETCH (R458, R459) -/

/-- The oldest item is read; it leaves the queue where all its bytes were clocked. -/
theorem exec_fetch_of_items {full : Bool} {x : Item} {rest : List Item} {s : State} (hon : spiOn s = true)
    (hitems : s.spi.items = x :: rest) : ∃ u, exec (.fetch (crc16 (spiBytes 2 [])) full) s = .next u ∧
      u.spi.sdo = sdoBytes s 4 (itemBytes x) ∧
      (if full then u.spi.items = rest ∧ u.spi.last = some x else u.spi.items = x :: rest) := by
  have hdata : itemData s.spi.items.head? = itemBytes x := by rw [hitems]; rfl
  refine ⟨_, congrArg Host.Outcome.next (State.transfer_of_good hon), ?_⟩
  have hreply : (s.spiReply (sdoBytes s (4 + ([] : List Byte).length) (itemData s.spi.items.head?))).spi.items = x :: rest := hitems
  rw [hdata] at hreply ⊢
  dsimp only
  rw [hreply]
  cases full with
  | true => exact ⟨rfl, rfl, rfl⟩
  | false => exact ⟨rfl, hreply⟩

/-! ## The bytes of a transfer (R457, R458) -/

/-- The bytes of a number that fits its field spell it there. -/
theorem fieldAt_append {a b : List Byte} {i n x : Nat} (hi : a.length = i) (hx : x < 256 ^ n) :
    fieldAt (a ++ leBytes n x ++ b) i n = x := by
  have hfield : ((a ++ leBytes n x ++ b).drop i).take n = leBytes n x := by
    rw [List.append_assoc, List.drop_left' hi, List.take_left' (length_leBytes n x)]
  rw [fieldAt, hfield, ofLe_leBytes, Nat.mod_eq_of_lt hx]

/-- The fields of a transfer. -/
theorem spiBytes_fields {op crc : Nat} {body l : List Byte} (hl : l = spiBytes op body ++ leBytes 2 crc) (hop : op < 256)
    (hbody : body.length < 65536) (hcrc : crc < 65536) : fieldAt l 0 1 = op ∧ fieldAt l 1 2 = body.length ∧
      (l.drop 3).take body.length = body ∧ fieldAt l (3 + body.length) 2 = crc ∧ l.length = 5 + body.length := by
  have hhead : (leBytes 1 op ++ leBytes 2 body.length).length = 3 := rfl
  refine ⟨?_, ?_, ?_, ?_, ?_⟩
  · have h := fieldAt_append (a := []) (b := leBytes 2 body.length ++ body ++ leBytes 2 crc) (i := 0) (n := 1) rfl hop
    rw [hl, spiBytes]
    simpa only [List.nil_append, List.append_assoc] using h
  · have h := fieldAt_append (a := leBytes 1 op) (b := body ++ leBytes 2 crc) (i := 1) (n := 2) rfl hbody
    rw [hl, spiBytes]
    simpa only [List.append_assoc] using h
  · rw [hl, spiBytes, List.append_assoc, List.drop_left' hhead, List.take_left' rfl]
  · have h := fieldAt_append (a := leBytes 1 op ++ leBytes 2 body.length ++ body) (b := []) (n := 2)
      (i := 3 + body.length) (by rw [List.length_append, hhead]) hcrc
    rw [List.append_nil] at h
    rw [hl, spiBytes]
    exact h
  · rw [hl, spiBytes, List.length_append, List.length_append, hhead, length_leBytes]
    omega

/-- The command that OP and BODY of a whole transfer spell (R458). -/
def spiCommand (full : Bool) (op : Nat) (body : List Byte) (crc : Nat) : Option Instr :=
  match op with
  | 1 => if 4 ≤ body.length then
      some (.submit (fieldAt body 0 1) (fieldAt body 1 1) (fieldAt body 2 2) (body.drop 4) crc) else none
  | 2 => if body.length = 0 then some (.fetch crc full) else none
  | 3 => if body.length = 0 then some (.refetch crc) else none
  | 4 => if body.length = 0 then some (.status crc) else none
  | 5 => if body.length = 2 then some (.irqAck (fieldAt body 0 2) crc) else none
  | _ => none

theorem spiCommand_submit (full : Bool) {body : List Byte} (crc : Nat) (h : 4 ≤ body.length) : spiCommand full 1 body crc =
    some (.submit (fieldAt body 0 1) (fieldAt body 1 1) (fieldAt body 2 2) (body.drop 4) crc) := if_pos h

theorem spiCommand_irqAck (full : Bool) {body : List Byte} (crc : Nat) (h : body.length = 2) : spiCommand full 5 body crc =
    some (.irqAck (fieldAt body 0 2) crc) := if_pos h

theorem decodeTransfer_spiBytes {op crc : Nat} {body : List Byte} (full : Bool) (hop : op < 256) (hbody : body.length < 65536)
    (hcrc : crc < 65536) : decodeTransfer full (spiBytes op body ++ leBytes 2 crc) = spiCommand full op body crc := by
  obtain ⟨hop', hlen, hbody', hcrc', hall⟩ := spiBytes_fields rfl hop hbody hcrc
  unfold decodeTransfer
  dsimp only
  rw [hlen, hop', hbody', hcrc', if_neg (by omega)] <;> rfl

theorem decodeTransfer_submit {type tag dst crc : Nat} {p : List Byte} (full : Bool) (htype : type < 256) (htag : tag < 256)
    (hdst : dst < 65536) (hp : p.length ≤ 256) (hcrc : crc < 65536) :
    decodeTransfer full (spiBytes 1 (submitBody type tag dst p) ++ leBytes 2 crc) = some (.submit type tag dst p crc) := by
  have hhead : (leBytes 1 type ++ leBytes 1 tag ++ leBytes 2 dst).length = 4 := rfl
  have hlen : (submitBody type tag dst p).length = 4 + p.length := by rw [submitBody, List.length_append, hhead]
  have hfields : fieldAt (submitBody type tag dst p) 0 1 = type ∧ fieldAt (submitBody type tag dst p) 1 1 = tag ∧
      fieldAt (submitBody type tag dst p) 2 2 = dst ∧ (submitBody type tag dst p).drop 4 = p := by
    refine ⟨?_, ?_, ?_, List.drop_left' hhead⟩
    · have h := fieldAt_append (a := []) (b := leBytes 1 tag ++ leBytes 2 dst ++ p) (n := 1) rfl htype
      exact h
    · have h := fieldAt_append (a := leBytes 1 type) (b := leBytes 2 dst ++ p) (n := 1) rfl htag
      exact h
    · have h := fieldAt_append (a := leBytes 1 type ++ leBytes 1 tag) (b := p) (n := 2) rfl hdst
      exact h
  obtain ⟨htype', htag', hdst', hp'⟩ := hfields
  rw [decodeTransfer_spiBytes full (by decide) (by omega) hcrc, spiCommand_submit full crc (by omega), htype', htag', hdst', hp']

theorem decodeTransfer_irqAck {mask crc : Nat} (full : Bool) (hmask : mask < 65536) (hcrc : crc < 65536) :
    decodeTransfer full (spiBytes 5 (leBytes 2 mask) ++ leBytes 2 crc) = some (.irqAck mask crc) := by
  have h := fieldAt_append (a := []) (b := []) (i := 0) (n := 2) rfl hmask
  rw [List.append_nil, List.nil_append] at h
  rw [decodeTransfer_spiBytes full (by decide) (by rw [length_leBytes]; decide) hcrc, spiCommand_irqAck full crc (length_leBytes ..), h]

/-! ## The statement -/

/-- Settles O31, one clause per operation, its refusal, its bad CRC and its bytes. -/
theorem spiTransfers : Obligations.SpiTransfers := by
  refine ⟨fun type tag dst p s hon hroom htype hlow hhigh hhub hdst hone =>
      exec_submit_of_room hon hroom htype hlow hhigh hhub hdst hone,
    fun type tag dst p s hon hroom => exec_submit_of_full hon hroom, fun x rest s hon hitems => ?_, fun x rest s hon hitems => ?_,
    fun x s hon hlast => ?_, fun s hon => ⟨_, congrArg Host.Outcome.next (State.transfer_of_good hon), rfl, rfl⟩,
    fun mask s hon => ⟨_, congrArg Host.Outcome.next (State.transfer_of_good hon), rfl⟩,
    fun i op crc body s hon htransfer hcrc => ?_,
    fun type tag dst crc p full htype htag hdst hp hcrc => decodeTransfer_submit full htype htag hdst hp hcrc,
    fun mask crc full hmask hcrc => ⟨?_, ?_, ?_, decodeTransfer_irqAck full hmask hcrc⟩⟩
  · obtain ⟨u, hexec, hsdo, hitems', hlast⟩ := exec_fetch_of_items (full := true) hon hitems
    exact ⟨u, hexec, hitems', hlast, hsdo⟩
  · obtain ⟨u, hexec, hsdo, hitems'⟩ := exec_fetch_of_items (full := false) hon hitems
    exact ⟨u, hexec, hitems', hsdo⟩
  · have hdata : itemData s.spi.last = itemBytes x := by rw [hlast]; rfl
    exact ⟨_, congrArg Host.Outcome.next (State.transfer_of_good hon), rfl, congrArg (sdoBytes s 4) hdata⟩
  · obtain ⟨m, hexec⟩ := exec_of_badCrc hon htransfer hcrc
    exact ⟨_, hexec, rfl, rfl, rfl, rfl⟩
  · rw [decodeTransfer_spiBytes full (by decide) (by decide) hcrc] <;> rfl
  · rw [decodeTransfer_spiBytes full (by decide) (by decide) hcrc] <;> rfl
  · rw [decodeTransfer_spiBytes full (by decide) (by decide) hcrc] <;> rfl

end Sys2Proof.Machine

/-!
# COMMIT (R480 to R490)

A COMMIT is checked and refused, waits for its boundary, or applies at once. What it decides does not see the sessions; what applies
is told by `State.commitNow`, for a write of the COMMIT object and at the boundary alike.
-/

namespace Sys2Proof.Machine

/-! ## What the decisions depend on -/

theorem stateFail_elsewhere (s : State) (l : List Session) (p : List Pend) (n : Nat) (m : Store) (v : CUnit) :
    stateFail { s with sessions := l, pend := p, now := n } m v = stateFail s m v := by
  cases v <;> rfl

theorem ownsUnit_elsewhere (s : State) (l : List Session) (p : List Pend) (n : Nat) (v : CUnit) :
    ownsUnit { s with sessions := l, pend := p, now := n } v = ownsUnit s v := by
  cases v <;> rfl

theorem commitCheck_sessions (s : State) (l : List Session) (v : CUnit) (set : Store) :
    commitCheck { s with sessions := l } v set = commitCheck s v set := by
  cases v <;> rfl

theorem commitBusy_sessions (s : State) (l : List Session) (v : CUnit) : commitBusy { s with sessions := l } v = commitBusy s v := by
  cases v <;> rfl

theorem unitIdle_sessions (s : State) (l : List Session) (v : CUnit) : unitIdle { s with sessions := l } v = unitIdle s v := by
  cases v <;> rfl

/-! ## The record of a COMMIT (R487, R489, R490) -/

theorem State.commitDone_conf (s : State) (v : CUnit) (e : Err) (k : Nat) : (s.commitDone v e k).conf = s.conf := by
  unfold State.commitDone
  dsimp only
  rw [State.journal_conf]
  split
  · simp only [State.set_conf, State.count_conf]
  · simp only [State.set_conf]

/-- The subindices of a COMMIT object have keys of their own. -/
theorem commitObj_key_ne (v : CUnit) {j k : Nat} (h : j ≠ k) : (commitObj v j).key 0 0 ≠ (commitObj v k).key 0 0 := by
  simp only [commitObj, Obj.key, keyOf]
  omega

/-- No COMMIT object of a channel is a counter of the journal. -/
theorem commitObj_key_chan (c : Chan) :
    OD.JNL_WRITES.key 0 ≠ (commitObj (.chan c) 1).key 0 0 ∧ OD.RING_OUTQ_DROPS.key 0 ≠ (commitObj (.chan c) 1).key 0 0 := by
  revert c
  decide

/-- A COMMIT that has applied leaves state 2. -/
theorem State.commitDone_stat (s : State) (c : Chan) (k : Nat) :
    (s.commitDone (.chan c) .ok k).stat (commitObj (.chan c) 1) = 2 := by
  obtain ⟨hwrites, hdrops⟩ := commitObj_key_chan c
  unfold State.commitDone
  dsimp only
  rw [State.journal_stat _ _ _ _ _ hwrites hdrops, if_pos rfl,
    State.stat_set_other _ _ (commitObj_key_ne (.chan c) (by decide))]
  unfold State.count
  rw [State.stat_set_other _ _ (commitObj_key_ne (.chan c) (by decide)),
    State.stat_set_other _ _ (commitObj_key_ne (.chan c) (by decide)),
    State.stat_set_other _ _ (commitObj_key_ne (.chan c) (by decide))]
  exact State.stat_set_self _ _ _ _ (show (2 : Int) ≠ 0 by decide)

/-! ## The application (R485, R488) -/

/-- The effects of a channel's set move none of the sets. -/
theorem State.chanApplied_conf (s : State) (c : Chan) (old : Store) : (s.chanApplied c old).conf = s.conf := by
  have heff (t : State) : (t.chanEff c).conf = t.conf := by
    unfold State.chanEff
    simp only [State.set_conf]
  unfold State.chanApplied
  dsimp only
  rw [apply_ite State.conf, State.freshTrackers_conf, ite_self, State.updPort_conf, heff, apply_ite State.conf, State.updPod_conf,
    ite_self]

theorem State.commitNow_of_sound {s : State} {c : Chan} {set : Store} (howns : ownsUnit s (.chan c) = true)
    (hstate : stateFail s (putUnit s.active (.chan c) set) (.chan c) = none) : (s.commitNow (.chan c) set).2 = .ok ∧
      (s.commitNow (.chan c) set).1.active = putUnit s.active (.chan c) set ∧ (s.commitNow (.chan c) set).1.shadow = s.shadow ∧
      (s.commitNow (.chan c) set).1.pend = s.pend ∧ (s.commitNow (.chan c) set).1.stat (commitObj (.chan c) 1) = 2 := by
  unfold State.commitNow
  rw [if_neg (by simp [howns]), hstate]
  have hconf := (State.commitDone_conf (s.applySet (.chan c) set) (.chan c) .ok 0).trans
    (State.chanApplied_conf { s with active := putUnit s.active (.chan c) set } c s.active)
  simp only [State.conf, Prod.mk.injEq] at hconf
  obtain ⟨hactive, hshadow, -, hpend⟩ := hconf
  exact ⟨rfl, hactive, hshadow, hpend, State.commitDone_stat ..⟩

/-- A COMMIT that the state of its unit forbids at the boundary is refused (R485). -/
theorem State.commitNow_of_unsound {s : State} {v : CUnit} {set : Store} {k : Nat} (howns : ownsUnit s v = true)
    (hstate : stateFail s (putUnit s.active v set) v = some k) : s.commitNow v set = (s.commitDone v .state k, .state) := by
  unfold State.commitNow
  rw [if_neg (by simp [howns]), hstate]

/-! ## A write of 1 to a COMMIT object (R482, R483) -/

/-- A COMMIT that passes its checks in a unit that is not idle waits; the host of a late generator is told at once. -/
theorem State.commit_of_running {s : State} {v : CUnit} (q : Req) (hbusy : commitBusy s v = false)
    (hset : unitSet s.shadow v ≠ unitSet s.active v) (hcheck : commitCheck s v (unitSet s.shadow v) = none)
    (hidle : unitIdle s v = false) : ∃ x e, s.commit v q = ({ s with pend := s.pend ++ [x] }.set (commitObj v 1) 0 1, e) ∧
      x.unit = v ∧ x.set = unitSet s.shadow v ∧ (e = some .ok ∨ e = none) := by
  have htold (late : Bool) : (if late then some Err.ok else none) = some .ok ∨ (if late then some Err.ok else none) = none := by
    cases late with
    | true => exact .inl rfl
    | false => exact .inr rfl
  unfold State.commit
  dsimp only
  rw [hbusy, if_neg (by decide), if_neg hset, hcheck]
  dsimp only
  rw [hidle, Bool.false_and, if_neg (by decide)]
  exact ⟨_, _, rfl, rfl, rfl, htold _⟩

theorem State.commit_of_idle {s : State} {v : CUnit} (q : Req) (hbusy : commitBusy s v = false)
    (hset : unitSet s.shadow v ≠ unitSet s.active v) (hcheck : commitCheck s v (unitSet s.shadow v) = none)
    (hidle : unitIdle s v = true) (hnone : s.pend = []) :
    s.commit v q = ((s.commitNow v (unitSet s.shadow v)).1, some (s.commitNow v (unitSet s.shadow v)).2) := by
  unfold State.commit
  dsimp only
  rw [hbusy, if_neg (by decide), if_neg hset, hcheck]
  dsimp only
  rw [hidle, hnone, if_pos (by decide)]

theorem State.commit_of_failed {s : State} {v : CUnit} (q : Req) {e : Err} {k : Nat} (hbusy : commitBusy s v = false)
    (hset : unitSet s.shadow v ≠ unitSet s.active v) (hcheck : commitCheck s v (unitSet s.shadow v) = some (e, k)) :
    s.commit v q = (s.commitDone v e k, some e) := by
  unfold State.commit
  dsimp only
  rw [hbusy, if_neg (by decide), if_neg hset, hcheck]

/-- The request that a COMMIT writes. -/
def commitReq (v : CUnit) (rq : Requester) : Req := { rq := rq, index := commitIndex v, sub := 1 }

/-- An admitted COMMIT is that of the state with its handle touched; what it answers, if anything, is the answer of the write. -/
theorem State.write_commit {v : CUnit} {rq : Requester} {s : State} (hadmits : admitsOrder s rq (commitObj v 1) 0 1 = true) :
    ∃ l, ∀ t e, State.commit { s with sessions := l } v (commitReq v rq) = (t, e) → ∃ n sent,
      s.write (commitReq v rq) (objBytes (commitIndex v) 1 1).length (objBytes (commitIndex v) 1 1) =
        ({ t with ring := { t.ring with seq := n }, out := sent }, e) := by
  simp only [admitsOrder, orderOf_commitObj] at hadmits
  obtain ⟨-, hpower, role, r', hcheck⟩ := admits_iff hadmits
  obtain ⟨r, hr, haccess, htype⟩ := objRow_commitIndex v
  obtain ⟨hr', -⟩ := writeCheck_row hcheck
  obtain rfl : r = r' := Option.some.inj (hr.symm.trans hr')
  have hvalue : valueOf r (objBytes (commitIndex v) 1 1) = 1 :=
    valueOf_objBytes (n := 1) hr (by rw [htype]; rfl) (by rw [htype]; decide)
  obtain ⟨l, hl⟩ := s.touch_eq (commitReq v rq)
  refine ⟨l, fun t e hcommit => ?_⟩
  have hoperate : (s.touch (commitReq v rq)).operate (commitReq v rq) role r (objBytes (commitIndex v) 1 1) = (t, e) := by
    rw [hl]
    unfold State.operate
    rw [if_neg (by rw [hpower]; decide), haccess]
    dsimp only
    unfold State.command
    rw [show commitUnit (commitReq v rq).index = some v from commitUnit_commitIndex v]
    dsimp only
    rw [hvalue, if_pos (by decide)]
    exact hcommit
  obtain ⟨n, sent, hpass⟩ := State.passOn_eq t s (commitReq v rq) r (objBytes (commitIndex v) 1 1) e
  refine ⟨n, sent, ?_⟩
  unfold State.write
  rw [show writeCheck s (commitReq v rq) (objBytes (commitIndex v) 1 1).length (objBytes (commitIndex v) 1 1) = .ok (role, r)
    from hcheck]
  dsimp only
  rw [hoperate]
  exact congrArg (·, e) hpass

/-- What the write of a COMMIT leaves. -/
theorem exec_commit_of_admitted {v : CUnit} {rq : Requester} {s : State} (hadmits : admitsOrder s rq (commitObj v 1) 0 1 = true) :
    ∃ l, ∀ t e, State.commit { s with sessions := l } v (commitReq v rq) = (t, e) → t.hub = s.hub → ∃ n sent a,
      exec (.commit v rq) s = .next { t with ring := { t.ring with seq := n }, out := sent, resp := a } ∧
      ∀ x, e = some x → a = some (.direct, { err := x }) := by
  obtain ⟨l, hwrite⟩ := State.write_commit hadmits
  have hserves : serves s (commitReq v rq).index (commitReq v rq).sub = true := by
    simp only [admitsOrder, orderOf_commitObj] at hadmits
    exact (admits_iff hadmits).1
  refine ⟨l, fun t e hcommit hhub => ?_⟩
  obtain ⟨n, sent, hdone⟩ := hwrite t e hcommit
  have hexec : exec (.commit v rq) s =
      .next (s.doWrite (commitReq v rq) (objBytes (commitIndex v) 1 1).length (objBytes (commitIndex v) 1 1)) := by
    change execCommit v rq s = _
    simp only [execCommit, State.order, orderOf_commitObj]
    rfl
  cases e with
  | none =>
    refine ⟨n, sent, t.resp, hexec.trans (congrArg Host.Outcome.next ?_), fun x hx => nomatch hx⟩
    unfold State.doWrite
    rw [if_pos hserves, hdone]
  | some x =>
    refine ⟨n, sent, some (.direct, { err := x }), hexec.trans (congrArg Host.Outcome.next ?_), fun y hy => by rw [Option.some.inj hy]⟩
    refine (State.doWrite_of_answered hserves hdone hhub).trans ?_
    rw [State.answer_direct _ _ _ rfl]

theorem exec_commit_of_running {v : CUnit} {rq : Requester} {s : State} (hadmits : admitsOrder s rq (commitObj v 1) 0 1 = true)
    (hbusy : commitBusy s v = false) (hset : unitSet s.shadow v ≠ unitSet s.active v)
    (hcheck : commitCheck s v (unitSet s.shadow v) = none) (hidle : unitIdle s v = false) :
    ∃ u x, exec (.commit v rq) s = .next u ∧ u.pend = s.pend ++ [x] ∧ x.unit = v ∧ x.set = unitSet s.shadow v ∧
      u.active = s.active := by
  obtain ⟨l, hrun⟩ := exec_commit_of_admitted hadmits
  obtain ⟨x, e, hcommit, hunit, hstaged, -⟩ := State.commit_of_running (s := { s with sessions := l }) (commitReq v rq)
    ((commitBusy_sessions s l v).trans hbusy) hset ((commitCheck_sessions s l v _).trans hcheck) ((unitIdle_sessions s l v).trans hidle)
  obtain ⟨n, sent, a, hexec, -⟩ := hrun _ _ hcommit rfl
  exact ⟨_, x, hexec, rfl, hunit, hstaged, rfl⟩

theorem exec_commit_of_idle {c : Chan} {rq : Requester} {s : State} (hadmits : admitsOrder s rq (commitObj (.chan c) 1) 0 1 = true)
    (hbusy : commitBusy s (.chan c) = false) (hset : unitSet s.shadow (.chan c) ≠ unitSet s.active (.chan c))
    (hcheck : commitCheck s (.chan c) (unitSet s.shadow (.chan c)) = none) (hidle : unitIdle s (.chan c) = true)
    (hnone : s.pend = []) (howns : ownsUnit s (.chan c) = true)
    (hstate : stateFail s (putUnit s.active (.chan c) (unitSet s.shadow (.chan c))) (.chan c) = none) :
    ∃ u, exec (.commit (.chan c) rq) s = .next u ∧ answers u .ok ∧
      u.active = putUnit s.active (.chan c) (unitSet s.shadow (.chan c)) ∧ u.shadow = s.shadow := by
  obtain ⟨l, hrun⟩ := exec_commit_of_admitted hadmits
  have hcommit := State.commit_of_idle (s := { s with sessions := l }) (commitReq (.chan c) rq)
    ((commitBusy_sessions s l _).trans hbusy) hset ((commitCheck_sessions s l _ _).trans hcheck)
    ((unitIdle_sessions s l _).trans hidle) hnone
  obtain ⟨hok, hactive, hshadow, -⟩ := State.commitNow_of_sound (s := { s with sessions := l }) (set := unitSet s.shadow (.chan c))
    howns hstate
  have hhub : (State.commitNow { s with sessions := l } (.chan c) (unitSet s.shadow (.chan c))).1.hub = s.hub :=
    State.hub_of_host (State.commitNow_host { s with sessions := l } ..)
  obtain ⟨n, sent, a, hexec, hanswer⟩ := hrun _ _ hcommit hhub
  exact ⟨_, hexec, hok ▸ hanswer _ rfl, hactive, hshadow⟩

theorem exec_commit_of_failed {v : CUnit} {e : Err} {k : Nat} {rq : Requester} {s : State}
    (hadmits : admitsOrder s rq (commitObj v 1) 0 1 = true) (hbusy : commitBusy s v = false)
    (hset : unitSet s.shadow v ≠ unitSet s.active v) (hcheck : commitCheck s v (unitSet s.shadow v) = some (e, k)) :
    ∃ u, exec (.commit v rq) s = .next u ∧ answers u e ∧ u.active = s.active ∧ u.shadow = s.shadow ∧ u.pend = s.pend := by
  obtain ⟨l, hrun⟩ := exec_commit_of_admitted hadmits
  have hcommit := State.commit_of_failed (s := { s with sessions := l }) (commitReq v rq) ((commitBusy_sessions s l v).trans hbusy)
    hset ((commitCheck_sessions s l v _).trans hcheck)
  have hhub : (State.commitDone { s with sessions := l } v e k).hub = s.hub :=
    State.hub_of_host (State.commitDone_host { s with sessions := l } ..)
  have hconf := State.commitDone_conf { s with sessions := l } v e k
  simp only [State.conf, Prod.mk.injEq] at hconf
  obtain ⟨hactive, hshadow, -, hpend⟩ := hconf
  obtain ⟨n, sent, a, hexec, hanswer⟩ := hrun _ _ hcommit hhub
  exact ⟨_, hexec, hanswer _ rfl, hactive, hshadow, hpend⟩

/-! ## The boundary (R483 to R485) -/

/-- An answer is recorded, kept and sent; it changes nothing else. -/
theorem State.answer_eq (s : State) (q : Req) (a : Answer) : ∃ ring sent spi,
    s.answer q a = { s with resp := some (q.via, a), ring := ring, out := sent, spi := spi } := by
  unfold State.answer
  dsimp only
  split
  · next hvia => exact ⟨s.ring, s.out, s.spi, rfl⟩
  · next src seq hvia =>
    obtain ⟨l, hl⟩ := State.sendOwn_eq { s with resp := some (q.via, a), ring := { s.ring with
      kept := keepResp s.ring.kept src seq (respPayload q a) } } 4 seq src (respPayload q a)
    rw [hvia] at hl ⊢
    exact ⟨_, l, s.spi, hl⟩
  · next tag hvia =>
    rw [hvia]
    exact ⟨s.ring, s.out, _, rfl⟩

/-- The oldest COMMIT at its boundary is applied and, where its host has not been told, answered. -/
theorem exec_commitApply_of_due {v : CUnit} {x : Pend} {rest : List Pend} {t : Nat} {s : State} (hpend : s.pend = x :: rest)
    (hunit : x.unit = v) (hdue : applyDue s x = some t) : exec (.commitApply v) s =
      .next (if x.told then (State.commitNow { s with pend := rest, now := max s.now t } v x.set).1
        else (State.commitNow { s with pend := rest, now := max s.now t } v x.set).1.answer x.req
          { err := (State.commitNow { s with pend := rest, now := max s.now t } v x.set).2 }) := by
  change execCommitApply v s = _
  unfold execCommitApply
  rw [hpend]
  dsimp only
  rw [if_pos hunit, hdue] <;> rfl

/-- What the boundary leaves of the state of the application, answered or not. -/
theorem commitApply_leaves (z : State × Err) (x : Pend) : ∃ ring sent spi resp,
    (if x.told then z.1 else z.1.answer x.req { err := z.2 }) = { z.1 with resp := resp, ring := ring, out := sent, spi := spi } ∧
      (x.told = false → resp = some (x.req.via, { err := z.2 })) := by
  by_cases htold : x.told = true
  · rw [if_pos htold]
    exact ⟨z.1.ring, z.1.out, z.1.spi, z.1.resp, rfl, fun h => absurd (htold.symm.trans h) (by decide)⟩
  · obtain ⟨ring, sent, spi, hanswer⟩ := z.1.answer_eq x.req { err := z.2 }
    rw [if_neg htold, hanswer]
    exact ⟨ring, sent, spi, _, rfl, fun _ => rfl⟩

theorem exec_commitApply_of_sound {c : Chan} {x : Pend} {rest : List Pend} {t : Nat} {s : State} (hpend : s.pend = x :: rest)
    (hunit : x.unit = .chan c) (hdue : applyDue s x = some t) (howns : ownsUnit s (.chan c) = true)
    (hstate : stateFail s (putUnit s.active (.chan c) x.set) (.chan c) = none) :
    ∃ u, exec (.commitApply (.chan c)) s = .next u ∧ u.pend = rest ∧ u.active = putUnit s.active (.chan c) x.set ∧
      u.stat (commitObj (.chan c) 1) = 2 ∧ (x.told = false → u.resp = some (x.req.via, { err := .ok })) := by
  obtain ⟨hok, hactive, -, hrest, hstat⟩ := State.commitNow_of_sound (s := { s with pend := rest, now := max s.now t }) (set := x.set)
    howns hstate
  obtain ⟨ring, sent, spi, resp, hleaves, hresp⟩ := commitApply_leaves
    (State.commitNow { s with pend := rest, now := max s.now t } (.chan c) x.set) x
  refine ⟨_, (exec_commitApply_of_due hpend hunit hdue).trans (congrArg Host.Outcome.next hleaves), hrest, hactive, hstat,
    fun htold => ?_⟩
  rw [hok] at hresp
  exact hresp htold

theorem exec_commitApply_of_unsound {v : CUnit} {x : Pend} {rest : List Pend} {t k : Nat} {s : State} (hpend : s.pend = x :: rest)
    (hunit : x.unit = v) (hdue : applyDue s x = some t) (howns : ownsUnit s v = true)
    (hstate : stateFail s (putUnit s.active v x.set) v = some k) :
    ∃ u, exec (.commitApply v) s = .next u ∧ u.pend = rest ∧ u.active = s.active ∧
      (x.told = false → u.resp = some (x.req.via, { err := .state })) := by
  have hnow := State.commitNow_of_unsound (s := { s with pend := rest, now := max s.now t }) (set := x.set)
    ((ownsUnit_elsewhere s s.sessions rest (max s.now t) v).trans howns)
    ((stateFail_elsewhere s s.sessions rest (max s.now t) _ v).trans hstate)
  have hconf := State.commitDone_conf { s with pend := rest, now := max s.now t } v .state k
  simp only [State.conf, Prod.mk.injEq] at hconf
  obtain ⟨hactive, -, -, hrest⟩ := hconf
  obtain ⟨ring, sent, spi, resp, hleaves, hresp⟩ := commitApply_leaves
    (State.commitNow { s with pend := rest, now := max s.now t } v x.set) x
  rw [hnow] at hleaves hresp
  refine ⟨_, (exec_commitApply_of_due hpend hunit hdue).trans (congrArg Host.Outcome.next (?_ : _ = { State.commitDone
    { s with pend := rest, now := max s.now t } v .state k with resp := resp, ring := ring, out := sent, spi := spi })),
    hrest, hactive, hresp⟩
  rw [hnow]
  exact hleaves

/-! ## The statement -/

/-- Settles O38, one clause per outcome of a COMMIT. -/
theorem commitAcceptsAndApplies : Obligations.CommitAcceptsAndApplies :=
  ⟨fun _ _ _ hadmits hbusy hset hcheck hidle => exec_commit_of_running hadmits hbusy hset hcheck hidle,
    fun _ _ _ hadmits hbusy hset hcheck hidle hnone howns hstate =>
      exec_commit_of_idle hadmits hbusy hset hcheck hidle hnone howns hstate,
    fun _ _ _ _ _ hadmits hbusy hset hcheck => exec_commit_of_failed hadmits hbusy hset hcheck,
    fun _ _ _ _ _ hpend hunit hdue howns hstate => exec_commitApply_of_sound hpend hunit hdue howns hstate,
    fun _ _ _ _ _ _ hpend hunit hdue howns hstate => exec_commitApply_of_unsound hpend hunit hdue howns hstate⟩

end Sys2Proof.Machine

/-!
# What the work of a hub leaves alone: time, boot number, hub state, firmware, ownership

Nothing here moves the time; the boot number is the boot record's, the hub state and the firmware are those of BOOT, and nothing but
the claims of chapter 17 says who owns a port.
-/

namespace Sys2Proof.Machine

set_option linter.unusedSimpArgs false

/-- Time, boot number, hub state, firmware, and of each port whether it is owned and whether a takeover is due. -/
def State.tenure (s : State) : Nat × Nat × HubState × Fw × (Chan → Bool × Option Nat) :=
  (s.now, s.jnl.boot, s.hub, s.fw, fun c => ((s.port c).own, (s.port c).takeDue))

@[simp] theorem tenure_mk (now : _) (fresh : _) (pending : _) (active : _) (shadow : _) (status : _) (pods : _) (ports : _) (buses : _) (pre : _) (dis : _) (jnl : _) (pwm : _) (cells : _) (rdyLost : _) (hub : _) (flto : _) (flti : _) (lines : _) (out : _) (ringUp : _) (str : _) (snap : _) (snapLatched : _) (hkAt : _) (hkFrom : _) (hkPos : _) (ckpt : _) (pfw : _) (pend : _) (resp : _) (sessions : _) (locks : _) (seals : _) (sealing : _) (cfg : _) (ring : _) (spi : _) (power : _) (fw : _) (rwNext : _) (pxReady : _) :
    State.tenure (State.mk now fresh pending active shadow status pods ports buses pre dis jnl pwm cells rdyLost hub flto flti lines out ringUp str snap snapLatched hkAt hkFrom hkPos ckpt pfw pend resp sessions locks seals sealing cfg ring spi power fw rwNext pxReady) =
      (now, jnl.boot, hub, fw, fun c => ((ports.get c).own, (ports.get c).takeDue)) := rfl

theorem tenure_fields (s : State) : s.now = s.tenure.1 ∧ s.jnl.boot = s.tenure.2.1 ∧ s.hub = s.tenure.2.2.1 ∧
    s.fw = s.tenure.2.2.2.1 ∧ ∀ c, (s.ports.get c).own = (s.tenure.2.2.2.2 c).1 ∧ (s.ports.get c).takeDue = (s.tenure.2.2.2.2 c).2 :=
  ⟨rfl, rfl, rfl, rfl, fun _ => ⟨rfl, rfl⟩⟩

@[simp] theorem ite_tenure (c : Prop) [Decidable c] (a b : State) : (if c then a else b).tenure = if c then a.tenure else b.tenure :=
  apply_ite ..

@[simp] theorem foldl_tenure {α : Type} (f : State → α → State) (h : ∀ s x, (f s x).tenure = s.tenure) (l : List α) (s : State) :
    (l.foldl f s).tenure = s.tenure := foldl_keeps State.tenure f h l s

theorem foldl_fst_tenure {α β : Type} (f : State × β → α → State × β) (h : ∀ r x, (f r x).1.tenure = r.1.tenure) (l : List α)
    (r : State × β) : (l.foldl f r).1.tenure = r.1.tenure := foldl_keeps (fun r => State.tenure r.1) f h l r

@[simp] theorem State.updPort_tenure (s : State) (c : Chan) (f : Port → Port) (hown : ∀ q, (f q).own = q.own)
    (hdue : ∀ q, (f q).takeDue = q.takeDue) : (s.updPort c f).tenure = s.tenure := by
  refine congrArg (fun g => (s.now, s.jnl.boot, s.hub, s.fw, g)) (funext fun k => ?_)
  by_cases hk : c = k
  · subst hk
    rw [State.updPort_port_self, hown, hdue]
  · rw [State.updPort_port_other _ _ _ _ hk]

@[simp] theorem State.forChans_tenure (s : State) (l : List Chan) (f : State → Chan → State) (h : ∀ s x, (f s x).tenure = s.tenure) :
    (s.forChans l f).tenure = s.tenure := foldl_tenure f h l s

@[simp] theorem State.updPod_tenure (s : State) (c : Chan) (f : Pod → Pod) : (State.updPod s c f).tenure = s.tenure := by
  unfold State.updPod; simp [tenure_fields]
@[simp] theorem State.updBus_tenure (s : State) (b : BusId) (f : Bus → Bus) : (State.updBus s b f).tenure = s.tenure := by
  unfold State.updBus; simp [tenure_fields]
@[simp] theorem State.updPre_tenure (s : State) (p : Quad) (f : Pre → Pre) : (State.updPre s p f).tenure = s.tenure := by
  unfold State.updPre; simp [tenure_fields]
@[simp] theorem State.updDis_tenure (s : State) (d : Quad) (f : Dis → Dis) : (State.updDis s d f).tenure = s.tenure := by
  unfold State.updDis; simp [tenure_fields]
@[simp] theorem State.set_tenure (s : State) (o : Obj) (i : Nat) (v : Int) (k : Nat) : (State.set s o i v k).tenure = s.tenure := by
  unfold State.set; simp [tenure_fields]
@[simp] theorem State.count_tenure (s : State) (o : Obj) (i : Nat) (n : Nat) (k : Nat) :
    (State.count s o i n k).tenure = s.tenure := by
  unfold State.count; simp [tenure_fields]
@[simp] theorem State.count64_tenure (s : State) (o : Obj) (i : Nat) (n : Nat) : (State.count64 s o i n).tenure = s.tenure := by
  unfold State.count64; simp [tenure_fields]
@[simp] theorem State.take_tenure (s : State) : (State.take s).2.tenure = s.tenure := by unfold State.take; simp [tenure_fields]
@[simp] theorem State.irq_tenure (s : State) (bit : Nat) :
    (State.irq s bit).tenure = s.tenure := by unfold State.irq; simp [tenure_fields]
@[simp] theorem State.push_tenure (s : State) (x : Item) :
    (State.push s x).tenure = s.tenure := by unfold State.push; simp [tenure_fields]
@[simp] theorem State.pushOrDrop_tenure (s : State) (x : Item) : (State.pushOrDrop s x).tenure = s.tenure := by
  unfold State.pushOrDrop; simp [tenure_fields]
@[simp] theorem State.sendOn_tenure (s : State) (f : Frame) (ports : Nat) : (State.sendOn s f ports).tenure = s.tenure := by
  unfold State.sendOn; simp [tenure_fields]
@[simp] theorem State.sendOwn_tenure (s : State) (type seq dst : Nat) (payload : List Byte) :
    (State.sendOwn s type seq dst payload).tenure = s.tenure := by
  unfold State.sendOwn; simp [tenure_fields]
@[simp] theorem State.nextSeq_tenure (s : State) : (State.nextSeq s).tenure = s.tenure := by unfold State.nextSeq; simp [tenure_fields]
@[simp] theorem State.sendEvent_tenure (s : State) (r : JRec) : (State.sendEvent s r).tenure = s.tenure := by
  unfold State.sendEvent; simp [tenure_fields]
@[simp] theorem State.journalAt_tenure (s : State) (t kind : Nat) (src : JSrc) (code : Nat) (data : List (Nat × Nat)) (held : Bool) (clean : Bool) :
    (State.journalAt s t kind src code data held clean).tenure = s.tenure := by
  unfold State.journalAt; simp [tenure_fields]
@[simp] theorem State.journal_tenure (s : State) (kind : Nat) (src : JSrc) (code : Nat) (data : List (Nat × Nat)) :
    (State.journal s kind src code data).tenure = s.tenure := by
  unfold State.journal; simp [tenure_fields]
@[simp] theorem State.warn_tenure (s : State) (src : JSrc) (code : Nat) (data : List (Nat × Nat)) :
    (State.warn s src code data).tenure = s.tenure := by
  unfold State.warn; simp [tenure_fields]
@[simp] theorem State.updGen_tenure (s : State) (n : Oct) (f : Pwm → Pwm) : (State.updGen s n f).tenure = s.tenure := by
  unfold State.updGen; simp [tenure_fields]
@[simp] theorem State.updCell_tenure (s : State) (n : Oct) (f : Cell → Cell) : (State.updCell s n f).tenure = s.tenure := by
  unfold State.updCell; simp [tenure_fields]
@[simp] theorem State.pwmStop_tenure (s : State) (n : Oct) : (State.pwmStop s n).tenure = s.tenure := by
  unfold State.pwmStop; simp [tenure_fields]
@[simp] theorem State.uncount_tenure (s : State) (o : Obj) (i : Nat) : (State.uncount s o i).tenure = s.tenure := by
  unfold State.uncount; simp [tenure_fields]
@[simp] theorem State.untermed_tenure (s : State) (n : Oct) (t : Nat) : (State.untermed s n t).tenure = s.tenure := by
  unfold State.untermed; (repeat' split) <;> simp [tenure_fields]
@[simp] theorem State.pwmFault_tenure (s : State) (n : Oct) : (State.pwmFault s n).tenure = s.tenure := by
  unfold State.pwmFault; simp [tenure_fields]
@[simp] theorem State.faultSee_tenure (s : State) (n : Oct) : (State.faultSee s n).tenure = s.tenure := by
  unfold State.faultSee; simp [tenure_fields]
@[simp] theorem State.pwmFaults_tenure (s : State) :
    (State.pwmFaults s).tenure = s.tenure := by unfold State.pwmFaults; simp [tenure_fields]
@[simp] theorem State.pwmTerminate_tenure (s : State) (n : Oct) (t : Nat) : (State.pwmTerminate s n t).tenure = s.tenure := by
  unfold State.pwmTerminate; dsimp only; (repeat' split) <;> simp [tenure_fields]
@[simp] theorem State.pwmRelease_tenure (s : State) (n : Oct) : (State.pwmRelease s n).tenure = s.tenure := by
  unfold State.pwmRelease; simp [tenure_fields]
@[simp] theorem State.cellInit_tenure (s : State) (n : Oct) : (State.cellInit s n).tenure = s.tenure := by
  unfold State.cellInit; simp [tenure_fields]
@[simp] theorem State.cellOff_tenure (s : State) (n : Oct) : (State.cellOff s n).tenure = s.tenure := by
  unfold State.cellOff; simp [tenure_fields]
@[simp] theorem State.cellsPower_tenure (s : State) :
    (State.cellsPower s).tenure = s.tenure := by unfold State.cellsPower; simp [tenure_fields]
@[simp] theorem State.cmpCapture_tenure (s : State) (n : Oct) (active : Bool) (t : Nat) :
    (State.cmpCapture s n active t).tenure = s.tenure := by
  unfold State.cmpCapture; simp [tenure_fields]
@[simp] theorem State.cmpEvent_tenure (s : State) (n : Oct) (active : Bool) (t : Nat) :
    (State.cmpEvent s n active t).tenure = s.tenure := by
  unfold State.cmpEvent; simp [tenure_fields]
@[simp] theorem State.slowRoutes_tenure (s : State) (n : Oct) (active : Bool) (t : Nat) :
    (State.slowRoutes s n active t).tenure = s.tenure := by
  unfold State.slowRoutes; simp [tenure_fields]
@[simp] theorem State.termRoute_tenure (s : State) (n : Oct) (t : Nat) : (State.termRoute s n t).tenure = s.tenure := by
  unfold State.termRoute; simp [tenure_fields]
@[simp] theorem State.filtEdge_tenure (s : State) (n : Oct) (active : Bool) (t : Nat) :
    (State.filtEdge s n active t).tenure = s.tenure := by
  unfold State.filtEdge; simp [tenure_fields]
@[simp] theorem State.cellFilter_tenure (s : State) (n : Oct) (t : Nat) : (State.cellFilter s n t).tenure = s.tenure := by
  unfold State.cellFilter; (repeat' split) <;> simp [tenure_fields]
@[simp] theorem State.routesAct_tenure (s old : State) (t : Nat) : (State.routesAct s old t).tenure = s.tenure := by
  unfold State.routesAct; simp [tenure_fields]
@[simp] theorem State.cellOut_tenure (s : State) (n : Oct) (active : Bool) (t : Nat) :
    (State.cellOut s n active t).tenure = s.tenure := by
  unfold State.cellOut; simp [tenure_fields]
@[simp] theorem State.cellEdge_tenure (s : State) (n : Oct) (active : Bool) (t : Nat) :
    (State.cellEdge s n active t).tenure = s.tenure := by
  unfold State.cellEdge; simp [tenure_fields]
@[simp] theorem State.cellAt_tenure (s : State) (n : Oct) (active : Bool) (t : Nat) :
    (State.cellAt s n active t).tenure = s.tenure := by
  unfold State.cellAt; simp [tenure_fields]
@[simp] theorem State.selfMask_tenure (s : State) (n : Oct) : (State.selfMask s n).tenure = s.tenure := by
  unfold State.selfMask; simp [tenure_fields]
@[simp] theorem State.selfUnmask_tenure (s : State) (n : Oct) : (State.selfUnmask s n).tenure = s.tenure := by
  unfold State.selfUnmask; dsimp only; (repeat' split) <;> simp [tenure_fields]
@[simp] theorem State.down_tenure (s : State) (c : Chan) (f : CmdFrame → CmdFrame) : (State.down s c f).tenure = s.tenure := by
  unfold State.down; simp [tenure_fields]
@[simp] theorem State.tripBy_tenure (s : State) (c : Chan) (k : Cause) : (State.tripBy s c k).tenure = s.tenure := by
  unfold State.tripBy; simp [tenure_fields]
@[simp] theorem State.offBy_tenure (s : State) (c : Chan) :
    (State.offBy s c).tenure = s.tenure := by unfold State.offBy; simp [tenure_fields]
@[simp] theorem State.feedForward_tenure (s : State) (p : Quad) : (State.feedForward s p).tenure = s.tenure := by
  unfold State.feedForward; (repeat' split) <;> simp [tenure_fields]
@[simp] theorem State.preQuiet_tenure (s : State) (p : Quad) : (State.preQuiet s p).tenure = s.tenure := by
  unfold State.preQuiet; simp [tenure_fields]
@[simp] theorem State.preFeedActs_tenure (s : State) (p : Quad) (ev : PreStatus) : (State.preFeedActs s p ev).tenure = s.tenure := by
  unfold State.preFeedActs; (repeat' split) <;> simp [tenure_fields]
@[simp] theorem State.preStop_tenure (s : State) (p : Quad) (ev : PreStatus) : (State.preStop s p ev).tenure = s.tenure := by
  unfold State.preStop; simp [tenure_fields]
@[simp] theorem State.preStopOn_tenure (s : State) (p : Quad) (ev : List PreStatus) : (State.preStopOn s p ev).tenure = s.tenure := by
  unfold State.preStopOn; (repeat' split) <;> simp [tenure_fields]
@[simp] theorem State.preSelftest_tenure (s : State) (p : Quad) : (State.preSelftest s p).tenure = s.tenure := by
  unfold State.preSelftest; simp [tenure_fields]
@[simp] theorem State.preCharge_tenure (s : State) (p : Quad) : (State.preCharge s p).tenure = s.tenure := by
  unfold State.preCharge; simp [tenure_fields]
@[simp] theorem State.preQualify_tenure (s : State) (p : Quad) : (State.preQualify s p).tenure = s.tenure := by
  unfold State.preQualify; simp [tenure_fields]
@[simp] theorem State.preHist_tenure (s : State) (p : Quad) : (State.preHist s p).tenure = s.tenure := by
  unfold State.preHist; simp [tenure_fields]
@[simp] theorem State.preWindow_tenure (s : State) (p : Quad) : (State.preWindow s p).tenure = s.tenure := by
  unfold State.preWindow; simp [tenure_fields]
@[simp] theorem State.preTick_tenure (s : State) (p : Quad) : (State.preTick s p).tenure = s.tenure := by
  unfold State.preTick; dsimp only; (repeat' split) <;> simp [tenure_fields]
@[simp] theorem State.disDuty_tenure (s : State) (d : Quad) (v : Int) : (State.disDuty s d v).tenure = s.tenure := by
  unfold State.disDuty; simp [tenure_fields]
@[simp] theorem State.disQuiet_tenure (s : State) (d : Quad) : (State.disQuiet s d).tenure = s.tenure := by
  unfold State.disQuiet; simp [tenure_fields]
@[simp] theorem State.disWait_tenure (s : State) (d : Quad) (r : DisStatus) : (State.disWait s d r).tenure = s.tenure := by
  unfold State.disWait; simp [tenure_fields]
@[simp] theorem State.disHeat_tenure (s : State) (d : Quad) : (State.disHeat s d).tenure = s.tenure := by
  unfold State.disHeat; simp [tenure_fields]
@[simp] theorem State.disOff_tenure (s : State) (d : Quad) : (State.disOff s d).tenure = s.tenure := by
  unfold State.disOff; (repeat' split) <;> simp [tenure_fields]
@[simp] theorem State.disTick_tenure (s : State) (d : Quad) : (State.disTick s d).tenure = s.tenure := by
  unfold State.disTick; dsimp only; (repeat' split) <;> simp [tenure_fields]
@[simp] theorem State.xferEnd_tenure (s : State) (b : BusId) : (State.xferEnd s b).tenure = s.tenure := by
  unfold State.xferEnd; simp [tenure_fields]
@[simp] theorem State.xferFailed_tenure (s : State) (b : BusId) : (State.xferFailed s b).tenure = s.tenure := by
  unfold State.xferFailed; simp [tenure_fields]
@[simp] theorem State.branchesOff_tenure (s : State) (b : BusId) : (State.branchesOff s b).tenure = s.tenure := by
  unfold State.branchesOff; simp [tenure_fields]
@[simp] theorem State.xferChoose_tenure (s : State) (b : BusId) (new : Chan) : (State.xferChoose s b new).tenure = s.tenure := by
  unfold State.xferChoose; simp [tenure_fields]
@[simp] theorem State.xferKeep_tenure (s : State) (b : BusId) : (State.xferKeep s b).tenure = s.tenure := by
  unfold State.xferKeep; simp [tenure_fields]
@[simp] theorem State.xferStart_tenure (s : State) (b : BusId) (old : Chan) (dest : Option Chan) :
    (State.xferStart s b old dest).tenure = s.tenure := by
  unfold State.xferStart; dsimp only; (repeat' split) <;> simp [tenure_fields]
@[simp] theorem State.xferNext_tenure (s : State) (b : BusId) : (State.xferNext s b).tenure = s.tenure := by
  unfold State.xferNext; dsimp only; (repeat' split) <;> simp [tenure_fields]
@[simp] theorem State.xferAgain_tenure (s : State) (b : BusId) (new : Chan) : (State.xferAgain s b new).tenure = s.tenure := by
  unfold State.xferAgain; dsimp only; split <;> simp [tenure_fields]
@[simp] theorem State.selLost_tenure (s : State) (b : BusId) (c : Chan) : (State.selLost s b c).tenure = s.tenure := by
  unfold State.selLost; simp [tenure_fields]
@[simp] theorem State.xferTick_tenure (s : State) (b : BusId) : (State.xferTick s b).tenure = s.tenure := by
  unfold State.xferTick; dsimp only; (repeat' split) <;> simp [tenure_fields]
@[simp] theorem State.selectDead_tenure (s : State) (b : BusId) : (State.selectDead s b).tenure = s.tenure := by
  unfold State.selectDead; simp [tenure_fields]
@[simp] theorem State.feedTick_tenure (s : State) (b : BusId) (c : Chan) : (State.feedTick s b c).tenure = s.tenure := by
  unfold State.feedTick; simp [tenure_fields]
@[simp] theorem State.eligibleTick_tenure (s : State) (b : BusId) : (State.eligibleTick s b).tenure = s.tenure := by
  unfold State.eligibleTick; simp [tenure_fields]
@[simp] theorem State.busSource_tenure (s : State) (b : BusId) : (State.busSource s b).tenure = s.tenure := by
  unfold State.busSource; simp [tenure_fields]
@[simp] theorem State.noFeed_tenure (s : State) (b : BusId) : (State.noFeed s b).tenure = s.tenure := by
  unfold State.noFeed; simp [tenure_fields]
@[simp] theorem State.busTick_tenure (s : State) (b : BusId) : (State.busTick s b).tenure = s.tenure := by
  unfold State.busTick; dsimp only; (repeat' split) <;> simp [tenure_fields]
@[simp] theorem State.updFlto_tenure (s : State) (x : AB) (f : Flto → Flto) : (State.updFlto s x f).tenure = s.tenure := by
  unfold State.updFlto; simp [tenure_fields]
@[simp] theorem State.updLine_tenure (s : State) (l : Quad) (f : RLine → RLine) : (State.updLine s l f).tenure = s.tenure := by
  unfold State.updLine; simp [tenure_fields]
@[simp] theorem State.fltoOne_tenure (s : State) (x : AB) : (State.fltoOne s x).tenure = s.tenure := by
  unfold State.fltoOne; simp [tenure_fields]
@[simp] theorem State.fltoEval_tenure (s : State) :
    (State.fltoEval s).tenure = s.tenure := by unfold State.fltoEval; simp [tenure_fields]
@[simp] theorem State.sendToken_tenure (s : State) (l : Quad) (hops but t : Nat) :
    (State.sendToken s l hops but t).tenure = s.tenure := by
  unfold State.sendToken; simp [tenure_fields]
@[simp] theorem State.ownToken_tenure (s : State) (l : Quad) : (State.ownToken s l).tenure = s.tenure := by
  unfold State.ownToken; simp [tenure_fields]
@[simp] theorem State.lineSeen_tenure (s : State) (l : Quad) (t : Nat) : (State.lineSeen s l t).tenure = s.tenure := by
  unfold State.lineSeen; simp [tenure_fields]
@[simp] theorem State.sendFault_tenure (s : State) (l : Quad) (start : Bool) : (State.sendFault s l start).tenure = s.tenure := by
  unfold State.sendFault; simp [tenure_fields]
@[simp] theorem State.lineStart_tenure (s : State) (l : Quad) : (State.lineStart s l).tenure = s.tenure := by
  unfold State.lineStart; simp [tenure_fields]
@[simp] theorem State.lineStop_tenure (s : State) (l : Quad) : (State.lineStop s l).tenure = s.tenure := by
  unfold State.lineStop; simp [tenure_fields]
@[simp] theorem State.lineEval_tenure (s : State) :
    (State.lineEval s).tenure = s.tenure := by unfold State.lineEval; simp [tenure_fields]
@[simp] theorem State.linePulse_tenure (s : State) (l : Quad) : (State.linePulse s l).tenure = s.tenure := by
  unfold State.linePulse; simp [tenure_fields]
@[simp] theorem State.pulses_tenure (s : State) (hit : State → Quad → Bool) : (State.pulses s hit).tenure = s.tenure := by
  unfold State.pulses; simp [tenure_fields]
@[simp] theorem State.pulseTrip_tenure (s : State) (c : Chan) (set : Nat) : (State.pulseTrip s c set).tenure = s.tenure := by
  unfold State.pulseTrip; simp [tenure_fields]
@[simp] theorem State.pulseBus_tenure (s : State) (b : BusId) : (State.pulseBus s b).tenure = s.tenure := by
  unfold State.pulseBus; simp [tenure_fields]
@[simp] theorem State.evalLines_tenure (s : State) :
    (State.evalLines s).tenure = s.tenure := by unfold State.evalLines; simp [tenure_fields]
@[simp] theorem State.lineTrips_tenure (s : State) :
    (State.lineTrips s).tenure = s.tenure := by unfold State.lineTrips; simp [tenure_fields]
@[simp] theorem State.armRetry_tenure (s : State) (c : Chan) : (State.armRetry s c).tenure = s.tenure := by
  unfold State.armRetry; simp [tenure_fields]
@[simp] theorem State.tripNew_tenure (s : State) (c : Chan) (r : PodTrip) (ch : ChState) (held : Bool) :
    (State.tripNew s c r ch held).tenure = s.tenure := by
  unfold State.tripNew; simp [tenure_fields]
@[simp] theorem State.tripMore_tenure (s : State) (c : Chan) (r : PodTrip) (ch : ChState) :
    (State.tripMore s c r ch).tenure = s.tenure := by
  unfold State.tripMore; simp [tenure_fields]
@[simp] theorem State.noteSeen_tenure (s : State) (c : Chan) (v : PodStatus) (held : Bool) :
    (State.noteSeen s c v held).tenure = s.tenure := by
  unfold State.noteSeen; exact foldl_tenure _ (fun s e => by simp [tenure_fields]) _ _
@[simp] theorem State.tripSeen_tenure (s : State) (c : Chan) (v : PodStatus) (held : Bool) :
    (State.tripSeen s c v held).tenure = s.tenure := by
  unfold State.tripSeen; simp [tenure_fields]
@[simp] theorem State.cleanTick_tenure (s : State) (c : Chan) : (State.cleanTick s c).tenure = s.tenure := by
  unfold State.cleanTick; simp [tenure_fields]
@[simp] theorem State.latchGone_tenure (s : State) (c : Chan) : (State.latchGone s c).tenure = s.tenure := by
  unfold State.latchGone; simp [tenure_fields]
@[simp] theorem State.disable_tenure (s : State) (c : Chan) : (State.disable s c).tenure = s.tenure := by
  unfold State.disable; simp [tenure_fields]
@[simp] theorem State.unheard_tenure (s : State) (c : Chan) : (State.unheard s c).tenure = s.tenure := by
  unfold State.unheard; simp [tenure_fields]
@[simp] theorem State.seatTimer_tenure (s : State) (c : Chan) (t : Nat) : (State.seatTimer s c t).tenure = s.tenure := by
  unfold State.seatTimer; simp [tenure_fields]
@[simp] theorem State.removed_tenure (s : State) (c : Chan) : (State.removed s c).tenure = s.tenure := by
  unfold State.removed; simp [tenure_fields]
@[simp] theorem State.resumeXfer_tenure (s : State) (b : BusId) (k : Option (Chan × Option Chan)) :
    (State.resumeXfer s b k).tenure = s.tenure := by
  unfold State.resumeXfer; (repeat' split) <;> simp [tenure_fields]
@[simp] theorem State.rebuildBus_tenure (s : State) (b : BusId) : (State.rebuildBus s b).tenure = s.tenure := by
  unfold State.rebuildBus; simp [tenure_fields]
@[simp] theorem State.rebuildPre_tenure (s : State) (c : Chan) : (State.rebuildPre s c).tenure = s.tenure := by
  unfold State.rebuildPre; simp [tenure_fields]
@[simp] theorem State.ownership_tenure (s : State) (c : Chan) (code epoch : Nat) :
    (State.ownership s c code epoch).tenure = s.tenure := by
  unfold State.ownership; simp [tenure_fields]
@[simp] theorem State.seatSeen_tenure (s : State) (c : Chan) (old v : PodStatus) : (State.seatSeen s c old v).tenure = s.tenure := by
  unfold State.seatSeen; dsimp only; (repeat' split) <;> simp [tenure_fields]
@[simp] theorem State.feedA_tenure (s : State) (c : Chan) :
    (State.feedA s c).tenure = s.tenure := by unfold State.feedA; simp [tenure_fields]
@[simp] theorem State.podSwitches_tenure (s : State) (old : Nat) : (State.podSwitches s old).tenure = s.tenure := by
  unfold State.podSwitches; simp [tenure_fields]
@[simp] theorem State.sendCaptures_tenure (s : State) (c : Chan) : (State.sendCaptures s c).tenure = s.tenure := by
  unfold State.sendCaptures; simp [tenure_fields]
@[simp] theorem State.hkPut_tenure (s : State) (i sum : Nat) : (State.hkPut s i sum).tenure = s.tenure := by
  unfold State.hkPut; simp [tenure_fields]
@[simp] theorem State.hkNew_tenure (s : State) (old : Nat) : (State.hkNew s old).tenure = s.tenure := by
  unfold State.hkNew; simp [tenure_fields]
@[simp] theorem State.freshTrackers_tenure (s : State) (c : Chan) (part : Bool) :
    (State.freshTrackers s c part).tenure = s.tenure := by
  unfold State.freshTrackers; simp [tenure_fields]
@[simp] theorem State.orTargets_tenure (s : State) (b : BusId) : (State.orTargets s b).tenure = s.tenure := by
  unfold State.orTargets; simp [tenure_fields]
@[simp] theorem State.orTick_tenure (s : State) (b : BusId) : (State.orTick s b).tenure = s.tenure := by
  unfold State.orTick; simp [tenure_fields]
@[simp] theorem State.compose_tenure (s : State) (c : Chan) : (State.compose s c).tenure = s.tenure := by
  unfold State.compose; simp [tenure_fields]
@[simp] theorem State.milli_tenure (s : State) (c : Chan) :
    (State.milli s c).tenure = s.tenure := by unfold State.milli; simp [tenure_fields]
@[simp] theorem State.trackersAfresh_tenure (s : State) : (State.trackersAfresh s).tenure = s.tenure := by
  unfold State.trackersAfresh; simp [tenure_fields]
@[simp] theorem State.enumerate_tenure (s : State) :
    (State.enumerate s).tenure = s.tenure := by unfold State.enumerate; simp [tenure_fields]
@[simp] theorem State.enumEnd_tenure (s : State) : (State.enumEnd s).tenure = s.tenure := by unfold State.enumEnd; simp [tenure_fields]
@[simp] theorem State.enumTick_tenure (s : State) : (State.enumTick s).tenure = s.tenure := by
  unfold State.enumTick; (repeat' split) <;> simp [tenure_fields]
@[simp] theorem State.slewTick_tenure (s : State) :
    (State.slewTick s).tenure = s.tenure := by unfold State.slewTick; simp [tenure_fields]
@[simp] theorem State.chanEff_tenure (s : State) (c : Chan) : (State.chanEff s c).tenure = s.tenure := by
  unfold State.chanEff; simp [tenure_fields]
@[simp] theorem State.impose_tenure (s : State) (o : Obj) (i : Nat) (v : Int) : (State.impose s o i v).tenure = s.tenure := by
  unfold State.impose; simp [tenure_fields]
@[simp] theorem State.preSenses_tenure (s : State) (p : Quad) : (State.preSenses s p).tenure = s.tenure := by
  unfold State.preSenses; simp [tenure_fields]
@[simp] theorem State.preLetsSecond_tenure (s : State) (p : Quad) (old : Store) : (State.preLetsSecond s p old).tenure = s.tenure := by
  unfold State.preLetsSecond; simp [tenure_fields]
@[simp] theorem State.preOwns_tenure (s : State) (p : Quad) (old : Store) : (State.preOwns s p old).tenure = s.tenure := by
  unfold State.preOwns; simp [tenure_fields]
@[simp] theorem State.loadValue_tenure (s : State) (k : Nat) (v : Int) : (State.loadValue s k v).1.tenure = s.tenure := by
  unfold State.loadValue; (repeat' split) <;> simp [tenure_fields]
@[simp] theorem State.grantCheck_tenure (s : State) (b : BusId) : (State.grantCheck s b).1.tenure = s.tenure := by
  unfold State.grantCheck; dsimp only; (repeat' split) <;> simp [tenure_fields]
theorem State.loadPass_tenure (s : State) : s.loadPass.1.tenure = s.tenure := by
  unfold State.loadPass; exact foldl_fst_tenure _ (fun r x => by dsimp only; split <;> simp [tenure_fields]) _ _
theorem loadPasses_tenure (n : Nat) (s : State) : (State.loadPasses n s).1.tenure = s.tenure := by
  induction n generalizing s with
  | zero => rfl
  | succ n ih => simp only [State.loadPasses]; split <;> simp [ih, State.loadPass_tenure]
@[simp] theorem State.loadCfg_tenure (s : State) : (State.loadCfg s).tenure = s.tenure := by
  unfold State.loadCfg; split
  · simp [tenure_fields]
  · dsimp only
    rw [State.set_tenure, State.set_tenure, State.set_tenure, State.forChans_tenure _ _ _ fun s c => State.chanEff_tenure s c]
    simp only [tenure_mk, tenure_fields, Prod.eta, loadPasses_tenure]
    rw [foldl_fst_tenure _ (fun r x => by simp [tenure_fields]), foldl_fst_tenure _ (fun r x => by simp [tenure_fields])]
@[simp] theorem State.cfgInForce_tenure (s : State) :
    (State.cfgInForce s).tenure = s.tenure := by unfold State.cfgInForce; simp [tenure_fields]
@[simp] theorem State.portFrom_tenure (s : State) (c : Chan) (k : CkptPort) : (State.portFrom s c k).tenure = s.tenure := by
  unfold State.portFrom; simp [tenure_fields]
@[simp] theorem State.loadCkpt_tenure (s : State) : (State.loadCkpt s).tenure = s.tenure := by
  unfold State.loadCkpt; dsimp only; (repeat' split) <;> simp [tenure_fields]
@[simp] theorem State.reconcile_tenure (s : State) (c : Chan) : (State.reconcile s c).tenure = s.tenure := by
  unfold State.reconcile; simp [tenure_fields]
@[simp] theorem State.adoptKeptTrip_tenure (s : State) (c : Chan) (held : Bool) (last : Nat) :
    (State.adoptKeptTrip s c held last).tenure = s.tenure := by
  have hnotes (t : State) (l : List (Nat × Nat)) : (l.foldl (fun s e => s.journalAt e.2 0x05 (.chan c) e.1 []) t).tenure = t.tenure :=
    foldl_tenure _ (fun s e => State.journalAt_tenure ..) l t
  unfold State.adoptKeptTrip
  dsimp only
  split
  · simp
  · rw [hnotes]
    simp
@[simp] theorem State.adoptTrip_tenure (s : State) (c : Chan) (kept held : Bool) (last : Nat) :
    (State.adoptTrip s c kept held last).tenure = s.tenure := by
  unfold State.adoptTrip; simp [tenure_fields]
@[simp] theorem State.adoptTimes_tenure (s : State) (c : Chan) (kept : Bool) (tEnable0 : Nat) :
    (State.adoptTimes s c kept tEnable0).tenure = s.tenure := by
  unfold State.adoptTimes; simp [tenure_fields]
@[simp] theorem State.adoptRemoval_tenure (s : State) (c : Chan) : (State.adoptRemoval s c).tenure = s.tenure := by
  unfold State.adoptRemoval; simp [tenure_fields]
@[simp] theorem State.clockMove_tenure (s : State) (st : Nat) : (State.clockMove s st).tenure = s.tenure := by
  unfold State.clockMove; simp [tenure_fields]
@[simp] theorem State.clockTick_tenure (s : State) :
    (State.clockTick s).tenure = s.tenure := by unfold State.clockTick; simp [tenure_fields]
@[simp] theorem State.cfgTick_tenure (s : State) : (State.cfgTick s).tenure = s.tenure := by
  unfold State.cfgTick; (repeat' split) <;> simp [tenure_fields]
@[simp] theorem State.putRw_tenure (s : State) (key : Nat) (v : Int) : (State.putRw s key v).tenure = s.tenure := by
  unfold State.putRw; (repeat' split) <;> simp [tenure_fields]
@[simp] theorem State.rwApply_tenure (s : State) : (State.rwApply s).tenure = s.tenure := by unfold State.rwApply; simp [tenure_fields]
theorem State.now_of_tenure {s u : State} (h : s.tenure = u.tenure) : s.now = u.now := congrArg Prod.fst h

theorem State.boot_of_tenure {s u : State} (h : s.tenure = u.tenure) : s.jnl.boot = u.jnl.boot := congrArg (fun t => t.2.1) h

theorem State.hub_of_tenure {s u : State} (h : s.tenure = u.tenure) : s.hub = u.hub := congrArg (fun t => t.2.2.1) h

theorem State.fw_of_tenure {s u : State} (h : s.tenure = u.tenure) : s.fw = u.fw := congrArg (fun t => t.2.2.2.1) h

theorem State.own_of_tenure {s u : State} (h : s.tenure = u.tenure) (c : Chan) : (s.port c).own = (u.port c).own :=
  congrArg (fun t => (t.2.2.2.2 c).1) h

theorem State.takeDue_of_tenure {s u : State} (h : s.tenure = u.tenure) (c : Chan) : (s.port c).takeDue = (u.port c).takeDue :=
  congrArg (fun t => (t.2.2.2.2 c).2) h

theorem State.sealCuts_tenure (s : State) : s.sealCuts.tenure = s.tenure := by
  refine foldl_tenure _ (fun s i => ?_) _ s
  split
  · exact State.journal_tenure ..
  · rfl

end Sys2Proof.Machine

/-!
# The control tick and mirroring (R21, R461, R534)
-/

namespace Sys2Proof.Machine

set_option linter.unusedSimpArgs false

/-! ## The work of a tick leaves the sets alone -/

@[simp] theorem State.feedForward_conf (s : State) (p : Quad) : (State.feedForward s p).conf = s.conf := by
  unfold State.feedForward; (repeat' split) <;> simp [conf_fields]
@[simp] theorem State.preHist_conf (s : State) (p : Quad) : (State.preHist s p).conf = s.conf := by
  unfold State.preHist; simp [conf_fields]
@[simp] theorem State.preTick_conf (s : State) (p : Quad) : (State.preTick s p).conf = s.conf := by
  unfold State.preTick; dsimp only; (repeat' split) <;> simp [conf_fields]
@[simp] theorem State.disHeat_conf (s : State) (d : Quad) : (State.disHeat s d).conf = s.conf := by
  unfold State.disHeat; simp [conf_fields]
@[simp] theorem State.disOff_conf (s : State) (d : Quad) : (State.disOff s d).conf = s.conf := by
  unfold State.disOff; (repeat' split) <;> simp [conf_fields]
@[simp] theorem State.disTick_conf (s : State) (d : Quad) : (State.disTick s d).conf = s.conf := by
  unfold State.disTick; dsimp only; (repeat' split) <;> simp [conf_fields]
@[simp] theorem State.xferAgain_conf (s : State) (b : BusId) (new : Chan) : (State.xferAgain s b new).conf = s.conf := by
  unfold State.xferAgain; dsimp only; split <;> simp [conf_fields]
@[simp] theorem State.selLost_conf (s : State) (b : BusId) (c : Chan) : (State.selLost s b c).conf = s.conf := by
  unfold State.selLost; simp [conf_fields]
@[simp] theorem State.xferTick_conf (s : State) (b : BusId) : (State.xferTick s b).conf = s.conf := by
  unfold State.xferTick; dsimp only; (repeat' split) <;> simp [conf_fields]
@[simp] theorem State.selectDead_conf (s : State) (b : BusId) : (State.selectDead s b).conf = s.conf := by
  unfold State.selectDead; simp [conf_fields]
@[simp] theorem State.feedTick_conf (s : State) (b : BusId) (c : Chan) : (State.feedTick s b c).conf = s.conf := by
  unfold State.feedTick; simp [conf_fields]
@[simp] theorem State.eligibleTick_conf (s : State) (b : BusId) : (State.eligibleTick s b).conf = s.conf := by
  unfold State.eligibleTick; simp [conf_fields]
@[simp] theorem State.busSource_conf (s : State) (b : BusId) : (State.busSource s b).conf = s.conf := by
  unfold State.busSource; simp [conf_fields]
@[simp] theorem State.busTick_conf (s : State) (b : BusId) : (State.busTick s b).conf = s.conf := by
  unfold State.busTick; dsimp only; (repeat' split) <;> simp [conf_fields]
@[simp] theorem State.pulseBus_conf (s : State) (b : BusId) : (State.pulseBus s b).conf = s.conf := by
  unfold State.pulseBus; simp [conf_fields]
@[simp] theorem State.lineTrips_conf (s : State) : (State.lineTrips s).conf = s.conf := by unfold State.lineTrips; simp [conf_fields]
@[simp] theorem State.cleanTick_conf (s : State) (c : Chan) : (State.cleanTick s c).conf = s.conf := by
  unfold State.cleanTick; simp [conf_fields]
@[simp] theorem State.orTargets_conf (s : State) (b : BusId) : (State.orTargets s b).conf = s.conf := by
  unfold State.orTargets; simp [conf_fields]
@[simp] theorem State.orTick_conf (s : State) (b : BusId) : (State.orTick s b).conf = s.conf := by
  unfold State.orTick; simp [conf_fields]
@[simp] theorem State.compose_conf (s : State) (c : Chan) : (State.compose s c).conf = s.conf := by
  unfold State.compose; simp [conf_fields]
@[simp] theorem State.milli_conf (s : State) (c : Chan) : (State.milli s c).conf = s.conf := by unfold State.milli; simp [conf_fields]
@[simp] theorem State.trackersAfresh_conf (s : State) : (State.trackersAfresh s).conf = s.conf := by
  unfold State.trackersAfresh; simp [conf_fields]
@[simp] theorem State.hubTick_conf (s : State) : (State.hubTick s).conf = s.conf := by
  unfold State.hubTick; (repeat' split) <;> simp [conf_fields]
@[simp] theorem State.tick_conf (s : State) : (State.tick s).conf = s.conf := by
  unfold State.tick
  dsimp only
  rw [State.evalLines_conf, State.hubTick_conf]
  rw [State.forChans_conf _ _ _ (fun s c => by simp [conf_fields])]
  have h : ∀ s : State, (if s.now % msNs = 0 then s.forChans allChans State.milli else s).conf = s.conf := by
    intro s; split
    · exact State.forChans_conf _ _ _ (fun s c => by simp [conf_fields])
    · rfl
  rw [h]
  rw [foldl_conf _ (fun s d => by (repeat' split) <;> simp [conf_fields])]
  rw [foldl_conf _ (fun s p => by (repeat' split) <;> simp [conf_fields])]
  rw [foldl_conf _ (fun s b => by split <;> simp [conf_fields])]
  rw [foldl_conf State.pulseBus (fun s b => by simp [conf_fields])]
  rw [foldl_conf State.busSource (fun s b => by simp [conf_fields])]
  exact State.forChans_conf _ _ _ (fun s c => by simp [conf_fields])
@[simp] theorem State.enumEnd_conf (s : State) : (State.enumEnd s).conf = s.conf := by unfold State.enumEnd; simp [conf_fields]
@[simp] theorem State.enumTick_conf (s : State) : (State.enumTick s).conf = s.conf := by
  unfold State.enumTick; (repeat' split) <;> simp [conf_fields]
@[simp] theorem State.slewTick_conf (s : State) : (State.slewTick s).conf = s.conf := by unfold State.slewTick; simp [conf_fields]
@[simp] theorem State.clockTick_conf (s : State) : (State.clockTick s).conf = s.conf := by unfold State.clockTick; simp [conf_fields]
@[simp] theorem State.cfgTick_conf (s : State) : (State.cfgTick s).conf = s.conf := by
  unfold State.cfgTick; (repeat' split) <;> simp [conf_fields]

/-! ## Time and takeovers -/

/-- Time, and of each port whether a takeover is due. -/
def State.reign (s : State) : Nat × (Chan → Option Nat) := (s.now, fun c => (s.port c).takeDue)

theorem State.reign_of_tenure {s u : State} (h : s.tenure = u.tenure) : s.reign = u.reign :=
  Prod.ext (State.now_of_tenure h) (funext fun c => State.takeDue_of_tenure h c)

theorem State.now_of_reign {s u : State} (h : s.reign = u.reign) : s.now = u.now := congrArg Prod.fst h

theorem State.takeDue_of_reign {s u : State} (h : s.reign = u.reign) (c : Chan) : (s.port c).takeDue = (u.port c).takeDue :=
  congrFun (congrArg Prod.snd h) c

theorem State.active_of_conf {s u : State} (h : s.conf = u.conf) : s.active = u.active := congrArg Prod.fst h

theorem State.rwNext_of_conf {s u : State} (h : s.conf = u.conf) : s.rwNext = u.rwNext := congrArg (fun t => t.2.2.1) h

theorem State.hubTick_reign (s : State) : s.hubTick.reign = s.reign := by
  unfold State.hubTick
  split
  · split
    · exact (State.reign_of_tenure (State.trackersAfresh_tenure _)).trans rfl
    · rfl
  · split <;> rfl
  · rfl

theorem State.tick_reign (s : State) : s.tick.reign = s.reign := by
  unfold State.tick
  dsimp only
  rw [State.reign_of_tenure (State.evalLines_tenure _), State.hubTick_reign]
  refine State.reign_of_tenure ?_
  rw [State.forChans_tenure _ _ _ (fun s c => by simp)]
  have hmilli (s : State) : (if s.now % msNs = 0 then s.forChans allChans State.milli else s).tenure = s.tenure := by
    split
    · exact State.forChans_tenure _ _ _ fun s c => State.milli_tenure s c
    · rfl
  rw [hmilli, foldl_tenure _ (fun s d => by split <;> simp), foldl_tenure _ (fun s p => by (repeat' split) <;> simp),
    foldl_tenure _ (fun s b => by split <;> simp), foldl_tenure State.pulseBus State.pulseBus_tenure,
    foldl_tenure State.busSource State.busSource_tenure]
  exact State.forChans_tenure _ _ _ State.cleanTick_tenure

/-- Where no takeover is due, nothing is taken over. -/
theorem State.takeover_of_none {s : State} {c : Chan} (h : (s.port c).takeDue = none) : s.takeover c = s := by
  unfold State.takeover
  rw [h]

theorem foldl_takeover_of_none {s : State} (h : ∀ c, (s.port c).takeDue = none) (l : List Chan) : l.foldl State.takeover s = s := by
  induction l with
  | nil => rfl
  | cons c l ih => rw [List.foldl_cons, State.takeover_of_none (h c), ih]

/-- Time and the writes that wait are no concern of a takeover. -/
def State.clock (s : State) : Nat × List (Nat × Int) := (s.now, s.rwNext)

theorem State.clock_of_frames {s u : State} (htenure : s.tenure = u.tenure) (hconf : s.conf = u.conf) : s.clock = u.clock :=
  Prod.ext (State.now_of_tenure htenure) (State.rwNext_of_conf hconf)

theorem State.claimGroup_clock (s : State) (c : Chan) (e : Nat) : (s.claimGroup c e).clock = s.clock := by
  have hheld (s : State) (l : List Chan) : (l.foldl (fun s k => s.claimHeld k e) s).clock = s.clock :=
    foldl_keeps State.clock (fun s k => s.claimHeld k e) (fun _ _ => rfl) l s
  unfold State.claimGroup
  dsimp only
  split
  · exact (State.clock_of_frames (State.rebuildBus_tenure ..) (State.rebuildBus_conf ..)).trans (hheld ..)
  · exact hheld ..

theorem State.takeover_clock (s : State) (c : Chan) : (s.takeover c).clock = s.clock := by
  unfold State.takeover
  split
  · next e _ =>
    split
    · rfl
    · exact (State.clock_of_frames (State.ownership_tenure ..) (State.journal_conf ..)).trans (s.claimGroup_clock c (e + 1))
  · rfl

/-! ## The standing content of a frame (R21) -/

/-- The frame of a port carries its enable, epoch and retry count. -/
def Port.carries (q : Port) : Prop := q.down.enable = q.enable ∧ q.down.epoch = q.epoch ∧ q.down.retryN = q.trip.retryN

/-- What `Port.carries` is about. -/
def Port.content (q : Port) : Bool × Nat × Nat × Bool × Nat × Nat :=
  (q.down.enable, q.down.epoch, q.down.retryN, q.enable, q.epoch, q.trip.retryN)

theorem Port.carries_of_content {p q : Port} (h : p.content = q.content) (hq : q.carries) : p.carries := by
  simp only [Port.content, Prod.mk.injEq] at h
  obtain ⟨henable, hepoch, hretry, henable', hepoch', hretry'⟩ := h
  unfold Port.carries at hq ⊢
  rwa [henable, hepoch, hretry, henable', hepoch', hretry']

theorem PortTrip.sending_retryN (r : PortTrip) (trips now : Nat) : (r.sending trips now).retryN = r.retryN := by
  unfold PortTrip.sending
  dsimp only
  split
  · rfl
  · split <;> rfl

theorem ite_pulseTrip_port (s : State) (c k : Chan) (n : Nat) : (if n = 0 then s else s.pulseTrip c n).port k = s.port k := by
  split
  · rfl
  · exact State.port_units (State.pulseTrip_units ..) k

theorem State.compose_port_other (s : State) {c k : Chan} (h : k ≠ c) : (s.compose k).port c = s.port c := by
  unfold State.compose
  dsimp only
  unfold State.down
  rw [State.updPort_port_other _ _ _ _ h, ite_pulseTrip_port, State.updPort_port_other _ _ _ _ h]

theorem State.compose_carries (s : State) (c : Chan) : ((s.compose c).port c).carries := by
  unfold State.compose
  dsimp only
  unfold State.down
  rw [State.updPort_port_self, ite_pulseTrip_port, State.updPort_port_self]
  exact ⟨rfl, rfl, (PortTrip.sending_retryN ..).symm⟩

/-- Metering of a port, and what its pod has kept, are no part of its frame. -/
theorem updPod_updPort_content (s : State) (k c : Chan) (f : Pod → Pod) (g : PortMeter → PortMeter) :
    (((s.updPod k f).updPort k fun q => { q with mtr := g q.mtr }).port c).content = (s.port c).content :=
  State.updPort_part (part := Port.content) (f := fun q => { q with mtr := g q.mtr }) (fun _ => rfl) (s.updPod k f) k c

theorem State.sendCaptures_content (s : State) (k c : Chan) : ((s.sendCaptures k).port c).content = (s.port c).content := by
  unfold State.sendCaptures
  dsimp only
  split
  · split <;> exact updPod_updPort_content s k c _ (fun m => { m with caps := m.caps + _ })
  · rfl

theorem State.trackersAfresh_content (s : State) (c : Chan) : (s.trackersAfresh.port c).content = (s.port c).content :=
  foldl_keeps (fun s => (s.port c).content) _
    (fun s k => updPod_updPort_content s k c _ (fun m => { m with trk := {}, partialWin := true })) _ s

theorem State.hubTick_content (s : State) (c : Chan) : (s.hubTick.port c).content = (s.port c).content := by
  unfold State.hubTick
  split
  · split
    · exact State.trackersAfresh_content { s with hub := .run } c
    · rfl
  · split <;> rfl
  · rfl

/-- After the frames are composed, that of every port carries what the port stands at. -/
theorem State.tick_carries (s : State) (c : Chan) : (s.tick.port c).carries := by
  unfold State.tick
  dsimp only
  rw [State.evalLines_port]
  refine Port.carries_of_content (State.hubTick_content _ c) ?_
  refine foldl_reaches (inv := fun _ => True) (good := fun s : State => (s.port c).carries) (k := c) (fun _ _ _ => trivial) (fun s _ => ?_)
    (fun s k _ hcarries => ?_) (mem_allChans c) trivial
  · exact Port.carries_of_content (State.sendCaptures_content ..) (s.compose_carries c)
  · refine Port.carries_of_content (State.sendCaptures_content ..) ?_
    by_cases hk : k = c
    · subst hk
      exact s.compose_carries k
    · rwa [s.compose_port_other hk]

/-! ## The boundary -/

/-- What a boundary does before the hub evaluates: written RW values apply; clock, save, enumeration, filters move on. -/
def State.tickStart (s : State) : State :=
  let s := (s.at (nextTick s.now)).rwApply.clockTick.cfgTick.enumTick.slewTick
  allOct.foldl (fun s n => s.cellFilter n s.now) s

theorem exec_controlTick_eq (s : State) : exec .controlTick s =
    .next (if s.tickStart.hubUp then allChans.foldl State.takeover s.tickStart.lineTrips.tick else s.tickStart) := rfl

theorem State.tickStart_tenure (s : State) : s.tickStart.tenure = (s.at (nextTick s.now)).tenure := by
  unfold State.tickStart
  dsimp only
  rw [foldl_tenure _ (fun s n => State.cellFilter_tenure ..), State.slewTick_tenure, State.enumTick_tenure, State.cfgTick_tenure,
    State.clockTick_tenure, State.rwApply_tenure]

theorem State.tickStart_conf (s : State) : s.tickStart.conf = (s.at (nextTick s.now)).rwApply.conf := by
  unfold State.tickStart
  dsimp only
  rw [foldl_conf _ (fun s n => State.cellFilter_conf ..), State.slewTick_conf, State.enumTick_conf, State.cfgTick_conf,
    State.clockTick_conf]

theorem now_at_nextTick (s : State) : (s.at (nextTick s.now)).now = nextTick s.now := by
  rw [State.at_now]
  change max s.now ((s.now / 1000 + 1) * 1000) = (s.now / 1000 + 1) * 1000
  have hdiv := Nat.div_add_mod s.now 1000
  have hmod := Nat.mod_lt s.now (show 1000 > 0 by decide)
  exact Nat.max_eq_right (by omega)

/-- No RW write waits once those that waited are in force. -/
theorem State.rwApply_rwNext (s : State) : s.rwApply.rwNext = [] := by
  have hput (s : State) (e : Nat × Int) : (s.putRw e.1 e.2).rwNext = s.rwNext := by
    unfold State.putRw
    split <;> rfl
  have hhk (s : State) (old : Nat) : (s.hkNew old).rwNext = s.rwNext := by
    refine State.rwNext_of_conf ?_
    unfold State.hkNew
    simp [conf_fields]
  unfold State.rwApply
  dsimp only
  rw [hhk, State.podSwitches_part State.rwNext (fun _ _ => rfl)]
  exact foldl_keeps State.rwNext _ hput s.rwNext { s with rwNext := [] }

theorem State.clock_eq {s : State} {t : Nat} {l : List (Nat × Int)} (hnow : s.now = t) (hrw : s.rwNext = l) : s.clock = (t, l) := by
  unfold State.clock
  rw [hnow, hrw]

theorem State.tickStart_clock (s : State) : s.tickStart.clock = (nextTick s.now, []) :=
  State.clock_eq ((State.now_of_tenure s.tickStart_tenure).trans (now_at_nextTick s))
    ((State.rwNext_of_conf s.tickStart_conf).trans (State.rwApply_rwNext _))

/-- The work of a hub that is up leaves the sets and what `State.reign` tells. -/
theorem tickWork_frames (s : State) : s.lineTrips.tick.reign = s.reign ∧ s.lineTrips.tick.conf = s.conf :=
  ⟨(State.tick_reign _).trans (State.reign_of_tenure (State.lineTrips_tenure s)), (State.tick_conf _).trans (State.lineTrips_conf s)⟩

theorem tickWork_clock (s : State) : s.lineTrips.tick.clock = s.clock := by
  obtain ⟨hreign, hconf⟩ := tickWork_frames s
  exact Prod.ext (State.now_of_reign hreign) (State.rwNext_of_conf hconf)

theorem exec_controlTick_clock (s : State) : ∃ u, exec .controlTick s = .next u ∧ u.clock = (nextTick s.now, []) := by
  refine ⟨_, exec_controlTick_eq s, ?_⟩
  rw [apply_ite State.clock, foldl_keeps State.clock State.takeover State.takeover_clock, tickWork_clock, ite_self, s.tickStart_clock]

/-- With no takeover due the boundary ends with the work of the hub. -/
theorem exec_controlTick_of_noTakeover {s : State} (hnone : ∀ k : Chan, (s.port k).takeDue = none) :
    exec .controlTick s = .next (if s.tickStart.hubUp then s.tickStart.lineTrips.tick else s.tickStart) := by
  have hdue (k : Chan) : (s.tickStart.lineTrips.tick.port k).takeDue = none := by
    obtain ⟨hreign, -⟩ := tickWork_frames s.tickStart
    exact (State.takeDue_of_reign hreign k).trans ((State.takeDue_of_tenure s.tickStart_tenure k).trans (hnone k))
  rw [exec_controlTick_eq, foldl_takeover_of_none hdue]

/-! ## The statement -/

/-- Settles O47: every step of the tick keeps time, the waiting writes and, but for a takeover, the sets; the frames are composed last. -/
theorem tickAndMirroring : Obligations.TickAndMirroring := by
  refine ⟨fun s hup hstate => ⟨_, rfl, ?_⟩, fun s => ?_⟩
  · rw [hup, hstate]
    rfl
  · obtain ⟨u, hexec, hclock⟩ := exec_controlTick_clock s
    refine ⟨u, hexec, congrArg Prod.fst hclock, congrArg Prod.snd hclock, fun hnone => ?_⟩
    rw [exec_controlTick_of_noTakeover hnone] at hexec
    obtain rfl := Host.Outcome.next.inj hexec
    have hhub : s.tickStart.hub = s.hub := (State.hub_of_tenure s.tickStart_tenure).trans rfl
    refine ⟨?_, fun hup c => ?_⟩
    · have hconf : (if s.tickStart.hubUp then s.tickStart.lineTrips.tick else s.tickStart).conf =
          (s.at (nextTick s.now)).rwApply.conf := by
        obtain ⟨-, hwork⟩ := tickWork_frames s.tickStart
        rw [apply_ite State.conf, hwork, ite_self, s.tickStart_conf]
      exact State.active_of_conf hconf
    · have hup' : s.tickStart.hubUp = true := by
        unfold State.hubUp at hup ⊢
        rw [hhub]
        exact hup
      rw [if_pos hup']
      exact State.tick_carries _ c

end Sys2Proof.Machine

/-!
# BOOT, ADOPT and the adoption of one pod (R398 to R402, R543, R544)
-/

namespace Sys2Proof.Machine

/-! ## Whom a pod obeys -/

/-- The hub that each pod obeys: this one, another, none. -/
def State.links (s : State) : Chan → Option Bool := fun c => (s.pod c).st.own.link

theorem State.links_of_podBank {s u : State} (h : u.podBank = s.podBank) : u.links = s.links := by
  have hpods : u.pods = s.pods := h
  unfold State.links State.pod
  rw [hpods]

/-- A change of a pod that keeps whom it obeys. -/
theorem State.updPod_links (s : State) (c : Chan) (f : Pod → Pod) (h : (f (s.pod c)).st.own.link = (s.pod c).st.own.link) :
    (s.updPod c f).links = s.links := by
  funext d
  unfold State.links
  by_cases hd : c = d
  · subst hd
    rw [State.updPod_pod_self, h]
  · rw [State.updPod_pod_other _ _ _ _ hd]

theorem Pod.tiesAtActive_own (p : Pod) (t : Nat) : (p.tiesAtActive t).st.own = p.st.own := by
  unfold Pod.tiesAtActive
  split
  · split <;> rfl
  · rfl

theorem Pod.owned_link (p : Pod) (own : Bool) (e t : Nat) : (p.owned own e t).st.own.link = some own := by
  unfold Pod.owned
  dsimp only
  split
  · rfl
  · rw [Pod.tiesAtActive_own]
  · rw [Pod.tiesAtActive_own] <;> rfl
  · rfl

theorem State.adoptRemoval_links (s : State) (c : Chan) : (s.adoptRemoval c).links = s.links := by
  unfold State.adoptRemoval
  split
  · rw [State.links_of_podBank (State.updPort_podBank ..), State.updPod_links, State.links_of_podBank (State.removed_podBank ..)]
    dsimp only
    split <;> rfl
  · rfl

theorem State.trackersAfresh_links (s : State) : s.trackersAfresh.links = s.links :=
  foldl_keeps State.links _
    (fun s c => (State.links_of_podBank (State.updPort_podBank ..)).trans
      (s.updPod_links c (fun p => { p with mtr := { p.mtr with trk := {} } }) rfl)) _ s

/-! ## An adopted pod (R543) -/

/-- The port of the pod is owned by this hub, and the pod obeys it. -/
def adopted (s : State) (c : Chan) : Prop := (s.port c).own = true ∧ (s.pod c).st.own.link = some true

theorem adopted_of_frames {s u : State} {c : Chan} (htenure : s.tenure = u.tenure) (hlinks : s.links = u.links) (h : adopted u c) :
    adopted s c := by
  obtain ⟨hown, hlink⟩ := h
  exact ⟨(State.own_of_tenure htenure c).trans hown, (congrFun hlinks c).trans hlink⟩

/-- The claim of a pod makes it an adopted one. -/
theorem claim_adopted {t : State} {c : Chan} {f : Pod → Pod} (e : Nat) (hf : ∀ p, (f p).st.own.link = some true) :
    adopted ((t.updPod c f).claim c e) c := by
  unfold State.claim
  refine ⟨?_, ?_⟩
  · rw [State.updPort_port_self]
  · rw [State.updPort_pod, State.updPod_pod_self, hf]

/-- It leaves an adopted pod adopted. -/
theorem claim_keeps_adopted {t : State} {c k : Chan} {f : Pod → Pod} (e : Nat) (hf : ∀ p, (f p).st.own.link = some true)
    (h : adopted t k) : adopted ((t.updPod c f).claim c e) k := by
  by_cases hk : c = k
  · subst hk
    exact claim_adopted e hf
  · obtain ⟨hown, hlink⟩ := h
    unfold State.claim
    refine ⟨?_, ?_⟩
    · rwa [State.updPort_port_other _ _ _ _ hk]
    · rwa [State.updPort_pod, State.updPod_pod_other _ _ _ _ hk]

/-- Besides its claim an adoption moves neither owners nor whom pods obey. -/
theorem State.adoptPod_adopted {s : State} {c k : Chan}
    (h : ∀ (t : State) (f : Pod → Pod) (e : Nat), (∀ p, (f p).st.own.link = some true) → t.tenure = s.tenure → t.links = s.links →
      adopted ((t.updPod c f).claim c e) k) : adopted (s.adoptPod c) k := by
  unfold State.adoptPod
  dsimp only
  refine adopted_of_frames (State.adoptRemoval_tenure ..) (State.adoptRemoval_links ..) ?_
  refine adopted_of_frames (State.adoptTimes_tenure ..) (State.links_of_podBank (State.adoptTimes_podBank ..)) ?_
  refine adopted_of_frames (State.adoptTrip_tenure ..) (State.links_of_podBank (State.adoptTrip_podBank ..)) ?_
  refine adopted_of_frames (State.updPort_tenure _ _ _ (fun _ => rfl) fun _ => rfl) (State.links_of_podBank (State.updPort_podBank ..)) ?_
  refine h _ _ _ (fun p => Pod.owned_link ..) ?_ ?_
  · simp
  · exact State.links_of_podBank (by simp)

theorem State.adoptPod_adopts (s : State) (c : Chan) : adopted (s.adoptPod c) c :=
  State.adoptPod_adopted fun _ _ e hf _ _ => claim_adopted e hf

theorem State.adoptPod_keeps_adopted {s : State} (c : Chan) {k : Chan} (h : adopted s k) : adopted (s.adoptPod c) k :=
  State.adoptPod_adopted fun _ _ e hf htenure hlinks => claim_keeps_adopted e hf (adopted_of_frames htenure hlinks h)

/-- What follows an adoption for the buses moves no owner. -/
theorem adoptPods_adopts (s : State) {l : List Chan} {c : Chan} (hc : c ∈ l) : adopted (s.adoptPods l) c := by
  have hbuses (t : State) (k : BusId → Option (Chan × Option Chan)) :
      (allBuses.foldl (fun s b => if runsBus s b then (s.rebuildBus b).resumeXfer b (k b) else s) t).tenure = t.tenure ∧
      (allBuses.foldl (fun s b => if runsBus s b then (s.rebuildBus b).resumeXfer b (k b) else s) t).podBank = t.podBank := by
    refine ⟨foldl_tenure _ (fun s b => ?_) _ t, foldl_podBank _ (fun s b => ?_) _ t⟩
    · split <;> simp
    · split <;> simp
  unfold State.adoptPods
  dsimp only
  refine adopted_of_frames (State.evalLines_tenure _) (State.links_of_podBank (State.evalLines_podBank _)) ?_
  refine adopted_of_frames (foldl_tenure _ State.rebuildPre_tenure ..)
    (State.links_of_podBank (foldl_podBank _ State.rebuildPre_podBank ..)) ?_
  obtain ⟨htenure, hpods⟩ := hbuses (l.foldl State.adoptPod s) fun b => (keptXfer s b).filter fun k => l.contains (k.2.getD k.1)
  refine adopted_of_frames htenure (State.links_of_podBank hpods) ?_
  exact foldl_reaches (inv := fun _ => True) (good := fun s : State => adopted s c) (fun _ _ _ => trivial)
    (fun s _ => s.adoptPod_adopts c) (fun s k _ h => s.adoptPod_keeps_adopted k h) hc trivial

theorem State.cameUp_hub (s : State) (h : HubState) : (s.cameUp h).hub = h := rfl

theorem State.cameUp_adopted {s : State} {c : Chan} (h : HubState) (hc : adopted s c) : adopted (s.cameUp h) c := hc

theorem exec_adopt_of_adopt {s : State} (h : s.hub = .adopt) : ∃ u, exec .adopt s = .next u ∧ u.hub = .run ∧
    ∀ c : Chan, mayAdopt s c = true → adopted u c := by
  refine ⟨_, congrArg Host.Outcome.next (if_pos h), ?_, fun c hc => ?_⟩
  · exact (State.hub_of_tenure (State.trackersAfresh_tenure _)).trans (State.cameUp_hub ..)
  · refine adopted_of_frames (State.trackersAfresh_tenure _) (State.trackersAfresh_links _) ?_
    exact State.cameUp_adopted .run (adoptPods_adopts s (List.mem_filter.mpr ⟨mem_allChans c, hc⟩))

theorem exec_podAdoption_of_held {c : Chan} {s : State} (hhub : s.hub = .idle ∨ s.hub = .run) (hown : (s.port c).own = false)
    (hmay : mayAdopt s c = true) (hholds : (s.pod c).st.pod.holds = true) :
    ∃ u, exec (.podAdoption c) s = .next u ∧ (u.port c).own = true ∧ (u.pod c).st.own.link = some true :=
  ⟨_, congrArg Host.Outcome.next (if_pos ⟨hhub, hown, hmay, hholds⟩), adoptPods_adopts s List.mem_cons_self⟩

/-! ## What BOOT keeps (R399) -/

/-- Boot number, hub state, firmware, reset causes. -/
def State.berth (s : State) : Nat × HubState × Fw × Nat := (s.jnl.boot, s.hub, s.fw, s.power.latch)

theorem State.berth_of_frames {s u : State} (htenure : s.tenure = u.tenure) (hhost : s.host = u.host) : s.berth = u.berth := by
  have hpower : s.power = u.power := congrArg (fun h => h.2.2.2.2.2) hhost
  unfold State.berth
  rw [State.boot_of_tenure htenure, State.hub_of_tenure htenure, State.fw_of_tenure htenure, hpower]

theorem State.linkUp_berth (s : State) (c : Chan) : (s.linkUp c).berth = s.berth := by
  unfold State.linkUp
  dsimp only
  split
  · split <;> rfl
  · split
    · rfl
    · split <;> rfl

theorem State.adoptPod_berth (s : State) (c : Chan) : (s.adoptPod c).berth = s.berth := by
  have hport (t : State) (f : Port → Port) : (t.updPort c f).berth = t.berth := rfl
  have hpod (t : State) (f : Pod → Pod) : (t.updPod c f).berth = t.berth := rfl
  have hclaim (t : State) (e : Nat) : (t.claim c e).berth = t.berth := rfl
  unfold State.adoptPod
  dsimp only
  rw [State.berth_of_frames (State.adoptRemoval_tenure ..) (State.adoptRemoval_host ..),
    State.berth_of_frames (State.adoptTimes_tenure ..) (State.adoptTimes_host ..),
    State.berth_of_frames (State.adoptTrip_tenure ..) (State.adoptTrip_host ..), hport, hclaim, hpod]
  exact State.berth_of_frames (by simp) (by simp)

theorem State.adoptPods_berth (s : State) (l : List Chan) : (s.adoptPods l).berth = s.berth := by
  unfold State.adoptPods
  dsimp only
  rw [State.berth_of_frames (State.evalLines_tenure _) (State.evalLines_host _),
    foldl_keeps State.berth _ fun s c => State.berth_of_frames (State.rebuildPre_tenure ..) (State.rebuildPre_host ..)]
  refine (foldl_keeps State.berth _ (fun s b => ?_) allBuses _).trans (foldl_keeps State.berth _ State.adoptPod_berth l s)
  split
  · exact State.berth_of_frames (by simp) (by simp)
  · rfl

/-- BOOT ends in IDLE, or with a live pod in ADOPT; boot number, firmware and causes stay (R398). -/
theorem State.bootEnd_berth (s : State) : ∃ h, (h = .idle ∨ h = .adopt) ∧ s.bootEnd.berth = (s.jnl.boot, h, s.fw, s.power.latch) := by
  have hirq (t : State) : (t.irq 1).berth = t.berth := rfl
  have hjournal (t : State) (d : List (Nat × Nat)) : (if t.power.woke then t.journal 0x11 .hub 2 d else t).berth = t.berth := by
    split
    · exact State.berth_of_frames (State.journal_tenure ..) (State.journal_host ..)
    · rfl
  have hquiet (t : State) : State.berth { t with power := { t.power with woke := false } } = t.berth := rfl
  have hhead (t : State) : (if isHead t then t.enumerate else t).berth = t.berth := by
    split
    · exact State.berth_of_frames (State.enumerate_tenure t) (State.enumerate_host t)
    · rfl
  have hroutes (t : State) : (t.cellsPower.routesAct t t.now).berth = t.berth := State.berth_of_frames (by simp) (by simp)
  have hothers (t : State) (l : List Chan) : (l.foldl State.linkUp t).berth = t.berth :=
    foldl_keeps State.berth _ State.linkUp_berth l t
  have hafresh (t : State) : t.trackersAfresh.berth = t.berth :=
    State.berth_of_frames (State.trackersAfresh_tenure t) (foldl_host _ (fun s c => State.freshTrackers_host ..) _ t)
  unfold State.bootEnd
  dsimp only
  cases allChans.any (livePod s) with
  | true =>
    refine ⟨.adopt, .inr rfl, ?_⟩
    rw [hhead, hquiet, hjournal, hirq, if_pos rfl, hothers, hroutes, if_pos rfl, hafresh]
    rfl
  | false =>
    refine ⟨.idle, .inl rfl, ?_⟩
    rw [hhead, hquiet, hjournal, hirq, if_neg (by decide), State.adoptPods_berth, hothers, hroutes, if_neg (by decide)]
    rfl

/-! ## The loads of BOOT -/

theorem State.bootFw_berth (s : State) (runsB back : Bool) :
    (s.bootFw runsB back).jnl.boot = s.jnl.boot ∧ (s.bootFw runsB back).hub = s.hub ∧ (s.bootFw runsB back).fw.runsB = runsB := by
  unfold State.bootFw
  dsimp only
  split <;> exact ⟨rfl, rfl, rfl⟩

/-- The boot record counts the boot and ends the causes (R402, R555). -/
theorem State.bootRecord_berth (s : State) : s.bootRecord.berth = ((s.jnl.boot + 1) % 65536, s.hub, s.fw, 0) := by
  have hjournal (t : State) (d : List (Nat × Nat)) (x : Nat) : (t.journal 0x10 .hub x d).berth = t.berth :=
    State.berth_of_frames (State.journal_tenure ..) (State.journal_host ..)
  have hcuts (t : State) : t.sealCuts.berth = t.berth := by
    refine foldl_keeps State.berth _ (fun s i => ?_) _ t
    split
    · exact State.berth_of_frames (State.journal_tenure ..) (State.journal_host ..)
    · rfl
  have hcount (t : State) (n : Nat) : (if n = 0 then t else t.count OD.HUB_RST_COUNT).berth = t.berth := by
    split <;> rfl
  unfold State.bootRecord
  dsimp only
  rw [hjournal, hcuts, hcount]
  rfl

/-- With an image BOOT has counted the boot, read the causes, and runs the image (R399, R402). -/
theorem State.bootImage_berth (s : State) (runsB back : Bool) : ∃ f : Fw, f.runsB = runsB ∧
    (s.bootImage runsB back).berth = ((s.jnl.boot + 1) % 65536, s.hub, f, 0) := by
  obtain ⟨hboot, hhub, hruns⟩ := s.bootFw_berth runsB back
  have hload : (((s.bootFw runsB back).loadCfg.podSwitches (s.act OD.HUB_PODSUP_EN)).hkNew
      (s.act OD.ADC_HK_EN)).cfgInForce.loadCkpt.tenure = (s.bootFw runsB back).tenure := by simp
  have hnote (t : State) (d : List (Nat × Nat)) : (if back then t.journal 0x12 .hub 4 d else t).berth = t.berth := by
    split
    · exact State.berth_of_frames (State.journal_tenure ..) (State.journal_host ..)
    · rfl
  refine ⟨(s.bootFw runsB back).fw, hruns, ?_⟩
  unfold State.bootImage
  dsimp only
  rw [hnote, State.bootRecord_berth, State.boot_of_tenure hload, State.hub_of_tenure hload, State.fw_of_tenure hload, hboot, hhub]

/-- BOOT that has loaded ends. -/
theorem exec_bootComplete_of_loaded {s : State} (hhub : s.bootLoad.hub = .boot) (hloaded : s.bootLoad.power.loaded = true) :
    exec .bootComplete s = .next s.bootLoad.bootEnd := congrArg Host.Outcome.next (if_pos ⟨hhub, hloaded⟩)

theorem exec_bootComplete_of_image {x : Bool × Bool} {s : State} (hhub : s.hub = .boot) (hnew : s.power.loaded = false)
    (hok : s.stat OD.HUB_BOOT_STATUS = 0) (hslot : bootSlot s = some x) : ∃ u, exec .bootComplete s = .next u ∧
      (u.hub = .idle ∨ u.hub = .adopt) ∧ u.power.latch = 0 ∧ u.jnl.boot = (s.jnl.boot + 1) % 65536 ∧ u.fw.runsB = x.1 := by
  have hload := State.bootLoad_of_image (runsB := x.1) (back := x.2) hhub hnew hok hslot
  obtain ⟨f, hruns, hberth⟩ := s.bootImage_berth x.1 x.2
  simp only [State.berth, Prod.mk.injEq] at hberth
  obtain ⟨hboot, hstay, hfw, hlatch⟩ := hberth
  obtain ⟨h, hends, hend⟩ := s.bootLoad.bootEnd_berth
  simp only [State.berth, Prod.mk.injEq] at hend
  obtain ⟨hboot', hhub', hfw', hlatch'⟩ := hend
  refine ⟨_, exec_bootComplete_of_loaded ?_ ?_, ?_, ?_, ?_, ?_⟩
  · rw [hload]
    exact hstay.trans hhub
  · rw [hload]
    rfl
  · rwa [hhub']
  · rw [hlatch', hload]
    exact hlatch
  · rw [hboot', hload]
    exact hboot
  · rw [hfw', hload]
    exact (congrArg Fw.runsB hfw).trans hruns

theorem exec_bootComplete_of_done {s : State} (hhub : s.hub = .boot) (hloaded : s.power.loaded = true) :
    ∃ u, exec .bootComplete s = .next u ∧ (u.hub = .idle ∨ u.hub = .adopt) ∧ u.jnl.boot = s.jnl.boot ∧ u.fw = s.fw := by
  have hload : s.bootLoad = s := State.bootLoad_of_done fun h => by simp [hloaded] at h
  obtain ⟨h, hends, hend⟩ := s.bootEnd_berth
  simp only [State.berth, Prod.mk.injEq] at hend
  obtain ⟨hboot', hhub', hfw', -⟩ := hend
  have hexec := exec_bootComplete_of_loaded (s := s) (hload.symm ▸ hhub) (hload.symm ▸ hloaded)
  rw [hload] at hexec
  exact ⟨_, hexec, hhub'.symm ▸ hends, hboot', hfw'⟩

theorem exec_bootComplete_of_noImage {s : State} (hhub : s.hub = .boot) (hnew : s.power.loaded = false)
    (hok : s.stat OD.HUB_BOOT_STATUS = 0) (hslot : bootSlot s = none) : ∃ u, exec .bootComplete s = .next u ∧ u.hub = .boot ∧
      u.stat OD.HUB_BOOT_STATUS = 1 ∧ u.active = s.active := by
  have hload := State.bootLoad_of_noImage hhub hnew hok hslot
  refine ⟨s.set OD.HUB_BOOT_STATUS 0 1, congrArg Host.Outcome.next ?_, hhub, State.stat_set_self _ _ _ _ (by decide), rfl⟩
  rw [hload]
  exact if_neg fun h => by simp [hnew] at h

/-! ## The statement -/

/-- Settles O25, one clause per end of BOOT and per adoption. -/
theorem bootAndAdoption : Obligations.BootAndAdoption :=
  ⟨fun _ _ hhub hnew hok hslot => exec_bootComplete_of_image hhub hnew hok hslot,
    fun _ hhub hloaded => exec_bootComplete_of_done hhub hloaded,
    fun _ hhub hnew hok hslot => exec_bootComplete_of_noImage hhub hnew hok hslot,
    fun _ hhub => exec_adopt_of_adopt hhub,
    fun _ _ hhub hown hmay hholds => exec_podAdoption_of_held hhub hown hmay hholds⟩

end Sys2Proof.Machine
